-- ==== Sys2Proof/Word.lean ====
section
/-! DEFINITION. The word types of the device: a register is 64 bits (R8), memory is bytes, a long word of a
Beacon program is 512 bits (R190). -/

namespace Sys2Proof

/-- A register or scalar value: 64 bits (R8, Table 5.1). -/
abbrev Word := BitVec 64

/-- One byte of memory, of a record or of a flit. -/
abbrev Byte := BitVec 8

/-- A Beacon long word (R190). -/
abbrev LongWord := BitVec 512

/-- The word of a natural number, taken modulo 2^64. -/
abbrev word (n : Nat) : Word := BitVec.ofNat 64 n

end Sys2Proof
end

