-- ==== Sys2Proof/Syntax.lean ====
section
/-! DEFINITION. The commands of the block: one constructor per row of spec/opcode_table.json, with the operands the
command carries from outside. Every command carries last its moment t, in picoseconds since the package was first powered
(the manual gives its events in nanoseconds, core cycles of 0.625 ns and beats of 10 ns, all whole numbers of
picoseconds). -/

namespace Sys2Proof

/-- Who makes a register access: the physical function, virtual function s, or the steward Beacon BC8 (R10, R621). -/
inductive Requester where
  | pf
  | vf (s : Fin 8)
  | bc8
  deriving DecidableEq, Repr

/-- A scalar field of a long word (Table 5.2). -/
inductive Fld where
  /-- SCALAR_A, bits 447:384. -/
  | a
  /-- SCALAR_B, bits 383:320. -/
  | b
  deriving DecidableEq, Repr

/-- The reference inputs of Table 1.9. -/
inductive RefInput where
  | refclk
  | lnkclk
  | safeclk
  deriving DecidableEq, Repr

/-- How a PCIe read ends (R639): with data, with UR or CA, or poisoned. -/
inductive CplStatus where
  | ok
  | abort
  | poison
  deriving DecidableEq, Repr

/-- The events that are a host reset (R642, R739). -/
inductive HostResetKind where
  | pfFlr
  | hotReset
  | linkDown
  | perst
  | lockLoss
  deriving DecidableEq, Repr

/-- The two channels of Breakwater. -/
inductive Channel where
  /-- Channel P, on SF. -/
  | p
  /-- Channel H, on the edge dies. -/
  | h
  deriving DecidableEq, Repr

/-- The commands of the block, one per row of spec/opcode_table.json. -/
inductive Instr where
  /-- REGISTER_WRITE (R10). -/
  | registerWrite (q : Requester) (addr : Nat) (v : Word) (t : Nat)
  /-- STAGING_WRITE (R622). -/
  | stagingWrite (q : Requester) (off : Nat) (bytes : List Byte) (t : Nat)
  /-- CLK_SETPOINT_CD_WRITE (R46). -/
  | clkSetpointCdWrite (q : Requester) (v : Word) (t : Nat)
  /-- CLK_SETPOINT_MD_WRITE (R46). -/
  | clkSetpointMdWrite (q : Requester) (v : Word) (t : Nat)
  /-- TID_PERIOD_WRITE (R57). -/
  | tidPeriodWrite (q : Requester) (v : Word) (t : Nat)
  /-- TID_BAY_START_WRITE (R70). -/
  | tidBayStartWrite (q : Requester) (b : Nat) (v : Word) (t : Nat)
  /-- TID_BAY_OWN_WRITE (R72). -/
  | tidBayOwnWrite (q : Requester) (b : Nat) (high : Bool) (v : Word) (t : Nat)
  /-- TID_REF_PLAN_WRITE (R86). -/
  | tidRefPlanWrite (q : Requester) (v : Word) (t : Nat)
  /-- EVT_CFG_WRITE (R623). -/
  | evtCfgWrite (q : Requester) (f : Nat) (v : Word) (t : Nat)
  /-- TID_MISS_COUNT_READ (R61). -/
  | tidMissCountRead (q : Requester) (t : Nat)
  /-- TID_EXT_STATUS_READ (R61). -/
  | tidExtStatusRead (q : Requester) (t : Nat)
  /-- BCN_HOLDS_READ (R219). -/
  | bcnHoldsRead (q : Requester) (i : Nat) (t : Nat)
  /-- GRN_HELD_READ (R270). -/
  | grnHeldRead (q : Requester) (i : Nat) (t : Nat)
  /-- HAU_BYTES_READ (R270). -/
  | hauBytesRead (q : Requester) (i : Nat) (t : Nat)
  /-- TAL_DROP_READ (R297). -/
  | talDropRead (q : Requester) (i : Nat) (t : Nat)
  /-- MTX_TILE_BUSY_READ (R337). -/
  | mtxTileBusyRead (q : Requester) (d i : Nat) (t : Nat)
  /-- VEC_UNIT_BUSY_READ (R337). -/
  | vecUnitBusyRead (q : Requester) (d i : Nat) (t : Nat)
  /-- MTX_LOOSE_READ (R469). -/
  | mtxLooseRead (q : Requester) (i : Nat) (t : Nat)
  /-- SFU_BUSY_READ (R374). -/
  | sfuBusyRead (q : Requester) (d i : Nat) (t : Nat)
  /-- SFU_ECC_READ (R374). -/
  | sfuEccRead (q : Requester) (d i : Nat) (t : Nat)
  /-- WIN_VERDICT_READ (R409). -/
  | winVerdictRead (q : Requester) (i : Nat) (t : Nat)
  /-- WIN_DROPS_READ (R409). -/
  | winDropsRead (q : Requester) (i : Nat) (t : Nat)
  /-- WIN_CENSUS_READ (R409). -/
  | winCensusRead (q : Requester) (i : Nat) (t : Nat)
  /-- FRY_DROP_READ (R454). -/
  | fryDropRead (q : Requester) (d i : Nat) (t : Nat)
  /-- GLN_DONE_READ (R454). -/
  | glnDoneRead (q : Requester) (d i : Nat) (t : Nat)
  /-- DKL_ERR_READ (R544). -/
  | dklErrRead (q : Requester) (d i : Nat) (t : Nat)
  /-- DKL_FEC_READ (R544). -/
  | dklFecRead (q : Requester) (d i : Nat) (t : Nat)
  /-- MED_RS_BUSY_READ (R610). -/
  | medRsBusyRead (q : Requester) (d : Nat) (t : Nat)
  /-- MED_ENC_BYTES_READ (R610). -/
  | medEncBytesRead (q : Requester) (d i : Nat) (t : Nat)
  /-- MED_ENC_CAPPED_READ (R610). -/
  | medEncCappedRead (q : Requester) (d i : Nat) (t : Nat)
  /-- HIF_FN_STAT_READ (R646). -/
  | hifFnStatRead (q : Requester) (i : Nat) (t : Nat)
  /-- HIF_DMA_ERR_READ (R646). -/
  | hifDmaErrRead (q : Requester) (t : Nat)
  /-- HLT_ECC_READ (R794). -/
  | hltEccRead (q : Requester) (i : Nat) (t : Nat)
  /-- HLT_HBM_READ (R794). -/
  | hltHbmRead (q : Requester) (i : Nat) (t : Nat)
  /-- LOG_STATUS_READ (R794). -/
  | logStatusRead (q : Requester) (t : Nat)
  /-- SQL_STAT_READ (R794). -/
  | sqlStatRead (q : Requester) (t : Nat)
  /-- SEC_ENTROPY_READ (R728). -/
  | secEntropyRead (q : Requester) (t : Nat)
  /-- PWR_PEAK_READ (R834). -/
  | pwrPeakRead (q : Requester) (t : Nat)
  /-- CLOCK_INPUT_LOST (R49). -/
  | clockInputLost (input : RefInput) (t : Nat)
  /-- TOLERANCE_WINDOW (R49). -/
  | toleranceWindow (ref lnk safe : Nat) (t : Nat)
  /-- PLL_LOCK_LOST (R50). -/
  | pllLockLost (dom : Nat) (t : Nat)
  /-- EDGE_RX_LOCK_LOST (R50). -/
  | edgeRxLockLost (e : Nat) (t : Nat)
  /-- MONITOR_CLOCK_STOP (R50). -/
  | monitorClockStop (t : Nat)
  /-- TELEMETRY_CLOCK_STOP (R50). -/
  | telemetryClockStop (t : Nat)
  /-- REFCLK_STABLE (R56). -/
  | refclkStable (t : Nat)
  /-- RAMP_STAGE (R52). -/
  | rampStage (bad : List Nat) (t : Nat)
  /-- TIDE_TICK (R68). -/
  | tideTick (power : Nat) (t : Nat)
  /-- TIDE_IN_EDGE (R62). -/
  | tideInEdge (t : Nat)
  /-- FLYWHEEL_TICK (R64). -/
  | flywheelTick (power : Nat) (t : Nat)
  /-- TIDE_OUT_END (R65). -/
  | tideOutEnd (t : Nat)
  /-- FIRST_TICK (R744). -/
  | firstTick (t : Nat)
  /-- SAMPLING_POINT (R66). -/
  | samplingPoint (t : Nat)
  /-- RELEASE_CLEAR (R133). -/
  | releaseClear (t : Nat)
  /-- KILL_COMPLETE (R162). -/
  | killComplete (c : Nat) (t : Nat)
  /-- ENGINE_STOP_TIMEOUT (R162). -/
  | engineStopTimeout (c : Nat) (t : Nat)
  /-- VOLTAGE_RISE_CHECK (R823). -/
  | voltageRiseCheck (late : List Nat) (unlocked : List Nat) (t : Nat)
  /-- VID_FALL (R824). -/
  | vidFall (quad : Nat) (t : Nat)
  /-- BAY_START (R69). -/
  | bayStart (b : Nat) (t : Nat)
  /-- REFRESH_SLOT (R86). -/
  | refreshSlot (j : Nat) (t : Nat)
  /-- BLACKOUT_END (R87). -/
  | blackoutEnd (j : Nat) (t : Nat)
  /-- DEADLINE_KILL (R80). -/
  | deadlineKill (c : Nat) (t : Nat)
  /-- STEP_DB (R628). -/
  | stepDb (fn : Nat) (bytes : List Byte) (t : Nat)
  /-- STEP_START (R631). -/
  | stepStart (c : Nat) (t : Nat)
  /-- ATTEMPT_START (R187). -/
  | attemptStart (c : Nat) (t : Nat)
  /-- PRIMARY_RESUME (R164). -/
  | primaryResume (s : Nat) (t : Nat)
  /-- KILL_PRIMARY (R162). -/
  | killPrimary (q : Requester) (mask : Nat) (t : Nat)
  /-- KILL_URGENT (R162). -/
  | killUrgent (q : Requester) (mask : Nat) (t : Nat)
  /-- HOST_TRANSFER_DRAINED (R160). -/
  | hostTransferDrained (s : Nat) (t : Nat)
  /-- SLOT_POST (R204). -/
  | slotPost (c : Nat) (slot : Nat) (t : Nat)
  /-- COMMAND_COMPLETE (R206). -/
  | commandComplete (id : Nat) (t : Nat)
  /-- TALLY_SIGNAL (R206). -/
  | tallySignal (id : Nat) (t : Nat)
  /-- NOP (R193). -/
  | nopC (c : Nat) (f : Fld) (t : Nat)
  /-- ADD (R193). -/
  | add (c : Nat) (f : Fld) (t : Nat)
  /-- ADDI (R193). -/
  | addi (c : Nat) (f : Fld) (t : Nat)
  /-- SUB (R193). -/
  | sub (c : Nat) (f : Fld) (t : Nat)
  /-- SUBI (R193). -/
  | subi (c : Nat) (f : Fld) (t : Nat)
  /-- MUL (R193). -/
  | mul (c : Nat) (f : Fld) (t : Nat)
  /-- MULI (R193). -/
  | muli (c : Nat) (f : Fld) (t : Nat)
  /-- MULHU (R193). -/
  | mulhu (c : Nat) (f : Fld) (t : Nat)
  /-- MULHUI (R193). -/
  | mulhui (c : Nat) (f : Fld) (t : Nat)
  /-- MUL_RESULT_READY (R193). -/
  | mulResultReady (c : Nat) (t : Nat)
  /-- AND (R193). -/
  | andC (c : Nat) (f : Fld) (t : Nat)
  /-- ANDI (R193). -/
  | andi (c : Nat) (f : Fld) (t : Nat)
  /-- OR (R193). -/
  | orC (c : Nat) (f : Fld) (t : Nat)
  /-- ORI (R193). -/
  | ori (c : Nat) (f : Fld) (t : Nat)
  /-- XOR (R193). -/
  | xorC (c : Nat) (f : Fld) (t : Nat)
  /-- XORI (R193). -/
  | xori (c : Nat) (f : Fld) (t : Nat)
  /-- SHL (R193). -/
  | shl (c : Nat) (f : Fld) (t : Nat)
  /-- SHLI (R193). -/
  | shli (c : Nat) (f : Fld) (t : Nat)
  /-- SHR (R193). -/
  | shr (c : Nat) (f : Fld) (t : Nat)
  /-- SHRI (R193). -/
  | shri (c : Nat) (f : Fld) (t : Nat)
  /-- SAR (R193). -/
  | sar (c : Nat) (f : Fld) (t : Nat)
  /-- SARI (R193). -/
  | sari (c : Nat) (f : Fld) (t : Nat)
  /-- MIN (R193). -/
  | minC (c : Nat) (f : Fld) (t : Nat)
  /-- MINI (R193). -/
  | mini (c : Nat) (f : Fld) (t : Nat)
  /-- MAX (R193). -/
  | maxC (c : Nat) (f : Fld) (t : Nat)
  /-- MAXI (R193). -/
  | maxi (c : Nat) (f : Fld) (t : Nat)
  /-- MINU (R193). -/
  | minu (c : Nat) (f : Fld) (t : Nat)
  /-- MINUI (R193). -/
  | minui (c : Nat) (f : Fld) (t : Nat)
  /-- MAXU (R193). -/
  | maxu (c : Nat) (f : Fld) (t : Nat)
  /-- MAXUI (R193). -/
  | maxui (c : Nat) (f : Fld) (t : Nat)
  /-- CLZ (R193). -/
  | clz (c : Nat) (f : Fld) (t : Nat)
  /-- CMPEQ (R193). -/
  | cmpeq (c : Nat) (f : Fld) (t : Nat)
  /-- CMPNE (R193). -/
  | cmpne (c : Nat) (f : Fld) (t : Nat)
  /-- CMPLT (R193). -/
  | cmplt (c : Nat) (f : Fld) (t : Nat)
  /-- CMPLTU (R193). -/
  | cmpltu (c : Nat) (f : Fld) (t : Nat)
  /-- CMPGE (R193). -/
  | cmpge (c : Nat) (f : Fld) (t : Nat)
  /-- CMPGEU (R193). -/
  | cmpgeu (c : Nat) (f : Fld) (t : Nat)
  /-- CMPEQI (R193). -/
  | cmpeqi (c : Nat) (f : Fld) (t : Nat)
  /-- CMPNEI (R193). -/
  | cmpnei (c : Nat) (f : Fld) (t : Nat)
  /-- CMPLTI (R193). -/
  | cmplti (c : Nat) (f : Fld) (t : Nat)
  /-- CMPLTUI (R193). -/
  | cmpltui (c : Nat) (f : Fld) (t : Nat)
  /-- CMPGEI (R193). -/
  | cmpgei (c : Nat) (f : Fld) (t : Nat)
  /-- CMPGEUI (R193). -/
  | cmpgeui (c : Nat) (f : Fld) (t : Nat)
  /-- PAND (R193). -/
  | pand (c : Nat) (f : Fld) (t : Nat)
  /-- POR (R193). -/
  | por (c : Nat) (f : Fld) (t : Nat)
  /-- PXOR (R193). -/
  | pxor (c : Nat) (f : Fld) (t : Nat)
  /-- PANDN (R193). -/
  | pandn (c : Nat) (f : Fld) (t : Nat)
  /-- SEL (R193). -/
  | sel (c : Nat) (f : Fld) (t : Nat)
  /-- MFS (R193). -/
  | mfs (c : Nat) (f : Fld) (t : Nat)
  /-- LD (R194). -/
  | ld (c : Nat) (f : Fld) (t : Nat)
  /-- LD_DATA_USABLE (R201). -/
  | ldDataUsable (c : Nat) (t : Nat)
  /-- ST (R194). -/
  | st (c : Nat) (f : Fld) (t : Nat)
  /-- ST_LANDS (R201). -/
  | stLands (c : Nat) (t : Nat)
  /-- MOVHI (R193). -/
  | movhi (c : Nat) (f : Fld) (t : Nat)
  /-- CONTROL_NOP (R196). -/
  | controlNop (c : Nat) (t : Nat)
  /-- BR (R196). -/
  | br (c : Nat) (t : Nat)
  /-- JMPR (R196). -/
  | jmpr (c : Nat) (t : Nat)
  /-- CALL (R196). -/
  | call (c : Nat) (t : Nat)
  /-- RET (R196). -/
  | ret (c : Nat) (t : Nat)
  /-- LOOP (R208). -/
  | loop (c : Nat) (t : Nat)
  /-- LOOP_BACK_EDGE (R199). -/
  | loopBackEdge (c : Nat) (t : Nat)
  /-- FETCH (R198). -/
  | fetch (c : Nat) (t : Nat)
  /-- FETCH_COMPLETE (R201). -/
  | fetchComplete (c : Nat) (t : Nat)
  /-- DRAIN (R196). -/
  | drain (c : Nat) (t : Nat)
  /-- COMMIT (R157). -/
  | commit (c : Nat) (t : Nat)
  /-- END (R197). -/
  | endC (c : Nat) (t : Nat)
  /-- WAITTICK (R196). -/
  | waittick (c : Nat) (t : Nat)
  /-- STEWARD_GO (R218). -/
  | stewardGo (q : Requester) (v : Word) (t : Nat)
  /-- ALLOC (R249). -/
  | alloc (c : Nat) (t : Nat)
  /-- RELEASE (R252). -/
  | release (c : Nat) (t : Nat)
  /-- STAGE (R156). -/
  | stage (c : Nat) (t : Nat)
  /-- RESOLVE (R254). -/
  | resolve (c : Nat) (t : Nat)
  /-- KV_STAGE (R257). -/
  | kvStage (c : Nat) (t : Nat)
  /-- KV_GROW (R260). -/
  | kvGrow (c : Nat) (t : Nat)
  /-- KV_TRIM (R260). -/
  | kvTrim (c : Nat) (t : Nat)
  /-- GRANARY_SERVE (R251). -/
  | granaryServe (s : Nat) (t : Nat)
  /-- COPY (R269). -/
  | copy (c m : Nat) (t : Nat)
  /-- FILL (R269). -/
  | fill (c m : Nat) (t : Nat)
  /-- COPY_2D (R269). -/
  | copy2d (c m : Nat) (t : Nat)
  /-- TO_HOST (R160). -/
  | toHost (c m : Nat) (t : Nat)
  /-- FROM_HOST (R639). -/
  | fromHost (c m : Nat) (t : Nat)
  /-- STEWARD_HAUL_RESUME (R276). -/
  | stewardHaulResume (m : Nat) (t : Nat)
  /-- TALLY_ADD (R286). -/
  | tallyAdd (c : Nat) (t : Nat)
  /-- TALLY_RESET (R286). -/
  | tallyReset (c : Nat) (t : Nat)
  /-- REMOTE_ADD (R289). -/
  | remoteAdd (c : Nat) (t : Nat)
  /-- TALLY_READ (R286). -/
  | tallyRead (c : Nat) (t : Nat)
  /-- REMOTE_ADD_MSG (R291). -/
  | remoteAddMsg (p : Nat) (t : Nat)
  /-- GEMM (R305). -/
  | gemm (c unit piece : Nat) (t : Nat)
  /-- GROUPED (R311). -/
  | grouped (c unit piece : Nat) (t : Nat)
  /-- SPLIT (R324). -/
  | split (c unit piece : Nat) (t : Nat)
  /-- COMBINE (R325). -/
  | combine (c unit piece : Nat) (t : Nat)
  /-- WORKLIST_CLAIM (R322). -/
  | worklistClaim (c unit : Nat) (vector : Bool) (t : Nat)
  /-- LOOSE_ADD (R327). -/
  | looseAdd (c n : Nat) (t : Nat)
  /-- PROGRAM (R331). -/
  | program (c unit piece : Nat) (t : Nat)
  /-- ROUTE (R381). -/
  | route (c dd : Nat) (t : Nat)
  /-- HISTOGRAM (R428). -/
  | histogram (c dd : Nat) (t : Nat)
  /-- SCATTER (R434). -/
  | scatter (c dd : Nat) (t : Nat)
  /-- CENSUS (R395). -/
  | census (c : Nat) (t : Nat)
  /-- CENSUS_MSG (R397). -/
  | censusMsg (p : Nat) (t : Nat)
  /-- CENSUS_TIMEOUT (R398). -/
  | censusTimeout (c : Nat) (t : Nat)
  /-- VERDICT_DB (R634). -/
  | verdictDb (fn len : Nat) (bytes : List Byte) (t : Nat)
  /-- ANSWER_WINDOW_EXPIRE (R405). -/
  | answerWindowExpire (c : Nat) (t : Nat)
  /-- VERDICT_MSG (R406). -/
  | verdictMsg (p : Nat) (t : Nat)
  /-- VERDICT_LOST (R406). -/
  | verdictLost (c : Nat) (t : Nat)
  /-- EXCHANGE (R441). -/
  | exchange (c dd : Nat) (t : Nat)
  /-- RETURN (R445). -/
  | returnC (c dd : Nat) (t : Nat)
  /-- DISPATCH_RECORD_ARRIVAL (R448). -/
  | dispatchRecordArrival (p : Nat) (t : Nat)
  /-- RETURN_ARRIVAL (R449). -/
  | returnArrival (p : Nat) (t : Nat)
  /-- GLEANER_COMBINE (R451). -/
  | gleanerCombine (c dd : Nat) (t : Nat)
  /-- PLACED_MSG (R524). -/
  | placedMsg (p : Nat) (t : Nat)
  /-- PLACED_TIMER (R524). -/
  | placedTimer (c : Nat) (t : Nat)
  /-- LANDED_MSG (R525). -/
  | landedMsg (p : Nat) (t : Nat)
  /-- KILL_MSG (R523). -/
  | killMsg (p : Nat) (t : Nat)
  /-- WRITE_UNIT (R528). -/
  | writeUnit (p : Nat) (t : Nat)
  /-- READ_REQ (R529). -/
  | readReq (p : Nat) (t : Nat)
  /-- PROCESS (R589). -/
  | process (c m : Nat) (t : Nat)
  /-- CONFIGURE (R599). -/
  | configure (c e : Nat) (t : Nat)
  /-- ENCODE (R600). -/
  | encode (c e : Nat) (t : Nat)
  /-- NOTIFY (R640). -/
  | notifyC (c : Nat) (t : Nat)
  /-- EVT_HEAD_DB (R623). -/
  | evtHeadDb (fn : Nat) (v : Word) (t : Nat)
  /-- MSIX_HOLDOFF (R626). -/
  | msixHoldoff (fn vec : Nat) (t : Nat)
  /-- READ_COMPLETION (R639). -/
  | readCompletion (fn tag : Nat) (res : CplStatus) (bytes : List Byte) (t : Nat)
  /-- COMPLETION_TIMEOUT (R639). -/
  | completionTimeout (fn tag : Nat) (t : Nat)
  /-- FUNCTION_LEVEL_RESET (R641). -/
  | functionLevelReset (fn : Nat) (t : Nat)
  /-- HOST_RESET (R642). -/
  | hostReset (kind : HostResetKind) (t : Nat)
  /-- START (R120). -/
  | startC (q : Requester) (t : Nat)
  /-- IMAGE_CHECK_END (R121). -/
  | imageCheckEnd (t : Nat)
  /-- SEAL (R126). -/
  | sealC (q : Requester) (t : Nat)
  /-- FLIT_TX (R521). -/
  | flitTx (p : Nat) (t : Nat)
  /-- DATA_FLIT_RX (R512). -/
  | dataFlitRx (p : Nat) (bytes : List Byte) (t : Nat)
  /-- IDLE_FLIT_RX (R509). -/
  | idleFlitRx (p : Nat) (bytes : List Byte) (t : Nat)
  /-- CTRL_FLIT_RX (R531). -/
  | ctrlFlitRx (p : Nat) (bytes : List Byte) (t : Nat)
  /-- ACK_TIMEOUT (R513). -/
  | ackTimeout (p : Nat) (t : Nat)
  /-- PORT_PROBE_START (R499). -/
  | portProbeStart (p : Nat) (t : Nat)
  /-- RX_QUALIFY (R501). -/
  | rxQualify (p : Nat) (t : Nat)
  /-- TRAIN_TIMEOUT (R502). -/
  | trainTimeout (p : Nat) (t : Nat)
  /-- RX_SILENCE (R538). -/
  | rxSilence (p : Nat) (t : Nat)
  /-- CODEWORD_LOCK_LOST (R538). -/
  | codewordLockLost (p : Nat) (t : Nat)
  /-- PRBS_RX (R538). -/
  | prbsRx (p : Nat) (t : Nat)
  /-- RETRAIN_TIMEOUT (R539). -/
  | retrainTimeout (p : Nat) (t : Nat)
  /-- RETRAIN (R538). -/
  | retrain (q : Requester) (p : Nat) (t : Nat)
  /-- REPROBE (R533). -/
  | reprobe (q : Requester) (p : Nat) (t : Nat)
  /-- LOSS_OF_SIGNAL (R540). -/
  | lossOfSignal (p : Nat) (t : Nat)
  /-- SIGNAL_RETURN (R540). -/
  | signalReturn (p : Nat) (relocked : Bool) (t : Nat)
  /-- LOS_TIMEOUT (R540). -/
  | losTimeout (p : Nat) (t : Nat)
  /-- FULL_POWER_GRANT (R664). -/
  | fullPowerGrant (p : Nat) (t : Nat)
  /-- APR_REDUCE (R665). -/
  | aprReduce (p : Nat) (t : Nat)
  /-- INTERLOCK_PULSE (R668). -/
  | interlockPulse (e : Nat) (senseP senseH : Bool) (t : Nat)
  /-- INTERLOCK_OPEN (R669). -/
  | interlockOpen (e : Nat) (chan : Channel) (t : Nat)
  /-- OVER_POWER (R654). -/
  | overPower (p : Nat) (chan : Channel) (t : Nat)
  /-- CHANNEL_DISCREPANCY (R661). -/
  | channelDiscrepancy (p : Nat) (t : Nat)
  /-- CHANNEL_SELF_TEST_DONE (R661). -/
  | channelSelfTestDone (okP : Bool) (okH : List Bool) (t : Nat)
  /-- CHANNEL_FAULT (R662). -/
  | channelFault (chan : Channel) (e : Nat) (t : Nat)
  /-- ROM_CRC_CHECK (R662). -/
  | romCrcCheck (ok : Bool) (t : Nat)
  /-- BRAKE_TEST_START (R671). -/
  | brakeTestStart (e : Nat) (t : Nat)
  /-- BRAKE_TEST_CHECK (R673). -/
  | brakeTestCheck (e : Nat) (monP monH : Bool) (t : Nat)
  /-- PERMIT_SEND (R676). -/
  | permitSend (p : Nat) (t : Nat)
  /-- PERMIT (R679). -/
  | permit (p : Nat) (t : Nat)
  /-- SHUTDOWN (R680). -/
  | shutdown (p : Nat) (t : Nat)
  /-- PERMIT_LOSS (R679). -/
  | permitLoss (p : Nat) (t : Nat)
  /-- SHUTDOWN_HOLD_END (R680). -/
  | shutdownHoldEnd (p : Nat) (t : Nat)
  /-- DEGRADED_WARNING (R682). -/
  | degradedWarning (t : Nat)
  /-- DEGRADED_EXPIRED (R682). -/
  | degradedExpired (t : Nat)
  /-- EXTERNAL_STOP (R684). -/
  | externalStop (line : Nat) (t : Nat)
  /-- LOCKOUT_ENTRY (R686). -/
  | lockoutEntry (t : Nat)
  /-- LOCKOUT (R684). -/
  | lockout (q : Requester) (v : Word) (t : Nat)
  /-- ARM (R687). -/
  | arm (q : Requester) (v : Word) (t : Nat)
  /-- CONFIRM (R687). -/
  | confirm (q : Requester) (v : Word) (permit stopP stopH : Bool) (t : Nat)
  /-- ABORT (R687). -/
  | abortC (q : Requester) (v : Word) (t : Nat)
  /-- ARM_TIMEOUT (R687). -/
  | armTimeout (t : Nat)
  /-- RESET_SELF_TEST_DONE (R688). -/
  | resetSelfTestDone (okP : Bool) (okH : List Bool) (t : Nat)
  /-- SF_POWER_LOSS (R700). -/
  | sfPowerLoss (t : Nat)
  /-- SF_POWER_ON (R685). -/
  | sfPowerOn (withPkgOk : Bool) (t : Nat)
  /-- ENTROPY_TEST_FAIL (R717). -/
  | entropyTestFail (adaptive : Bool) (t : Nat)
  /-- ENTROPY_RECOVERY_TIMEOUT (R717). -/
  | entropyRecoveryTimeout (t : Nat)
  /-- DRBG_RESEED (R716). -/
  | drbgReseed (t : Nat)
  /-- SUPPLY_GLITCH (R725). -/
  | supplyGlitch (t : Nat)
  /-- GET_MEASUREMENTS (R719). -/
  | getMeasurements (nonce : List Byte) (t : Nat)
  /-- KEY_EXCHANGE (R734). -/
  | keyExchange (msg : List Byte) (t : Nat)
  /-- PROGRAM_SLOT (R706). -/
  | programSlot (msg : List Byte) (sound : Bool) (t : Nat)
  /-- EXPORT_KT (R720). -/
  | exportKt (msg : List Byte) (t : Nat)
  /-- SET_PRODUCTION (R720). -/
  | setProduction (msg : List Byte) (t : Nat)
  /-- GET_NONCE (R720). -/
  | getNonce (msg : List Byte) (t : Nat)
  /-- DEBUG_ENTER (R723). -/
  | debugEnter (msg : List Byte) (t : Nat)
  /-- RETIRE (R720). -/
  | retire (msg : List Byte) (t : Nat)
  /-- SENSOR_READ (R786). -/
  | sensorRead (id : Nat) (t : Nat)
  /-- PKG_PWROK_RISE (R737). -/
  | pkgPwrokRise (t : Nat)
  /-- PKG_PWROK_FALL (R737). -/
  | pkgPwrokFall (t : Nat)
  /-- SEQ_FAULT (R738). -/
  | seqFault (rail : Nat) (t : Nat)
  /-- VAUX_FAULT (R738). -/
  | vauxFault (t : Nat)
  /-- SUPPLY_FAULT (R738). -/
  | supplyFault (rail : Nat) (t : Nat)
  /-- COLD_RESET (R741). -/
  | coldReset (t : Nat)
  /-- COLD (R739). -/
  | cold (q : Requester) (v : Word) (t : Nat)
  /-- COLD_RESET_READY (R741). -/
  | coldResetReady (failDies : List Nat) (secOk : Bool) (t : Nat)
  /-- FOLD (R746). -/
  | fold (q : Requester) (v : Word) (t : Nat)
  /-- FOLD_RESET (R747). -/
  | foldReset (t : Nat)
  /-- ALIGN_START (R482). -/
  | alignStart (t : Nat)
  /-- ALIGN_CHECK_END (R483). -/
  | alignCheckEnd (bad : Option Nat) (t : Nat)
  /-- FOLD_DONE (R749). -/
  | foldDone (fail : Option Nat) (t : Nat)
  /-- TEST (R754). -/
  | test (q : Requester) (v : Word) (t : Nat)
  /-- POWER_DOWN (R755). -/
  | powerDown (q : Requester) (v : Word) (t : Nat)
  /-- SELF_TEST_DONE (R755). -/
  | selfTestDone (block : Nat) (t : Nat)
  /-- TEST_PASS_EXPIRE (R755). -/
  | testPassExpire (target : Nat) (t : Nat)
  /-- POWER_GATE_RAMP (R837). -/
  | powerGateRamp (d : Nat) (up : Bool) (t : Nat)
  /-- FENCE_SCRUB (R768). -/
  | fenceScrub (t : Nat)
  /-- WEATHERING_EVAL (R782). -/
  | weatheringEval (wear : List Nat) (tj : Nat) (swing : Bool) (rows : List Nat) (t : Nat)
  /-- WEAR_SNAPSHOT (R783). -/
  | wearSnapshot (t : Nat)
  /-- INJECT_SINGLE_BIT (R793). -/
  | injectSingleBit (q : Requester) (v : Word) (t : Nat)
  /-- INJECT_DOUBLE_BIT (R793). -/
  | injectDoubleBit (q : Requester) (v : Word) (t : Nat)
  /-- INJECT_FLIT_CRC (R793). -/
  | injectFlitCrc (q : Requester) (v : Word) (t : Nat)
  /-- SQL_SEED_LOAD (R792). -/
  | sqlSeedLoad (q : Requester) (v : Word) (t : Nat)
  /-- DELAYED_DELIVERY (R788). -/
  | delayedDelivery (p vc : Nat) (t : Nat)
  /-- THERMAL_TRIP (R827). -/
  | thermalTrip (d : Nat) (t : Nat)
  /-- THERMTRIP (R828). -/
  | thermtrip (d : Nat) (t : Nat)
  /-- BRAKE_TEST_OVERDUE (R674). -/
  | brakeTestOverdue (p : Nat) (t : Nat)
  /-- ENTROPY_STARTUP_PASS (R717). -/
  | entropyStartupPass (t : Nat)
  /-- TRIP_WAIT_END (R827). -/
  | tripWaitEnd (t : Nat)
  /-- HBM_TEMPERATURE_REPORT (R88). -/
  | hbmTemperatureReport (n temp : Nat) (t : Nat)
  /-- BUS_MASTER_ENABLE (R643). -/
  | busMasterEnable (fn : Nat) (on : Bool) (t : Nat)
  /-- POSTED_CREDIT_RETURN (R629). -/
  | postedCreditReturn (n : Nat) (t : Nat)
  /-- PERST_N_RELEASE (R739). -/
  | perstNRelease (speed width : Nat) (flit : Bool) (t : Nat)
  /-- REGISTER_READ (R620). -/
  | registerRead (q : Requester) (addr size : Nat) (t : Nat)
  /-- SPDM_SESSION_END (R734). -/
  | spdmSessionEnd (t : Nat)
  /-- RECEIVER_ADAPTED (R501). -/
  | receiverAdapted (p : Nat) (t : Nat)
  /-- HOST_DELAYED_LANDING (R789). -/
  | hostDelayedLanding (fn tag : Nat) (t : Nat)
  deriving DecidableEq, Repr

end Sys2Proof
end

