-- ==== Sys2Proof/Decode.lean ====
section
/-! DEFINITION. The words of the table. Its rows give no bits (spec/opcode_table.json lists fields of no row), since the
commands are events and accesses from outside the block; no word spells a command. -/

namespace Sys2Proof

/-- The command that a word of the table's bits spells: none, because no row of the table has bits. -/
def decodeTableWord (nbits w : Nat) : Option Instr :=
  let _ := nbits + w
  none

end Sys2Proof
end

