-- ==== Sys2Proof/Config.lean ====
section
/-! DEFINITION. What the manual leaves open, as constants without a body: nothing in Lean can evaluate them, and a
statement about the model holds for every value of them. The primitives of the external standards that the manual names
and does not define (SHA-384, signature verification, key derivation, AES-GCM, the AV1 bitstream) stand here too. -/

namespace Sys2Proof.Config

/-- The byte that memory holds at an address before anything has written it under the present key epoch of its extent
(R237: the device clears no memory when it allocates it). -/
opaque freeByte : (epoch addr : Nat) → Byte

/-- A value the device draws from its entropy source or random bit generator (R716), by the number of the draw. -/
opaque freeRandom : (draw : Nat) → Nat

/-- The n-th value of a quantity that the manual states to exist and does not fix (log entries name each use). -/
opaque freeValue : (n : Nat) → Nat

/-- The result of a SCALEB step whose second operand is no integer (Table 9.5 asks for one and states nothing else), by the
codes of its operands. -/
opaque openScaleb : (a b : Nat) → Nat

/-- SHA-384 of a list of bytes, 48 bytes (FIPS 180-4, named by R99, R101). -/
opaque sha384 : List Byte → List Byte

/-- ML-DSA-87 verification (FIPS 204, R102): public key of a slot, message, signature. -/
opaque mldsaVerify : (key msg sig : List Byte) → Bool

/-- ECDSA P-384 verification (R102): public key, message, r followed by s. -/
opaque ecdsaVerify : (key msg sig : List Byte) → Bool

/-- The counter-mode KDF of NIST SP 800-108 with HMAC-SHA-384 (R536): key, label, context, number of output bytes. -/
opaque kdf : (key label context : List Byte) → (len : Nat) → List Byte

/-- AES-256-GCM encryption (R537): key, IV, additional data, plaintext; the ciphertext and the 16-byte tag. -/
opaque gcmSeal : (key iv aad plain : List Byte) → List Byte × List Byte

/-- AES-256-GCM decryption (R537): key, IV, additional data, ciphertext, tag; none where the tag fails. -/
opaque gcmOpen : (key iv aad cipher tag : List Byte) → Option (List Byte)

/-- AES key unwrap (RFC 3394, Table 18.3): the key that 40 bytes wrap under a key; none where its check fails. -/
opaque keyUnwrap : (kek wrapped : List Byte) → Option (List Byte)

/-- The SHA-384 of the mask ROMs (measurement 1 of Table 18.5). -/
opaque romDigest : List Byte

/-- The device unique secret in the fuses (Table 18.2). -/
opaque dus : List Byte

/-- What an SPDM 1.3 responder answers to a request (R718): request code, request, the state it reports. -/
opaque spdmAnswer : (code : Nat) → (req : List Byte) → (shown : List (List Byte)) → List Byte

/-- What an AV1 encoder makes of a tile group (R592, R593), by the descriptor, the stream table and the rows and hints it
reads: part 0 the OBUs, part 1 the rate-control state, part 2 the byte BASE_Q and the byte CAPPED, part 3 + k the
reconstructed superblock row k of the group, part 2000 the filtered last row of the group before it. -/
opaque av1 : (desc table : List Byte) → (inputs : List (List Byte)) → (part : Nat) → List Byte

end Sys2Proof.Config
end

