-- ==== Sys2Proof/Machine/Bits.lean ====
section
/-! DEFINITION. Bit fields, little-endian byte order (R5, R6), the cyclic codes the manual names (R839 and the CRC-32,
CRC-32C and CRC-64 of the link and image chapters), and sparse tables held as sorted association lists. -/

namespace Sys2Proof.Machine

/-! ### Bit fields -/

/-- Bits hi down to lo of a number (R5). -/
def bitsOf (v hi lo : Nat) : Nat := (v >>> lo) % 2 ^ (hi + 1 - lo)

/-- Bits hi down to lo of a register (R5). -/
def bf (w : Word) (hi lo : Nat) : Nat := bitsOf w.toNat hi lo

/-- Bit i of a register. -/
def bitAt (w : Word) (i : Nat) : Bool := w.getLsbD i

/-- The mask of bits hi down to lo. -/
def maskOf (hi lo : Nat) : Word := word ((2 ^ (hi + 1 - lo) - 1) * 2 ^ lo)

/-- The register with bits hi down to lo replaced. -/
def setBf (w : Word) (hi lo v : Nat) : Word :=
  (w &&& ~~~ maskOf hi lo) ||| (word (v % 2 ^ (hi + 1 - lo)) <<< lo)

/-- The register with bit i replaced. -/
def setBit (w : Word) (i : Nat) (b : Bool) : Word := setBf w i i b.toNat

/-- A counter of the given width that saturates (the counters the manual calls saturating). -/
def satAdd (width a b : Nat) : Nat := min (a + b) (2 ^ width - 1)

/-- A field counter of a register, added to and saturating. -/
def bumpField (w : Word) (hi lo n : Nat) : Word := setBf w hi lo (satAdd (hi + 1 - lo) (bf w hi lo) n)

/-- The ceiling of a division. -/
def cdiv (a b : Nat) : Nat := (a + b - 1) / b

/-- A two's complement number of the given width read as an integer. -/
def toSigned (width v : Nat) : Int :=
  if v < 2 ^ (width - 1) then (v : Int) else (v : Int) - (2 ^ width : Nat)

/-- An integer written in two's complement of the given width. -/
def ofSigned (width : Nat) (v : Int) : Nat := (v % ((2 ^ width : Nat) : Int)).toNat

/-- The ones' complement of a number of the given width (the stored complements of row 7 of Table 20.1). -/
def onesComp (width v : Nat) : Nat := 2 ^ width - 1 - v % 2 ^ width

/-! ### Bytes -/

/-- The n bytes of a number, least significant first (R6). -/
def leBytes : Nat → Nat → List Byte
  | 0, _ => []
  | n + 1, v => BitVec.ofNat 8 v :: leBytes n (v / 256)

/-- The number a list of bytes holds, least significant first (R6). -/
def leNat : List Byte → Nat
  | [] => 0
  | b :: bs => b.toNat + 256 * leNat bs

/-- The bytes at an offset of a record. -/
def slice (bs : List Byte) (off len : Nat) : List Byte := (bs.drop off).take len

/-- The little-endian field of len bytes at an offset of a record. -/
def fieldAt (bs : List Byte) (off len : Nat) : Nat := leNat (slice bs off len)

/-- The record with the bytes at an offset replaced. -/
def patch (bs : List Byte) (off : Nat) (new : List Byte) : List Byte :=
  bs.take off ++ new ++ bs.drop (off + new.length)

/-- Every byte of the list is 0. -/
def allZero (bs : List Byte) : Bool := bs.all (fun b => b == 0#8)

/-- A list of zero bytes. -/
def zeros (n : Nat) : List Byte := List.replicate n 0#8

/-- The list cut into groups of n (n > 0); the last may be shorter. -/
def chunksFuel {α : Type} : Nat → Nat → List α → List (List α)
  | 0, _, _ => []
  | _ + 1, _, [] => []
  | f + 1, n, x :: xs => (x :: xs).take n :: chunksFuel f n ((x :: xs).drop n)

/-- The list cut into groups of n. -/
def chunks {α : Type} (n : Nat) (l : List α) : List (List α) := chunksFuel l.length n l

/-! ### Cyclic codes -/

/-- One bit of a most-significant-bit-first division by the polynomial. -/
def crcBit (width poly crc : Nat) (b : Bool) : Nat :=
  let top := (crc / 2 ^ (width - 1)) % 2 == 1
  let sh := (crc * 2) % 2 ^ width
  if top != b then sh ^^^ poly else sh

/-- One byte, most significant bit first (R839). -/
def crcByteMsb (width poly crc : Nat) (b : Byte) : Nat :=
  (List.range 8).foldl (fun c i => crcBit width poly c (b.getLsbD (7 - i))) crc

/-- A code whose input and output are not reflected. -/
def crcMsb (width poly init : Nat) (bs : List Byte) : Nat := bs.foldl (crcByteMsb width poly) init

/-- CRC-16 of the manual: polynomial 0x1021, initial value 0xFFFF, no reflection, no final XOR (R839). -/
def crc16 (bs : List Byte) : Nat := crcMsb 16 0x1021 0xFFFF bs

/-- One byte of a reflected division (the Ethernet and Castagnoli codes of their own standards). -/
def crcByteLsb (rpoly crc : Nat) (b : Byte) : Nat :=
  (List.range 8).foldl (fun c _ => if c % 2 == 1 then (c / 2) ^^^ rpoly else c / 2) (crc ^^^ b.toNat)

/-- CRC-32 of IEEE 802.3 (R119). -/
def crc32 (bs : List Byte) : Nat := (bs.foldl (crcByteLsb 0xEDB88320) 0xFFFFFFFF) ^^^ 0xFFFFFFFF

/-- CRC-32C (Castagnoli). -/
def crc32c (bs : List Byte) : Nat := (bs.foldl (crcByteLsb 0x82F63B78) 0xFFFFFFFF) ^^^ 0xFFFFFFFF

/-! ### Sparse tables -/

/-- A table from numbers to values, held as a list in strictly rising order of its keys; a key that is not listed
holds the table's default. -/
abbrev Tab (α : Type) := List (Nat × α)

namespace Tab

variable {α : Type}

/-- The listed value of a key. -/
def find (k : Nat) : List (Nat × α) → Option α
  | [] => none
  | (j, v) :: r => if j = k then some v else find k r

/-- The value of a key, the default where it is not listed. -/
def getD (d : α) (k : Nat) (m : List (Nat × α)) : α := (find k m).getD d

/-- The table with a key listed with a value. -/
def put (k : Nat) (v : α) : List (Nat × α) → List (Nat × α)
  | [] => [(k, v)]
  | (j, w) :: r => if k < j then (k, v) :: (j, w) :: r else if k = j then (k, v) :: r else (j, w) :: put k v r

/-- The table with a key no longer listed. -/
def del (k : Nat) : List (Nat × α) → List (Nat × α)
  | [] => []
  | (j, w) :: r => if j = k then r else (j, w) :: del k r

/-- The table without the keys of the range from lo below hi. -/
def delRange (lo hi : Nat) (m : List (Nat × α)) : List (Nat × α) :=
  m.filter (fun c => !(decide (lo ≤ c.1) && decide (c.1 < hi)))

end Tab

end Sys2Proof.Machine
end

