-- ==== Sys2Proof/Machine/RegTable.lean ====
section
/-! DEFINITION. The registers of the device: one name per register of the manual, and for each the window class, the
offset, the stride and the count of its index, the reset value, the fields of each access code of Table 0.2 (a bit in no
mask is reserved, R9), and who may read and write it. Every row is the register's heading line and field table. -/

namespace Sys2Proof.Machine

/-- The die window (Table 1.1) that a register block lies in. -/
inductive Win where
  /-- The control die, window index 38. -/
  | ct
  /-- Each compute die, window indexes 0-15. -/
  | cd
  /-- Each optical edge die, window indexes 28-31. -/
  | ed
  /-- Each dispatch die, window indexes 32-33. -/
  | dd
  /-- Each media die, window indexes 36-37. -/
  | md
  /-- The safety die, window index 39. -/
  | sf
  deriving DecidableEq, Repr

/-- The first window index of the class and how many dies it has (Table 1.1). -/
def Win.dies : Win → Nat × Nat
  | .ct => (38, 1) | .cd => (0, 16) | .ed => (28, 4) | .dd => (32, 2) | .md => (36, 2) | .sf => (39, 1)

/-- Which virtual function may read a register through VF BAR2 (R621 and the access rule of each block). -/
inductive VfRule where
  /-- None: the block's rule names only the physical function and BC8. -/
  | no
  /-- Every virtual function. -/
  | all
  /-- Virtual function s, where the register's index divided by n is s. -/
  | per (n : Nat)
  /-- The owner of the compute die of the window. -/
  | ownDie
  /-- The owner of the compute die the mover sits at (R264). -/
  | ownMover
  /-- The OWNER of the port. -/
  | ownPort
  /-- The owner of the Resample engine, or any where it is shared. -/
  | ownResample
  /-- The owner of the encoder. -/
  | ownEncoder
  deriving DecidableEq, Repr

/-- Who may write the writable fields of a register. -/
inductive WrRule where
  /-- The physical function or BC8. -/
  | pfBc8
  /-- The physical function only. -/
  | pf
  /-- Virtual function s at index s, the physical function at index 8 (R646). -/
  | hif
  /-- Every requester (each acting only on its own bits). -/
  | any
  deriving DecidableEq, Repr

/-- The description of one register (R8, Table 0.2). -/
structure RegInfo where
  win : Win
  base : Nat
  stride : Nat
  count : Nat
  reset : Word
  ro : Word
  rw : Word
  w1c : Word
  rc : Word
  wo : Word
  rws : Word
  vf : VfRule
  wr : WrRule
  deriving DecidableEq, Repr

/-- The registers of the manual, each under its own name. -/
inductive Reg where
  /-- CLK_REF_STATUS (spec/01_package_dies_clocks.md, R51). -/
  | clkRefStatus
  /-- CLK_LOCK_STATUS (spec/01_package_dies_clocks.md, R51). -/
  | clkLockStatus
  /-- CLK_LOCK_LOST (spec/01_package_dies_clocks.md, R51). -/
  | clkLockLost
  /-- CLK_SETPOINT_CD (spec/01_package_dies_clocks.md, R51). -/
  | clkSetpointCd
  /-- CLK_SETPOINT_MD (spec/01_package_dies_clocks.md, R51). -/
  | clkSetpointMd
  /-- CLK_APPLIED_CD (spec/01_package_dies_clocks.md, R51). -/
  | clkAppliedCd
  /-- CLK_APPLIED_MD (spec/01_package_dies_clocks.md, R51). -/
  | clkAppliedMd
  /-- CLK_ALIGN_STATUS (spec/01_package_dies_clocks.md, R51). -/
  | clkAlignStatus
  /-- TID_CTRL (spec/02_tide.md, R61). -/
  | tidCtrl
  /-- TID_PERIOD (spec/02_tide.md, R61). -/
  | tidPeriod
  /-- TID_STATUS (spec/02_tide.md, R61). -/
  | tidStatus
  /-- TID_NUMBER (spec/02_tide.md, R61). -/
  | tidNumber
  /-- TID_NOW (spec/02_tide.md, R61). -/
  | tidNow
  /-- TID_BAY_CFG (spec/02_tide.md, R61). -/
  | tidBayCfg
  /-- TID_BAY_START_b (spec/02_tide.md, R61). -/
  | tidBayStart
  /-- TID_BAY_OWN_LO_b (spec/02_tide.md, R61). -/
  | tidBayOwnLo
  /-- TID_BAY_OWN_HI_b (spec/02_tide.md, R61). -/
  | tidBayOwnHi
  /-- TID_REF_PLAN (spec/02_tide.md, R61). -/
  | tidRefPlan
  /-- TID_DL_s (spec/02_tide.md, R61). -/
  | tidDl
  /-- TID_MISS (spec/02_tide.md, R61). -/
  | tidMiss
  /-- TID_MISS_COUNT (spec/02_tide.md, R61). -/
  | tidMissCount
  /-- TID_EXT_STATUS (spec/02_tide.md, R61). -/
  | tidExtStatus
  /-- STL_CTRL_s (spec/04_stalls_and_sharing.md, R178). -/
  | stlCtrl
  /-- STL_ENTRY_s (spec/04_stalls_and_sharing.md, R178). -/
  | stlEntry
  /-- STL_FB_ENTRY_s (spec/04_stalls_and_sharing.md, R178). -/
  | stlFbEntry
  /-- STL_STATE_s (spec/04_stalls_and_sharing.md, R178). -/
  | stlState
  /-- STL_KILL (spec/04_stalls_and_sharing.md, R178). -/
  | stlKill
  /-- STL_SIDE_s (spec/04_stalls_and_sharing.md, R178). -/
  | stlSide
  /-- STL_VALID_s (spec/04_stalls_and_sharing.md, R178). -/
  | stlValid
  /-- STL_PUB_s_j (spec/04_stalls_and_sharing.md, R178). -/
  | stlPub
  /-- STL_CMT_s_i (spec/04_stalls_and_sharing.md, R178). -/
  | stlCmt
  /-- STL_CMT_MASK_s_i (spec/04_stalls_and_sharing.md, R178). -/
  | stlCmtMask
  /-- BCN_STATUS_b (spec/05_beacon.md, R219). -/
  | bcnStatus
  /-- BCN_EXC_b (spec/05_beacon.md, R219). -/
  | bcnExc
  /-- BCN_CYCLES_s (spec/05_beacon.md, R219). -/
  | bcnCycles
  /-- BCN_HOLDS_s (spec/05_beacon.md, R219). -/
  | bcnHolds
  /-- BCN_STW_ENTRY (spec/05_beacon.md, R219). -/
  | bcnStwEntry
  /-- BCN_STW_CTRL (spec/05_beacon.md, R219). -/
  | bcnStwCtrl
  /-- GRN_STATUS (spec/06_memory_and_granary.md, R270). -/
  | grnStatus
  /-- GRN_POOL_p (spec/06_memory_and_granary.md, R270). -/
  | grnPool
  /-- GRN_ARENA_a (spec/06_memory_and_granary.md, R270). -/
  | grnArena
  /-- GRN_RSV_r_c (spec/06_memory_and_granary.md, R270). -/
  | grnRsv
  /-- GRN_HELD_r_c (spec/06_memory_and_granary.md, R270). -/
  | grnHeld
  /-- GRN_ARENA_HELD_a (spec/06_memory_and_granary.md, R270). -/
  | grnArenaHeld
  /-- HAU_STATUS_m (spec/06_memory_and_granary.md, R270). -/
  | hauStatus
  /-- HAU_BYTES_m (spec/06_memory_and_granary.md, R270). -/
  | hauBytes
  /-- TAL_VALUE_i (spec/07_tallies.md, R297). -/
  | talValue
  /-- TAL_PARK_s (spec/07_tallies.md, R297). -/
  | talPark
  /-- TAL_DROP_s (spec/07_tallies.md, R297). -/
  | talDrop
  /-- TAL_ERR (spec/07_tallies.md, R297). -/
  | talErr
  /-- MTX_TILE_STATUS_t (spec/08_matrix_and_vector.md, R337). -/
  | mtxTileStatus
  /-- MTX_TILE_BUSY_t (spec/08_matrix_and_vector.md, R337). -/
  | mtxTileBusy
  /-- VEC_UNIT_STATUS_v (spec/08_matrix_and_vector.md, R337). -/
  | vecUnitStatus
  /-- VEC_UNIT_BUSY_v (spec/08_matrix_and_vector.md, R337). -/
  | vecUnitBusy
  /-- MTX_WL_s (spec/08_matrix_and_vector.md, R337). -/
  | mtxWl
  /-- MTX_LOOSE_s (spec/08_matrix_and_vector.md, R337). -/
  | mtxLoose
  /-- MTX_ERR (spec/08_matrix_and_vector.md, R337). -/
  | mtxErr
  /-- SFU_STATUS_u (spec/09_special_functions.md, R374). -/
  | sfuStatus
  /-- SFU_BUSY_u (spec/09_special_functions.md, R374). -/
  | sfuBusy
  /-- SFU_ECC_u (spec/09_special_functions.md, R374). -/
  | sfuEcc
  /-- WIN_VERDICT_s (spec/10_routing_and_census.md, R409). -/
  | winVerdict
  /-- WIN_LAST_s (spec/10_routing_and_census.md, R409). -/
  | winLast
  /-- WIN_DROPS_s (spec/10_routing_and_census.md, R409). -/
  | winDrops
  /-- WIN_CENSUS_s (spec/10_routing_and_census.md, R409). -/
  | winCensus
  /-- THR_ROUND_s (spec/11_dispatch_and_combine.md, R454). -/
  | thrRound
  /-- FRY_ARRIVE_s (spec/11_dispatch_and_combine.md, R454). -/
  | fryArrive
  /-- FRY_RETURN_s (spec/11_dispatch_and_combine.md, R454). -/
  | fryReturn
  /-- FRY_DROP_s (spec/11_dispatch_and_combine.md, R454). -/
  | fryDrop
  /-- GLN_DONE_s (spec/11_dispatch_and_combine.md, R454). -/
  | glnDone
  /-- THR_ERR (spec/11_dispatch_and_combine.md, R454). -/
  | thrErr
  /-- FRY_ERR (spec/11_dispatch_and_combine.md, R454). -/
  | fryErr
  /-- GLN_ERR (spec/11_dispatch_and_combine.md, R454). -/
  | glnErr
  /-- DKL_CFG_l (spec/13_deckarok_links.md, R544). -/
  | dklCfg
  /-- DKL_STATE_l (spec/13_deckarok_links.md, R544). -/
  | dklState
  /-- DKL_FAR_SERIAL_l (spec/13_deckarok_links.md, R544). -/
  | dklFarSerial
  /-- DKL_FAR_ID_l (spec/13_deckarok_links.md, R544). -/
  | dklFarId
  /-- DKL_SESSION_l (spec/13_deckarok_links.md, R544). -/
  | dklSession
  /-- DKL_ERR_l (spec/13_deckarok_links.md, R544). -/
  | dklErr
  /-- DKL_FEC_l (spec/13_deckarok_links.md, R544). -/
  | dklFec
  /-- DKL_CTRL_l (spec/13_deckarok_links.md, R544). -/
  | dklCtrl
  /-- TOP_BOARD (spec/14_topology.md, R577). -/
  | topBoard
  /-- TOP_READY (spec/14_topology.md, R577). -/
  | topReady
  /-- TOP_EVENT (spec/14_topology.md, R577). -/
  | topEvent
  /-- TOP_MEMBER_d (spec/14_topology.md, R577). -/
  | topMember
  /-- TOP_CABLE_p (spec/14_topology.md, R577). -/
  | topCable
  /-- MED_RS_STATUS (spec/15_media.md, R610). -/
  | medRsStatus
  /-- MED_RS_BUSY (spec/15_media.md, R610). -/
  | medRsBusy
  /-- MED_ENC_STATUS_e (spec/15_media.md, R610). -/
  | medEncStatus
  /-- MED_ENC_BYTES_e (spec/15_media.md, R610). -/
  | medEncBytes
  /-- MED_ENC_CAPPED_e (spec/15_media.md, R610). -/
  | medEncCapped
  /-- MED_ERR (spec/15_media.md, R610). -/
  | medErr
  /-- HIF_LINK (spec/16_host_interface.md, R646). -/
  | hifLink
  /-- HIF_EVT_BASE_f (spec/16_host_interface.md, R646). -/
  | hifEvtBase
  /-- HIF_EVT_CFG_f (spec/16_host_interface.md, R646). -/
  | hifEvtCfg
  /-- HIF_EVT_PTR_f (spec/16_host_interface.md, R646). -/
  | hifEvtPtr
  /-- HIF_CENSUS_BASE_s (spec/16_host_interface.md, R646). -/
  | hifCensusBase
  /-- HIF_FN_STAT_f (spec/16_host_interface.md, R646). -/
  | hifFnStat
  /-- HIF_DMA_ERR (spec/16_host_interface.md, R646). -/
  | hifDmaErr
  /-- HIF_DMA_LAST (spec/16_host_interface.md, R646). -/
  | hifDmaLast
  /-- BWR_STATUS (spec/17_breakwater_safety.md, R692). -/
  | bwrStatus
  /-- BWR_INTLK (spec/17_breakwater_safety.md, R692). -/
  | bwrIntlk
  /-- BWR_CMD (spec/17_breakwater_safety.md, R692). -/
  | bwrCmd
  /-- BWR_RESET_STATUS (spec/17_breakwater_safety.md, R692). -/
  | bwrResetStatus
  /-- BWR_LAST_TEST (spec/17_breakwater_safety.md, R692). -/
  | bwrLastTest
  /-- BWR_PORT_p (spec/17_breakwater_safety.md, R692). -/
  | bwrPort
  /-- BWR_H_STATUS (spec/17_breakwater_safety.md, R692). -/
  | bwrHStatus
  /-- SEC_IMG_CTRL (spec/18_security.md, R728). -/
  | secImgCtrl
  /-- SEC_IMG_STATUS (spec/18_security.md, R728). -/
  | secImgStatus
  /-- SEC_STATUS (spec/18_security.md, R728). -/
  | secStatus
  /-- SEC_KEYSLOT (spec/18_security.md, R728). -/
  | secKeyslot
  /-- SEC_ENTROPY (spec/18_security.md, R728). -/
  | secEntropy
  /-- SEC_XTS (spec/18_security.md, R728). -/
  | secXts
  /-- PWR_RST_CTRL (spec/19_reset_and_bringup.md, R757). -/
  | pwrRstCtrl
  /-- PWR_RST_STATUS (spec/19_reset_and_bringup.md, R757). -/
  | pwrRstStatus
  /-- PWR_RST_TEST_CMD (spec/19_reset_and_bringup.md, R757). -/
  | pwrRstTestCmd
  /-- PWR_RST_TEST_LAST (spec/19_reset_and_bringup.md, R757). -/
  | pwrRstTestLast
  /-- PWR_RST_TEST_DIES (spec/19_reset_and_bringup.md, R757). -/
  | pwrRstTestDies
  /-- PWR_RST_TEST_PORTS (spec/19_reset_and_bringup.md, R757). -/
  | pwrRstTestPorts
  /-- PWR_RST_FAIL_DIES (spec/19_reset_and_bringup.md, R757). -/
  | pwrRstFailDies
  /-- HLT_ECC_k (spec/20_errors_and_health.md, R794). -/
  | hltEcc
  /-- HLT_HBM_n (spec/20_errors_and_health.md, R794). -/
  | hltHbm
  /-- HLT_LOSS (spec/20_errors_and_health.md, R794). -/
  | hltLoss
  /-- HLT_WEAR_n (spec/20_errors_and_health.md, R794). -/
  | hltWear
  /-- HLT_ACC_n (spec/20_errors_and_health.md, R794). -/
  | hltAcc
  /-- HLT_INJECT (spec/20_errors_and_health.md, R794). -/
  | hltInject
  /-- LOG_STATUS (spec/20_errors_and_health.md, R794). -/
  | logStatus
  /-- SQL_CTRL (spec/20_errors_and_health.md, R794). -/
  | sqlCtrl
  /-- SQL_SEED (spec/20_errors_and_health.md, R794). -/
  | sqlSeed
  /-- SQL_LINK (spec/20_errors_and_health.md, R794). -/
  | sqlLink
  /-- SQL_PACE (spec/20_errors_and_health.md, R794). -/
  | sqlPace
  /-- SQL_STAT (spec/20_errors_and_health.md, R794). -/
  | sqlStat
  /-- PWR_STATUS (spec/22_electrical_mechanical.md, R834). -/
  | pwrStatus
  /-- PWR_TRIP (spec/22_electrical_mechanical.md, R834). -/
  | pwrTrip
  /-- PWR_VID_q (spec/22_electrical_mechanical.md, R834). -/
  | pwrVid
  /-- PWR_PEAK (spec/22_electrical_mechanical.md, R834). -/
  | pwrPeak
  /-- LOG_ENTRY_i_w (spec/20_errors_and_health.md, R794). -/
  | logEntry
  /-- LOG_PIN_j_w (spec/20_errors_and_health.md, R794). -/
  | logPin
  deriving DecidableEq, Repr

/-- The heading line and field table of each register. -/
def Reg.info : Reg → RegInfo
  | .clkRefStatus => ⟨.ct, 0x10000, 8, 1, 0, 0xffff00000007, 0, 0xf00, 0, 0, 0, .no, .pfBc8⟩
  | .clkLockStatus => ⟨.ct, 0x10008, 8, 1, 0, 0xfffffffffffffff, 0, 0, 0, 0, 0, .no, .pfBc8⟩
  | .clkLockLost => ⟨.ct, 0x10010, 8, 1, 0, 0, 0, 0xfffffffffffffff, 0, 0, 0, .no, .pfBc8⟩
  | .clkSetpointCd => ⟨.ct, 0x10020, 8, 1, 0x6666666666666666, 0, 0xffffffffffffffff, 0, 0, 0, 0, .no, .pfBc8⟩
  | .clkSetpointMd => ⟨.ct, 0x10028, 8, 1, 0x44, 0, 0xff, 0, 0, 0, 0, .no, .pfBc8⟩
  | .clkAppliedCd => ⟨.ct, 0x10030, 8, 1, 0x6666666666666666, 0xffffffffffffffff, 0, 0, 0, 0, 0, .no, .pfBc8⟩
  | .clkAppliedMd => ⟨.ct, 0x10038, 8, 1, 0x44, 0xff, 0, 0, 0, 0, 0, .no, .pfBc8⟩
  | .clkAlignStatus => ⟨.ct, 0x10040, 8, 1, 0, 0xffffff03, 0, 0, 0, 0, 0, .no, .pfBc8⟩
  | .tidCtrl => ⟨.ct, 0x20000, 8, 1, 0x2, 0, 0x3, 0, 0, 0, 0, .no, .pfBc8⟩
  | .tidPeriod => ⟨.ct, 0x20008, 8, 1, 0xfe502b, 0, 0x7ffffff, 0, 0, 0, 0, .no, .pfBc8⟩
  | .tidStatus => ⟨.ct, 0x20010, 8, 1, 0xfe502b, 0x707ffffff, 0, 0, 0, 0, 0, .no, .pfBc8⟩
  | .tidNumber => ⟨.ct, 0x20018, 8, 1, 0, 0xffffffffffffffff, 0, 0, 0, 0, 0, .no, .pfBc8⟩
  | .tidNow => ⟨.ct, 0x20020, 8, 1, 0, 0x1f07ffffff, 0, 0, 0, 0, 0, .no, .pfBc8⟩
  | .tidBayCfg => ⟨.ct, 0x20028, 8, 1, 0, 0, 0xf, 0, 0, 0, 0, .no, .pfBc8⟩
  | .tidBayStart => ⟨.ct, 0x20100, 8, 16, 0, 0, 0xffffff, 0, 0, 0, 0, .no, .pfBc8⟩
  | .tidBayOwnLo => ⟨.ct, 0x20200, 16, 16, 0x8888888888888888, 0, 0xffffffffffffffff, 0, 0, 0, 0, .no, .pfBc8⟩
  | .tidBayOwnHi => ⟨.ct, 0x20208, 16, 16, 0x8888888888888, 0, 0xfffffffffffff, 0, 0, 0, 0, .no, .pfBc8⟩
  | .tidRefPlan => ⟨.ct, 0x20300, 8, 1, 0x50006e007800f0, 0, 0xffffffffffffff, 0, 0, 0, 0, .no, .pfBc8⟩
  | .tidDl => ⟨.ct, 0x20400, 8, 8, 0, 0, 0x7ffffff07ffffff, 0, 0, 0, 0, .no, .pfBc8⟩
  | .tidMiss => ⟨.ct, 0x20500, 8, 1, 0, 0, 0, 0xffff, 0, 0, 0, .no, .pfBc8⟩
  | .tidMissCount => ⟨.ct, 0x20508, 8, 1, 0, 0, 0, 0, 0xffffffffffffffff, 0, 0, .no, .pfBc8⟩
  | .tidExtStatus => ⟨.ct, 0x20510, 8, 1, 0, 0, 0, 0, 0xffffffff, 0, 0, .no, .pfBc8⟩
  | .stlCtrl => ⟨.ct, 0x30000, 8, 8, 0, 0, 0, 0, 0, 0, 0xf, .per 1, .pfBc8⟩
  | .stlEntry => ⟨.ct, 0x30040, 8, 8, 0, 0, 0, 0, 0, 0, 0xffffffffffff, .per 1, .pfBc8⟩
  | .stlFbEntry => ⟨.ct, 0x30080, 8, 8, 0, 0, 0, 0, 0, 0, 0xffffffffffff, .per 1, .pfBc8⟩
  | .stlState => ⟨.ct, 0x300c0, 8, 8, 0, 0x1ffffffffff, 0, 0, 0, 0, 0, .per 1, .pfBc8⟩
  | .stlKill => ⟨.ct, 0x30100, 8, 1, 0, 0, 0, 0, 0, 0xffff, 0, .no, .any⟩
  | .stlSide => ⟨.ct, 0x30140, 8, 8, 0, 0xffffffffffffffff, 0, 0, 0, 0, 0, .per 1, .pfBc8⟩
  | .stlValid => ⟨.ct, 0x30180, 8, 8, 0, 0xffffffffffffffff, 0, 0, 0, 0, 0, .per 1, .pfBc8⟩
  | .stlPub => ⟨.ct, 0x31000, 8, 512, 0, 0xffffffffffffffff, 0, 0, 0, 0, 0, .per 64, .pfBc8⟩
  | .stlCmt => ⟨.ct, 0x32000, 16, 512, 0, 0xffffff0ffc000fff, 0, 0, 0, 0, 0, .per 64, .pfBc8⟩
  | .stlCmtMask => ⟨.ct, 0x32008, 16, 512, 0, 0xffffffffffffffff, 0, 0, 0, 0, 0, .per 64, .pfBc8⟩
  | .bcnStatus => ⟨.ct, 0x40000, 8, 9, 0, 0xfffc07ff07ff, 0, 0, 0, 0, 0, .per 1, .pfBc8⟩
  | .bcnExc => ⟨.ct, 0x40080, 8, 9, 0, 0x3ffff07ff00ff, 0, 0x8000000000000000, 0, 0, 0, .per 1, .pfBc8⟩
  | .bcnCycles => ⟨.ct, 0x40100, 8, 8, 0, 0xffffffffffffffff, 0, 0, 0, 0, 0, .per 1, .pfBc8⟩
  | .bcnHolds => ⟨.ct, 0x40140, 8, 8, 0, 0, 0, 0, 0xffffffffffffffff, 0, 0, .per 1, .pfBc8⟩
  | .bcnStwEntry => ⟨.ct, 0x40200, 8, 1, 0, 0, 0xffffffffffff, 0, 0, 0, 0, .no, .pf⟩
  | .bcnStwCtrl => ⟨.ct, 0x40208, 8, 1, 0, 0x6, 0x1, 0, 0, 0, 0, .no, .pf⟩
  | .grnStatus => ⟨.ct, 0x50000, 8, 1, 0, 0x77f0000, 0, 0xffff, 0, 0, 0, .no, .pfBc8⟩
  | .grnPool => ⟨.ct, 0x50100, 8, 32, 0, 0, 0, 0, 0, 0, 0xefffffffffffffff, .no, .pfBc8⟩
  | .grnArena => ⟨.ct, 0x50200, 8, 32, 0, 0, 0, 0, 0, 0, 0xefffffffffffffff, .per 4, .pfBc8⟩
  | .grnRsv => ⟨.ct, 0x51000, 8, 1024, 0, 0, 0, 0, 0, 0, 0x1f01ffffffffff, .per 128, .pfBc8⟩
  | .grnHeld => ⟨.ct, 0x53000, 8, 1024, 0, 0xfffff, 0, 0, 0xfffff00000, 0, 0, .per 128, .pfBc8⟩
  | .grnArenaHeld => ⟨.ct, 0x55000, 8, 32, 0, 0xfffff, 0, 0, 0, 0, 0, .per 4, .pfBc8⟩
  | .hauStatus => ⟨.ct, 0x60000, 8, 32, 0xf0000, 0xfc0ff, 0, 0, 0, 0, 0, .ownMover, .pfBc8⟩
  | .hauBytes => ⟨.ct, 0x60100, 8, 32, 0, 0, 0, 0, 0xffffffffffffffff, 0, 0, .ownMover, .pfBc8⟩
  | .talValue => ⟨.ct, 0x70000, 8, 4096, 0xffffffff00000000, 0xffffffffffffffff, 0, 0, 0, 0, 0, .per 512, .pfBc8⟩
  | .talPark => ⟨.ct, 0x78000, 8, 8, 0, 0xffff, 0, 0, 0, 0, 0, .per 1, .pfBc8⟩
  | .talDrop => ⟨.ct, 0x78040, 8, 8, 0, 0, 0, 0, 0xffffffffffffffff, 0, 0, .per 1, .pfBc8⟩
  | .talErr => ⟨.ct, 0x78080, 8, 1, 0, 0xff0fff0fff, 0, 0x8000000000000000, 0, 0, 0, .no, .pfBc8⟩
  | .mtxTileStatus => ⟨.cd, 0x10000, 8, 8, 0, 0xfff0fe01f, 0, 0, 0, 0, 0, .ownDie, .pfBc8⟩
  | .mtxTileBusy => ⟨.cd, 0x10040, 8, 8, 0, 0, 0, 0, 0xffffffffffffffff, 0, 0, .ownDie, .pfBc8⟩
  | .vecUnitStatus => ⟨.cd, 0x20000, 8, 8, 0, 0xfff0fe01f, 0, 0, 0, 0, 0, .ownDie, .pfBc8⟩
  | .vecUnitBusy => ⟨.cd, 0x20040, 8, 8, 0, 0, 0, 0, 0xffffffffffffffff, 0, 0, .ownDie, .pfBc8⟩
  | .mtxWl => ⟨.ct, 0x80000, 8, 8, 0, 0xffffffffffff0000, 0, 0, 0, 0, 0, .per 1, .pfBc8⟩
  | .mtxLoose => ⟨.ct, 0x80040, 8, 8, 0, 0xfff0000000000000, 0, 0, 0xffffffff, 0, 0, .per 1, .pfBc8⟩
  | .mtxErr => ⟨.ct, 0x80080, 8, 1, 0, 0x70fffff, 0, 0x8000000000000000, 0, 0, 0, .no, .pfBc8⟩
  | .sfuStatus => ⟨.cd, 0x30000, 8, 2, 0xf0, 0xffffffff03f1, 0, 0, 0, 0, 0, .ownDie, .pfBc8⟩
  | .sfuBusy => ⟨.cd, 0x30010, 8, 2, 0, 0, 0, 0, 0xffffffffffffffff, 0, 0, .ownDie, .pfBc8⟩
  | .sfuEcc => ⟨.cd, 0x30020, 8, 2, 0, 0, 0, 0, 0xffffffff, 0, 0, .ownDie, .pfBc8⟩
  | .winVerdict => ⟨.ct, 0x90000, 8, 8, 0, 0, 0, 0, 0xffffffffffffffff, 0, 0, .per 1, .pfBc8⟩
  | .winLast => ⟨.ct, 0x90040, 8, 8, 0, 0xfffffffffffe01ff, 0, 0, 0, 0, 0, .per 1, .pfBc8⟩
  | .winDrops => ⟨.ct, 0x90080, 8, 8, 0, 0, 0, 0, 0xffffffffffffffff, 0, 0, .per 1, .pfBc8⟩
  | .winCensus => ⟨.ct, 0x900c0, 8, 8, 0, 0xffffffff0003, 0, 0, 0xffff000000000000, 0, 0, .per 1, .pfBc8⟩
  | .thrRound => ⟨.dd, 0x10000, 8, 8, 0, 0xfffff0ffffffffff, 0, 0, 0, 0, 0, .per 1, .pfBc8⟩
  | .fryArrive => ⟨.dd, 0x20000, 8, 8, 0, 0xfffff0ffffffffff, 0, 0, 0, 0, 0, .per 1, .pfBc8⟩
  | .fryReturn => ⟨.dd, 0x20040, 8, 8, 0, 0xfffff0ffffffffff, 0, 0, 0, 0, 0, .per 1, .pfBc8⟩
  | .fryDrop => ⟨.dd, 0x20080, 8, 8, 0, 0, 0, 0, 0xffffffffffffffff, 0, 0, .per 1, .pfBc8⟩
  | .glnDone => ⟨.dd, 0x30000, 8, 8, 0, 0, 0, 0, 0xffffffffffffffff, 0, 0, .per 1, .pfBc8⟩
  | .thrErr => ⟨.dd, 0x10100, 8, 1, 0, 0x70fffff, 0, 0x8000000000000000, 0, 0, 0, .no, .pfBc8⟩
  | .fryErr => ⟨.dd, 0x20100, 8, 1, 0, 0x70fffff, 0, 0x8000000000000000, 0, 0, 0, .no, .pfBc8⟩
  | .glnErr => ⟨.dd, 0x30100, 8, 1, 0, 0x70fffff, 0, 0x8000000000000000, 0, 0, 0, .no, .pfBc8⟩
  | .dklCfg => ⟨.ed, 0x10000, 64, 8, 0xf00, 0, 0, 0, 0, 0, 0xffff011f0fff0f03, .no, .pfBc8⟩
  | .dklState => ⟨.ed, 0x10008, 64, 8, 0, 0xfffffffffffeff, 0, 0, 0, 0, 0, .ownPort, .pfBc8⟩
  | .dklFarSerial => ⟨.ed, 0x10010, 64, 8, 0, 0xffffffffffffffff, 0, 0, 0, 0, 0, .no, .pfBc8⟩
  | .dklFarId => ⟨.ed, 0x10018, 64, 8, 0, 0xffffff00fff00000, 0, 0, 0, 0, 0, .no, .pfBc8⟩
  | .dklSession => ⟨.ed, 0x10020, 64, 8, 0, 0xffffffffffffffff, 0, 0, 0, 0, 0, .no, .pfBc8⟩
  | .dklErr => ⟨.ed, 0x10028, 64, 8, 0, 0, 0, 0, 0xffffffffffffffff, 0, 0, .ownPort, .pfBc8⟩
  | .dklFec => ⟨.ed, 0x10030, 64, 8, 0, 0, 0, 0, 0xffffffffffffffff, 0, 0, .no, .pfBc8⟩
  | .dklCtrl => ⟨.ed, 0x10038, 64, 8, 0, 0, 0, 0, 0, 0x3, 0, .no, .pfBc8⟩
  | .topBoard => ⟨.ct, 0xa0000, 8, 1, 0, 0xfff0000033f, 0, 0, 0, 0, 0, .all, .pfBc8⟩
  | .topReady => ⟨.ct, 0xa0008, 8, 1, 0, 0x80000000ffffffff, 0, 0, 0, 0, 0, .all, .pfBc8⟩
  | .topEvent => ⟨.ct, 0xa0010, 8, 1, 0, 0, 0, 0xffffffffffffffff, 0, 0, 0, .no, .pfBc8⟩
  | .topMember => ⟨.ct, 0xa0040, 8, 16, 0, 0x80000fff00003fff, 0, 0, 0, 0, 0, .all, .pfBc8⟩
  | .topCable => ⟨.ct, 0xa0100, 8, 32, 0, 0x8fffffffffff0000, 0, 0, 0, 0, 0, .no, .pfBc8⟩
  | .medRsStatus => ⟨.md, 0x10000, 8, 1, 0xf0, 0xfff1, 0, 0, 0, 0, 0, .ownResample, .pfBc8⟩
  | .medRsBusy => ⟨.md, 0x10008, 8, 1, 0, 0, 0, 0, 0xffffffffffffffff, 0, 0, .ownResample, .pfBc8⟩
  | .medEncStatus => ⟨.md, 0x20000, 64, 4, 0xf0, 0xff00ff3ff0, 0, 0, 0, 0, 0, .ownEncoder, .pfBc8⟩
  | .medEncBytes => ⟨.md, 0x20008, 64, 4, 0, 0, 0, 0, 0xffffffffffffffff, 0, 0, .ownEncoder, .pfBc8⟩
  | .medEncCapped => ⟨.md, 0x20010, 64, 4, 0, 0, 0, 0, 0xffffffff, 0, 0, .ownEncoder, .pfBc8⟩
  | .medErr => ⟨.md, 0x30000, 8, 1, 0, 0x70fffff, 0, 0x8000000000000000, 0, 0, 0, .no, .pfBc8⟩
  | .hifLink => ⟨.ct, 0xb0000, 8, 1, 0, 0xffff0fff, 0, 0, 0, 0, 0, .all, .pf⟩
  | .hifEvtBase => ⟨.ct, 0xb0100, 8, 9, 0, 0, 0xffffffffffffffc0, 0, 0, 0, 0, .per 1, .hif⟩
  | .hifEvtCfg => ⟨.ct, 0xb0180, 8, 9, 0, 0, 0xff1f01, 0, 0, 0, 0, .per 1, .hif⟩
  | .hifEvtPtr => ⟨.ct, 0xb0200, 8, 9, 0, 0x1ffff0001ffff, 0, 0, 0, 0, 0, .per 1, .pf⟩
  | .hifCensusBase => ⟨.ct, 0xb0280, 8, 8, 0, 0, 0xfffffffffffff000, 0, 0, 0, 0, .per 1, .hif⟩
  | .hifFnStat => ⟨.ct, 0xb0300, 8, 9, 0, 0x1f, 0, 0, 0xffffffffffff0000, 0, 0, .per 1, .pf⟩
  | .hifDmaErr => ⟨.ct, 0xb0400, 8, 1, 0, 0, 0, 0, 0xffffffffffffffff, 0, 0, .no, .pf⟩
  | .hifDmaLast => ⟨.ct, 0xb0408, 8, 1, 0, 0xfc0003fff, 0, 0x8000000000000000, 0, 0, 0, .no, .pf⟩
  | .bwrStatus => ⟨.sf, 0x10000, 8, 1, 0, 0xffc0ffffff00ffff, 0, 0, 0, 0, 0, .all, .pfBc8⟩
  | .bwrIntlk => ⟨.sf, 0x10008, 8, 1, 0, 0xffff, 0, 0, 0, 0, 0, .no, .pfBc8⟩
  | .bwrCmd => ⟨.sf, 0x10010, 8, 1, 0, 0, 0, 0, 0, 0xff070000ffff0000, 0, .no, .pfBc8⟩
  | .bwrResetStatus => ⟨.sf, 0x10018, 8, 1, 0, 0xff00ffffffffffff, 0, 0, 0, 0, 0, .no, .pfBc8⟩
  | .bwrLastTest => ⟨.sf, 0x10020, 8, 1, 0, 0xffffffffffff07e1, 0, 0, 0, 0, 0, .no, .pfBc8⟩
  | .bwrPort => ⟨.sf, 0x10100, 8, 32, 0, 0xfe000fffffffffff, 0, 0, 0, 0, 0, .ownPort, .pfBc8⟩
  | .bwrHStatus => ⟨.ed, 0x40000, 8, 1, 0, 0xc00000000000ffff, 0, 0, 0, 0, 0, .all, .pfBc8⟩
  | .secImgCtrl => ⟨.ct, 0xc0000, 8, 1, 0, 0, 0, 0, 0, 0x3, 0, .no, .pfBc8⟩
  | .secImgStatus => ⟨.ct, 0xc0008, 8, 1, 0, 0xf0ffffffff00ffff, 0, 0, 0, 0, 0, .no, .pfBc8⟩
  | .secStatus => ⟨.ct, 0xc0010, 8, 1, 0, 0xfc00ffffffffffff, 0, 0, 0, 0, 0, .all, .pfBc8⟩
  | .secKeyslot => ⟨.ct, 0xc0018, 8, 1, 0, 0xffffffff, 0, 0, 0, 0, 0, .no, .pfBc8⟩
  | .secEntropy => ⟨.ct, 0xc0020, 8, 1, 0, 0, 0, 0, 0xffffffff, 0, 0, .no, .pfBc8⟩
  | .secXts => ⟨.ct, 0xc0028, 8, 1, 0, 0xff, 0, 0, 0, 0, 0, .no, .pfBc8⟩
  | .pwrRstCtrl => ⟨.ct, 0xd0000, 8, 1, 0, 0, 0, 0, 0, 0xff0000000000ffff, 0, .no, .pfBc8⟩
  | .pwrRstStatus => ⟨.ct, 0xd0008, 8, 1, 0, 0xffffffffffffff00, 0, 0, 0, 0, 0, .all, .pfBc8⟩
  | .pwrRstTestCmd => ⟨.ct, 0xd0010, 8, 1, 0, 0, 0, 0, 0, 0xff0000000000007f, 0, .no, .pfBc8⟩
  | .pwrRstTestLast => ⟨.ct, 0xd0018, 8, 1, 0, 0xe0ffbfffffffffff, 0, 0, 0, 0, 0, .no, .pfBc8⟩
  | .pwrRstTestDies => ⟨.ct, 0xd0020, 8, 1, 0, 0xffffffffff, 0, 0, 0, 0, 0, .no, .pfBc8⟩
  | .pwrRstTestPorts => ⟨.ct, 0xd0028, 8, 1, 0, 0xffffffff, 0, 0, 0, 0, 0, .no, .pfBc8⟩
  | .pwrRstFailDies => ⟨.ct, 0xd0030, 8, 1, 0, 0xffffffffff, 0, 0, 0, 0, 0, .no, .pfBc8⟩
  | .hltEcc => ⟨.ct, 0xe0000, 8, 8, 0, 0xffff, 0, 0, 0xffffffff00000000, 0, 0, .no, .pfBc8⟩
  | .hltHbm => ⟨.ct, 0xe0040, 8, 12, 0, 0xff, 0, 0, 0xffffffffff00ff00, 0, 0, .no, .pfBc8⟩
  | .hltLoss => ⟨.ct, 0xe0100, 8, 1, 0, 0xffffffff00ffffff, 0, 0, 0, 0, 0, .no, .pfBc8⟩
  | .hltWear => ⟨.ct, 0xe0200, 8, 58, 0xffffffff, 0xffff0000ffffffff, 0, 0, 0, 0, 0, .no, .pfBc8⟩
  | .hltAcc => ⟨.ct, 0xe0400, 8, 15, 0, 0, 0, 0, 0, 0, 0xffffffffffffffff, .no, .pfBc8⟩
  | .hltInject => ⟨.ct, 0xe0600, 8, 1, 0, 0, 0xc01fffffffffffff, 0, 0, 0, 0, .no, .pf⟩
  | .logStatus => ⟨.ct, 0xf0000, 8, 1, 0, 0xff0001ffffff, 0, 0, 0xffff000000000000, 0, 0, .no, .pfBc8⟩
  | .sqlCtrl => ⟨.ct, 0x100000, 8, 1, 0, 0, 0xff7f, 0, 0, 0, 0, .no, .pf⟩
  | .sqlSeed => ⟨.ct, 0x100008, 8, 1, 0, 0, 0xffffffffffffffff, 0, 0, 0, 0, .no, .pf⟩
  | .sqlLink => ⟨.ct, 0x100010, 8, 1, 0, 0, 0xffffffffffffffff, 0, 0, 0, 0, .no, .pf⟩
  | .sqlPace => ⟨.ct, 0x100018, 8, 1, 0, 0, 0xffffff, 0, 0, 0, 0, .no, .pf⟩
  | .sqlStat => ⟨.ct, 0x100020, 8, 1, 0, 0, 0, 0, 0xffffffffffffffff, 0, 0, .no, .pf⟩
  | .pwrStatus => ⟨.ct, 0xd0100, 8, 1, 0, 0xe00000000000ffff, 0, 0, 0, 0, 0, .all, .pfBc8⟩
  | .pwrTrip => ⟨.ct, 0xd0108, 8, 1, 0, 0, 0, 0xffffffffff, 0, 0, 0, .no, .pfBc8⟩
  | .pwrVid => ⟨.ct, 0xd0110, 8, 4, 0x420042, 0xffff007f007f, 0, 0, 0, 0, 0, .no, .pfBc8⟩
  | .pwrPeak => ⟨.ct, 0xd0140, 8, 1, 0, 0, 0, 0, 0xffff, 0, 0, .no, .pfBc8⟩
  | .logEntry => ⟨.ct, 0x200000, 8, 32768, 0, 0xffffffffffffffff, 0, 0, 0, 0, 0, .all, .pfBc8⟩
  | .logPin => ⟨.ct, 0x240000, 8, 64, 0, 0xffffffffffffffff, 0, 0, 0, 0, 0, .all, .pfBc8⟩

/-- The CLK_ registers. -/
def Reg.blockClk : List Reg :=
  [.clkRefStatus, .clkLockStatus, .clkLockLost, .clkSetpointCd, .clkSetpointMd, .clkAppliedCd, .clkAppliedMd, .clkAlignStatus]

/-- The TID_ registers. -/
def Reg.blockTid : List Reg :=
  [.tidCtrl, .tidPeriod, .tidStatus, .tidNumber, .tidNow, .tidBayCfg, .tidBayStart, .tidBayOwnLo, .tidBayOwnHi, .tidRefPlan, .tidDl, .tidMiss, .tidMissCount, .tidExtStatus]

/-- The STL_ registers. -/
def Reg.blockStl : List Reg :=
  [.stlCtrl, .stlEntry, .stlFbEntry, .stlState, .stlKill, .stlSide, .stlValid, .stlPub, .stlCmt, .stlCmtMask]

/-- The BCN_ registers. -/
def Reg.blockBcn : List Reg :=
  [.bcnStatus, .bcnExc, .bcnCycles, .bcnHolds, .bcnStwEntry, .bcnStwCtrl]

/-- The GRN_ registers. -/
def Reg.blockGrn : List Reg :=
  [.grnStatus, .grnPool, .grnArena, .grnRsv, .grnHeld, .grnArenaHeld]

/-- The HAU_ registers. -/
def Reg.blockHau : List Reg :=
  [.hauStatus, .hauBytes]

/-- The TAL_ registers. -/
def Reg.blockTal : List Reg :=
  [.talValue, .talPark, .talDrop, .talErr]

/-- The MTX_ registers. -/
def Reg.blockMtx : List Reg :=
  [.mtxTileStatus, .mtxTileBusy, .mtxWl, .mtxLoose, .mtxErr]

/-- The VEC_ registers. -/
def Reg.blockVec : List Reg :=
  [.vecUnitStatus, .vecUnitBusy]

/-- The SFU_ registers. -/
def Reg.blockSfu : List Reg :=
  [.sfuStatus, .sfuBusy, .sfuEcc]

/-- The WIN_ registers. -/
def Reg.blockWin : List Reg :=
  [.winVerdict, .winLast, .winDrops, .winCensus]

/-- The THR_ registers. -/
def Reg.blockThr : List Reg :=
  [.thrRound, .thrErr]

/-- The FRY_ registers. -/
def Reg.blockFry : List Reg :=
  [.fryArrive, .fryReturn, .fryDrop, .fryErr]

/-- The GLN_ registers. -/
def Reg.blockGln : List Reg :=
  [.glnDone, .glnErr]

/-- The DKL_ registers. -/
def Reg.blockDkl : List Reg :=
  [.dklCfg, .dklState, .dklFarSerial, .dklFarId, .dklSession, .dklErr, .dklFec, .dklCtrl]

/-- The TOP_ registers. -/
def Reg.blockTop : List Reg :=
  [.topBoard, .topReady, .topEvent, .topMember, .topCable]

/-- The MED_ registers. -/
def Reg.blockMed : List Reg :=
  [.medRsStatus, .medRsBusy, .medEncStatus, .medEncBytes, .medEncCapped, .medErr]

/-- The HIF_ registers. -/
def Reg.blockHif : List Reg :=
  [.hifLink, .hifEvtBase, .hifEvtCfg, .hifEvtPtr, .hifCensusBase, .hifFnStat, .hifDmaErr, .hifDmaLast]

/-- The BWR_ registers. -/
def Reg.blockBwr : List Reg :=
  [.bwrStatus, .bwrIntlk, .bwrCmd, .bwrResetStatus, .bwrLastTest, .bwrPort, .bwrHStatus]

/-- The SEC_ registers. -/
def Reg.blockSec : List Reg :=
  [.secImgCtrl, .secImgStatus, .secStatus, .secKeyslot, .secEntropy, .secXts]

/-- The PWR_ registers. -/
def Reg.blockPwr : List Reg :=
  [.pwrRstCtrl, .pwrRstStatus, .pwrRstTestCmd, .pwrRstTestLast, .pwrRstTestDies, .pwrRstTestPorts, .pwrRstFailDies, .pwrStatus, .pwrTrip, .pwrVid, .pwrPeak]

/-- The HLT_ registers. -/
def Reg.blockHlt : List Reg :=
  [.hltEcc, .hltHbm, .hltLoss, .hltWear, .hltAcc, .hltInject]

/-- The LOG_ registers. -/
def Reg.blockLog : List Reg :=
  [.logStatus, .logEntry, .logPin]

/-- The SQL_ registers. -/
def Reg.blockSql : List Reg :=
  [.sqlCtrl, .sqlSeed, .sqlLink, .sqlPace, .sqlStat]

/-- Every register name, in the order of the chapters. -/
def Reg.all : List Reg :=
  Reg.blockClk ++ Reg.blockTid ++ Reg.blockStl ++ Reg.blockBcn ++ Reg.blockGrn ++ Reg.blockHau ++ Reg.blockTal ++ Reg.blockMtx ++ Reg.blockVec ++ Reg.blockSfu ++ Reg.blockWin ++ Reg.blockThr ++ Reg.blockFry ++ Reg.blockGln ++ Reg.blockDkl ++ Reg.blockTop ++ Reg.blockMed ++ Reg.blockHif ++ Reg.blockBwr ++ Reg.blockSec ++ Reg.blockPwr ++ Reg.blockHlt ++ Reg.blockLog ++ Reg.blockSql

/-- The offset of a register of window number d and index i from the start of the register region (R8, R24). -/
def Reg.addr (r : Reg) (d i : Nat) : Nat :=
  (r.info.win.dies.1 + d) * 0x1000000 + r.info.base + r.info.stride * i

/-- The register at an offset of a window class, with its index. -/
def Reg.atOffset (w : Win) (off : Nat) : Option (Reg × Nat) :=
  Reg.all.findSome? fun r =>
    let f := r.info
    if f.win = w ∧ f.base ≤ off ∧ (off - f.base) % f.stride = 0 ∧ (off - f.base) / f.stride < f.count
    then some (r, (off - f.base) / f.stride) else none

/-- The window class and die number of a window index (Table 1.1); HBM stack and Loft windows hold no register that
the manual describes. -/
def winOf (ix : Nat) : Option (Win × Nat) :=
  if ix < 16 then some (.cd, ix)
  else if ix < 28 then none
  else if ix < 32 then some (.ed, ix - 28)
  else if ix < 34 then some (.dd, ix - 32)
  else if ix < 36 then none
  else if ix < 38 then some (.md, ix - 36)
  else if ix = 38 then some (.ct, 0)
  else if ix = 39 then some (.sf, 0)
  else none

/-- The register, die number and index at an offset of the register region (R8, R24). -/
def Reg.decode (off : Nat) : Option (Reg × Nat × Nat) :=
  match winOf (off / 0x1000000) with
  | none => none
  | some (w, d) => (Reg.atOffset w (off % 0x1000000)).map fun p => (p.1, d, p.2)

end Sys2Proof.Machine
end

