-- ==== Sys2Proof/Machine/State.lean ====
section
/-! DEFINITION. The state of the block as plain data, and the state after power-on. A register of the manual stands in
`regs`, except where it shows a quantity that the state holds in a field of its own; `Machine/Views.lean` computes those.
A step context is numbered c = 2 × stall + (0 primary, 1 urgent) for the stalls and 16 for BC8. -/

namespace Sys2Proof.Machine

/-! ### Outputs, and the log -/

/-- What leaves the package. The list of what has left is the model's own field: it lets a statement name an output. -/
inductive Out where
  /-- The data of a register read (R620). -/
  | readData (q : Requester) (v : Word)
  /-- A posted memory write of function fn: an event record, a census buffer or data (R625, R636). -/
  | hostWrite (fn addr : Nat) (bytes : List Byte)
  /-- A memory read request of function fn (R636). -/
  | hostRead (fn tag addr len : Nat)
  /-- An MSI-X message (R626). -/
  | msix (fn vec : Nat)
  /-- An error message through AER (R648). -/
  | aer (fn tag : Nat)
  /-- A flit on a Deckarok port. -/
  | flit (p : Nat) (bytes : List Byte)
  /-- A change of a package pin, by its name. -/
  | pin (name : String) (v : Bool)
  /-- A management or SPDM message on I3C (R644). -/
  | mgmt (code : Nat) (bytes : List Byte)
  deriving DecidableEq, Repr

/-- A Strandline entry (Table 20.4); its CRC is computed when it is read (R781). -/
structure LogEntry where
  tide : Nat
  since : Nat
  step : Nat
  attempt : Nat
  ctx : Nat
  stall : Option Nat
  cls : Nat
  source : Nat
  code : Nat
  seq : Nat
  data0 : Nat
  data1 : Nat
  deriving DecidableEq, Repr

/-- The Strandline log (R777-R781) and the counters of its limits. -/
structure Log where
  /-- The circle, newest first, at most 8,192 entries. -/
  entries : List LogEntry
  /-- The pin area, newest first, at most 16 entries. -/
  pins : List LogEntry
  /-- Entries written since power-on (SEQ of the next entry, wrapping at 24 bits), and pinned entries written. -/
  seq : Nat
  pinCount : Nat
  /-- Class-2 entries of each requester in this tide (R779): 0-8 the functions, 16-23 the stalls, 32 BC8. -/
  access : Tab Nat
  /-- The units whose first correction of this tide is logged (R766). -/
  units : List Nat
  deriving DecidableEq, Repr

/-! ### Clocks and the tide -/

/-- The clock monitor, the reference inputs and the ramp after a fold reset (R49-R56). -/
structure Clock where
  /-- REFCLK, LNKCLK and SAFECLK are declared lost or out of tolerance. -/
  refBad : Bool
  lnkBad : Bool
  safeBad : Bool
  /-- Since when REFCLK has been in tolerance without a break (R56). -/
  refGoodFrom : Nat
  /-- Domain 57 and domain 58 have stopped. -/
  monStopped : Bool
  telStopped : Bool
  /-- The multipliers sampled at the sampling point, or under R744 (R45, R67). -/
  sampledCd : Word
  sampledMd : Word
  /-- A clock event of this tick cancels its multiplier change (R52). -/
  cancel : Bool
  /-- Channel faults that Breakwater has been told of and has not taken up: bit 0 P, bits 1-4 H of ED0-ED3. -/
  told : Nat
  /-- The ramp of R52 runs; its last stage's moment. -/
  ramp : Bool
  rampAt : Nat
  deriving DecidableEq, Repr

/-- The tide timer (chapter 2). Moments are in picoseconds. -/
structure Tide where
  /-- The timer runs (R60, R98). -/
  running : Bool
  /-- The tick at which P took effect, and the ticks since (R58). -/
  t0 : Nat
  k : Nat
  /-- The last tick, and the present tide's expected closing tick (R63, R66). -/
  tick : Nat
  expected : Nat
  /-- The sampling point of this tide has passed. -/
  sampled : Bool
  /-- The values sampled for the coming tick (R67): TID_CTRL, TID_PERIOD, TID_BAY_CFG, TID_REF_PLAN, the bay starts,
  the owner codes (low and high of each bay) and the deadline values. -/
  sCtrl : Word
  sPeriod : Word
  sBayCfg : Word
  sRef : Word
  sStarts : List Word
  sOwn : List Word
  sDl : List Word
  /-- The values in force: bay starts, owner codes, deadlines, refresh plan, number of bays. -/
  starts : List Word
  own : List Word
  dl : List Word
  refPlan : Word
  bays : Nat
  bay : Nat
  /-- External mode: an accepted edge's tick, consecutive flywheel ticks, capture and the captured phase (R62, R94). -/
  edgeTick : Option Nat
  flyRun : Nat
  capture : Bool
  captured : Option Nat
  /-- The present tide ends at `expected` without an edge: the realignment tide of R94. -/
  realign : Bool
  /-- TIDE_OUT is high since this moment (R65). -/
  outSince : Option Nat
  /-- The hot band applies to this tide; a stack reported above HOT_C in this span (R88). -/
  hot : Bool
  hotSeen : Bool
  /-- Refresh slots issued in this tide, and the bank blackouts in progress: bank and end (R86, R87). -/
  slots : Nat
  blackouts : List (Nat × Nat)
  /-- The clearing of this fence has been done (R133). -/
  cleared : Bool
  /-- The check of T - 1,000 ns has been done, and the domains it holds back (R823). -/
  checked : Bool
  heldDomains : List Nat
  deriving DecidableEq, Repr

/-! ### The Barnplan -/

/-- A SHARES extent (Table 3.7). The owner is 0-7 a stall, 8 the steward. -/
structure Extent where
  base : Nat
  size : Nat
  owner : Nat
  deriving DecidableEq, Repr

/-- What the image in force fills that no register holds (Tables 3.5-3.9, R118). -/
structure Plan where
  fallowDies : Nat
  fallowPorts : Nat
  globalChip : Nat
  /-- Bits 3:0 chip on board, 5:4 board size, 6 grade (Table 3.1). -/
  target : Nat
  extents : List Extent
  cdOwner : Word
  encOwner : Nat
  rsOwner : Nat
  /-- VERDICT_WINDOW and SEED of each stall. -/
  windows : List Nat
  seeds : List Nat
  /-- NUMERIC entries: FP8_SAT, LOOSE_ACC, SFU_SET bits of each stall. -/
  numeric : List Nat
  /-- SFU_PROGRAMS: the bytes of each stall. -/
  sfu : List (List Byte)
  /-- SAFETY and SECURITY sections, as they stand in the image. -/
  safety : List Byte
  security : List Byte
  deriving DecidableEq, Repr

/-- The image stores and the progress of an image (chapter 3). -/
structure Images where
  /-- The staging store's written bytes (R100, R622). -/
  staging : Tab Byte
  /-- The active store: the bytes of the image in force (signature block included). -/
  active : List Byte
  /-- An image is in force; it is sealed (R124-R126); the digest taken at acceptance (R127). -/
  inForce : Bool
  isSealed : Bool
  digest : List Byte
  /-- A check runs, from this moment. -/
  checking : Option Nat
  /-- An accepted partial image waits for its tick; a full image waits for its fold reset (R128, R134). -/
  pending : Option (List Byte)
  waiting : Option (List Byte)
  /-- The tide at whose opening tick the pending image applies (0: the first possible). -/
  applyTide : Nat
  /-- The stalls that the pending partial image changes (R130). -/
  changes : Nat
  /-- The pending image was sampled at this tide's sampling point. -/
  applying : Bool
  /-- The registers written in this tide, by address, with the requester of the last write (R138). -/
  writtenNow : Tab Nat
  /-- The sections in force, by type: those of the image that the active one amends stand where it holds none. -/
  sections : Tab (List Byte)
  deriving DecidableEq, Repr

/-! ### Steps, contexts and Beacons -/

/-- What a step context does (Table of STL_STATE). -/
inductive CtxSt where
  | idle
  | running
  /-- Killed or ended, its kill not complete (R162). -/
  | killing
  /-- Between attempts: the next one is scheduled. -/
  | between
  /-- Suspended by an urgent step (R164). -/
  | suspended
  /-- Held by a kill notice with NEXT 3 (R523). -/
  | held
  deriving DecidableEq, Repr

/-- A step request (Table 16.5). -/
structure StepReq where
  urgent : Bool
  echo : Bool
  step : Nat
  tag : Nat
  arg : Word
  deriving DecidableEq, Repr

/-- A scheduled attempt: its moment, its variant (0 primary, 1 fall-back), its number, and whether the deadline monitor
treats it as a first attempt (R182). -/
structure NextAttempt where
  at_ : Nat
  fallback : Bool
  number : Nat
  first : Bool
  /-- Send a NEXT 2 notice when it starts (R164). -/
  notice : Bool
  /-- The deadline monitor starts it (TID_MISS.FALLBACK). -/
  monitor : Bool
  deriving DecidableEq, Repr

/-- A loop counter LC0-LC7 (Table 5.1), with the first word of its body. -/
structure LoopCtr where
  index : Nat
  trip : Nat
  bound : Nat
  endw : Nat
  start : Nat
  /-- The loop was opened inactive or inside a predicated-off iteration (R210). -/
  off : Bool
  deriving DecidableEq, Repr

/-- A result that a register receives later: an LD or a multiply (R193, Table 5.10); `write` false for the LD of an
inactive Neap field, which holds its destination and writes nothing (R211). -/
structure PendReg where
  reg : Nat
  val : Word
  at_ : Nat
  write : Bool
  deriving DecidableEq, Repr

/-- A store that has issued and not landed. -/
structure PendSt where
  addr : Nat
  val : Word
  at_ : Nat
  /-- When it crosses out of the Beacon's domain (R162). -/
  cross : Nat
  deriving DecidableEq, Repr

/-- A FETCH in progress: destination indexes and source. -/
structure PendFetch where
  dst : Nat
  count : Nat
  addr : Nat
  at_ : Nat
  deriving DecidableEq, Repr

/-- A long word in its issue cycle: what its fields read (R192) and the fields already carried out. Fields are numbered
0 CONTROL, 1 SCALAR_A, 2 SCALAR_B, 3-6 SLOT0-SLOT3 (BCN_EXC.FIELD). -/
structure Issue where
  at_ : Nat
  sc : Tab Word
  pd : BitVec 16
  lcs : Tab LoopCtr
  loops : List Nat
  done : List Nat
  deriving DecidableEq, Repr

/-- The Beacon state of a context (Table 5.1). -/
structure Bcn where
  sc : Tab Word
  pd : BitVec 16
  lcs : Tab LoopCtr
  /-- The counters of the open loops, innermost first. -/
  loops : List Nat
  ret : List Nat
  pc : Nat
  words : Tab LongWord
  /-- The earliest moment of the next issue (Table 5.10). -/
  ready : Nat
  iss : Option Issue
  lds : List PendReg
  muls : List PendReg
  sts : List PendSt
  fetches : List PendFetch
  /-- The hold of the present word, coded as BCN_STATUS.HOLD, and since when. -/
  hold : Nat
  holdAt : Nat
  deriving DecidableEq, Repr

/-- A transfer to the host or a NOTIFY that waits for its commit point (R160, R640). -/
structure Held where
  /-- The PCIe function whose requester ID it carries. -/
  fn : Nat
  /-- The step's request, and the attempt and variant that posted it. -/
  req : StepReq
  attempt : Nat
  variant : Nat
  /-- The command that posted it. -/
  cmd : Nat
  /-- The source span in HBM and the host address; a NOTIFY has length 0 and its 8 bytes in `note`. -/
  src : Nat
  len : Nat
  dst : Nat
  note : Option Word
  deriving DecidableEq, Repr

/-- A census command in progress (R395-R408). -/
structure CensusRun where
  cmd : Nat
  desc : List Byte
  start : Nat
  /-- The local censuses present, by chip on board. -/
  got : Tab (List Byte)
  /-- When the group census became complete, its T, this chip's CENSUS_SEQ, and whether the host census is written. -/
  complete : Option Nat
  total : Nat
  seq : Nat
  written : Bool
  /-- The forwarded verdict that waits for completeness (R406). -/
  fwd : Option (List Byte)
  deriving DecidableEq, Repr

/-- The round of a context's EXCHANGE commands (R441-R444): its plan, its filled receive rows with their tags (65,536 ×
local expert + row), and the local experts settled. -/
structure Exch where
  round : Nat
  plan : List Byte
  rows : Tab Nat
  settled : List Nat
  deriving DecidableEq, Repr

/-- A running EXCHANGE (dir 0) or RETURN (dir 1) with the chips it has sent to. -/
structure DispWait where
  cmd : Nat
  dir : Nat
  round : Nat
  dests : List Nat
  deriving DecidableEq, Repr

/-- The dispatch of an attempt (chapter 11). The counts of records are keyed 16 × (256 × DIR + ROUND) + chip. -/
structure Disp where
  /-- Census commands of the attempt that have completed (R425). -/
  censuses : Nat
  /-- The last SCATTER's round and plan; PENDING slots written and filled in that round. -/
  scat : Option (Nat × List Byte)
  pendW : Nat
  pendF : Nat
  exch : Option Exch
  waits : List DispWait
  /-- Records sent to a chip and reported placed by it; records of a chip landed here, as last reported, and the moment of
  the last landing (R524). -/
  sent : Tab Nat
  placed : Tab Nat
  landed : Tab Nat
  told : Tab Nat
  landAt : Tab Nat
  deriving DecidableEq, Repr

/-- A step context. -/
structure Ctx where
  st : CtxSt
  req : StepReq
  attempt : Nat
  /-- The number of this attempt among all attempts since power-on; 0 before the first. -/
  uid : Nat
  variant : Nat
  /-- The start of the attempt and, for R79, the start S that counts. -/
  startT : Nat
  s0 : Nat
  /-- R79 applies to this attempt. -/
  first : Bool
  /-- The verdict ordered fall-back, from this moment (R171, R222). -/
  verdictFb : Option Nat
  killT : Nat
  /-- The cause the step has ended with, where it has ended and its kill is not complete. -/
  cause : Option Nat
  next : Option NextAttempt
  /-- What the context becomes when its kill completes and the step goes on: between, suspended or held. -/
  after : CtxSt
  committed : Bool
  commitT : Nat
  staged : List Nat
  held : List Held
  /-- A step ran in this context in this tide; the last step number (R291). -/
  ranThisTide : Bool
  lastStep : Nat
  /-- The other chips of the step's expert-parallel group, once a command has named them (R166). -/
  group : List Nat
  bcn : Bcn
  cen : Option CensusRun
  disp : Disp
  deriving DecidableEq, Repr

/-- A side of a publication slot, and the slot (section "Staging and commit"). -/
structure PubSlot where
  h0 : Nat
  h1 : Nat
  /-- The stored complements of the two handles and of SIDE. -/
  c0 : Nat
  c1 : Nat
  side : Bool
  sideC : Bool
  invalid : Bool
  /-- A key/value slot: both sides hold one table (R257). -/
  kv : Bool
  /-- The buffer of side 0 or 1 is a stream table (R594). -/
  st0 : Bool
  st1 : Bool
  deriving DecidableEq, Repr

/-- A commit-table entry: its two words and their complements (Table of STL_CMT). -/
structure CmtEntry where
  w : Word
  mask : Word
  wc : Word
  maskc : Word
  deriving DecidableEq, Repr

/-- A committed step whose held transfers have not all completed (R160, R174). -/
structure Drain where
  req : StepReq
  attempt : Nat
  variant : Nat
  held : List Held
  /-- The writes of the transfers that have not left. -/
  left : Nat
  deriving DecidableEq, Repr

/-- What a stall holds beside its contexts. -/
structure Stall where
  queue : List StepReq
  urgentReq : Option StepReq
  stepsThisTide : Nat
  /-- Overruns since cold reset, for the management sensor (Table 20.7). -/
  overruns : Nat
  /-- Committed steps whose transfers drain, in commit order. -/
  drains : List Drain
  /-- Cycles below a unit of 16 that BCN_HOLDS has not counted yet, by the code of the hold. -/
  holdRest : Tab Nat
  deriving DecidableEq, Repr

/-! ### Engine commands -/

/-- The progress of an engine command. -/
inductive CmdSt where
  | queued
  | running
  /-- Its transfer or notification is held until the commit point (R160, R640). -/
  | held
  | finished
  deriving DecidableEq, Repr

/-- A command posted to an engine (R204): its context and attempt, its engine, its descriptor, its signal. -/
structure Cmd where
  id : Nat
  c : Nat
  uid : Nat
  cls : Nat
  inst : Nat
  addr : Nat
  len : Nat
  /-- A null command (R211). -/
  null : Bool
  /-- The SIG_OP 1 signal: tally and amount; amount 0 for none. -/
  sigTal : Nat
  sigAdd : Nat
  /-- When the post reaches its queue (Table 5.10). -/
  arrive : Nat
  st : CmdSt
  /-- The earliest completion, where the manual fixes it. -/
  doneAt : Nat
  /-- The work that remains before the command completes: pieces, units or answers outstanding. -/
  left : Nat
  /-- The descriptor as it was read when an engine took the command. -/
  desc : List Byte
  /-- A command in pieces: the row counts read at its start (R314), the next piece to hand out, and how many there are. -/
  rows : List Nat
  next : Nat
  total : Nat
  /-- R476 lists its completion among those of no fixed time. -/
  unfixed : Bool
  deriving DecidableEq, Repr

/-- A piece of a work-list command that a tile or vector unit has been dealt or has claimed (R318, R322): when it is there,
and whether it is the unit's first of that command. -/
structure Piece where
  cmd : Nat
  c : Nat
  uid : Nat
  cls : Nat
  unit : Nat
  piece : Nat
  at_ : Nat
  first : Bool
  deriving DecidableEq, Repr

/-- A reduction accumulator RA0-RA3 (R330, R335): the lane values of the present sheaf, the sheaf partials, the best value
with its column, and the code of the reduction it has served (0 none, 0x0E-0x10, 0xFF mixed). -/
structure RAcc where
  kind : Nat
  lanes : List Nat
  partials : List Nat
  best : Option (Nat × Nat)
  deriving DecidableEq, Repr

/-- The registers of a vector unit (R330): VR0-VR31 of 64 lanes, RA0-RA3. -/
structure VUnit where
  vr : Tab (List Nat)
  ra : Tab RAcc
  deriving DecidableEq, Repr

/-- A loose sheaf partial that has left its tile and has not been added (R327): its values row by row, each with the
address it is added to. -/
structure LooseAdd where
  cmd : Nat
  c : Nat
  uid : Nat
  trk : Nat
  block : Nat
  sheaf : Nat
  unit : Nat
  adds : List (Nat × List Nat)
  deriving DecidableEq, Repr

/-- What a loose tracker records of a destination block (R329): the sheaves added, and the cycle and unit of the last
add. -/
structure Tracker where
  done : List Nat
  cyc : Nat
  unit : Nat
  deriving DecidableEq, Repr

/-- Tiles and vector units (chapter 8). -/
structure Tiles where
  pieces : List Piece
  /-- Dealing positions D, by 2 × stall + (0 matrix, 1 vector) (R318). -/
  deal : Tab Nat
  /-- A unit is busy until this moment, by 128 × (0 matrix, 1 vector) + unit (R319). -/
  busy : Tab Nat
  /-- The cycle of the last claim granted and the unit served, by the key of `deal` (R322). -/
  claims : Tab (Nat × Nat)
  /-- The grants that a free unit has seen go to others since its claim, by 128 × the key of `deal` + unit; kept while the
  Squall WORKLIST control picks at random (R322, R789). -/
  waits : Tab Nat
  loose : List LooseAdd
  /-- Loose trackers, by (16 × stall + tracker) × 2^64 + the address of the destination block. -/
  trackers : Tab Tracker
  units : Tab VUnit
  /-- The last piece of each unit, by the key of `busy`: SOURCE, STEP and NULL of its status register. -/
  last : Tab (Nat × Nat × Bool)
  deriving DecidableEq, Repr

/-- A SIG_OP 2 signal that has issued and not applied. -/
structure PendSig where
  id : Nat
  c : Nat
  uid : Nat
  tal : Nat
  add : Nat
  at_ : Nat
  deriving DecidableEq, Repr

/-- A tally: its value and complement, and what the present domain-48 cycle has done to it (R283). -/
structure Tally where
  value : Nat
  comp : Nat
  cyc : Nat
  before : Nat
  adds : Nat
  wasReset : Bool
  /-- Earlier values still seen by waits: the cycle of the change and the value before it. -/
  hist : List (Nat × Nat)
  deriving DecidableEq, Repr

/-- A parked remote add (R292). -/
structure Parked where
  step : Nat
  attempt : Nat
  index : Nat
  amount : Nat
  deriving DecidableEq, Repr

/-- The park of a context, and its LOST steps (R293). -/
structure Park where
  adds : List Parked
  lost : List Nat
  deriving DecidableEq, Repr

/-! ### The Granary -/

/-- A buffer or page: its allocated bit, generation and holder, and the complement of the generation (R246). -/
structure Buf where
  alloc : Bool
  gen : Nat
  genC : Nat
  /-- The requester whose reserve it is charged to. -/
  req : Nat
  /-- The context and the attempt that hold it; attempt 0 where a table holds it. -/
  c : Nat
  uid : Nat
  deriving DecidableEq, Repr

/-- A Granary request that waits for its stall's rotation slots (R251). -/
structure GrReq where
  cmd : Nat
  c : Nat
  uid : Nat
  /-- The requester number that orders it. -/
  order : Nat
  op : Nat
  cls : Nat
  slot : Nat
  count : Nat
  handle : Nat
  result : Nat
  header : List Byte
  null : Bool
  /-- Slots served, and the handles already obtained. -/
  served : Nat
  got : List Nat
  deriving DecidableEq, Repr

/-- A result record to be written (R251). -/
structure GrWrite where
  cmd : Nat
  uid : Nat
  addr : Nat
  bytes : List Byte
  at_ : Nat
  deriving DecidableEq, Repr

/-! ### The host interface -/

/-- A host read outstanding (R636, R639, R648). -/
structure HostRd where
  fn : Nat
  tag : Nat
  c : Nat
  uid : Nat
  cmd : Nat
  /-- Where the data lands. -/
  dst : Nat
  len : Nat
  /-- The attempt has ended (R649). -/
  orphan : Bool
  /-- The timeout was reported at this moment: the tag stays out of use (R648). -/
  timedOut : Option Nat
  /-- The data has arrived and its landing is delayed by the Squall HOST control (R789): due and bytes. -/
  delayed : Option (Nat × List Byte)
  deriving DecidableEq, Repr

/-- An event that waits for the ring (its bytes but PHASE) or a posted write that waits for credit. -/
structure HostTlp where
  fn : Nat
  addr : Nat
  bytes : List Byte
  /-- Ahead of data (R629). -/
  urgent : Bool
  /-- The MSI-X vector to send after it; `isMsix` where this write is that message itself. -/
  vec : Option Nat
  isMsix : Bool
  /-- The drain it belongs to: stall and step; and the host census it posts: 32 × CENSUS_SEQ + context. -/
  drain : Option (Nat × Nat)
  census : Option Nat
  deriving DecidableEq, Repr

/-- What the endpoint keeps for each function. -/
structure Fn where
  bme : Bool
  /-- Events dropped since the last OVERFLOW event (R624). -/
  dropped : Nat
  /-- Masked vectors, vectors with an unsignalled event, and each vector's last message. -/
  masked : List Nat
  unsignalled : List Nat
  sentAt : Tab Nat
  /-- VERDICT_BUF (Table 16.3). -/
  verdictBuf : List Byte
  deriving DecidableEq, Repr

/-- The PCIe endpoint (chapter 16). -/
structure HostIf where
  fns : Tab Fn
  reads : List HostRd
  /-- Posted writes in the order they leave, and the posted credits left (R629). -/
  queue : List HostTlp
  credits : Nat
  /-- The function whose data TLP left last (R637). -/
  rot : Nat
  /-- PERST_N is low, the link is up, and its trained SPEED, WIDTH and FLIT. -/
  perst : Bool
  up : Bool
  trained : Nat
  /-- Host censuses whose post has completed, by the same key, with the moment (R633). -/
  posted : List (Nat × Nat)
  deriving DecidableEq, Repr

/-! ### Resets and power -/

/-- What ends the steps of a fold reset (R746). -/
inductive FoldCause where
  | chipLoss
  | hostReset
  | requested
  deriving DecidableEq, Repr

/-- A step that a chip loss ended and that R174 reports: context, request, attempt, variant. -/
structure LostStep where
  c : Nat
  req : StepReq
  attempt : Nat
  variant : Nat
  deriving DecidableEq, Repr

/-- Resets, self-tests of fallow targets, and supplies (chapters 19 and 22). -/
structure Power where
  /-- PKG_PWROK is high; the package is in power-on reset (R737); a supply-order breach holds it there (R738). -/
  pwrok : Bool
  inReset : Bool
  seqFault : Bool
  /-- C0 of the last cold reset; whether a cold reset is due at C0, and its cause (COLD_CAUSE). -/
  c0 : Nat
  coldDue : Bool
  coldCause : Nat
  /-- The fold reset in progress: its trigger's moment and cause, and whether its logic reset has run. -/
  fold : Option (Nat × FoldCause)
  foldRun : Bool
  /-- At the trigger, what the waiting full image re-admits held valid passes (R763). -/
  foldPass : Bool
  /-- A check marked Halted failed during the fold reset: its row of Table 19.6 (R795). -/
  badCheck : Option Nat
  /-- A check marked Halted failed, or Held (Table 19.6): no image is in force. -/
  lost : List LostStep
  /-- Alignment: attempts of this reset, ALIGN driven at, passed (R482, R483). -/
  alignTries : Nat
  alignAt : Option Nat
  aligned : Bool
  /-- The seal or FOLD_DONE that the first tick waits for, and the ramp's end (R744). -/
  readyAt : Option Nat
  rampEnd : Nat
  /-- The test of a fallow target in progress: KIND, INDEX, start; valid passes and when they were obtained. -/
  test : Option (Bool × Nat × Nat)
  passes : List (Bool × Nat × Nat)
  /-- A thermal trip holds the fold reset until every die is below 95 °C (R827). -/
  tripWait : Bool
  thermtrip : Bool
  /-- The fuse words failed their complement check: the part behaves as RETIRED (R737). -/
  fuseBad : Bool
  /-- Compute dies whose power gate is closed (powered), and the end of each quadrant's last gate ramp (R837). -/
  gated : List Nat
  gateRamps : Tab Nat
  /-- The VID codes at the last sampling point, before any rise that it began (R836). -/
  vidWas : List Nat
  deriving DecidableEq, Repr



/-- A kill notice to be sent (R166, R523): one per step and context. -/
structure Notice where
  c : Nat
  step : Nat
  attempt : Nat
  next : Nat
  cause : Nat
  /-- The chips of the group it still has to reach. -/
  chips : List Nat
  deriving DecidableEq, Repr

/-! ### Deckarok ports (chapter 13) -/

/-- A unit that waits on a virtual channel of a port (R517): the bytes that no flit has carried yet, whether a flit has
carried some, whether it is a SAFETY message (R521) or an answer to a READ_REQ (R529), its context and attempt, and the
command that one acknowledged unit brings on (R526); 0 for none. -/
structure TxUnit where
  bytes : List Byte
  started : Bool
  safety : Bool
  reply : Bool
  c : Nat
  uid : Nat
  cmd : Nat
  deriving DecidableEq, Repr

/-- A DATA flit of the replay buffer as it was first sent (R510): extended number, channel, FILL, CRYPT, KEY_PHASE, the
240 payload bytes, the attempts whose units it carries, and the commands whose last byte it carries. -/
structure TxFlit where
  ext : Nat
  vc : Nat
  fill : Nat
  crypt : Bool
  phase : Nat
  payload : List Byte
  owners : List (Nat × Nat)
  cmds : List Nat
  deriving DecidableEq, Repr

/-- A received unit with its place in the channel's byte stream; `due` where LINK_DELAY holds it (R788). -/
structure RxUnit where
  bytes : List Byte
  from_ : Nat
  due : Option Nat
  deriving DecidableEq, Repr

/-- The sending side of a channel: waiting units, first transmissions, the last CREDIT_SUM, the far end's advertised
credit (R518-R520). -/
structure TxChan where
  units : List TxUnit
  count : Nat
  sum : Nat
  adv : Nat
  deriving DecidableEq, Repr

/-- The receiving side of a channel: the bytes of the unit not yet whole and where it starts, the whole units in order,
the bytes received, the spans of the flits that hold a credit, the credits freed, and the moments at which a CREDIT_HOLD
lets late ones be reported (R519, R788). -/
structure RxChan where
  part : List Byte
  partFrom : Nat
  units : List RxUnit
  got : Nat
  flits : List (Nat × Nat)
  freed : Nat
  late : List Nat
  deriving DecidableEq, Repr

/-- A Deckarok port: local port p div 4 of edge die p mod 4 (R27). -/
structure Port where
  /-- STATE and CAUSE (Table 13.2, DKL_STATE), the state to go back to, and since when the state holds. -/
  st : Nat
  cause : Nat
  back : Nat
  since : Nat
  /-- Training: when the receivers adapted, whether they have qualified, RX_OK of both ends, the last record heard, and
  the failed attempts in succession (R501, R502, R531). -/
  adapted : Option Nat
  qualified : Bool
  rxOk : Bool
  farOk : Bool
  heard : List Byte
  tries : Nat
  /-- Whether RETRAIN led here, and when that retrain began (R538, R539, R550). -/
  retrain : Bool
  retrainAt : Nat
  /-- SESSION and NONCE of this end, and the far record that the session has recorded (R503, R532, R534). -/
  session : Nat
  nonce : List Byte
  far : List Byte
  /-- The next extended number, the oldest unacknowledged one, the replay buffer, and the number a replay sends next. -/
  txExt : Nat
  oldest : Nat
  replayBuf : List TxFlit
  replayAt : Option Nat
  /-- The acknowledgement timer: its expiry where it runs, and what remained where it is paused (R513). -/
  ackDue : Option Nat
  ackRest : Nat
  /-- First SEQ and moment of the last replay (R549); consecutive replays and retrains (R514, R539). -/
  lastReplay : Option (Nat × Nat)
  consReplay : Nat
  consRetrain : Nat
  tx : Tab TxChan
  rx : Tab RxChan
  /-- The rotation of VC2 and VC3 (R521), and the channel of the next CREDIT_SUM (R519). -/
  rot : Nat
  creditVc : Nat
  /-- A NAK is due; one has been sent since the last accepted flit (R512). -/
  nak : Bool
  nakSent : Bool
  /-- The next extended number this end accepts (E is its low 12 bits). -/
  rxExt : Nat
  /-- READ_REQ units accepted and not answered, and own requests outstanding on this port: COPY_ID, reply address, LENGTH
  and the bytes still to land (R529). -/
  reads : List (List Byte)
  asked : List (Nat × Nat × Nat × Nat)
  /-- Own requests that wait for one of the 64 places (R529). -/
  readQ : List TxUnit
  /-- Tag failures of this tide (R537). -/
  authFails : Nat
  /-- Since when the receiver sees light without a break, and when it was lost. -/
  light : Option Nat
  losAt : Nat
  /-- The last flit that passed R508 (R538). -/
  goodAt : Nat
  deriving DecidableEq, Repr

/-! ### Breakwater (chapter 17) -/

/-- What Breakwater keeps for a port. Levels are coded as BWR_PORT.LEVEL. -/
structure BwPort where
  level : Nat
  /-- The level before a brake test. -/
  was : Nat
  /-- HELD_BY. -/
  held : Nat
  /-- Both cut-off paths have passed since the last reset of any kind; when the last test passed (R664, R671). -/
  tested : Bool
  passed : Option Nat
  /-- The test in progress: T0, and whether path H has been checked. -/
  test : Option (Nat × Bool)
  /-- The end of a SHUTDOWN hold. -/
  holdTill : Option Nat
  /-- The last timely PERMIT, or the entry to ACTIVE (R679); when the next PERMIT is due (R676). -/
  permitAt : Nat
  permitDue : Nat
  /-- SEQ of the next message, the messages sent lately with their moments, the last SEQ accepted, and the moments of the
  last rejections (R678). -/
  seq : Nat
  sent : List (Nat × Nat)
  acc : Option Nat
  rejects : List Nat
  deriving DecidableEq, Repr

/-- Breakwater. -/
structure Bw where
  ports : Tab BwPort
  /-- Since when contact P and contact H of each receptacle read closed: key 2e, 2e + 1 (R669). -/
  closed : Tab Nat
  /-- Consecutive periods with a wrong pulse, by the same key (R670). -/
  wrong : Tab Nat
  /-- The edge die and port of a disagreement whose self-tests run (R661). -/
  disagree : Option Nat
  /-- The first entry to degraded mode since the last reset of scope 0, whether the warning has been given, and whether the
  limit has been reached (R682). -/
  degradedAt : Option Nat
  warned : Bool
  expired : Bool
  /-- A lock-out cause decided at this moment, whose entry has not reached +16 µs (Table 17.7). -/
  entry : Option (Nat × Nat)
  /-- The moment of an ARM, and a confirmed reset whose self-test runs: its scope. -/
  armAt : Option Nat
  /-- The moment of the last ARM that was accepted, for ARM_AGE_MS. -/
  lastArm : Option Nat
  confirm : Option Nat
  /-- SF is powered. -/
  sfOn : Bool
  /-- The moment of the last brake test start of each edge die. -/
  testAt : Tab Nat
  deriving DecidableEq, Repr

/-! ### Fuses (chapters 18 and 19) -/

/-- What the part's fuses and one-time arrays hold. -/
structure Fuses where
  serial : Nat
  /-- The board's straps, sampled when PKG_PWROK rises (R830): bits 3:0 BOARD_POS, 5:4 BOARD_SIZE. -/
  straps : Nat
  /-- Every fuse word equals its stored complement (R737). -/
  sound : Bool
  /-- LIFECYCLE of SEC_STATUS, the fused GRADE, SVN_FLOOR. -/
  lifecycle : Nat
  grade : Nat
  svnFloor : Nat
  /-- Programmed and revoked slots, as SEC_KEYSLOT shows them, and the key arrays. -/
  mldsaProg : Nat
  mldsaRev : Nat
  ecdsaProg : Nat
  ecdsaRev : Nat
  mldsaKeys : Tab (List Byte)
  ecdsaKeys : Tab (List Byte)
  deriving DecidableEq, Repr

/-- The security controller (chapter 18) beside its registers. -/
structure Sec where
  /-- The link master key, empty for none; whether DeviceID is derived (R705). -/
  lmk : List Byte
  deviceId : Bool
  /-- An SPDM secure session is open (R734); the live nonces with their moments (Table 18.6). -/
  session : Bool
  nonces : List (Nat × List Byte)
  /-- The debug state that the next cold reset starts in (R723). -/
  latch : Nat
  /-- Since when the entropy source has failed (R717); its start-up test passed afterwards is the event itself. -/
  badSince : Option Nat
  /-- A fold reset waits for a start-up test (R717). -/
  waitEntropy : Bool
  /-- The measurements of Table 18.5, by index. -/
  meas : Tab (List Byte)
  /-- The last DRBG reseed (R716). -/
  seededAt : Nat
  /-- Management requests that wait for random values (R717): false KEY_EXCHANGE, true GET_NONCE, with the request. -/
  held : List (Bool × List Byte)
  deriving DecidableEq, Repr

/-- The Weathering hub and the scrubber (chapter 20) beside their registers. -/
structure Health where
  /-- Evaluations since power-on, six to a powered hour (R782). -/
  evals : Nat
  /-- Snapshots, oldest first, at most 30: powered hours, and the WEAR of each monitor (R783). -/
  snaps : List (Nat × List Nat)
  /-- Monitors whose first crossing of 8,000 and of 10,000 has been logged (R785). -/
  over8 : List Nat
  over10 : List Nat
  /-- The scrub positions: 16 MiB steps of Loft, 2 MiB steps of a tile (R768), and whether this fence's scrub is done. -/
  loftAt : Nat
  tileAt : Nat
  scrubbed : Bool
  deriving DecidableEq, Repr

/-! ### The state -/

/-- Why a run stops in a fault. The model has no such stop: every violation that the manual names is an outcome of the
steps (R11) and so a next state. -/
inductive Fault where
  /-- Raised by no meaning; the type has one name so that it is inhabited. Safe. -/
  | none
  deriving DecidableEq, Repr

/-- Why a command has no meaning. -/
inductive Refusal where
  /-- Raised by the dispatcher for a command whose meaning is not written, by its mnemonic. Safe: no claim can rest on
  a command that is refused. -/
  | notModelled (mnemonic : String)
  deriving DecidableEq, Repr

/-- The state of the block. -/
structure State where
  /-- The latest moment a command has named, in picoseconds. -/
  now : Nat
  /-- Draws of free values so far: the model's own counter (Config.freeRandom, Config.freeValue). -/
  free : Nat
  /-- The commands that wait, first in, first out. -/
  pending : List Instr
  /-- The registers whose value differs from reset, by their offset in the register region. -/
  regs : Tab Word
  /-- The memories: HBM, Loft and tile SRAM, by local address. -/
  mem : List Host.Cell
  log : Log
  clk : Clock
  tide : Tide
  plan : Plan
  img : Images
  ctxs : Tab Ctx
  stalls : Tab Stall
  pub : Tab PubSlot
  cmt : Tab CmtEntry
  cmds : List Cmd
  tiles : Tiles
  sigs : List PendSig
  /-- The numbers of the next command and of the next attempt. -/
  nextId : Nat
  nextUid : Nat
  tallies : Tab Tally
  parks : Tab Park
  /-- The next bank of each context (R397, R406): 32 × context + chip, 16 for a forwarded verdict. -/
  bank : Tab (List Byte)
  /-- CENSUS_SEQ of each context, and the sequence numbers whose windows it has opened (R400, R404). -/
  seqs : Tab Nat
  opened : Tab (List Nat)
  /-- The kill notice that each context holds: its body (R523). -/
  heldKill : Tab (List Byte)
  bufs : Tab Buf
  grReqs : List GrReq
  grWrites : List GrWrite
  /-- The slots that the Squall GRANARY control still makes a request wait, by its command (R789). -/
  grDefer : Tab Nat
  /-- The domain-48 cycle of each stall's last Granary slot used (R251). -/
  grLast : Tab Nat
  host : HostIf
  /-- What has left the package, newest first. -/
  out : List Out
  pwr : Power
  notices : List Notice
  /-- Key epochs of HBM extents, by extent base (R132, R708). -/
  epochs : Tab Nat
  /-- Words of memory whose stored bits an injection has flipped: 1 or 2 bits (R793). -/
  upsets : Tab Nat
  ports : Tab Port
  bw : Bw
  fuse : Fuses
  sec : Sec
  health : Health
  /-- The shift register of Squall (R792). -/
  lfsr : Nat
  deriving DecidableEq, Repr

/-! ### The state after reset -/

/-- The host link before PERST_N has risen: PCIe down, no credit, no function enabled (R737, R739). -/
def HostIf.reset : HostIf :=
  { fns := [], reads := [], queue := [], credits := 0, rot := 8, perst := true, up := false, trained := 0, posted := [] }

/-- The clock monitor at power-on: nothing lost. -/
def Clock.reset : Clock :=
  { refBad := false, lnkBad := false, safeBad := false, refGoodFrom := 0, monStopped := false, telStopped := false,
    sampledCd := 0, sampledMd := 0, cancel := false, told := 0, ramp := false, rampAt := 0 }

/-- The tide timer stopped, with nothing sampled (R98). -/
def Tide.reset : Tide :=
  { running := false, t0 := 0, k := 0, tick := 0, expected := 0, sampled := false, sCtrl := 0, sPeriod := 0, sBayCfg := 0,
    sRef := 0, sStarts := [], sOwn := [], sDl := [], starts := [], own := [], dl := [], refPlan := 0, bays := 0, bay := 0,
    edgeTick := none, flyRun := 0, capture := false, captured := none, realign := false, outSince := none, hot := false,
    hotSeen := false, slots := 0, blackouts := [], cleared := false, checked := false, heldDomains := [] }

/-- No image fills anything: every die unowned (R124, Table 3.8), no extent, no stall's parameters. -/
def Plan.reset : Plan :=
  { fallowDies := 0, fallowPorts := 0, globalChip := 0, target := 0, extents := [], cdOwner := 0xFFFFFFFFFFFFFFFF,
    encOwner := 0xFFFFFFFF, rsOwner := 0xFF, windows := [], seeds := [], numeric := [], sfu := [], safety := [],
    security := [] }

/-- Both image stores zeroized (Table 18.9), no image in force. -/
def Images.reset : Images :=
  { staging := [], active := [], inForce := false, isSealed := false, digest := [], checking := none, pending := none,
    waiting := none, applyTide := 0, changes := 0, applying := false, writtenNow := [], sections := [] }

/-- Power-on reset: PKG_PWROK low, the package held in reset (R737). -/
def Power.reset : Power :=
  { pwrok := false, inReset := true, seqFault := false, c0 := 0, coldDue := false, coldCause := 0, fold := none,
    foldRun := false, foldPass := false,
    badCheck := none, lost := [], alignTries := 0, alignAt := none, aligned := false, readyAt := none, rampEnd := 0,
    test := none, passes := [], tripWait := false, thermtrip := false, fuseBad := false, gated := [], gateRamps := [],
    vidWas := [66, 66, 66, 66] }

/-- Breakwater before SF is powered. -/
def Bw.reset : Bw :=
  { ports := [], closed := [], wrong := [], disagree := none, degradedAt := none, warned := false, expired := false, entry := none,
    armAt := none, lastArm := none, confirm := none, sfOn := false, testAt := [] }

/-- The fuses of a part as it leaves Volvasil: PROVISIONING, with slot 0 of each scheme programmed (R706, R720). The
serial, straps, grade and floor are the model's choice, and the public key of slot 0 is not stated anywhere: it stands as a list
without bytes. DESIGN CHOICE, log entry 12. -/
def Fuses.reset : Fuses :=
  { serial := 0, straps := 0, sound := true, lifecycle := 1, grade := 0, svnFloor := 0, mldsaProg := 1, mldsaRev := 0, ecdsaProg := 1, ecdsaRev := 0,
    mldsaKeys := [(0, [])], ecdsaKeys := [(0, [])] }

/-- The security controller with nothing derived. -/
def Sec.reset : Sec :=
  { lmk := [], deviceId := false, session := false, nonces := [], latch := 0, badSince := none, waitEntropy := false,
    meas := [], seededAt := 0, held := [] }

/-- The Weathering hub and the scrubber with nothing done. -/
def Health.reset : Health :=
  { evals := 0, snaps := [], over8 := [], over10 := [], loftAt := 0, tileAt := 0, scrubbed := false }

/-- The state in power-on reset, before PKG_PWROK has risen for the first time: every register at the reset value that the
manual gives it, nothing written to any memory, no command waiting. -/
def State.reset : State :=
  { now := 0, free := 0, pending := [], regs := [], mem := []
    log := { entries := [], pins := [], seq := 0, pinCount := 0, access := [], units := [] }
    clk := Clock.reset, tide := Tide.reset, plan := Plan.reset, img := Images.reset, ctxs := [], stalls := [], pub := []
    cmt := [], cmds := []
    tiles := { pieces := [], deal := [], busy := [], claims := [], waits := [], loose := [], trackers := [], units := [], last := [] }
    sigs := [], nextId := 1, nextUid := 1, tallies := [], parks := [], bank := [], seqs := [], opened := [], heldKill := []
    bufs := [], grReqs := [], grWrites := [], grDefer := [], grLast := [], host := HostIf.reset, out := [], pwr := Power.reset
    notices := [], epochs := [], upsets := [], ports := [], bw := Bw.reset, fuse := Fuses.reset, sec := Sec.reset
    health := Health.reset, lfsr := 1 }

end Sys2Proof.Machine
end

