-- ==== Sys2Proof/Machine/Ops.lean ====
section
/-! DEFINITION. The named operations that every meaning uses: time, registers, the Strandline log, the host's rings, and
memory with its ownership checks. -/

namespace Sys2Proof.Machine

/-! ### Time. Moments are in picoseconds: 1 ns is 1,000, a beat 10,000 (R41), a core cycle 625 (R7). -/

/-- A span of nanoseconds. -/
abbrev ns (n : Nat) : Nat := n * 1000
/-- A span of microseconds. -/
abbrev us (n : Nat) : Nat := n * 1000000
/-- A span of milliseconds. -/
abbrev ms (n : Nat) : Nat := n * 1000000000
/-- A span of 10 ns beats (R41). -/
abbrev beats (n : Nat) : Nat := n * 10000
/-- A span of cycles of a 1.60 GHz domain (R7, Table 1.8). -/
abbrev cyc (n : Nat) : Nat := n * 625
/-- The first beat edge at or after a moment. -/
def beatUp (t : Nat) : Nat := cdiv t 10000 * 10000
/-- The number of the domain-46 or domain-48 cycle that a moment lies in. -/
def cycleOf (t : Nat) : Nat := t / 625

/-- The state at the moment a command names; a command never moves time back. -/
def State.at (s : State) (t : Nat) : State := { s with now := max s.now t }

/-- A meaning that has its effect where its condition holds, and leaves everything but the time as it was elsewhere:
the event that the command names does not happen in that state. -/
def whenEnabled (t : Nat) (en : State → Bool) (eff : State → State) (s : State) : Host.Outcome State Fault Refusal :=
  if en (s.at t) then .next (eff (s.at t)) else .next (s.at t)

/-! ### Registers -/

/-- The stored value of a register (die number d, index i). -/
def rgetX (s : State) (r : Reg) (d i : Nat) : Word := Tab.getD r.info.reset (r.addr d i) s.regs

/-- The stored value of a register of the control or safety die. -/
abbrev rget (s : State) (r : Reg) (i : Nat := 0) : Word := rgetX s r 0 i

/-- A register list with a register's value replaced; a register at its reset value is not listed. -/
def regsPut (m : Tab Word) (r : Reg) (d i : Nat) (v : Word) : Tab Word :=
  if v = r.info.reset then Tab.del (r.addr d i) m else Tab.put (r.addr d i) v m

/-- The state with a register's stored value replaced. -/
def rputX (s : State) (r : Reg) (d i : Nat) (v : Word) : State := { s with regs := regsPut s.regs r d i v }

/-- The state with the stored value of a register of the control or safety die replaced. -/
abbrev rput (s : State) (r : Reg) (v : Word) (i : Nat := 0) : State := rputX s r 0 i v

/-- The state with a register's stored value changed by a function. -/
def rmod (s : State) (r : Reg) (f : Word → Word) (d : Nat := 0) (i : Nat := 0) : State :=
  rputX s r d i (f (rgetX s r d i))

/-- Field hi:lo of a register. -/
def rfield (s : State) (r : Reg) (hi lo : Nat) (i : Nat := 0) (d : Nat := 0) : Nat := bf (rgetX s r d i) hi lo

/-- The state with field hi:lo of a register replaced. -/
def rsetField (s : State) (r : Reg) (hi lo v : Nat) (i : Nat := 0) (d : Nat := 0) : State :=
  rmod s r (fun w => setBf w hi lo v) d i

/-- The state with a saturating counter field of a register raised. -/
def rbump (s : State) (r : Reg) (hi lo : Nat) (i : Nat := 0) (n : Nat := 1) (d : Nat := 0) : State :=
  rmod s r (fun w => bumpField w hi lo n) d i

/-- Every register of a list at its reset value. -/
def rclear (s : State) (rs : List Reg) : State :=
  { s with regs := s.regs.filter fun c =>
      match Reg.decode c.1 with
      | some (r, _, _) => !rs.contains r
      | none => true }

/-! ### The tide's moments -/

/-- The tide number (R60). -/
def tideNo (s : State) : Nat := (rget s .tidNumber).toNat
/-- Nanoseconds since the last tick, or since C0 before the first (Table 20.4). -/
def sinceTick (s : State) : Nat := (s.now - s.tide.tick) / 1000
/-- The sampling point of the present tide (R66). -/
def samplingPoint (s : State) : Nat := s.tide.expected - ns 20000
/-- The present moment lies in the fence (R66). -/
def inFence (s : State) : Bool := s.tide.running && s.tide.sampled
/-- The applied tide period P in nanoseconds (R57). -/
def periodNs (s : State) : Nat := rfield s .tidStatus 26 0

/-! ### Stalls and contexts -/

/-- The reset value of a Beacon context: everything 0 (Table 5.1). -/
def Bcn.clear : Bcn :=
  { sc := [], pd := 0#16, lcs := [], loops := [], ret := [], pc := 0, words := [], ready := 0, iss := none, lds := [],
    muls := [], sts := [], fetches := [], hold := 0, holdAt := 0 }
/-- An empty step request. -/
def StepReq.empty : StepReq := { urgent := false, echo := false, step := 0, tag := 0, arg := 0 }
/-- A dispatch with nothing done. -/
def Disp.clear : Disp :=
  { censuses := 0, scat := none, pendW := 0, pendF := 0, exch := none, waits := [], sent := [], placed := [], landed := [],
    told := [], landAt := [] }
/-- An idle context. -/
def Ctx.clear : Ctx :=
  { st := .idle, req := StepReq.empty, attempt := 0, uid := 0, variant := 0, startT := 0, s0 := 0, first := false,
    verdictFb := none, killT := 0, cause := none, next := none, after := .between, committed := false, commitT := 0, staged := [],
    held := [], ranThisTide := false, lastStep := 0, group := [], bcn := Bcn.clear, cen := none, disp := Disp.clear }
/-- A stall with nothing queued. -/
def Stall.clear : Stall := { queue := [], urgentReq := none, stepsThisTide := 0, overruns := 0, drains := [], holdRest := [] }
/-- A slot that nothing has been staged on: null handles, with their complements. -/
def PubSlot.clear : PubSlot :=
  { h0 := 0, h1 := 0, c0 := 0xFFFFFFFF, c1 := 0xFFFFFFFF, side := false, sideC := true, invalid := false, kv := false,
    st0 := false, st1 := false }
/-- An empty commit-table entry. -/
def CmtEntry.clear : CmtEntry := { w := 0, mask := 0, wc := ~~~0, maskc := ~~~0 }
/-- A tally at 0. -/
def Tally.zero : Tally :=
  { value := 0, comp := 0xFFFFFFFF, cyc := 0, before := 0, adds := 0, wasReset := false, hist := [] }
/-- A free buffer of generation 0. -/
def Buf.free : Buf := { alloc := false, gen := 0, genC := 7, req := 0, c := 0, uid := 0 }
/-- A function with bus mastering off (R643). -/
def Fn.clear : Fn :=
  { bme := false, dropped := 0, masked := [], unsignalled := [], sentAt := [], verdictBuf := [] }

/-- The context of number c. -/
def ctxOf (s : State) (c : Nat) : Ctx := Tab.getD Ctx.clear c s.ctxs
/-- The state with a context replaced. -/
def setCtx (s : State) (c : Nat) (x : Ctx) : State := { s with ctxs := Tab.put c x s.ctxs }
/-- The state with a context changed. -/
def modCtx (s : State) (c : Nat) (f : Ctx → Ctx) : State := setCtx s c (f (ctxOf s c))
/-- The Beacon part of a context changed. -/
def modBcn (s : State) (c : Nat) (f : Bcn → Bcn) : State := modCtx s c fun x => { x with bcn := f x.bcn }
/-- The stall of number n. -/
def stallOf (s : State) (n : Nat) : Stall := Tab.getD Stall.clear n s.stalls
/-- The state with a stall changed. -/
def modStall (s : State) (n : Nat) (f : Stall → Stall) : State := { s with stalls := Tab.put n (f (stallOf s n)) s.stalls }
/-- Slot j of stall n. -/
def pubOf (s : State) (n j : Nat) : PubSlot := Tab.getD PubSlot.clear (64 * n + j) s.pub
/-- The state with slot j of stall n replaced. -/
def setPub (s : State) (n j : Nat) (p : PubSlot) : State := { s with pub := Tab.put (64 * n + j) p s.pub }
/-- Entry i of stall n's commit table. -/
def cmtOf (s : State) (n i : Nat) : CmtEntry := Tab.getD CmtEntry.clear (64 * n + i) s.cmt
/-- The state with entry i of stall n's commit table written, each word with its complement (R157). -/
def setCmt (s : State) (n i : Nat) (w mask : Word) : State :=
  { s with cmt := Tab.put (64 * n + i) { w := w, mask := mask, wc := ~~~w, maskc := ~~~mask } s.cmt }
/-- Function f of the endpoint. -/
def fnOf (s : State) (f : Nat) : Fn := Tab.getD Fn.clear f s.host.fns
/-- The state with a function of the endpoint changed. -/
def modFn (s : State) (f : Nat) (g : Fn → Fn) : State :=
  { s with host := { s.host with fns := Tab.put f (g (fnOf s f)) s.host.fns } }

/-- Stall n exists (STL_CTRL.ASSIGNED). -/
def assigned (s : State) (n : Nat) : Bool := bitAt (rget s .stlCtrl n) 0
/-- Stall n runs in Flood mode (STL_CTRL.MODE). -/
def floodOf (s : State) (n : Nat) : Bool := bitAt (rget s .stlCtrl n) 1
/-- Context c belongs to a stall in Flood mode. -/
def floodCtx (s : State) (c : Nat) : Bool := floodOf s (c / 2)
/-- The stall number of context c; 8 for BC8. -/
def stallNo (c : Nat) : Nat := c / 2
/-- An attempt runs in context c; BC8 runs while BCN_STW_CTRL.RUNNING is 1. -/
def runningCtx (s : State) (c : Nat) : Bool :=
  if c = 16 then bitAt (rget s .bcnStwCtrl) 1 else (ctxOf s c).st == .running

/-! ### The Strandline log (R777-R781) -/

/-- The SOURCE codes of the log. -/
inductive Src where
  | clk | tid | stl | bcn | grn | hau | tal | mtx | vec | sfu | win | thr | fry | gln | dkl | top | med | hif | bwr | sec
  | hlt | log | sql | pwr
  deriving DecidableEq, Repr

/-- The code of a SOURCE. -/
def Src.code : Src → Nat
  | .clk => 0x01 | .tid => 0x02 | .stl => 0x03 | .bcn => 0x04 | .grn => 0x05 | .hau => 0x06 | .tal => 0x07
  | .mtx => 0x08 | .vec => 0x09 | .sfu => 0x0A | .win => 0x0B | .thr => 0x0C | .fry => 0x0D | .gln => 0x0E
  | .dkl => 0x0F | .top => 0x10 | .med => 0x11 | .hif => 0x12 | .bwr => 0x13 | .sec => 0x14 | .hlt => 0x15
  | .log => 0x16 | .sql => 0x17 | .pwr => 0x18

/-- Writes one entry (R778), pinned where its class is 4, 5 or 7 (R780). -/
def logRaw (s : State) (c : Option Nat) (cls : Nat) (src : Src) (code d0 d1 : Nat) : State :=
  let x := match c with | some c => ctxOf s c | none => Ctx.clear
  let e : LogEntry :=
    { tide := tideNo s % 2 ^ 37, since := min (sinceTick s) (2 ^ 27 - 1), step := x.req.step, attempt := x.attempt,
      ctx := (c.getD 0) % 2, stall := c.map stallNo, cls := cls, source := src.code, code := code % 256,
      seq := s.log.seq % 2 ^ 24, data0 := d0 % 2 ^ 64, data1 := d1 % 2 ^ 48 }
  let pin := cls = 4 ∨ cls = 5 ∨ cls = 7
  { s with log :=
      { s.log with
        entries := (e :: s.log.entries).take 8192
        pins := if pin then (e :: s.log.pins).take 16 else s.log.pins
        pinCount := if pin then s.log.pinCount + 1 else s.log.pinCount
        seq := s.log.seq + 1 } }

/-- Counts an entry that R779 suppresses. -/
def logSuppress (s : State) : State := rbump s .logStatus 63 48

/-- The requester number of a class-2 entry (Table 20.5): bits 5:4 kind, bits 3:0 number. -/
def reqCode : Requester → Nat
  | .vf n => n.val
  | .pf => 8
  | .bc8 => 0x28

/-- The requester number of a stall, as a class-2 entry names it. -/
def stallReqCode (n : Nat) : Nat := if n = 8 then 0x28 else 0x10 + n

/-- A class-2 entry, at most 64 per requester per tide (R779). -/
def logAccess (s : State) (src : Src) (code addr who : Nat) : State :=
  let n := Tab.getD 0 who s.log.access
  if 64 ≤ n then logSuppress s
  else
    let s := logRaw s none 2 src code addr who
    { s with log := { s.log with access := Tab.put who (n + 1) s.log.access } }

/-- A class-0 entry: an event that Table 20.5 does not list. -/
def logNote (s : State) (src : Src) (d0 : Nat := 0) (c : Option Nat := none) : State := logRaw s c 0 src 0 d0 0

/-- A correction: counted by the caller; only the first of its unit in a tide is logged, with SOURCE HLT; the
others are suppressed (R766, R779). -/
def logCorrected (s : State) (unit row d0 die : Nat) : State :=
  if s.log.units.contains unit then logSuppress s
  else
    let s := logRaw s none 1 .hlt row d0 die
    { s with log := { s.log with units := unit :: s.log.units } }

/-! ### Event rings, posted writes and interrupts (R623-R629) -/

/-- Puts a posted write in the queue of those that wait to leave: event, census and MSI-X writes ahead of every data
write (R629). -/
def hostEnqueue (s : State) (x : HostTlp) : State :=
  let q := s.host.queue
  let q' := if x.urgent then q.filter (·.urgent) ++ [x] ++ q.filter (fun y => !y.urgent) else q ++ [x]
  { s with host := { s.host with queue := q' } }

/-- The number of functions between the last one that sent data and this one, in function order (R637). -/
def rotRank (rot fn : Nat) : Nat := (fn + 9 - 1 - rot % 9) % 9

/-- Which waiting write leaves next: the first urgent one whose function may issue TLPs (R643), else the data write of
the next function in the fixed rotation (R637). -/
def hostPick (s : State) : Option HostTlp :=
  let ok := s.host.queue.filter fun x => (fnOf s x.fn).bme
  match ok.find? (·.urgent) with
  | some x => some x
  | none =>
    ok.foldl (fun best x =>
      match best with
      | none => some x
      | some b => if rotRank s.host.rot x.fn < rotRank s.host.rot b.fn then some x else some b) none

/-- An MSI-X vector of an event that has left (R626): vector 0 and the vectors of the PF at once, the others no sooner
than HOLDOFF_US after their last message. -/
def signalVec (s : State) (fn vec : Nat) : State :=
  let f := fnOf s fn
  if f.masked.contains vec then modFn s fn fun f => { f with unsignalled := vec :: f.unsignalled.filter (· ≠ vec) }
  else
    let hold := if fn = 8 ∨ vec = 0 then 0 else us (rfield s .hifEvtCfg 23 16 fn)
    let due := match Tab.find vec f.sentAt with | some t => t + hold | none => 0
    if due ≤ s.now then
      hostEnqueue (modFn s fn fun f => { f with sentAt := Tab.put vec s.now f.sentAt,
                                                unsignalled := f.unsignalled.filter (· ≠ vec) })
        { fn := fn, addr := vec, bytes := [], urgent := true, vec := none, isMsix := true, drain := none, census := none }
    else modFn s fn fun f => { f with unsignalled := vec :: f.unsignalled.filter (· ≠ vec) }

/-- One waiting write leaves, where the link is up and the host has granted credit. -/
def hostSendOne (s : State) : State :=
  if !s.host.up || s.host.credits == 0 then s
  else
    match hostPick s with
    | none => s
    | some x =>
      let o := if x.isMsix then Out.msix x.fn x.addr else Out.hostWrite x.fn x.addr x.bytes
      let s := { s with
        out := o :: s.out
        host := { s.host with
          queue := s.host.queue.erase x
          credits := s.host.credits - 1
          rot := if x.urgent then s.host.rot else x.fn
          posted := match x.census with | some c => (c, s.now) :: s.host.posted | none => s.host.posted } }
      let s := match x.drain with
        | none => s
        | some (n, step) => modStall s n fun st =>
            { st with drains := st.drains.map fun d => if d.req.step = step then { d with left := d.left - 1 } else d }
      match x.vec with
      | none => s
      | some v => signalVec s x.fn v

/-- Every waiting write that may leave does so. -/
def hostFlush (s : State) : State := (List.range (2 * s.host.queue.length + 1)).foldl (fun s _ => hostSendOne s) s

/-- The number of entries of function fn's ring. -/
def ringSize (s : State) (fn : Nat) : Nat := 2 ^ rfield s .hifEvtCfg 12 8 fn

/-- Function fn's ring is full (R623). -/
def ringFull (s : State) (fn : Nat) : Bool :=
  let p := rget s .hifEvtPtr fn
  (bf p 16 0 + 2 ^ 17 - bf p 48 32) % 2 ^ 17 == ringSize s fn

/-- Writes a record at TAIL of function fn's ring and advances TAIL (R623); PHASE is bit 7 of byte 1. -/
def ringWrite (s : State) (fn : Nat) (rec : List Byte) (vec : Nat) (census : Option Nat) : State :=
  let tail := rfield s .hifEvtPtr 16 0 fn
  let size := ringSize s fn
  let phase := if (tail / size) % 2 = 0 then 0x80#8 else 0#8
  let rec' := rec.set 1 ((rec.getD 1 0#8) ||| phase)
  let addr := (rget s .hifEvtBase fn).toNat / 64 * 64 + 32 * (tail % size)
  let s := rsetField s .hifEvtPtr 16 0 (tail + 1) fn
  hostEnqueue s { fn := fn, addr := addr, bytes := rec', urgent := true, vec := some vec, isMsix := false,
                  drain := none, census := census }

/-- The bytes of an event record (Table 16.4) but for PHASE. -/
def eventBytes (s : State) (type ctx step tag result cause attempt variant : Nat) (echo : Bool) (value data : Nat) :
    List Byte :=
  leBytes 1 type ++ leBytes 1 (ctx % 2) ++ leBytes 2 (step % 4096) ++ leBytes 4 tag ++ leBytes 1 result ++
  leBytes 1 cause ++ leBytes 1 (attempt % 4 + 4 * (variant % 4) + 16 * echo.toNat) ++ [0#8] ++ leBytes 4 value ++
  leBytes 8 (tideNo s) ++ leBytes 8 data

/-- An OVERFLOW event, where events were dropped and the ring has a free entry again (R624). -/
def ringOverflow (s : State) (fn : Nat) : State :=
  let f := fnOf s fn
  if f.dropped = 0 ∨ ringFull s fn then s
  else
    let s' := modFn s fn fun f => { f with dropped := 0 }
    ringWrite s' fn (eventBytes s 0x07 0 0 0 0 0 0 0 false f.dropped 0) 3 none

/-- Posts an event: into a ring that is enabled and not full, else it is dropped and counted (R624). -/
def postEvent (s : State) (fn : Nat) (rec : List Byte) (vec : Nat) (census : Option Nat := none) : State :=
  if !bitAt (rget s .hifEvtCfg fn) 0 then s
  else
    let s := ringOverflow s fn
    if ringFull s fn then
      modFn (rbump s .hifFnStat 47 32 fn) fn fun f => { f with dropped := f.dropped + 1 }
    else hostFlush (ringWrite s fn rec vec census)

/-- An event of a PF type with RESULT, VALUE and DATA (Table 16.6). -/
def postPf (s : State) (type result data vec : Nat) : State :=
  postEvent s 8 (eventBytes s type 0 0 0 result 0 0 0 false 0 data) vec

/-- An OUTCOME event of a context's step (R627). -/
def postOutcome (s : State) (c : Nat) (req : StepReq) (attempt variant status cause : Nat) : State :=
  postEvent s (stallNo c)
    (eventBytes s 0x02 (c % 2) req.step req.tag status cause attempt variant req.echo 0 0) 1

/-! ### Memory -/

/-- The units of the local address map (Table 6.1). -/
inductive Unit_ where
  | hbm (n : Nat)
  | loft (d : Nat)
  | tile (d t : Nat)
  | regs
  | none
  deriving DecidableEq, Repr

/-- The bytes of an HBM stack (R37), of a Loft die (R36), of a tile (R35). -/
abbrev hbmSize : Nat := 0x900000000
abbrev loftBase : Nat := 0x100000000000
abbrev loftSize : Nat := 0x10000000
abbrev sramBase : Nat := 0x200000000000
abbrev sramStride : Nat := 0x4000000
abbrev tileSize : Nat := 0x600000
abbrev regBase : Nat := 0x7F0000000000

/-- The unit that an address lies in (Table 6.1, R35-R37, R227). -/
def unitOf (a : Nat) : Unit_ :=
  if a < 12 * hbmSize then .hbm (a / hbmSize)
  else if loftBase ≤ a ∧ a < loftBase + 2 * loftSize then .loft ((a - loftBase) / loftSize)
  else if sramBase ≤ a ∧ a < sramBase + 16 * sramStride then
    if (a - sramBase) % sramStride < 8 * tileSize then
      .tile ((a - sramBase) / sramStride) ((a - sramBase) % sramStride / tileSize)
    else .none
  else if regBase ≤ a ∧ a < regBase + 0x28000000 then .regs
  else .none

/-- The address lies in HBM. -/
def isHbm (a : Nat) : Bool := decide (a < 12 * hbmSize)

/-- What a byte that the memory does not list reads as: 0 in Loft and tile SRAM, whose self-test leaves zero (R724,
Table 19.3); nothing in HBM, which holds what was last written under the present key. -/
def memDefault (a : Nat) : Option Byte := if isHbm a then none else some 0#8

/-- The canonical form of memory: addresses strictly rising, and no entry equal to what an unlisted address reads as. -/
def Memory.wf (m : List Host.Cell) : Bool :=
  decide (m.Pairwise (fun a b => a.1 < b.1)) && m.all (fun c => memDefault c.1 != some c.2)

/-- The list with a byte written, in canonical form. -/
def memPut (a : Nat) (b : Byte) (m : List Host.Cell) : List Host.Cell :=
  if memDefault a = some b then Tab.del a m else Tab.put a b m

/-- The list with consecutive bytes written. -/
def memPuts (a : Nat) : List Byte → List Host.Cell → List Host.Cell
  | [], m => m
  | b :: bs, m => memPuts (a + 1) bs (memPut a b m)

/-- The listed or default value of an address. -/
def memGet (m : List Host.Cell) (a : Nat) : Option Byte :=
  match Tab.find a m with
  | some b => some b
  | none => memDefault a

/-- The key epoch of the extent that holds an address: how often its key has been replaced (R132, R708). -/
def keyEpoch (s : State) (a : Nat) : Nat :=
  match s.plan.extents.find? (fun e => decide (e.base ≤ a) && decide (a < e.base + e.size)) with
  | some e => Tab.getD 0 e.base s.epochs
  | none => 0

/-- The byte at an address: what was last written, or the free value of unwritten HBM (R237). -/
def readByte (s : State) (a : Nat) : Byte := (memGet s.mem a).getD (Config.freeByte (keyEpoch s a) a)

/-- Consecutive bytes. -/
def readMem (s : State) (a len : Nat) : List Byte := (List.range len).map fun i => readByte s (a + i)

/-- The 8-byte word that an address lies in. -/
def wordOf (a : Nat) : Nat := a / 8

/-- The injections that a write of the span meets: the armed flip of HLT_INJECT acts, and upset words that are written
again are sound again (R793). -/
def injectOnWrite (s : State) (a len : Nat) : State :=
  let covered := fun w => decide (wordOf a ≤ w) && decide (w < cdiv (a + len) 8)
  let s := { s with upsets := s.upsets.filter fun u => !covered u.1 }
  let w := rget s .hltInject
  let op := bf w 63 62
  if (op = 1 ∨ op = 2) ∧ covered (bf w 47 0 / 8) then
    { rsetField s .hltInject 63 62 0 with upsets := Tab.put (bf w 47 0 / 8) op s.upsets }
  else s

/-- Writes consecutive bytes. -/
def writeMem (s : State) (a : Nat) (bs : List Byte) : State :=
  if bs.isEmpty then s
  else
    let s := injectOnWrite s a bs.length
    { s with mem := memPuts a bs s.mem }

/-! ### Ownership of memory (R145, R155, R194, R229) -/

/-- The owner code of a compute die (Table 3.8): 0-7 or 0xF. -/
def cdOwner (s : State) (d : Nat) : Nat := bf s.plan.cdOwner (4 * d + 3) (4 * d)
/-- The die or stack with a window index is fallow. -/
def fallow (s : State) (i : Nat) : Bool := s.plan.fallowDies.testBit i
/-- The span lies in one extent of the owner. -/
def inExtentOf (s : State) (owner a len : Nat) : Bool :=
  s.plan.extents.any fun e => e.owner == owner && decide (e.base ≤ a) && decide (a + len ≤ e.base + e.size)
/-- The span lies in one tile of a compute die that the stall owns (R229). -/
def inOwnTile (s : State) (n a len : Nat) : Bool :=
  match unitOf a, unitOf (a + (len - 1)) with
  | .tile d t, .tile d' t' => d == d' && t == t' && cdOwner s d == n && !fallow s d
  | _, _ => false

/-- The size of a buffer of a class (R239). -/
def classSize (k : Nat) : Nat := 256 * 4 ^ k
/-- The pool or arena register of a unit number (A = 1: arena). -/
def unitReg (s : State) (arena : Bool) (u : Nat) : Word := if arena then rget s .grnArena u else rget s .grnPool u
/-- The address of buffer `ix` of a unit (R240). -/
def bufAddr (s : State) (arena : Bool) (u ix : Nat) : Nat :=
  let w := unitReg s arena u
  bf w 39 0 * 256 + (ix - 1) * classSize (bf w 63 61)
/-- The table key of a buffer: the handle's bits A, UNIT and INDEX. -/
def bufKey (arena : Bool) (u ix : Nat) : Nat := (arena.toNat * 32 + u) * 2 ^ 20 + ix
/-- The buffer of a key. -/
def bufOf (s : State) (k : Nat) : Buf := Tab.getD Buf.free k s.bufs
/-- The address and size of the buffer of a key. -/
def keySpan (s : State) (k : Nat) : Nat × Nat :=
  let u := k / 2 ^ 20
  let arena := decide (32 ≤ u)
  (bufAddr s arena (u % 32) (k % 2 ^ 20), classSize (bf (unitReg s arena (u % 32)) 63 61))
/-- The span lies in one Granary buffer that the attempt of the context holds (R155, R194, R256). -/
def inHeldBuf (s : State) (uid a len : Nat) : Bool :=
  s.bufs.any fun kb =>
    kb.2.alloc && kb.2.uid == uid && decide (uid ≠ 0) &&
      (let sp := keySpan s kb.1; decide (sp.1 ≤ a) && decide (a + len ≤ sp.1 + sp.2))

/-- The context may read the span (R194, R229). BC8 reads only steward extents (R217). -/
def mayRead (s : State) (c a len : Nat) : Bool :=
  if c = 16 then inExtentOf s 8 a len
  else inExtentOf s (stallNo c) a len || inOwnTile s (stallNo c) a len || inHeldBuf s (ctxOf s c).uid a len

/-- The span lies in a pool or arena buffer that stands on a side of one of the stall's publication slots. -/
def inPubBuf (s : State) (n a len : Nat) : Bool :=
  (List.range 64).any fun j =>
    let p := pubOf s n j
    [p.h0, p.h1].any fun h =>
      decide (h ≠ 0) &&
        (let sp := keySpan s (bufKey (bitsOf h 20 20 == 1) (bitsOf h 28 24) (bitsOf h 19 0))
         decide (sp.1 ≤ a) && decide (a + len ≤ sp.1 + sp.2))

/-! ### Key/value tables (Table 6.6) -/

/-- The header fields of a key/value table. -/
structure KvHead where
  rows : Nat
  layers : Nat
  arena : Nat
  spSize : Nat
  spIndex : Nat
  maxPages : Nat
  tokenBytes : Nat
  deriving DecidableEq, Repr

/-- The header that 16 bytes hold (Table 6.6). -/
def kvHeadOf (b : List Byte) : KvHead :=
  { rows := fieldAt b 0 2, layers := fieldAt b 2 1, arena := fieldAt b 3 1, spSize := fieldAt b 4 1,
    spIndex := fieldAt b 5 1, maxPages := fieldAt b 8 4, tokenBytes := fieldAt b 12 4 }

/-- The page size of a table of stall n: the class of its arena. -/
def kvPageSize (s : State) (n : Nat) (h : KvHead) : Nat := classSize (rfield s .grnArena 63 61 (4 * n + h.arena))
/-- Tokens per page (TPP). -/
def kvTpp (s : State) (n : Nat) (h : KvHead) : Nat := kvPageSize s n h / max 1 h.tokenBytes
/-- The offset E of the page entries (Table 6.6). -/
def kvE (h : KvHead) : Nat := 64 * cdiv (64 + 32 * h.rows) 64
/-- The offset of the counts of a row in count array k. -/
def kvCountOff (h : KvHead) (k row : Nat) : Nat := 64 + 16 * h.rows * k + 16 * row
/-- The offset of page entry (row, layer, page). -/
def kvEntryOff (h : KvHead) (row layer page : Nat) : Nat :=
  kvE h + 8 * ((row * h.layers + layer) * h.maxPages + page)
/-- The number of local tokens L(T) of a row of T tokens (R259). -/
def kvLocal (h : KvHead) (tokens : Nat) : Nat :=
  let f := tokens / 4096
  let full := (f + h.spSize - 1 - h.spIndex) / max 1 h.spSize
  full * 4096 + (if f % max 1 h.spSize = h.spIndex then tokens % 4096 else 0)
/-- The local position of token t (R259). -/
def kvLocalPos (h : KvHead) (t : Nat) : Nat := t / 4096 / max 1 h.spSize * 4096 + t % 4096
/-- The address of the table of slot j of stall n, by the handle on its current side. -/
def kvTableAddr (s : State) (n j : Nat) : Nat :=
  let p := pubOf s n j
  let h := if p.side then p.h1 else p.h0
  (keySpan s (bufKey (bitsOf h 20 20 == 1) (bitsOf h 28 24) (bitsOf h 19 0))).1
/-- TOKENS and PAGES of a row in count array k of a table. -/
def kvCounts (s : State) (table : Nat) (h : KvHead) (k row : Nat) : Nat × Nat :=
  let b := readMem s (table + kvCountOff h k row) 16
  (fieldAt b 0 4, fieldAt b 8 4)
/-- The span lies in the staged side of a key/value slot that the attempt has staged: token positions at or above the
row's current TOKENS in a page that already stood in the table (R261); new pages are held buffers. -/
def inKvTail (s : State) (c a len : Nat) : Bool :=
  let n := stallNo c
  (ctxOf s c).staged.any fun j =>
    (pubOf s n j).kv &&
      (let table := kvTableAddr s n j
       let h := kvHeadOf (readMem s table 16)
       (List.range h.rows).any fun row =>
         let cur := kvLocal h (kvCounts s table h (pubOf s n j).side.toNat row).1
         let tpp := max 1 (kvTpp s n h)
         decide (cur % tpp ≠ 0) && (List.range h.layers).any fun layer =>
           let hd := leNat (readMem s (table + kvEntryOff h row layer (cur / tpp)) 4)
           let pa := bufAddr s true (bitsOf hd 28 24) (bitsOf hd 19 0)
           decide (pa + cur % tpp * h.tokenBytes ≤ a) && decide (a + len ≤ pa + kvPageSize s n h))

/-- The context's ST and engine writes may reach the span (R155, R194): the tile SRAM of the stall's dies, and, before
the commit point (R843), buffers that the attempt holds, which its staged sides are. -/
def mayWrite (s : State) (c a len : Nat) : Bool :=
  if c = 16 then inExtentOf s 8 a len
  else inOwnTile s (stallNo c) a len || (!(ctxOf s c).committed && (inHeldBuf s (ctxOf s c).uid a len || inKvTail s c a len))

/-! ### Squall (R787, R792) -/

/-- One step of the Galois shift register (R792). -/
def lfsrNext (x : Nat) : Nat := if x % 2 = 1 then (x / 2) ^^^ 0xD800000000000000 else x / 2

/-- A random value of Squall, one step per decision (R792). -/
def squall (s : State) : Nat × State := let x := lfsrNext s.lfsr; (x, { s with lfsr := x })

/-- A control of SQL_CTRL acts on a stall (R787): the debug state allows it, the control and the stall are enabled. -/
def squallOn (s : State) (control stall : Nat) : Bool :=
  rfield s .secStatus 61 60 != 0 && rfield s .sqlCtrl control control == 1 && rfield s .sqlCtrl (8 + stall) (8 + stall) == 1

end Sys2Proof.Machine
end

