-- ==== Sys2Proof/Machine/StepOps.lean ====
section
/-! DEFINITION. How attempts and steps end: kills (R162), step failure (R161), the commit-table entry, chip loss and the
trigger of a fold reset (R14, R746). -/

namespace Sys2Proof.Machine

/-! ### Handles and buffers (Table 6.3, R246, R252) -/

/-- The handle of a buffer key (Table 6.3). -/
def handleOf (s : State) (k : Nat) : Nat :=
  let u := k / 2 ^ 20
  let arena := decide (32 ≤ u)
  bf (unitReg s arena (u % 32)) 63 61 * 2 ^ 29 + (u % 32) * 2 ^ 24 + (bufOf s k).gen * 2 ^ 21 +
    arena.toNat * 2 ^ 20 + k % 2 ^ 20

/-- The buffer key that a handle names. -/
def keyOf (h : Nat) : Nat := bufKey (bitsOf h 20 20 == 1) (bitsOf h 28 24) (bitsOf h 19 0)

/-- A buffer returns: its generation rises by 1 modulo 8 (R246, R252). -/
def freeBuf (s : State) (k : Nat) : State :=
  let b := bufOf s k
  if b.alloc then
    let g := (b.gen + 1) % 8
    { s with bufs := Tab.put k { b with alloc := false, gen := g, genC := 7 - g, uid := 0 } s.bufs }
  else s

/-- The buffer that a handle names returns; the null handle names none, nor does a handle of an earlier generation, whose
buffer has returned already. -/
def freeHandle (s : State) (h : Nat) : State :=
  if h = 0 ∨ (bufOf s (keyOf h)).gen ≠ bitsOf h 23 21 then s else freeBuf s (keyOf h)

/-- Every buffer that an attempt holds returns (R159, R161, R162). -/
def freeHeldBy (s : State) (uid : Nat) : State :=
  if uid = 0 then s
  else s.bufs.foldl (fun s kb => if kb.2.alloc && kb.2.uid == uid then freeBuf s kb.1 else s) s

/-- A slot with the handle of one side replaced, with its complement. -/
def PubSlot.withSide (p : PubSlot) (side : Bool) (h : Nat) : PubSlot :=
  if side then { p with h1 := h, c1 := onesComp 32 h, st1 := false } else { p with h0 := h, c0 := onesComp 32 h, st0 := false }

/-- The handle of one side of a slot. -/
def PubSlot.handle (p : PubSlot) (side : Bool) : Nat := if side then p.h1 else p.h0

/-- The buffer of a side is a stream table. -/
def PubSlot.stream (p : PubSlot) (side : Bool) : Bool := if side then p.st1 else p.st0

/-- The slot's stored complements match. -/
def PubSlot.sound (p : PubSlot) : Bool :=
  p.c0 == onesComp 32 p.h0 && p.c1 == onesComp 32 p.h1 && p.sideC == !p.side

/-- The staged side of a slot is emptied: what the attempt staged there is not published (R161). A key/value slot that
the attempt created loses its table from both sides. -/
def unstage (s : State) (n uid j : Nat) : State :=
  let p := pubOf s n j
  if p.kv then
    let h := p.handle p.side
    if (bufOf s (keyOf h)).uid = uid then
      setPub s n j { (p.withSide false 0).withSide true 0 with kv := false }
    else s
  else setPub s n j (p.withSide (!p.side) 0)

/-- The attempt of a context gives back its staged sides and buffers (R161, R162). -/
def releaseAttempt (s : State) (c : Nat) : State :=
  let x := ctxOf s c
  let s := if x.committed then s else x.staged.foldl (fun s j => unstage s (stallNo c) x.uid j) s
  freeHeldBy (modCtx s c fun x => { x with staged := [], held := if x.committed then x.held else [] }) x.uid

/-! ### The commit table -/

/-- The first word of a commit-table entry (Table of STL_CMT). -/
def cmtWord (tide cause variant attempt : Nat) (echo urgent drained : Bool) (status step : Nat) : Word :=
  word ((tide % 2 ^ 16) * 2 ^ 48 + (cause % 256) * 2 ^ 40 + (variant % 4) * 2 ^ 34 + (attempt % 4) * 2 ^ 32 +
    echo.toNat * 2 ^ 31 + urgent.toNat * 2 ^ 30 + drained.toNat * 2 ^ 29 + (status % 8) * 2 ^ 26 + step % 4096)

/-- The entry's stored complements match. -/
def CmtEntry.sound (e : CmtEntry) : Bool := e.wc == ~~~e.w && e.maskc == ~~~e.mask

/-- The variant that MFS VARIANT and the entry show: 2 after a verdict fall-back (R171). -/
def variantNow (x : Ctx) : Nat := if x.verdictFb.isSome then 2 else x.variant

/-- The outcome of an uncommitted step is written into its entry, unless R175 leaves the entry unchanged: the causes
DUPLICATE (0x07) and ECHO_MISMATCH (0x08), and every ending of an echo run. -/
def writeOutcome (s : State) (c status cause : Nat) : State :=
  let x := ctxOf s c
  if cause = 0x07 ∨ cause = 0x08 ∨ x.req.echo = true then s
  else
    setCmt s (stallNo c) (x.req.step % 64)
      (cmtWord (tideNo s) cause (variantNow x) x.attempt false x.req.urgent false status x.req.step) 0

/-! ### Ending an attempt -/

/-- Everything of an attempt that waits in an engine, a queue or the Granary is dropped, and its host reads no longer
belong to it (R162, R280, R649). -/
def dropWork (s : State) (uid : Nat) : State :=
  if uid = 0 then s
  else
    { s with
      cmds := s.cmds.filter (·.uid ≠ uid)
      tiles := { s.tiles with pieces := s.tiles.pieces.filter (·.uid ≠ uid), loose := s.tiles.loose.filter (·.uid ≠ uid) }
      sigs := s.sigs.filter (·.uid ≠ uid)
      grReqs := s.grReqs.filter (·.uid ≠ uid)
      grWrites := s.grWrites.filter (·.uid ≠ uid)
      host := { s.host with reads := s.host.reads.map fun r => if r.uid = uid then { r with orphan := true } else r } }

/-- The stores of a Beacon context that have crossed out of its domain land; those still held are discarded (R162). -/
def landStores (s : State) (c : Nat) : State :=
  let s' := (ctxOf s c).bcn.sts.foldl (fun s p =>
    if p.cross ≤ s.now then writeMem s p.addr (leBytes 8 p.val.toNat) else s) s
  modBcn s' c fun b => { b with sts := [] }

/-- A kill notice to the step's group, where its records cross chips (R166). -/
def sendNotice (s : State) (c next cause : Nat) : State :=
  let x := ctxOf s c
  if x.group.isEmpty then s
  else { s with notices := s.notices.filter (fun n => !(n.c == c && n.step == x.req.step)) ++
                 [{ c := c, step := x.req.step, attempt := x.attempt, next := next, cause := cause, chips := x.group }] }

/-- The attempt of a context stops at this moment; `cause` is the cause of a step that ends with it, `next` the attempt
that follows where the step goes on (R162). -/
def stopAttempt (s : State) (c : Nat) (cause : Option Nat) (next : Option NextAttempt) : State :=
  let x := ctxOf s c
  let s := landStores (dropWork s x.uid) c
  modCtx s c fun x =>
    { x with st := .killing, killT := s.now, cause := cause, next := next, held := [], cen := none, disp := Disp.clear,
             bcn := { x.bcn with iss := none, lds := [], muls := [], fetches := [] } }

/-- The causes of which a step's group is told: the kills of R162 and R165, and the failures that R294, R398, R406, R414,
R450, R542, R546 and R641 send to it. -/
def noticeCause (cause : Nat) : Bool :=
  [0x01, 0x05, 0x06, 0x30, 0x32, 0x40, 0x41, 0x42, 0x43, 0x48, 0x49, 0x4A, 0x4B, 0x50, 0x51, 0x65].contains cause

/-- An uncommitted step ends in step failure with a cause, in this cycle (R13, R161): its entry is written, a class-3
entry is logged, its attempt stops, and its group is told of the causes that a rule sends. A committed step stays
committed (R18). -/
def stepFail (s : State) (src : Src) (c cause : Nat) (addr : Nat := 0) : State :=
  let x := ctxOf s c
  if x.committed ∨ x.st = .idle ∨ x.cause.isSome then s
  else
    let s := writeOutcome (logRaw s (some c) 3 src cause addr 0) c 2 cause
    let s := if noticeCause cause then sendNotice s c 0 cause else s
    stopAttempt s c (some cause) none

/-- The mark that a context holds in place of a cause where its step has ended in lock-out, whose cause code is 0. -/
abbrev lockMark : Nat := 0x100

/-- The STATUS of a step that has ended with a cause: lock-out or step failure. -/
def endStatus (cause : Nat) : Nat := if cause = lockMark then 4 else 2

/-- An uncommitted step ends in lock-out (R15, R161). -/
def lockStep (s : State) (c : Nat) : State :=
  let x := ctxOf s c
  if x.committed ∨ x.st = .idle ∨ x.cause.isSome then s
  else stopAttempt (writeOutcome s c 4 0) c (some lockMark) none

/-- The kill of an attempt whose step goes on (R80, R164, R523). -/
def killFor (s : State) (c : Nat) (next : NextAttempt) : State := stopAttempt s c none (some next)

/-- The deadline values of the tide in force for a stall: Z (ns after the tick) and L (ns after step start). -/
def dlOf (s : State) (n : Nat) : Nat × Nat :=
  let w := s.tide.dl.getD n 0
  (bf w 58 32, bf w 26 0)

/-- The kill time K of a context (R79): the first beat edge at or after the earlier of S + L and the tick + Z. -/
def killTime (s : State) (c : Nat) : Nat :=
  let (z, l) := dlOf s (stallNo c)
  beatUp (min ((ctxOf s c).s0 + ns l) (s.tide.tick + ns z))

/-- A fall-back variant exists (STL_CTRL.HAS_FALLBACK). -/
def hasFallback (s : State) (n : Nat) : Bool := bitAt (rget s .stlCtrl n) 3

/-- None of the cases of R81 takes the kill at K away. -/
def deadlineApplies (s : State) (c : Nat) : Bool :=
  let x := ctxOf s c
  let k := killTime s c
  x.st == .running && x.first && x.variant == 0 && x.verdictFb.isNone && hasFallback s (stallNo c) &&
    decide ((dlOf s (stallNo c)).2 ≠ 0) && decide (k < samplingPoint s) && decide (x.s0 < k) && !x.committed

/-! ### Chip loss and the fold-reset trigger (R14, R174, R746) -/

/-- The step of a context is in progress and not committed. -/
def uncommitted (s : State) (c : Nat) : Bool :=
  let x := ctxOf s c
  x.st != .idle && !x.committed && x.cause.isNone

/-- One context at the trigger of a fold reset: an uncommitted step takes the outcome of the trigger (R746), and the
context is emptied. A step that ended before the trigger reports its own cause. -/
def foldContext (s : State) (cause : FoldCause) (c : Nat) : State :=
  let x := ctxOf s c
  let s :=
    if uncommitted s c then
      match cause with
      | .chipLoss =>
        let s := sendNotice s c 0 0
        { s with pwr := { s.pwr with lost := s.pwr.lost ++
            [{ c := c, req := x.req, attempt := x.attempt, variant := variantNow x }] } }
      | .hostReset =>
        let s := writeOutcome (logRaw s (some c) 3 .hif 0x64 0 0) c 2 0x64
        postOutcome s c x.req x.attempt (variantNow x) 2 0x64
      | .requested =>
        let s := writeOutcome (logRaw s (some c) 3 .pwr 0x70 0 0) c 2 0x70
        postOutcome s c x.req x.attempt (variantNow x) 2 0x70
    else
      match x.cause with
      | some k => postOutcome s c x.req x.attempt (variantNow x) (endStatus k) k
      | none => s
  let s := releaseAttempt (dropWork s x.uid) c
  setCtx s c { Ctx.clear with lastStep := if x.st = .idle then x.lastStep else x.req.step }

/-- The number of a fold cause in PWR_RST_STATUS. -/
def FoldCause.code : FoldCause → Nat
  | .chipLoss => 1
  | .hostReset => 2
  | .requested => 3

/-- PHASE of PWR_RST_STATUS. -/
def phase (s : State) : Nat := rfield s .pwrRstStatus 63 60
/-- PHASE set. -/
def setPhase (s : State) (p : Nat) : State := rsetField s .pwrRstStatus 63 60 p

/-! ### Reports of an image, and its discarding by a reset (R121, R137) -/

/-- A rejection: code, section index (0xFF for none), offset. -/
abbrev Reject := Nat × Nat × Nat

/-- Code, section and offset shown in SEC_IMG_STATUS (R121). -/
def showImage (s : State) (r : Reject) : State :=
  rput s .secImgStatus (word ((r.2.2 % 2 ^ 32) * 2 ^ 24 + (r.2.1 % 256) * 2 ^ 8 + r.1 % 256))

/-- A code reported: the status register, a class-6 entry for a rejection, and the IMAGE event (R121, Table 16.6). The
entry's second word carries the section in bits 7:0 and the offset above it. -/
def reportImage (s : State) (r : Reject) : State :=
  let s := showImage s r
  let s := if r.1 = 0 then s else logRaw s none 6 .sec 0x05 r.1 (r.2.1 + 256 * r.2.2)
  postPf s 0x10 r.1 0 1

/-- A boot image that was rejected leaves the chip waiting for one (Table 19.4). -/
def backToWaiting (s : State) : State := if phase s = 3 ∧ !s.img.inForce then setPhase s 2 else s

/-- A rejection. -/
def rejectImage (s : State) (r : Reject) : State := backToWaiting (reportImage s r)

/-- Pending images and images under check are discarded and reported with code 0x17; a waiting full image only where
`waiting` says so (R137). -/
def discardImages (s : State) (waiting : Bool) : State :=
  let lost := s.img.checking.isSome || s.img.pending.isSome || (waiting && s.img.waiting.isSome)
  let s := { s with img := { s.img with
    checking := none, pending := none, applying := false, changes := 0, applyTide := 0
    waiting := if waiting then none else s.img.waiting } }
  if lost then rejectImage s (0x17, 0xFF, 0) else s

/-- A fold reset begins (time 0 of Table 19.5). A trigger during a fold reset does not restart it (R759); during power-on
or cold reset there is nothing to fold, and a halted chip waits for a cold reset (R749). -/
def triggerFold (s : State) (cause : FoldCause) : State :=
  if s.pwr.fold.isSome ∨ s.pwr.inReset ∨ s.pwr.coldDue ∨ phase s = 1 ∨ phase s = 8 then s
  else
    let s := (List.range 16).foldl (fun s c => foldContext s cause c) s
    let s := discardImages s (match cause with | .chipLoss => true | _ => false)
    let s := setPhase s 6
    let s := rsetField s .pwrRstStatus 59 56 cause.code
    { s with pwr := { s.pwr with fold := some (s.now, cause), foldRun := false, badCheck := none } }

/-- What a chip loss with a log entry brings about: HLT_LOSS, the event for the PF, and a fold reset; during a fold reset an
uncorrectable error or a complement mismatch counts as a failed check marked Halted (R795), and no loss restarts it (R759). -/
def lossEffects (s : State) (src : Src) (code seq : Nat) : State :=
  let s := rbump s .hltLoss 63 48
  let s := rsetField (rsetField (rsetField s .hltLoss 47 40 code) .hltLoss 39 32 src.code) .hltLoss 23 0 seq
  let s := postPf s 0x12 0 (seq % 2 ^ 24 % 8192) 3
  if s.pwr.fold.isSome then
    if code = 0x02 ∨ code = 0x03 then { s with pwr := { s.pwr with badCheck := some (s.pwr.badCheck.getD 3) } } else s
  else triggerFold s .chipLoss

/-- A chip loss (R14): logged in class 4 with its code, counted in HLT_LOSS, reported to the PF, and a fold reset is
triggered. During a fold reset it counts as a failed check marked Halted instead (R795). -/
def chipLoss (s : State) (src : Src) (code d0 d1 : Nat) : State :=
  lossEffects (logRaw s none 4 src code d0 d1) src code s.log.seq

/-- A chip loss for which Table 20.5 lists no code: a thermal trip (R827), an entropy source that does not recover (R717).
It is logged as an event that the table does not list; HLT_LOSS shows CODE 0 (log entry 36). -/
def lossUnlisted (s : State) (src : Src) (d0 : Nat) : State := lossEffects (logNote s src d0) src 0 s.log.seq

/-- A protection violation (R145, R14). -/
def violation (s : State) (src : Src) (addr : Nat) : State := chipLoss s src 0x01 addr 0
/-- A complement mismatch of a device value (R14, row 7 of Table 20.1). -/
def mismatch (s : State) (src : Src) (addr : Nat) : State := chipLoss s src 0x03 addr 0

/-! ### Reading memory through the detectors of Table 20.1 -/

/-- The memory kind of an address: its HLT_ECC index, its row of Table 20.1 and its die's window index. -/
def eccKind (a : Nat) : Nat × Nat × Nat :=
  match unitOf a with
  | .tile d _ => (0, 1, d)
  | .loft d => (1, 2, 34 + d)
  | .hbm n => (8 + n, 5, 16 + n)
  | _ => (4, 4, 38)

/-- A correction is counted and, the first of its unit in the tide, logged (R766). -/
def countCorrection (s : State) (a : Nat) : State :=
  let (k, row, die) := eccKind a
  let s := if k < 8 then rbump s .hltEcc 63 32 k else rbump s .hltHbm 63 40 (k - 8)
  logCorrected s (k * 64 + die) row (if k < 8 then a else k - 8) die

/-- An uncorrectable error is counted and is a chip loss (R767). -/
def countUncorrected (s : State) (src : Src) (a : Nat) : State :=
  let (k, row, _) := eccKind a
  let s := if k < 8 then rbump s .hltEcc 15 0 k else s
  chipLoss s src 0x02 a row

/-- A read of a span: uncorrectable words end in chip loss, corrected words are counted, and the bytes go on. -/
def withBytes (s : State) (src : Src) (a len : Nat) (k : List Byte → State → State) : State :=
  let hit := s.upsets.filter fun u => decide (a < 8 * u.1 + 8) && decide (8 * u.1 < a + len)
  match hit.find? (fun u => u.2 == 2) with
  | some u => countUncorrected s src (8 * u.1)
  | none => k (readMem s a len) (hit.foldl (fun s u => countCorrection s (8 * u.1)) s)

/-- A read that a context makes: outside what it may read it is a protection violation (R145). -/
def withRead (s : State) (src : Src) (c a len : Nat) (k : List Byte → State → State) : State :=
  if mayRead s c a len then withBytes s src a len k else violation s src a

/-- A write that a context's engine makes: outside what R155 allows it is a protection violation. -/
def engineWrite (s : State) (src : Src) (c a : Nat) (bs : List Byte) : State :=
  if bs.isEmpty then s else if mayWrite s c a bs.length then writeMem s a bs else violation s src a

end Sys2Proof.Machine
end

