-- ==== Sys2Proof/Machine/Access.lean ====
section
/-! DEFINITION. Who may read and write a register, and the write of one register with its checks and its log entries
(R10, R25, R620, R621). -/

namespace Sys2Proof.Machine

/-- The block that a register belongs to, by its window and offset (R620: the SOURCE of its access errors). -/
def srcOfOffset (w : Win) (off : Nat) : Src :=
  match w with
  | .cd => if off / 0x10000 = 1 then .mtx else if off / 0x10000 = 2 then .vec else if off / 0x10000 = 3 then .sfu else .hif
  | .ed => if off / 0x10000 = 1 then .dkl else if off / 0x10000 = 4 then .bwr else .hif
  | .dd => if off / 0x10000 = 1 then .thr else if off / 0x10000 = 2 then .fry else if off / 0x10000 = 3 then .gln else .hif
  | .md => if off / 0x10000 = 1 ∨ off / 0x10000 = 2 ∨ off / 0x10000 = 3 then .med else .hif
  | .sf => if off / 0x10000 = 1 then .bwr else .hif
  | .ct =>
    match off / 0x10000 with
    | 0x1 => .clk | 0x2 => .tid | 0x3 => .stl | 0x4 => .bcn | 0x5 => .grn | 0x6 => .hau | 0x7 => .tal | 0x8 => .mtx
    | 0x9 => .win | 0xA => .top | 0xB => .hif | 0xC => .sec | 0xD => .pwr | 0xE => .hlt | 0xF => .log | 0x10 => .sql
    | 0x20 => .log | 0x21 => .log | 0x22 => .log | 0x23 => .log | 0x24 => .log
    | _ => .hif

/-- The block of a register. -/
def Reg.src (r : Reg) : Src := srcOfOffset r.info.win r.info.base

/-- The absolute address of a register, as a log entry names it. -/
def regAddr (r : Reg) (d i : Nat) : Nat := regBase + r.addr d i

/-- The OWNER of a Deckarok port: port p is local port p div 4 of edge die p mod 4 (R27). -/
def portOwner (s : State) (e l : Nat) : Nat := rfield s .dklCfg 11 8 l e

/-- A virtual function may read the register (R621 and the access rule of each block). -/
def vfReads (s : State) (n : Nat) (r : Reg) (d i : Nat) : Bool :=
  match r.info.vf with
  | .no => false
  | .all => true
  | .per k => i / k == n
  | .ownDie => cdOwner s d == n
  | .ownMover => cdOwner s (i / 2) == n
  | .ownPort => if r = .bwrPort then portOwner s (i % 4) (i / 4) == n else portOwner s d i == n
  | .ownResample => let o := bitsOf s.plan.rsOwner (4 * d + 3) (4 * d); o == n || o == 8
  | .ownEncoder => let e := 4 * d + i; bitsOf s.plan.encOwner (4 * e + 3) (4 * e) == n

/-- The requester may read the register. The HIF_ registers are read by the physical function only, beside their own
virtual function (R646); every other block's by the physical function and BC8. -/
def mayReadReg (s : State) (q : Requester) (r : Reg) (d i : Nat) : Bool :=
  match q with
  | .pf => true
  | .bc8 => r.src != .hif
  | .vf n => vfReads s n.val r d i

/-- The requester may write the register's writable fields. -/
def mayWriteReg (q : Requester) (r : Reg) (i : Nat) : Bool :=
  match r.info.wr, q with
  | .pfBc8, .pf => true
  | .pfBc8, .bc8 => true
  | .pfBc8, .vf _ => false
  | .pf, .pf => true
  | .pf, _ => false
  | .hif, .pf => i == 8
  | .hif, .vf n => i == n.val
  | .hif, .bc8 => false
  | .any, _ => true

/-- The bits of a register that hold a field (every other bit is reserved, R9). -/
def Reg.fields (r : Reg) : Word :=
  r.info.ro ||| r.info.rw ||| r.info.w1c ||| r.info.rc ||| r.info.wo ||| r.info.rws

/-- START of TID_BAY_START_0 is RO (its field table); every other index of the register is writable. -/
def Reg.roIndex (r : Reg) (i : Nat) : Bool := r == .tidBayStart && i == 0

/-- The bits that a write changes to the written value: RW fields, and RWS fields before sealing (Table 0.2). -/
def Reg.writable (s : State) (r : Reg) (i : Nat) : Word :=
  if r.roIndex i then 0 else r.info.rw ||| (if s.img.isSealed then 0 else r.info.rws)

/-- The value a write leaves: writable fields take the written bits, W1C fields lose the bits written as 1, every other
bit stays (R10). -/
def writtenValue (s : State) (r : Reg) (i : Nat) (old v : Word) : Word :=
  let m := r.writable s i
  ((old &&& ~~~m) ||| (v &&& m)) &&& ~~~(v &&& r.info.w1c)

/-- Some field of the register may be written at all. -/
def Reg.hasWritable (s : State) (r : Reg) (i : Nat) : Bool :=
  (r.writable s i ||| r.info.w1c ||| r.info.wo) != 0

/-- The write of one register (R10): the requester, the fields it may write, the field's own check, and then the effect
`act` on the value written. Each failure has its code: 0x03 a fallow window (R25), 0x04 the requester, 0x01 no writable
field or a reserved bit, 0x02 the check. -/
def guardedWrite (s : State) (q : Requester) (r : Reg) (d i : Nat) (v : Word) (check : State → Bool)
    (act : State → State) : State :=
  let a := regAddr r d i
  let who := reqCode q
  if fallow s (r.info.win.dies.1 + d) then logAccess s r.src 0x03 a who
  else if !mayWriteReg q r i then logAccess s r.src 0x04 a who
  else if !r.hasWritable s i then logAccess s r.src 0x01 a who
  else
    let s := if v &&& ~~~r.fields = 0 then s else logAccess s r.src 0x01 a who
    if !check s then logAccess s r.src 0x02 a who
    else act { s with img := { s.img with writtenNow := Tab.put (r.addr d i) who s.img.writtenNow } }

/-- The plain effect of a write: the stored value of R10. -/
def storeReg (r : Reg) (d i : Nat) (v : Word) (s : State) : State := rmod s r (fun w => writtenValue s r i w v) d i

/-- The host can reach the device: the link is up and the package is past its cold reset's training (R741). BC8's
accesses come from inside. -/
def reachable (s : State) (q : Requester) : Bool :=
  match q with
  | .bc8 => true
  | _ => s.host.up && !s.pwr.inReset

end Sys2Proof.Machine
end

