-- ==== Sys2Proof/Machine/Clock.lean ====
section
/-! DEFINITION. Clocks (chapter 1): the set-point registers, the clock monitor, the reactions of Table 1.10 and the ramp
after a fold reset. -/

namespace Sys2Proof.Machine

/-- The multiplier code of compute domain d. -/
def cdCode (v : Word) (d : Nat) : Nat := bf v (4 * d + 3) (4 * d)

/-- A value of CLK_SETPOINT_CD passes its check (R46, R55): every code valid, and the dies of one stall that are not
fallow at one multiplier. -/
def cdSetpointOk (s : State) (v : Word) : Bool :=
  (List.range 16).all (fun d => decide (cdCode v d ≤ 6)) &&
  (List.range 16).all fun d => (List.range 16).all fun e =>
    cdOwner s d == 0xF || cdOwner s d != cdOwner s e || fallow s d || fallow s e || cdCode v d == cdCode v e

/-- A value of CLK_SETPOINT_MD passes its check: both codes valid (Table of CLK_SETPOINT_MD). -/
def mdSetpointOk (v : Word) : Bool := decide (bf v 3 0 ≤ 4) && decide (bf v 7 4 ≤ 4)

/-- The write of compute set-points (R46). -/
def writeClkCd (q : Requester) (v : Word) (s : State) : State :=
  guardedWrite s q .clkSetpointCd 0 0 v (fun s => cdSetpointOk s v) (storeReg .clkSetpointCd 0 0 v)

/-- The write of media set-points (R46). -/
def writeClkMd (q : Requester) (v : Word) (s : State) : State :=
  guardedWrite s q .clkSetpointMd 0 0 v (fun _ => mdSetpointOk v) (storeReg .clkSetpointMd 0 0 v)

/-- CLK_SETPOINT_CD_WRITE (R46). -/
def execClkSetpointCdWrite (q : Requester) (v : Word) (t : Nat) (s : State) : Host.Outcome State Fault Refusal :=
  whenEnabled t (fun s => reachable s q) (writeClkCd q v) s

/-- CLK_SETPOINT_MD_WRITE (R46). -/
def execClkSetpointMdWrite (q : Requester) (v : Word) (t : Nat) (s : State) : Host.Outcome State Fault Refusal :=
  whenEnabled t (fun s => reachable s q) (writeClkMd q v) s

/-! ### The VID codes of the compute rails (R820-R824) -/

/-- The VID code of a multiplier code 0-6, which stands for a multiplier 10-16 (Table 22.3). -/
def vidOf (m : Nat) : Nat := [36, 40, 44, 49, 54, 60, 66].getD m 66

/-- The code that the multipliers of quadrant q's dies require, with a fallow mask; where all of them are fallow, the code
that the bus carries (R821). -/
def quadVid (s : State) (q : Nat) (codes : Word) (fallowMask : Nat) : Nat :=
  let dies := (List.range 4).filterMap fun i => let d := 4 * q + i; if fallowMask.testBit d then none else some (cdCode codes d)
  if dies.isEmpty then rfield s .pwrVid 6 0 q else vidOf (dies.foldl max 0)

/-- Every VID bus carries, and is to carry, the code that the applied multipliers require. -/
def settleVid (s : State) : State :=
  (List.range 4).foldl (fun s q =>
    let v := quadVid s q (rget s .clkAppliedCd) s.plan.fallowDies
    rsetField (rsetField s .pwrVid 6 0 v q) .pwrVid 22 16 v q) s

/-- The multiplier change of the coming tick is cancelled, and the VID codes return to what the applied multipliers require
(R52, R835). -/
def cancelChange (s : State) : State :=
  let s := { s with clk := { s.clk with cancel := true } }
  if s.tide.sampled then settleVid s else s

/-- A clock event of Table 1.10 that ends steps: chip loss with code 0x04, and the multiplier change of the coming tick
is cancelled (R52). -/
def clockLoss (s : State) (row : Nat) : State := chipLoss (cancelChange s) .clk 0x04 row 0

/-- Breakwater is told of a fault of a channel (Table 1.10): bit 0 Channel P, bits 1-4 Channel H of ED0-ED3. The
reaction is Breakwater's own command CHANNEL_FAULT (R662). -/
def tellBreakwater (s : State) (bits : Nat) : State :=
  { s with clk := { s.clk with told := s.clk.told ||| bits } }

/-- REFCLK is declared lost or out of tolerance; the unbroken millisecond of R56 starts afresh. -/
def refFail (s : State) : State :=
  let s := rmod (rmod s .clkRefStatus (fun w => setBit w 8 true)) .clkRefStatus (fun w => setBit w 0 false)
  clockLoss { s with clk := { s.clk with refBad := true, refGoodFrom := 0 } } 1

/-- LNKCLK is declared lost or out of tolerance: every Deckarok port is declared failed, and Channel H of every edge die
is at fault. The steps that use the links end, so a multiplier change of the coming tick is cancelled (R52). -/
def lnkFail (s : State) : State :=
  let s := rmod (rmod s .clkRefStatus (fun w => setBit w 9 true)) .clkRefStatus (fun w => setBit w 1 false)
  tellBreakwater (cancelChange { s with clk := { s.clk with lnkBad := true } }) 0x1E

/-- SAFECLK is declared lost or out of tolerance: Channel P is at fault. -/
def safeFail (s : State) : State :=
  let s := rmod (rmod s .clkRefStatus (fun w => setBit w 10 true)) .clkRefStatus (fun w => setBit w 2 false)
  tellBreakwater { s with clk := { s.clk with safeBad := true } } 0x01

/-- The monitor's domain 57 runs. -/
def monitorRuns (s : State) : Bool := !s.pwr.inReset && !s.clk.monStopped

/-- Two counts over one window differ by more than 1,000 ppm, each scaled to its nominal frequency; the counts are given
scaled, so that a nominal window of 100 µs counts 1,000,000. -/
def ppmApart (a b : Nat) : Bool := decide (1000 * max 1 b < (max a b - min a b) * 1000000)

/-- The deviation of REFCLK from the mean of the other two inputs, in ppm (REF_DEV_PPM). -/
def refDev (ref lnk safe : Nat) : Int :=
  let mean : Int := ((lnk + safe) / 2 : Nat)
  ((ref : Int) - mean) * 1000000 / (max 1 mean)

/-- The domains of the determinism set (Table 1.8, R40). -/
def inDetSet (n : Nat) : Bool := decide (n ≤ 31) || (decide (36 ≤ n) && decide (n ≤ 46)) || n == 48 ||
  (decide (51 ≤ n) && decide (n ≤ 54))

/-- The window index of the die that a domain belongs to (Table 1.8). -/
def dieOfDomain (n : Nat) : Nat :=
  if n < 16 then n else if n < 28 then n
  else if n < 32 then n else if n < 36 then n - 4
  else if n < 38 then n - 4 else if n < 40 then n - 4 else if n < 42 then n - 4
  else if n = 49 then 39 else 38

/-- The domains outside the determinism set for which Table 1.10 states no reaction to a lost lock: Breakwater's channels,
the link reference, debug and entropy. -/
def silentDomain (n : Nat) : Bool := n == 49 || n == 50 || n == 55 || n == 56 || n == 59

/-- PLL_LOCK_LOST (R50): a running domain of a die that is not fallow loses lock, which CLK_LOCK_LOST shows; in the
determinism set it is a chip loss. The other rows of Table 1.10 are commands of their own. -/
def execPllLockLost (dom : Nat) (t : Nat) (s : State) : Host.Outcome State Fault Refusal :=
  whenEnabled t (fun s => (inDetSet dom || silentDomain dom) && !fallow s (dieOfDomain dom) &&
      bitAt (rget s .clkLockStatus) dom) (fun s =>
    let s := rmod (rmod s .clkLockLost (fun w => setBit w dom true)) .clkLockStatus (fun w => setBit w dom false)
    if inDetSet dom then clockLoss s 3 else s) s

/-- MONITOR_CLOCK_STOP (R50): CT sees that domain 57 has stopped. -/
def execMonitorClockStop (t : Nat) (s : State) : Host.Outcome State Fault Refusal :=
  whenEnabled t (fun s => !s.pwr.inReset && !s.clk.monStopped) (fun s =>
    let s := rmod (rmod s .clkLockLost (fun w => setBit w 57 true)) .clkLockStatus (fun w => setBit w 57 false)
    clockLoss { s with clk := { s.clk with monStopped := true } } 7) s

/-- TELEMETRY_CLOCK_STOP (R50): the management path becomes unavailable and is logged; steps are unaffected. -/
def execTelemetryClockStop (t : Nat) (s : State) : Host.Outcome State Fault Refusal :=
  whenEnabled t (fun s => !s.pwr.inReset && !s.clk.telStopped) (fun s =>
    let s := rmod (rmod s .clkLockLost (fun w => setBit w 58 true)) .clkLockStatus (fun w => setBit w 58 false)
    logNote { s with clk := { s.clk with telStopped := true } } .clk 0) s

/-- REFCLK_STABLE (R56): REFCLK has been in tolerance for 1 ms without a break, so a fold or cold reset that waits for it
proceeds. -/
def execRefclkStable (t : Nat) (s : State) : Host.Outcome State Fault Refusal :=
  whenEnabled t (fun s => s.clk.refBad && bitAt (rget s .clkRefStatus) 0 && decide (s.clk.refGoodFrom + ms 1 ≤ s.now))
    (fun s => { s with clk := { s.clk with refBad := false, refGoodFrom := 0 } }) s

/-- One bounded step of a multiplier code toward its set-point (R822: 2 for compute, 4 for media). -/
def slewStep (max_ cur tgt : Nat) : Nat := if cur < tgt then min tgt (cur + max_) else max tgt (cur - max_)

/-- The compute code of domain d moved one stage toward the sampled set-point, unless its stall is held back. -/
def slewCd (held : List Nat) (s : State) (tgt cur : Word) : Word :=
  (List.range 16).foldl (fun w d =>
    let blocked := held.contains d ||
      (cdOwner s d != 0xF && held.any fun h => decide (h < 16) && cdOwner s h == cdOwner s d)
    if blocked || fallow s d then w else setBf w (4 * d + 3) (4 * d) (slewStep 2 (cdCode cur d) (cdCode tgt d))) cur

/-- The media codes moved one stage toward the sampled set-point. -/
def slewMd (held : List Nat) (tgt cur : Word) : Word :=
  (List.range 2).foldl (fun w m =>
    if held.contains (40 + m) then w
    else setBf w (4 * m + 3) (4 * m) (slewStep 4 (bf cur (4 * m + 3) (4 * m)) (bf tgt (4 * m + 3) (4 * m)))) cur

/-- RAMP_STAGE (R52): a stage of the ramp after a fold reset, at least 25 µs after the last; `bad` names the domains whose
standby PLL fails its check, which keep their multiplier with every die of their stall. A rise of a VID code precedes the
switch and a fall follows it, within the stage. -/
def execRampStage (bad : List Nat) (t : Nat) (s : State) : Host.Outcome State Fault Refusal :=
  whenEnabled t (fun s => s.clk.ramp && decide (s.clk.rampAt + us 25 ≤ s.now)) (fun s =>
    let s := rput s .clkAppliedCd (slewCd bad s s.clk.sampledCd (rget s .clkAppliedCd))
    let s := settleVid (rput s .clkAppliedMd (slewMd bad s.clk.sampledMd (rget s .clkAppliedMd)))
    let cdDone := (List.range 16).all fun d =>
      fallow s d || cdCode (rget s .clkAppliedCd) d == cdCode s.clk.sampledCd d
    let done := cdDone && decide (rget s .clkAppliedMd = s.clk.sampledMd)
    let s := { s with clk := { s.clk with ramp := !done, rampAt := s.now } }
    if done then { s with pwr := { s.pwr with rampEnd := s.now } } else s) s

end Sys2Proof.Machine
end

