-- ==== Sys2Proof/Machine/Tide.lean ====
section
/-! DEFINITION. The tide (chapter 2): the checks of the TID_ registers, sampling and ticks, external ticks, bays and the
path of a transfer (R841), the deadline monitor and the refresh plan. -/

namespace Sys2Proof.Machine

/-! ### Writes with a check of their own -/

/-- A tide period passes its check (R57). -/
def periodOk (v : Word) : Bool := decide (1000000 ≤ bf v 26 0) && decide (bf v 26 0 ≤ 100000000)

/-- A bay configuration passes its check (R70): the starts of the bays in use strictly increasing and at least 1,000
beats apart. -/
def baysOk (count : Nat) (start : Nat → Nat) : Bool :=
  (List.range (count - 1)).all fun b => decide (start b + 1000 ≤ start (b + 1))

/-- The configuration that the registers hold, with one start or the count replaced. -/
def bayStartOk (s : State) (b : Nat) (v : Word) : Bool :=
  baysOk (rfield s .tidBayCfg 3 0 + 1) fun i => if i = b then bf v 23 0 else rfield s .tidBayStart 23 0 i

/-- The check of TID_BAY_CFG (R70). -/
def bayCfgOk (s : State) (v : Word) : Bool := baysOk (bf v 3 0 + 1) fun i => rfield s .tidBayStart 23 0 i

/-- Owner codes pass their check (R72): 0x9-0xE are invalid; n codes. -/
def ownOk (n : Nat) (v : Word) : Bool :=
  (List.range n).all fun i => !(decide (9 ≤ bf v (4 * i + 3) (4 * i)) && decide (bf v (4 * i + 3) (4 * i) ≤ 14))

/-- A refresh plan passes its check (Table of TID_REF_PLAN). -/
def refPlanOk (v : Word) : Bool :=
  let normal := bf v 15 0
  let hot := bf v 31 16
  let black := bf v 47 32
  normal % 10 == 0 && hot % 10 == 0 && black % 10 == 0 && decide (black < normal) && decide (black < hot) &&
    decide (hot ≤ normal)

/-- The write of TID_PERIOD. -/
def writeTidPeriod (q : Requester) (v : Word) (s : State) : State :=
  guardedWrite s q .tidPeriod 0 0 v (fun _ => periodOk v) (storeReg .tidPeriod 0 0 v)
/-- The write of TID_BAY_START_b. -/
def writeTidBayStart (q : Requester) (b : Nat) (v : Word) (s : State) : State :=
  guardedWrite s q .tidBayStart 0 b v (fun s => bayStartOk s b v) (storeReg .tidBayStart 0 b v)
/-- The write of TID_BAY_CFG. -/
def writeTidBayCfg (q : Requester) (v : Word) (s : State) : State :=
  guardedWrite s q .tidBayCfg 0 0 v (fun s => bayCfgOk s v) (storeReg .tidBayCfg 0 0 v)
/-- The write of the owner codes of a bay: resources 0-15 or 16-28. -/
def writeTidBayOwn (q : Requester) (b : Nat) (high : Bool) (v : Word) (s : State) : State :=
  if high then guardedWrite s q .tidBayOwnHi 0 b v (fun _ => ownOk 13 v) (storeReg .tidBayOwnHi 0 b v)
  else guardedWrite s q .tidBayOwnLo 0 b v (fun _ => ownOk 16 v) (storeReg .tidBayOwnLo 0 b v)
/-- The write of TID_REF_PLAN. -/
def writeTidRefPlan (q : Requester) (v : Word) (s : State) : State :=
  guardedWrite s q .tidRefPlan 0 0 v (fun _ => refPlanOk v) (storeReg .tidRefPlan 0 0 v)

/-- TID_PERIOD_WRITE (R57). -/
def execTidPeriodWrite (q : Requester) (v : Word) (t : Nat) (s : State) : Host.Outcome State Fault Refusal :=
  whenEnabled t (fun s => reachable s q) (writeTidPeriod q v) s
/-- TID_BAY_START_WRITE (R70). -/
def execTidBayStartWrite (q : Requester) (b : Nat) (v : Word) (t : Nat) (s : State) : Host.Outcome State Fault Refusal :=
  whenEnabled t (fun s => reachable s q && decide (b < 16)) (writeTidBayStart q b v) s
/-- TID_BAY_OWN_WRITE (R72). -/
def execTidBayOwnWrite (q : Requester) (b : Nat) (high : Bool) (v : Word) (t : Nat) (s : State) :
    Host.Outcome State Fault Refusal :=
  whenEnabled t (fun s => reachable s q && decide (b < 16)) (writeTidBayOwn q b high v) s
/-- TID_REF_PLAN_WRITE (R86). -/
def execTidRefPlanWrite (q : Requester) (v : Word) (t : Nat) (s : State) : Host.Outcome State Fault Refusal :=
  whenEnabled t (fun s => reachable s q) (writeTidRefPlan q v) s

/-! ### Sampling and the tick -/

/-- A request of a new multiplier that R91 logs: more than one step away, or reversing a ramp in progress. -/
def slewLogged (max_ cur old new : Nat) : Bool :=
  decide (max_ < max cur new - min cur new) || (decide (cur < old) && decide (new < cur)) ||
    (decide (old < cur) && decide (cur < new))

/-- Whether the sampled set-points hold a request that R91 logs. -/
def slewRequest (s : State) : Bool :=
  (decide (rget s .clkSetpointCd ≠ s.clk.sampledCd) && (List.range 16).any fun d =>
    !fallow s d && slewLogged 2 (cdCode (rget s .clkAppliedCd) d) (cdCode s.clk.sampledCd d)
      (cdCode (rget s .clkSetpointCd) d)) ||
  (decide (rget s .clkSetpointMd ≠ s.clk.sampledMd) && (List.range 2).any fun m =>
    slewLogged 4 (rfield s .clkAppliedMd (4 * m + 3) (4 * m)) (bf s.clk.sampledMd (4 * m + 3) (4 * m))
      (rfield s .clkSetpointMd (4 * m + 3) (4 * m)))

/-- Every tick-applied field is sampled (R67, R744). -/
def sampleFields (s : State) : State :=
  let s := if slewRequest s then logRaw s none 6 .clk 0x03 0 0 else s
  { s with
    clk := { s.clk with sampledCd := rget s .clkSetpointCd, sampledMd := rget s .clkSetpointMd, cancel := false }
    tide := { s.tide with
      sCtrl := rget s .tidCtrl, sPeriod := rget s .tidPeriod, sBayCfg := rget s .tidBayCfg, sRef := rget s .tidRefPlan
      sStarts := (List.range 16).map fun b => rget s .tidBayStart b
      sOwn := (List.range 32).map fun i => if i % 2 = 0 then rget s .tidBayOwnLo (i / 2) else rget s .tidBayOwnHi (i / 2)
      sDl := (List.range 8).map fun n => rget s .tidDl n } }

/-- The new multipliers switch (R45, R91): one bounded step toward the sampled values, but not for a domain that the
check of T - 1,000 ns holds back (R823), and not where a clock event cancelled the change (R52). -/
def switchMultipliers (s : State) : State :=
  if s.clk.cancel then s
  else
    let s := rput s .clkAppliedCd (slewCd s.tide.heldDomains s s.clk.sampledCd (rget s .clkAppliedCd))
    rput s .clkAppliedMd (slewMd s.tide.heldDomains s.clk.sampledMd (rget s .clkAppliedMd))

/-- The next closing tick of internal mode (R58): t0 + ⌈k × P / 10⌉ × 10 ns. -/
def nextInternal (t0 k p : Nat) : Nat := t0 + beats (cdiv (k * p) 10)

/-- The first instant E + n × P (n ≥ 1), on a beat edge, that lies at least P / 2 after the closing tick (R94). -/
def realignTick (e p closing : Nat) : Nat :=
  let want := closing + ns p / 2
  let n := max 1 (cdiv (want - e) (ns p))
  beatUp (e + n * ns p)

/-- The tick at moment T (row T of Table 2.1): what the tide timer, the clocks, the bays and the refresh plan take on.
`fly` tells a flywheel tick; `first` a first tick after a boot seal or a fold reset, which keeps tide number 0 after a
boot (R60). -/
def tickCore (s : State) (tk : Nat) (fly first : Bool) : State :=
  let s := if first then s else switchMultipliers s
  let oldP := periodNs s
  let p := bf s.tide.sPeriod 26 0
  let ext := bitAt s.tide.sCtrl 0
  let fresh := first || decide (p ≠ oldP) || decide (ext ≠ bitAt (rget s .tidStatus) 32)
  let t0 := if fresh then tk else s.tide.t0
  let k := if fresh then 0 else s.tide.k + 1
  let flyRun := if fly then s.tide.flyRun + 1 else 0
  let capture := ext && ((fly && (decide (2 ≤ flyRun) || s.tide.capture)) || (s.tide.capture && !s.tide.realign && !first))
  let (expected, realign) :=
    if ext then
      match (if fly then s.tide.captured else none) with
      | some e => (realignTick e p tk, true)
      | none => (tk + ns p, false)
    else (nextInternal t0 (k + 1) p, false)
  let number := if first && s.tide.k == 0 && s.tide.tick == s.pwr.c0 && tideNo s == 0 then 0 else tideNo s + 1
  let s := rput s .tidNumber (word number)
  let s := rput s .tidStatus (word (p + ext.toNat * 2 ^ 32 + fly.toNat * 2 ^ 33 + (if first then s.tide.hot else s.tide.hotSeen).toNat * 2 ^ 34))
  { s with
    tide := { s.tide with
      running := true, t0 := t0, k := k, tick := tk, expected := expected, sampled := false
      starts := s.tide.sStarts, own := s.tide.sOwn, dl := s.tide.sDl, refPlan := s.tide.sRef
      bays := bf s.tide.sBayCfg 3 0 + 1, bay := 0
      edgeTick := none, flyRun := flyRun, capture := capture
      captured := if realign then none else s.tide.captured, realign := realign
      outSince := if bitAt (rget s .tidCtrl) 1 then some (tk + ns 20) else none
      hot := if first then s.tide.hot else s.tide.hotSeen, hotSeen := false, slots := 0
      blackouts := s.tide.blackouts.filter (fun b => decide (tk < b.2))
      cleared := false, checked := false, heldDomains := [] }
    log := { s.log with access := [], units := [] }
    img := { s.img with writtenNow := [] }
    stalls := s.stalls.map fun x => (x.1, { x.2 with stepsThisTide := 0 })
    ctxs := s.ctxs.map fun x => (x.1, { x.2 with ranThisTide := false })
    out := if bitAt (rget s .tidCtrl) 1 then Out.pin "TIDE_OUT" true :: s.out else s.out }

/-- The moment at which the present tide closes without a flywheel tick: the expected instant in internal mode and in the
realignment tide, the accepted edge's tick in external mode. -/
def tickDue (s : State) : Option Nat :=
  if !s.tide.running then none
  else if !bitAt (rget s .tidStatus) 32 || s.tide.realign then some s.tide.expected
  else s.tide.edgeTick

/-- The first moment at which the first tick may fall (R744): 100 µs after the seal or FOLD_DONE, and after the ramp. -/
def firstTickFrom (s : State) : Option Nat :=
  if s.tide.running || s.clk.ramp then none
  else s.pwr.readyAt.map fun r => beatUp (max (r + us 100) s.pwr.rampEnd)

/-- The first tick's moment in internal mode, or the accepted edge's tick in external mode (R744). -/
def firstTickDue (s : State) : Option Nat :=
  match firstTickFrom s with
  | none => none
  | some f => if bitAt s.tide.sCtrl 0 then s.tide.edgeTick else some f

/-- The first tick's flywheel moment: external mode, no edge within 100 ms (R744). -/
def firstFlyDue (s : State) : Option Nat :=
  match firstTickFrom s with
  | none => none
  | some f => if bitAt s.tide.sCtrl 0 && s.tide.edgeTick.isNone then some (f + ms 100) else none

/-- A flywheel tick's moment: external mode, no edge accepted by the expected instant + 5,000 ns (R64). -/
def flyDue (s : State) : Option Nat :=
  if s.tide.running && bitAt (rget s .tidStatus) 32 && !s.tide.realign && s.tide.edgeTick.isNone then
    some (s.tide.expected + ns 5000)
  else none

/-- An optional moment has come. -/
def due (o : Option Nat) (now : Nat) : Bool := match o with | some d => decide (d ≤ now) | none => false

/-- A rising TIDE_IN edge (R62, R63, R94, R744): the first beat edge that sees it is beatUp of its moment, the tick falls
20 ns after that. -/
def tideInEdge (s : State) : State :=
  let e := beatUp s.now + ns 20
  if !s.tide.running then
    match firstTickFrom s with
    | some f =>
      if bitAt s.tide.sCtrl 0 && decide (f ≤ s.now) && s.tide.edgeTick.isNone then
        { s with tide := { s.tide with edgeTick := some e } }
      else s
    | none => s
  else if !bitAt (rget s .tidStatus) 32 then s
  else if s.tide.capture then
    if s.tide.captured.isNone && !s.tide.realign then { s with tide := { s.tide with captured := some e } } else s
  else if s.now + ns 5000 < s.tide.expected then rbump s .tidExtStatus 15 0
  else if decide (s.now ≤ s.tide.expected + ns 5000) && s.tide.edgeTick.isNone && !s.tide.realign then
    { s with tide := { s.tide with edgeTick := some e } }
  else s

/-- TIDE_IN_EDGE (R62). -/
def execTideInEdge (t : Nat) (s : State) : Host.Outcome State Fault Refusal :=
  whenEnabled t (fun s => !s.pwr.inReset) tideInEdge s

/-- TIDE_OUT_END (R65): 1,000 ns after it rose. -/
def execTideOutEnd (t : Nat) (s : State) : Host.Outcome State Fault Refusal :=
  whenEnabled t (fun s => due (s.tide.outSince.map (· + ns 1000)) s.now)
    (fun s => { s with tide := { s.tide with outSince := none }, out := Out.pin "TIDE_OUT" false :: s.out }) s

/-! ### Bays (R69-R76) and the path of a transfer (R841) -/

/-- The owner code of a resource in a bay of the tide. -/
def bayOwner (s : State) (b res : Nat) : Nat :=
  if res < 16 then bf (s.tide.own.getD (2 * b) 0) (4 * res + 3) (4 * res)
  else bf (s.tide.own.getD (2 * b + 1) 0) (4 * (res - 16) + 3) (4 * (res - 16))

/-- Stall n may use a resource in a bay (R72, R73). -/
def bayAllows (s : State) (n b res : Nat) : Bool :=
  let o := bayOwner s b res
  o == n || (o == 8 && floodOf s n)

/-- When bay b of this tide starts; bay 0 at the tick (R69). -/
def bayStartAt (s : State) (b : Nat) : Nat :=
  if b = 0 then s.tide.tick else s.tide.tick + beats (bf (s.tide.starts.getD b 0) 23 0)

/-- Bay b occurs in this tide (R71). -/
def bayOccurs (s : State) (b : Nat) : Bool :=
  decide (b < s.tide.bays) && (List.range (b + 1)).all fun i => decide (bayStartAt s i < samplingPoint s)

/-- The end of bay b: the next bay's start, or the sampling point (R69, R71). -/
def bayEndAt (s : State) (b : Nat) : Nat := if bayOccurs s (b + 1) then bayStartAt s (b + 1) else samplingPoint s

/-- What the bay schedule says of an access that starts now (R73-R75). -/
inductive Gate where
  /-- It may start. -/
  | go
  /-- It is held until a later bay. -/
  | hold
  /-- No bay before the sampling point will take it: BAY_MISS. -/
  | miss
  deriving DecidableEq, Repr

/-- The gate for a stall and the bay-scheduled resources on a path. -/
def gate (s : State) (n : Nat) (res : List Nat) : Gate :=
  if res.isEmpty then .go
  else
    let ok := fun b => res.all fun r => bayAllows s n b r
    let late := decide (bayEndAt s s.tide.bay ≤ s.now + beats 32)
    if ok s.tide.bay && !late then .go
    else if (List.range s.tide.bays).any fun b => decide (s.tide.bay < b) && bayOccurs s b && ok b &&
        decide (bayStartAt s b + beats 32 < bayEndAt s b) then .hold
    else .miss

/-- A place of the package fabric (R841). -/
inductive Place where
  /-- A compute die or a mover at its mesh stop. -/
  | cd (d : Nat)
  | hbm (n : Nat)
  | loft (d : Nat)
  | dd (d : Nat)
  | md (m : Nat)
  | ct
  deriving DecidableEq, Repr

/-- The quadrants a place is attached to (Table 1.2). -/
def Place.quads : Place → List Nat
  | .cd d => [d / 4]
  | .hbm n => [n / 3]
  | .loft d => if d = 0 then [0, 1] else [2, 3]
  | .dd d => if d = 0 then [0, 1] else [2, 3]
  | .md m => if m = 0 then [0, 2] else [1, 3]
  | .ct => [0, 1, 2, 3]

/-- The bay-scheduled resource of a place's attachment to a quadrant (Table 2.2); none for a compute die and CT. -/
def Place.res (p : Place) (q : Nat) : List Nat :=
  match p with
  | .cd _ => []
  | .ct => []
  | .hbm n => [n]
  | .loft d => if d = 0 then [12 + q] else [14 + (q - 2)]
  | .dd d => [16 + d]
  | .md m => if m = 0 then [if q = 0 then 19 else 20] else [if q = 1 then 21 else 22]

/-- The resource of the quadrant link a-b (Table 2.2). -/
def linkRes (a b : Nat) : Nat :=
  match min a b, max a b with
  | 0, 1 => 23 | 0, 2 => 24 | 0, 3 => 25 | 1, 2 => 26 | 1, 3 => 27 | _, _ => 28

/-- Two quadrants share an edge (R841). -/
def edgeShared (a b : Nat) : Bool := (min a b, max a b) ∈ [(0, 1), (2, 3), (0, 2), (1, 3)]

/-- The pair of attachments a transfer uses (R841). -/
def pathPair (src dst : Place) : Nat × Nat :=
  let pairs := src.quads.flatMap fun a => dst.quads.map fun b => (a, b)
  match pairs.find? (fun p => p.1 == p.2) with
  | some p => p
  | none =>
    match pairs.find? (fun p => edgeShared p.1 p.2) with
    | some p => p
    | none => pairs.headD (0, 0)

/-- The bay-scheduled resources on the path of a transfer (R841). -/
def pathRes (src dst : Place) : List Nat :=
  let (a, b) := pathPair src dst
  dst.res b ++ (if a = b then [] else [linkRes a b]) ++ src.res a

/-- The path crosses into another quadrant (Table 1.4). -/
def crossQuad (src dst : Place) : Bool := let (a, b) := pathPair src dst; a != b

/-- The place of an address, where it names memory. -/
def placeOf (a : Nat) : Option Place :=
  match unitOf a with
  | .hbm n => some (.hbm n)
  | .loft d => some (.loft d)
  | .tile d _ => some (.cd d)
  | _ => none

/-- The read latency of Table 1.4 in picoseconds for the rows fixed in nanoseconds, from a place to memory. -/
def readLatency (src dst : Place) : Nat :=
  let x := if crossQuad src dst then ns 10 else 0
  match dst with
  | .hbm _ => ns 200 + x
  | .loft _ => ns 60 + x
  | _ => ns 50 + x

/-- BAY_START (R69): a later bay of the tide begins; accesses held for its resources are released by the gate. -/
def execBayStart (b : Nat) (t : Nat) (s : State) : Host.Outcome State Fault Refusal :=
  whenEnabled t (fun s => s.tide.running && !s.tide.sampled && b == s.tide.bay + 1 && bayOccurs s b &&
      decide (bayStartAt s b ≤ s.now))
    (fun s => { s with tide := { s.tide with bay := b } }) s

/-! ### The refresh plan (R86-R88) -/

/-- The spacing S of the band in force and the blackout, in picoseconds. -/
def refSpacing (s : State) : Nat := ns (if s.tide.hot then bf s.tide.refPlan 31 16 else bf s.tide.refPlan 15 0)
/-- BLACKOUT in picoseconds. -/
def refBlackout (s : State) : Nat := ns (bf s.tide.refPlan 47 32)

/-- REFRESH_SLOT (R86): slot j of this tide, at the tick + j × S, refreshes bank j mod 8 of every pseudo-channel; where
that bank's blackout still runs, the refresh follows it. -/
def execRefreshSlot (j : Nat) (t : Nat) (s : State) : Host.Outcome State Fault Refusal :=
  whenEnabled t (fun s => s.tide.running && j == s.tide.slots && decide (s.tide.tick + j * refSpacing s ≤ s.now) &&
      decide (s.tide.tick + j * refSpacing s + refBlackout s ≤ s.tide.expected))
    (fun s =>
      let bank := j % 8
      let at_ := s.tide.tick + j * refSpacing s
      let from_ := match s.tide.blackouts.find? (·.1 == bank) with | some b => max at_ b.2 | none => at_
      { s with tide := { s.tide with
          slots := j + 1
          blackouts := s.tide.blackouts.filter (·.1 != bank) ++ [(bank, from_ + refBlackout s)] } }) s

/-- BLACKOUT_END (R87): the blackout of a bank ends; accesses held on it are released. -/
def execBlackoutEnd (j : Nat) (t : Nat) (s : State) : Host.Outcome State Fault Refusal :=
  whenEnabled t (fun s => s.tide.blackouts.any fun b => b.1 == j && decide (b.2 ≤ s.now))
    (fun s => { s with tide := { s.tide with blackouts := s.tide.blackouts.filter (·.1 != j) } }) s

/-- The moment at which an access to an address may cross: after the blackout of its bank (R87, Table 6.2). -/
def afterBlackout (s : State) (a at_ : Nat) : Nat :=
  if isHbm a then
    match s.tide.blackouts.find? (·.1 == bitsOf (a % hbmSize) 15 13) with
    | some b => max at_ b.2
    | none => at_
  else at_

/-- HOT_C in force: as applied at the tick, or before the first tick as the register holds it (R88). -/
def hotLimit (s : State) : Nat := if s.tide.running then bf s.tide.refPlan 55 48 else rfield s .tidRefPlan 55 48

/-- HBM_TEMPERATURE_REPORT (R88): a stack reports its temperature; above HOT_C it selects the hot band for the next tide. -/
def execHbmTemperatureReport (n temp : Nat) (t : Nat) (s : State) : Host.Outcome State Fault Refusal :=
  whenEnabled t (fun s => !s.pwr.inReset && decide (n < 12) && !fallow s (16 + n)) (fun s =>
    let s := rsetField s .hltHbm 7 0 temp n
    let s := rsetField s .hltHbm 15 8 (max (rfield s .hltHbm 15 8 n) (temp % 256)) n
    if hotLimit s < temp then { s with tide := { s.tide with hotSeen := true } } else s) s

/-! ### The deadline monitor (R79-R82) -/

/-- The fall-back attempt that follows a deadline kill (R80), or the end of a step that would need a fifth attempt in one
tide (R165). -/
def deadlineKill (s : State) (c : Nat) : State :=
  let x := ctxOf s c
  if 3 ≤ x.attempt then stepFail s .stl c 0x06
  else
    killFor (sendNotice s c 1 0) c
      { at_ := killTime s c + ns 4000, fallback := true, number := x.attempt + 1, first := false, notice := false,
        monitor := true }

/-- DEADLINE_KILL (R80): at K the first attempt of a step that has not committed is killed. -/
def execDeadlineKill (c : Nat) (t : Nat) (s : State) : Host.Outcome State Fault Refusal :=
  whenEnabled t (fun s => decide (c < 16) && deadlineApplies s c && decide (killTime s c ≤ s.now))
    (fun s => deadlineKill s c) s

end Sys2Proof.Machine
end

