-- ==== Sys2Proof/Machine/Engine.lean ====
section
/-! DEFINITION. Engine queues and tallies (chapters 5 and 7): the head of a queue, taking a command with its descriptor,
completion and its signal, and the operations of a tally. -/

namespace Sys2Proof.Machine

/-! ### Tallies (R278-R283) -/

/-- Tally i. -/
def tallyOf (s : State) (i : Nat) : Tally := Tab.getD Tally.zero i s.tallies

/-- The state with a tally written. -/
def setTally (s : State) (i : Nat) (v : Tally) : State := { s with tallies := Tab.put i v s.tallies }

/-- The stored complement of a tally matches (R278). -/
def Tally.sound (v : Tally) : Bool := v.comp == onesComp 32 v.value

/-- The first tally of a context's half (R277). -/
def tallyBase (c : Nat) : Nat := 256 * c

/-- A tally index lies in a context's half (R277). -/
def inHalf (c i : Nat) : Bool := decide (c < 16) && decide (tallyBase c ≤ i) && decide (i < tallyBase c + 256)

/-- A tally brought to the present domain-48 cycle: what earlier cycles did is settled. -/
def Tally.settle (v : Tally) (now : Nat) : Tally :=
  let n := cycleOf now
  if v.cyc = n then v
  else
    { v with cyc := n, before := v.value, adds := 0, wasReset := false,
             hist := v.hist.filter fun h => decide (n < h.1 + 20) }

/-- The value a tally takes from the resets and adds of one cycle (R282, R283): resets first, then the sum of the adds,
or without the adds where they overflow. -/
def Tally.result (v : Tally) : Nat :=
  let base := if v.wasReset then 0 else v.before
  if base + v.adds < 2 ^ 32 then base + v.adds else base

/-- The cycle that a change counts from for a wait: its own, or, for an unfixed add in Neap mode, the one that puts the
release on the first beat edge at or after it, a beat being 16 cycles (R476). -/
def seenFrom (unfixed : Bool) (n : Nat) : Nat := if unfixed then 16 * cdiv (n + 4) 16 - 4 else n

/-- A tally with a new value, its complement, and the change remembered for waits (Table 5.10); `first` tells the first
change of its cycle. -/
def Tally.withResult (v : Tally) (first unfixed : Bool) : Tally :=
  let r := v.result
  let k := seenFrom unfixed v.cyc
  let hist :=
    if first then v.hist ++ [(k, v.before)]
    else v.hist.dropLast ++ (v.hist.getLast?.toList.map fun h => (min h.1 k, h.2))
  { v with value := r, comp := onesComp 32 r, hist := hist }

/-- The value that a wait sees: a change becomes visible 4 cycles after it (Table 5.10), an unfixed one at a beat edge
(R476); the changes after the last visible one are not seen. -/
def tallySeen (s : State) (i : Nat) : Nat :=
  let v := tallyOf s i
  match (v.hist.reverse.takeWhile fun h => decide (cycleOf s.now < h.1 + 4)).getLast? with
  | some h => h.2
  | none => v.value

/-- TAL_ERR records the first event (Table of TAL_ERR). -/
def talErr (s : State) (cause step i : Nat) : State :=
  if bitAt (rget s .talErr) 63 then s
  else rput s .talErr (word (2 ^ 63 + cause * 2 ^ 32 + step * 2 ^ 16 + i))

/-- An add to a tally of context c (R282), unfixed where R476 lists its source: an overflow ends the owning step with TALLY_OVERFLOW, and the adds of the cycle
do not apply. -/
def tallyAdd (s : State) (c i amount : Nat) (unfixed : Bool := false) : State :=
  let v := (tallyOf s i).settle s.now
  if !v.sound then mismatch s .tal i
  else
    let v' := { v with adds := v.adds + amount }
    let base := if v.wasReset then 0 else v.before
    let s := setTally s i (v'.withResult (v.adds == 0 && !v.wasReset) (unfixed && !floodCtx s c))
    if base + v'.adds < 2 ^ 32 then s
    else stepFail (talErr s 0x30 (ctxOf s c).req.step i) .tal c 0x30 i

/-- A reset of a tally (R283). -/
def tallyReset (s : State) (i : Nat) : State :=
  let v := (tallyOf s i).settle s.now
  if v.sound then setTally s i (({ v with wasReset := true } : Tally).withResult (v.adds == 0 && !v.wasReset) false)
  else mismatch s .tal i

/-- Every tally of a context's half at 0 (R279). -/
def clearHalf (s : State) (c : Nat) : State :=
  { s with tallies := Tab.delRange (tallyBase c) (tallyBase c + 256) s.tallies }

/-! ### Engine queues (R201, R204) -/

/-- The oldest command that waits in the queue of an engine for a context and has reached it. -/
def headCmd (s : State) (c cls inst : Nat) : Option Cmd :=
  match s.cmds.find? (fun m => m.c == c && m.cls == cls && m.inst == inst && m.st == .queued) with
  | some m => if m.arrive ≤ s.now then some m else none
  | none => none

/-- A command changed. -/
def modCmd (s : State) (id : Nat) (f : Cmd → Cmd) : State :=
  { s with cmds := s.cmds.map fun m => if m.id = id then f m else m }

/-- A command has done its work; it completes at the earliest at `at_`. -/
def finishCmd (s : State) (id at_ : Nat) : State := modCmd s id fun m => { m with st := .finished, doneAt := at_, left := 0 }

/-- A command runs and has `left` parts of its work outstanding. -/
def startCmd (s : State) (id left : Nat) : State :=
  modCmd s id fun m => { m with st := if left = 0 then .finished else .running, left := left, doneAt := s.now }

/-- The time of a command's completion is one that the manual does not fix (R476). -/
def markUnfixed (s : State) (id : Nat) : State := modCmd s id fun m => { m with unfixed := true }

/-- One outstanding part of a running command is done. -/
def cmdPart (s : State) (id : Nat) : State :=
  modCmd s id fun m => { m with left := m.left - 1, st := if m.left ≤ 1 then .finished else m.st, doneAt := s.now }

/-- The engine of a context takes the oldest command of its queue where the descriptor's OP is `op` (R204, R205): a
descriptor outside what the context may read, shorter than the engine's format, or with an OP that the class does not
have, is a protection violation. In Flood mode an urgent command goes ahead of a primary one (R167). -/
def takeCmd (s : State) (src : Src) (c cls inst op size : Nat) (valid : Nat → Bool)
    (k : Cmd → List Byte → State → State) : State :=
  match headCmd s c cls inst with
  | none => s
  | some m =>
    if c < 16 && c % 2 = 0 && floodCtx s c && (headCmd s (c + 1) cls inst).isSome then s
    else if !mayRead s c m.addr m.len || decide (m.len < size) then violation s src m.addr
    else if leNat (readMem s m.addr 1) = op then withBytes s src m.addr m.len (k m)
    else if valid (leNat (readMem s m.addr 1)) then s
    else violation s src m.addr

/-- A command whose writes have all landed completes; its SIG_OP 1 signal applies where its
attempt still runs (R280); a census command is counted for the rounds of R425. -/
def completeCmd (s : State) (id : Nat) : State :=
  match s.cmds.find? (·.id == id) with
  | none => s
  | some m =>
    let s := { s with cmds := s.cmds.filter (·.id ≠ id) }
    let s := if m.cls = 11 ∧ fieldAt m.desc 0 1 = 1 ∧ (ctxOf s m.c).uid = m.uid then
        modCtx s m.c fun x => { x with disp := { x.disp with censuses := x.disp.censuses + 1 } }
      else s
    if m.sigAdd ≠ 0 ∧ runningCtx s m.c = true ∧ (ctxOf s m.c).uid = m.uid then tallyAdd s m.c m.sigTal m.sigAdd m.unfixed else s

/-- A command that may complete at this moment: its completion falls on the first core cycle at or after `doneAt`. -/
def completable (s : State) (id : Nat) : Bool :=
  s.cmds.any fun m => m.id == id && m.st == .finished && m.left == 0 && decide (cyc (cdiv m.doneAt 625) ≤ s.now)

/-- TALLY_SIGNAL (R206): a SIG_OP 2 signal applies two cycles after its slot issued. -/
def execTallySignal (id : Nat) (t : Nat) (s : State) : Host.Outcome State Fault Refusal :=
  whenEnabled t (fun s => s.sigs.any fun g => g.id == id && decide (g.at_ ≤ s.now)) (fun s =>
    match s.sigs.find? (·.id == id) with
    | none => s
    | some g =>
      let s := { s with sigs := s.sigs.filter (·.id ≠ id) }
      if runningCtx s g.c = true ∧ (ctxOf s g.c).uid = g.uid then tallyAdd s g.c g.tal g.add else s) s

/-! ### The Tally engine (class 9, Table 7.2) -/

/-- The fields of a Tally descriptor. -/
structure TalDesc where
  op : Nat
  chip : Nat
  index : Nat
  amount : Nat
  result : Nat
  deriving DecidableEq, Repr

/-- The Tally descriptor of 64 bytes (Table 7.2). -/
def talDesc (b : List Byte) : TalDesc :=
  { op := fieldAt b 0 1, chip := fieldAt b 1 1, index := fieldAt b 2 2, amount := fieldAt b 4 4,
    result := fieldAt b 8 8 }

/-- The number of chips of the board (Table 3.1): 1, 8 or 16. -/
def boardChips (s : State) : Nat := match bitsOf s.plan.target 5 4 with | 1 => 8 | 2 => 16 | _ => 1
/-- This chip's chip-on-board number (TARGET bits 3:0). -/
def chipOnBoard (s : State) : Nat := bitsOf s.plan.target 3 0

/-- A Tally descriptor is well formed (R285, R842) for context c. -/
def talDescOk (s : State) (c : Nat) (d : TalDesc) (b : List Byte) : Bool :=
  let add := d.op == 1 || d.op == 3
  decide (1 ≤ d.op) && decide (d.op ≤ 4) && allZero (slice b 16 48) && decide (d.index < 4096) && inHalf c d.index &&
    (if add then d.amount != 0 else d.amount == 0) &&
    (if d.op == 3 then decide (d.chip < boardChips s) else d.chip == 0) &&
    (if d.op == 4 then d.result % 8 == 0 && inOwnTile s (stallNo c) d.result 8 else d.result == 0)

/-- A Tally OP is one of the class (Table 7.2). -/
def talOpValid (o : Nat) : Bool := decide (1 ≤ o) && decide (o ≤ 4)

/-- The effect of a local Tally command, 8 domain-48 cycles after it reached its queue (R286, R287). -/
def talEffect (c : Nat) (m : Cmd) (b : List Byte) (s : State) : State :=
  let d := talDesc b
  if !talDescOk s c d b then violation s .tal m.addr
  else
    let s := finishCmd s m.id (max s.now (m.arrive + cyc 8))
    match d.op with
    | 1 => tallyAdd s c d.index d.amount
    | 2 => if m.null then s else tallyReset s d.index
    | 4 =>
      if !(tallyOf s d.index).sound then mismatch s .tal d.index
      else if m.null then s
      else
        let v := (tallyOf s d.index).value
        engineWrite s .tal c d.result (leBytes 4 v ++ leBytes 4 (onesComp 32 v))
    | _ => s

/-- A local Tally command may take effect. -/
def talReady (s : State) (c : Nat) : Bool :=
  match headCmd s c 9 0 with
  | some m => decide (m.arrive + cyc 8 ≤ s.now)
  | none => false

/-- TALLY_ADD (R286). -/
def execTallyAdd (c : Nat) (t : Nat) (s : State) : Host.Outcome State Fault Refusal :=
  whenEnabled t (fun s => talReady s c) (fun s => takeCmd s .tal c 9 0 1 64 talOpValid (talEffect c)) s
/-- TALLY_RESET (R286). -/
def execTallyReset (c : Nat) (t : Nat) (s : State) : Host.Outcome State Fault Refusal :=
  whenEnabled t (fun s => talReady s c) (fun s => takeCmd s .tal c 9 0 2 64 talOpValid (talEffect c)) s
/-- TALLY_READ (R286). -/
def execTallyRead (c : Nat) (t : Nat) (s : State) : Host.Outcome State Fault Refusal :=
  whenEnabled t (fun s => talReady s c) (fun s => takeCmd s .tal c 9 0 4 64 talOpValid (talEffect c)) s

/-! ### Remote adds (R289-R293) -/

/-- The body of a remote add (Table 7.3). -/
def remoteAddBody (srcChip stall ctx attempt step index amount : Nat) : List Byte :=
  leBytes 1 srcChip ++ leBytes 1 (stall + 8 * ctx + 16 * attempt) ++ leBytes 2 step ++ leBytes 2 index ++
    leBytes 2 (onesComp 16 index) ++ leBytes 4 amount ++ leBytes 4 (onesComp 32 amount)

/-- The park of a context. -/
def parkOf (s : State) (c : Nat) : Park := Tab.getD { adds := [], lost := [] } c s.parks
/-- The state with a park replaced. -/
def setPark (s : State) (c : Nat) (p : Park) : State := { s with parks := Tab.put c p s.parks }

/-- Counts discarded adds as STALE (Table of TAL_DROP). -/
def talStale (s : State) (n k : Nat) : State := rbump s .talDrop 31 0 n k

/-- The classes of Table 7.4. -/
inductive AddClass where
  | stale
  | park
  | apply
  deriving DecidableEq, Repr

/-- Classifies a remote add for context c (Table 7.4); one that arrives in the commit-point cycle is applied (R299). -/
def classifyAdd (s : State) (c step attempt : Nat) : AddClass :=
  let x := ctxOf s c
  let present := x.st != .idle
  let n := if present then x.req.step else x.lastStep
  let runs := x.st == .running && (!x.committed || decide (s.now < x.commitT + cyc 1)) && x.req.step == step
  let d := (step + 4096 - n) % 4096
  if inFence s then .stale
  else if !x.ranThisTide then .park
  else if runs && x.attempt == attempt then .apply
  else if runs && decide (x.attempt < attempt) then .park
  else if step = n then .stale
  else if 1 ≤ d ∧ d ≤ 63 then .park
  else .stale

/-- A remote add that must be parked (R292, R293): a full park discards it, counts it as LOST and records its STEP. -/
def parkAdd (s : State) (c : Nat) (a : Parked) : State :=
  let p := parkOf s c
  if p.adds.length < 64 then setPark s c { p with adds := p.adds ++ [a] }
  else setPark (rbump s .talDrop 63 48 (stallNo c)) c { p with lost := a.step :: p.lost.filter (· ≠ a.step) }

/-- An arriving remote add (R290, R291). -/
def remoteAddArrive (s : State) (b : List Byte) : State :=
  let stall := bitsOf (fieldAt b 1 1) 2 0
  let ctx := bitsOf (fieldAt b 1 1) 3 3
  let attempt := bitsOf (fieldAt b 1 1) 5 4
  let step := bitsOf (fieldAt b 2 2) 11 0
  let index := fieldAt b 4 2
  let amount := fieldAt b 8 4
  let c := 2 * stall + ctx
  if fieldAt b 6 2 ≠ onesComp 16 index ∨ fieldAt b 12 4 ≠ onesComp 32 amount ∨ inHalf c index = false then
    mismatch s .tal index
  else if !assigned s stall then rbump s .talDrop 47 32 stall
  else
    match classifyAdd s c step attempt with
    | .stale => talStale s stall 1
    | .park => parkAdd s c { step := step, attempt := attempt, index := index, amount := amount }
    | .apply => tallyAdd s c index amount true

/-- The parked adds of a starting attempt (R292, R293): where a LOST record names its step, the attempt ends with
TALLY_LOST and its adds are discarded as STALE; else those that match it are applied in arrival order, and those of its
step with a lower attempt are discarded as STALE. -/
def applyPark (s : State) (c : Nat) : State :=
  let x := ctxOf s c
  let p := parkOf s c
  let mine := p.adds.filter fun a => a.step == x.req.step && a.attempt == x.attempt
  let old := p.adds.filter fun a => a.step == x.req.step && decide (a.attempt < x.attempt)
  let rest := p.adds.filter fun a => !(a.step == x.req.step && decide (a.attempt ≤ x.attempt))
  let s := talStale (setPark s c { p with adds := rest }) (stallNo c) old.length
  if p.lost.contains x.req.step then
    let s := talStale (setPark s c { adds := rest, lost := p.lost.filter (· ≠ x.req.step) }) (stallNo c) mine.length
    stepFail (talErr s 0x32 x.req.step 0) .tal c 0x32
  else mine.foldl (fun s a => tallyAdd s c a.index a.amount) s

/-- Every park is emptied at the sampling point (R292, R293). -/
def emptyParks (s : State) : State :=
  let s := s.parks.foldl (fun s p => talStale s (stallNo p.1) p.2.adds.length) s
  { s with parks := [] }

end Sys2Proof.Machine
end

