-- ==== Sys2Proof/Machine/Operands.lean ====
section
/-! DEFINITION. The fields of a Beacon long word (Tables 5.2-5.5a) and what its scalar operations compute (Tables 5.7,
5.8). A field is read as a number of its own bits. -/

namespace Sys2Proof.Machine

/-! ### The fields of a long word (Table 5.2) -/

/-- The CONTROL field. -/
def lwControl (w : LongWord) : Nat := bitsOf w.toNat 511 448
/-- A scalar field. -/
def lwScalar (w : LongWord) : Fld → Nat
  | .a => bitsOf w.toNat 447 384
  | .b => bitsOf w.toNat 383 320
/-- Issue slot 0-3. -/
def lwSlot (w : LongWord) (k : Nat) : Nat := bitsOf w.toNat (319 - 80 * k) (240 - 80 * k)

/-- The scalar register of an index; SC0 reads as 0. -/
def scGet (sc : Tab Word) (i : Nat) : Word := if i = 0 then 0 else Tab.getD 0 i sc
/-- The scalar registers with one written; writes to SC0 are discarded (Table 5.1). -/
def scPut (sc : Tab Word) (i : Nat) (v : Word) : Tab Word :=
  if i = 0 then sc else if v = 0 then Tab.del i sc else Tab.put i v sc
/-- A predicate; PD0 reads as 1. -/
def pdGet (pd : BitVec 16) (i : Nat) : Bool := if i = 0 then true else pd.getLsbD i
/-- The predicates with one written; writes to PD0 are discarded. -/
def pdPut (pd : BitVec 16) (i : Nat) (b : Bool) : BitVec 16 :=
  if i = 0 then pd
  else (pd &&& ~~~(BitVec.ofNat 16 (2 ^ i))) ||| (if b then BitVec.ofNat 16 (2 ^ i) else 0)

/-! ### Scalar fields (Table 5.4) -/

/-- A decoded scalar field. -/
structure SField where
  sop : Nat
  pred : Nat
  neg : Bool
  dst : Nat
  srca : Nat
  srcb : Nat
  psel : Nat
  /-- The immediate, sign-extended from 41 bits. -/
  imm : Word
  raw : Nat
  deriving DecidableEq, Repr

/-- The scalar field that 64 bits hold. -/
def sfield (v : Nat) : SField :=
  { sop := bitsOf v 63 58, pred := bitsOf v 57 54, neg := bitsOf v 53 53 == 1, dst := bitsOf v 52 47,
    srca := bitsOf v 46 41, srcb := bitsOf v 40 35, psel := bitsOf v 34 31,
    imm := BitVec.ofInt 64 (toSigned 41 (bitsOf v 40 0)), raw := v }

/-- The operation takes an immediate (Table 5.7). -/
def sopImm (o : Nat) : Bool := decide (0x21 ≤ o)
/-- The operation code is one of Table 5.7. -/
def sopValid (o : Nat) : Bool :=
  decide (o ≤ 0x1B) || (decide (0x21 ≤ o) && decide (o ≤ 0x2E)) || (decide (0x30 ≤ o) && decide (o ≤ 0x38))
/-- A compare, in either form: it writes a predicate. -/
def sopCompare (o : Nat) : Bool := (decide (0x10 ≤ o) && decide (o ≤ 0x15)) || (decide (0x30 ≤ o) && decide (o ≤ 0x35))
/-- PAND, POR, PXOR, PANDN. -/
def sopPred (o : Nat) : Bool := decide (0x16 ≤ o) && decide (o ≤ 0x19)
/-- The operation writes a scalar register. -/
def sopWritesSc (o : Nat) : Bool := !(o == 0) && !sopCompare o && !sopPred o && !(o == 0x37)
/-- MUL and MULHU in either form. -/
def sopMul (o : Nat) : Bool := o == 0x03 || o == 0x04 || o == 0x23 || o == 0x24

/-- The scalar registers that the field names as a source or a destination (R200). -/
def sfNames (f : SField) : List Nat :=
  if f.sop = 0 ∨ sopPred f.sop = true then []
  else
    (if sopCompare f.sop then [] else [f.dst]) ++ (if f.sop = 0x1B then [] else [f.srca]) ++
      (if sopImm f.sop ∨ f.sop = 0x0F ∨ f.sop = 0x1B then [] else [f.srcb])

/-- The signed reading of a register. -/
def sgn (w : Word) : Int := w.toInt

/-- The result of a two-operand operation (Table 5.7), by the code of its register form. -/
def alu (o : Nat) (a b : Word) : Word :=
  match o with
  | 0x01 => a + b
  | 0x02 => a - b
  | 0x03 => a * b
  | 0x04 => word (a.toNat * b.toNat / 2 ^ 64)
  | 0x05 => a &&& b
  | 0x06 => a ||| b
  | 0x07 => a ^^^ b
  | 0x08 => a <<< bf b 5 0
  | 0x09 => a >>> bf b 5 0
  | 0x0A => a.sshiftRight (bf b 5 0)
  | 0x0B => if sgn a ≤ sgn b then a else b
  | 0x0C => if sgn b ≤ sgn a then a else b
  | 0x0D => if a.toNat ≤ b.toNat then a else b
  | 0x0E => if b.toNat ≤ a.toNat then a else b
  | _ => 0

/-- The result of a compare (Table 5.7), by the code of its register form. -/
def compare_ (o : Nat) (a b : Word) : Bool :=
  match o with
  | 0x10 => a == b
  | 0x11 => a != b
  | 0x12 => decide (sgn a < sgn b)
  | 0x13 => decide (a.toNat < b.toNat)
  | 0x14 => decide (sgn b ≤ sgn a)
  | _ => decide (b.toNat ≤ a.toNat)

/-- PAND, POR, PXOR, PANDN (Table 5.7). -/
def predOp (o : Nat) (p q : Bool) : Bool :=
  match o with
  | 0x16 => p && q
  | 0x17 => p || q
  | 0x18 => p != q
  | _ => p && !q

/-- The number of leading zeros, 0-64 (CLZ). -/
def clz (a : Word) : Word := word (64 - (if a = 0 then 0 else a.toNat.log2 + 1))

/-! ### Control field (Table 5.3) -/

/-- A decoded control field. -/
structure CField where
  cop : Nat
  pred : Nat
  neg : Bool
  raw : Nat
  deriving DecidableEq, Repr

/-- The control field that 64 bits hold. -/
def cfield (v : Nat) : CField := { cop := bitsOf v 63 58, pred := bitsOf v 57 54, neg := bitsOf v 53 53 == 1, raw := v }

/-- TARGET of BR and CALL. -/
def CField.target (f : CField) : Nat := bitsOf f.raw 10 0
/-- SREG of JMPR. -/
def CField.jreg (f : CField) : Nat := bitsOf f.raw 5 0
/-- LC, TRIPREG, BOUND and ENDW of LOOP. -/
def CField.lc (f : CField) : Nat := bitsOf f.raw 52 50
def CField.tripReg (f : CField) : Nat := bitsOf f.raw 49 44
def CField.bound (f : CField) : Nat := bitsOf f.raw 43 28
def CField.endw (f : CField) : Nat := bitsOf f.raw 27 17
/-- DSTW, COUNT and SREG of FETCH. -/
def CField.dstw (f : CField) : Nat := bitsOf f.raw 52 42
def CField.count (f : CField) : Nat := bitsOf f.raw 41 30
def CField.freg (f : CField) : Nat := bitsOf f.raw 29 24

/-- The operand bits that a control operation leaves unused, which are reserved (Table 5.9). -/
def copReserved (f : CField) : Nat :=
  match f.cop with
  | 0x01 => bitsOf f.raw 52 11
  | 0x02 => bitsOf f.raw 52 6
  | 0x03 => bitsOf f.raw 52 11
  | 0x05 => bitsOf f.raw 16 0
  | 0x06 => bitsOf f.raw 23 0
  | 0x0A => bitsOf f.raw 52 1
  | _ => bitsOf f.raw 52 0

/-- The scalar registers that a control field names (R200). -/
def cfNames (f : CField) : List Nat :=
  match f.cop with
  | 0x02 => [f.jreg]
  | 0x05 => [f.tripReg]
  | 0x06 => [f.freg]
  | _ => []

/-! ### Issue slots (Table 5.5a) -/

/-- A decoded issue slot. -/
structure SlotF where
  cls : Nat
  inst : Nat
  neg : Bool
  pred : Nat
  dreg : Nat
  doff : Nat
  dlen : Nat
  waitTal : Nat
  waitOp : Nat
  waitReg : Nat
  sigTal : Nat
  sigOp : Nat
  sigAdd : Nat
  low : Nat
  raw : Nat
  deriving DecidableEq, Repr

/-- The slot that 80 bits hold. -/
def slotF (v : Nat) : SlotF :=
  { cls := bitsOf v 79 76, inst := bitsOf v 75 68, neg := bitsOf v 67 67 == 1, pred := bitsOf v 66 63,
    dreg := bitsOf v 62 57, doff := bitsOf v 56 45, dlen := bitsOf v 44 43, waitTal := bitsOf v 42 31,
    waitOp := bitsOf v 30 29, waitReg := bitsOf v 28 23, sigTal := bitsOf v 22 11, sigOp := bitsOf v 10 9,
    sigAdd := bitsOf v 8 1, low := bitsOf v 0 0, raw := v }

/-- An empty slot: CLASS 9 with DREG 0; it posts no command (section "Issue slots"). -/
def SlotF.empty (f : SlotF) : Bool := f.cls == 9 && f.dreg == 0
/-- The INSTANCE bits that Table 5.6 does not name for the class; 0xFF names the common work list of classes 1 and 2. -/
def SlotF.instReserved (f : SlotF) : Nat :=
  match f.cls with
  | 0 => bitsOf f.inst 7 5
  | 1 => if f.inst = 0xFF then 0 else bitsOf f.inst 7 7
  | 2 => if f.inst = 0xFF then 0 else bitsOf f.inst 7 7
  | 8 => bitsOf f.inst 7 3
  | 9 => f.inst
  | 10 => f.inst
  | 11 => f.inst
  | _ => bitsOf f.inst 7 1
/-- The scalar registers that a slot names (R200). -/
def SlotF.names (f : SlotF) : List Nat := [f.dreg] ++ (if f.waitOp = 0 then [] else [f.waitReg])

end Sys2Proof.Machine
end

