-- ==== Sys2Proof/Machine/Beacon.lean ====
section
/-! DEFINITION. The issue of a Beacon long word (chapter 5): its holds (R200), its exceptions (Table 5.11), and the effect
of each scalar field and issue slot. A word's fields are carried out by one command each; the first of them issues the
word, all of them read the registers as they stood before it (R192), and the control field's command ends it. -/

namespace Sys2Proof.Machine

/-- The word at a context's program counter. -/
def wordAt (b : Bcn) : LongWord := Tab.getD 0 b.pc b.words

/-- A field is active by its predicate (R191). -/
def predOn (pd : BitVec 16) (p : Nat) (neg : Bool) : Bool := pdGet pd p != neg

/-- The number of iterations that an open loop runs: BOUND in Neap mode, the trip count in Flood mode (R209, R210). -/
def loopCount (flood : Bool) (l : LoopCtr) : Nat := if flood then l.trip else l.bound

/-- A context's loops run in Flood fashion: its stall is in Flood mode, or it is BC8, which has no mode. -/
def floodLoops (s : State) (c : Nat) : Bool := c == 16 || floodCtx s c

/-- The current iteration of a loop is active (R210). -/
def iterActive (l : LoopCtr) : Bool := !l.off && decide (l.index < l.trip)

/-- The present iteration of every open loop is active. -/
def bodyActive (s : State) (c : Nat) (lcs : Tab LoopCtr) (loops : List Nat) : Bool :=
  floodLoops s c || loops.all fun k =>
    match Tab.find k lcs with | some l => iterActive l | none => true

/-- The loop counter of a number. -/
def lcOf (lcs : Tab LoopCtr) (k : Nat) : LoopCtr :=
  Tab.getD { index := 0, trip := 0, bound := 0, endw := 0, start := 0, off := false } k lcs

/-- What the issue of an ENDW word does to the open loops (R199): the loops left open, the counters, and the target of
the back-edge where one is taken. -/
def endwStep (flood : Bool) (pc : Nat) : List Nat → Tab LoopCtr → List Nat × Tab LoopCtr × Option Nat
  | [], lcs => ([], lcs, none)
  | k :: ks, lcs =>
    let l := lcOf lcs k
    if l.endw ≠ pc then (k :: ks, lcs, none)
    else if l.index + 1 < loopCount flood l then (k :: ks, Tab.put k { l with index := l.index + 1 } lcs, some l.start)
    else endwStep flood pc ks lcs

/-- The step number, attempt and so on of a context, read by MFS (Table 5.8); BC8 reads STALL 8. -/
def mfsValue (s : State) (c : Nat) (at_ : Nat) (lcs : Tab LoopCtr) (loops : List Nat) (k : Nat) : Word :=
  let x := ctxOf s c
  let variant :=
    match x.verdictFb with
    | some t => if t + cyc 4 ≤ at_ then 2 else x.variant
    | none => x.variant
  match k with
  | 0 => word x.req.step
  | 1 => word x.attempt
  | 2 => word variant
  | 3 => word (x.req.urgent.toNat + 2 * x.req.echo.toNat + 4 * (floodCtx s c).toNat)
  | 4 => word (stallNo c)
  | 5 => word s.plan.globalChip
  | 6 => rget s .tidNumber
  | 7 => word ((at_ - x.startT) / 625)
  | 16 => word (((List.range 8).map fun l =>
      if loops.contains l && (floodLoops s c || iterActive (lcOf lcs l)) then 2 ^ l else 0).sum)
  | _ => word (lcOf lcs (k - 8)).index

/-! ### Exceptions (Table 5.11) -/

/-- The active slots, counting the loop iteration in Neap mode (R191). -/
def slotOn (act : Bool) (pd : BitVec 16) (f : SlotF) : Bool := act && predOn pd f.pred f.neg

/-- The conditions of a scalar field's encoding. -/
def scalarFormExc (f : SField) : Option Nat :=
  if f.raw = 0 then none
  else if !sopValid f.sop || (f.sop == 0x1B && decide (16 < f.srca)) then some 0x01
  else
    let reg := !sopImm f.sop
    let res := reg && (bitsOf f.raw 30 0 != 0 || (f.sop != 0x1A && f.psel != 0))
    let pdst := (sopCompare f.sop || sopPred f.sop) && decide (16 ≤ f.dst)
    let psrc := sopPred f.sop && (decide (16 ≤ f.srca) || decide (16 ≤ f.srcb))
    let clzB := f.sop == 0x0F && f.srcb != 0
    if res || pdst || psrc || clzB then some 0x02 else none

/-- The conditions of a slot's encoding; BC8 may use classes 0, 9 and 11 only. -/
def slotFormExc (c : Nat) (f : SlotF) : Option Nat :=
  if f.raw = 0 then none
  else if 12 ≤ f.cls ∨ (c = 16 ∧ f.cls ≠ 0 ∧ f.cls ≠ 9 ∧ f.cls ≠ 11) then some 0x03
  else if f.low ≠ 0 ∨ f.instReserved ≠ 0 then some 0x02
  else if f.waitOp = 3 ∨ f.sigOp = 3 ∨ (f.sigOp ≠ 0 ∧ f.sigAdd = 0) then some 0x09
  else none

/-- The conditions of a control field's encoding, and the form of a LOOP among the open loops (R208). -/
def controlFormExc (c : Nat) (b : Bcn) (f : CField) : Option Nat :=
  if 0x0A < f.cop then some 0x01
  else if copReserved f ≠ 0 ∧ f.raw ≠ 0 then some 0x02
  else if f.cop = 0x05 ∧ (b.loops.contains f.lc = true ∨ f.endw ≤ b.pc ∨ f.bound = 0 ∨
      (match b.loops with | k :: _ => decide ((lcOf b.lcs k).endw < f.endw) | [] => false) = true) then some 0x06
  else if f.cop = 0x06 ∧ (f.count = 0 ∨ 2048 < f.count ∨ 2048 < f.dstw + f.count) then some 0x08
  else if f.cop = 0x0A ∧ c ≠ 16 then some 0x0C
  else none

/-- An LD or ST address. -/
def ldAddr (sc : Tab Word) (f : SField) : Nat := (scGet sc f.srca + f.imm).toNat

/-- What a slot's descriptor address is (R204). -/
def slotAddr (sc : Tab Word) (f : SlotF) : Nat := (scGet sc f.dreg + word (64 * f.doff)).toNat

/-- The conditions of an active scalar field. -/
def scalarActExc (sc : Tab Word) (f : SField) : Option Nat :=
  if (f.sop = 0x36 ∨ f.sop = 0x37) ∧ ldAddr sc f % 8 ≠ 0 then some 0x05 else none

/-- Both scalar fields write the same register or predicate. -/
def dualWrite (f g : SField) : Bool :=
  (sopWritesSc f.sop && sopWritesSc g.sop && f.dst == g.dst) ||
  ((sopCompare f.sop || sopPred f.sop) && (sopCompare g.sop || sopPred g.sop) && f.dst == g.dst)

/-- The conditions of an active control field. A branch whose word takes a back-edge has no effect (R199). -/
def controlActExc (b : Bcn) (back : Bool) (f : CField) : Option Nat :=
  let inBody := match b.loops with
    | k :: _ => let l := lcOf b.lcs k; decide (l.start ≤ b.pc) && decide (b.pc ≤ l.endw)
    | [] => false
  let inside := fun (tgt : Nat) => match b.loops with
    | k :: _ => let l := lcOf b.lcs k; decide (l.start ≤ tgt) && decide (tgt ≤ l.endw)
    | [] => true
  match f.cop with
  | 0x01 => if !back && inBody && !inside f.target then some 0x0B else none
  | 0x02 =>
    let v := (scGet b.sc f.jreg).toNat
    if back then none else if 2047 < v then some 0x0A else if inBody && !inside v then some 0x0B else none
  | 0x03 => if back then none else if 8 ≤ b.ret.length then some 0x07 else if b.pc = 2047 then some 0x0A else none
  | 0x04 => if !back && b.ret.isEmpty then some 0x07 else none
  | 0x06 =>
    if (scGet b.sc f.freg).toNat % 64 ≠ 0 then some 0x05
    else
      let hits := fun (lo hi : Nat) => decide (lo < f.dstw + f.count) && decide (f.dstw ≤ hi)
      if hits b.pc b.pc || b.loops.any fun k => let l := lcOf b.lcs k; hits l.start l.endw then some 0x08 else none
  | _ => none

/-- The word transfers control elsewhere than to the next index; END on BC8 has no effect (R217). -/
def transfers (c : Nat) (act back : Bool) (f : CField) : Bool :=
  back || (act && (f.cop == 0x01 || f.cop == 0x02 || f.cop == 0x03 || f.cop == 0x04 || (f.cop == 0x09 && c != 16)))

/-- The first exception of a word at issue, with the number of its field (BCN_EXC.FIELD); the encoding conditions hold
for every field (R215), the others for active ones. -/
def wordExc (s : State) (c : Nat) : Option (Nat × Nat) :=
  let b := (ctxOf s c).bcn
  let w := wordAt b
  let act := bodyActive s c b.lcs b.loops
  let ctl := cfield (lwControl w)
  let fa := sfield (lwScalar w .a)
  let fb := sfield (lwScalar w .b)
  let slots := (List.range 4).map fun k => slotF (lwSlot w k)
  let back := (endwStep (floodLoops s c) b.pc b.loops b.lcs).2.2.isSome
  let ctlOn := act && predOn b.pd ctl.pred ctl.neg
  let onA := act && predOn b.pd fa.pred fa.neg
  let onB := act && predOn b.pd fb.pred fb.neg
  let orElse := fun (o : Option Nat) (k : Nat) (rest : Option (Nat × Nat)) =>
    match o with | some e => some (e, k) | none => rest
  let slotsExc := fun (g : SlotF → Option Nat) =>
    ((List.range 4).zip slots).findSome? fun p => (g p.2).map fun e => (e, p.1 + 3)
  orElse (controlFormExc c b ctl) 0 <| orElse (scalarFormExc fa) 1 <| orElse (scalarFormExc fb) 2 <|
    match slotsExc (slotFormExc c) with
    | some e => some e
    | none =>
      orElse (if ctlOn then controlActExc b back ctl else none) 0 <|
      orElse (if onA then scalarActExc b.sc fa else none) 1 <|
      orElse (if onB then scalarActExc b.sc fb else none) 2 <|
        match slotsExc (fun f =>
          if f.raw ≠ 0 ∧ slotOn act b.pd f = true ∧ f.empty = false ∧ slotAddr b.sc f % 64 ≠ 0 then some 0x05
          else none) with
        | some e => some e
        | none =>
          if onA && onB && dualWrite fa fb then some (0x04, 7)
          else if b.pc = 2047 ∧ transfers c ctlOn back ctl = false then some (0x0A, 7)
          else none

/-- BCN_EXC records the first exception while VALID is 0 (Table of BCN_EXC). -/
def recordExc (s : State) (c code field : Nat) : State :=
  let b := c / 2
  let x := ctxOf s c
  if bitAt (rget s .bcnExc b) 63 then s
  else
    rput s .bcnExc (word (2 ^ 63 + (x.attempt % 4) * 2 ^ 48 + x.req.step * 2 ^ 36 + (if c = 16 then 0 else c % 2) * 2 ^ 35 +
      field * 2 ^ 32 + x.bcn.pc * 2 ^ 16 + code)) b

/-- BC8 stops at the word that raised an exception (R218). -/
def haltBc8 (s : State) : State :=
  rmod s .bcnStwCtrl fun w => setBit (setBit w 1 false) 2 true

/-- A Beacon exception (R214): recorded and logged; on a stall's Beacon it is a chip loss, on BC8 it stops BC8. -/
def raiseExc (s : State) (c code field : Nat) : State :=
  let s := recordExc s c code field
  if c = 16 then haltBc8 (logNote s .bcn ((ctxOf s c).bcn.pc))
  else chipLoss s .bcn 0x06 ((ctxOf s c).bcn.pc) code

/-! ### Checks of what a word reaches (R205, R277) -/

/-- The engine instance of a slot lies within the stall's resources; BC8 reaches every mover (R266). -/
def instOwned (s : State) (c : Nat) (f : SlotF) : Bool :=
  let n := stallNo c
  match f.cls with
  | 0 => c == 16 || cdOwner s (f.inst / 2) == n
  | 1 => f.inst == 0xFF || cdOwner s (f.inst / 8) == n
  | 2 => f.inst == 0xFF || cdOwner s (f.inst / 8) == n
  | 7 => let o := bitsOf s.plan.rsOwner (4 * f.inst + 3) (4 * f.inst); o == n || o == 8
  | 8 => bitsOf s.plan.encOwner (4 * f.inst + 3) (4 * f.inst) == n
  | _ => true

/-- The tally indices of a slot lie in the context's half; a BC8 slot may name none. -/
def slotTalliesOk (c : Nat) (f : SlotF) : Bool :=
  (f.waitOp == 0 || inHalf c f.waitTal) && (f.sigOp == 0 || inHalf c f.sigTal)

/-- Whether a slot posts a command: an active one that is not empty, and in Neap mode an inactive one as a null command
(R211, R212). -/
def slotPosts (s : State) (c : Nat) (act : Bool) (pd : BitVec 16) (f : SlotF) : Bool :=
  f.raw != 0 && !f.empty && (slotOn act pd f || !floodLoops s c)

/-- BC8's registers and steward extents, which its LD and ST may reach (R217). -/
def bc8Reach (s : State) (a : Nat) : Bool :=
  inExtentOf s 8 a 8 || decide (unitOf a = .regs)

/-- The reach of every active field of the word (R145, R205, R217); the address of a breach. -/
def wordReach (s : State) (c : Nat) : Option Nat :=
  let b := (ctxOf s c).bcn
  let w := wordAt b
  let act := bodyActive s c b.lcs b.loops
  let slots := ((List.range 4).map fun k => slotF (lwSlot w k)).filter (·.raw != 0)
  let bad := slots.find? fun f =>
    !slotTalliesOk c f || (slotPosts s c act b.pd f && !instOwned s c f)
  let scal := fun (f : SField) =>
    if !(act && predOn b.pd f.pred f.neg) then none
    else
      let a := ldAddr b.sc f
      if f.sop = 0x36 then
        if c = 16 then (if bc8Reach s a then none else some a) else if mayRead s c a 8 then none else some a
      else if f.sop = 0x37 then
        if c = 16 then (if bc8Reach s a then none else some a) else if mayWrite s c a 8 then none else some a
      else none
  let ctl := cfield (lwControl w)
  let fetch :=
    if ctl.cop = 0x06 ∧ (act && predOn b.pd ctl.pred ctl.neg) = true then
      let a := (scGet b.sc ctl.freg).toNat
      if mayRead s c a (64 * ctl.count) then none else some a
    else none
  match bad with
  | some f => some f.inst
  | none =>
    match scal (sfield (lwScalar w .a)) with
    | some a => some a
    | none =>
      match scal (sfield (lwScalar w .b)) with
      | some a => some a
      | none => fetch

/-! ### Holds (R200) -/

/-- The registers that pending loads and multiplies will write. -/
def awaited (b : Bcn) : List Nat := (b.lds.map (·.reg) ++ b.muls.map (·.reg)).filter (· ≠ 0)

/-- The registers that the word's fields name, active or not. -/
def wordNames (w : LongWord) : List Nat :=
  cfNames (cfield (lwControl w)) ++ sfNames (sfield (lwScalar w .a)) ++ sfNames (sfield (lwScalar w .b)) ++
    ((List.range 4).flatMap fun k => let f := slotF (lwSlot w k); if f.raw = 0 then [] else f.names)

/-- The commands that wait in the queue of an engine for a context; a work-list command waits while it has pieces to hand
out. -/
def queueLen (s : State) (c cls inst : Nat) : Nat :=
  (s.cmds.filter fun m => m.c == c && m.cls == cls && m.inst == inst &&
    (m.st == .queued || (inst == 0xFF && decide (cls ≤ 2) && m.st == .running && decide (m.next < m.total)))).length

/-- The commands that a queue holds: 16, or 64 for a common work list (R201, R321). -/
def queueCap (f : SlotF) : Nat := if f.inst = 0xFF ∧ f.cls ≤ 2 then 64 else 16

/-- Every command of the attempt but held ones has completed, and every ST has landed (DRAIN, R157). -/
def drained (s : State) (c : Nat) : Bool :=
  let x := ctxOf s c
  x.bcn.sts.isEmpty && s.sigs.all (fun g => g.c != c || g.uid != x.uid) &&
    s.cmds.all fun m => m.c != c || m.uid != x.uid || m.st == .held

/-- WAITTICK's moment has come since the hold began (Table 5.9). -/
def tickCame (s : State) (b : Bcn) (sampling : Bool) : Bool :=
  b.hold == 6 &&
    if sampling then s.tide.sampled && decide (b.holdAt < samplingPoint s)
    else decide (b.holdAt < s.tide.tick)

/-- What holds the word of a context (the code of BCN_STATUS.HOLD); 0 for none. `passed` tells a wait-equal that its
tally has passed (R281), with its index. A wait of an invalid form, or on a tally outside the context's half, holds nothing:
the word is refused when it issues. -/
def wordHold (s : State) (c : Nat) : Nat × Option Nat :=
  let b := (ctxOf s c).bcn
  let w := wordAt b
  let act := bodyActive s c b.lcs b.loops
  let slots := ((List.range 4).map fun k => slotF (lwSlot w k)).filter (·.raw != 0)
  let target := fun (f : SlotF) => bf (scGet b.sc f.waitReg) 31 0
  let waiting := slots.filter fun f => (f.waitOp == 1 || f.waitOp == 2) && inHalf c f.waitTal
  let passed := waiting.find? fun f => f.waitOp == 2 && decide (target f < tallySeen s f.waitTal)
  let waits := waiting.any fun f => decide (tallySeen s f.waitTal < target f)
  let posts := slots.filter fun f => slotPosts s c act b.pd f
  let full := posts.any fun f =>
    decide (queueCap f < queueLen s c f.cls f.inst + (posts.filter fun g => g.cls == f.cls && g.inst == f.inst).length)
  let ctl := cfield (lwControl w)
  let ctlOn := act && predOn b.pd ctl.pred ctl.neg
  let code :=
    if b.fetches.any (fun f => decide (f.dst ≤ b.pc) && decide (b.pc < f.dst + f.count)) then 4
    else if (wordNames w).any (fun r => (awaited b).contains r) then 3
    else if waits then 1
    else if full then 2
    else if ctlOn && (ctl.cop == 0x07 || (ctl.cop == 0x08 && c != 16 && !(ctxOf s c).committed)) && !drained s c then 5
    else if ctlOn && ctl.cop == 0x0A && c == 16 && !tickCame s b (ctl.raw % 2 == 1) then 6
    else 0
  (code, if code = 3 ∨ code = 4 then none else passed.map (·.waitTal))

/-- The context may issue a word in this cycle: it runs, its next issue is due, its attempt is not killed in this cycle
(R220), and in Flood mode no urgent word is ready in the same cycle (R200, R224). -/
def mayIssue (s : State) (c : Nat) : Bool :=
  let b := (ctxOf s c).bcn
  runningCtx s c && decide (b.ready ≤ s.now) &&
    (c == 16 || (decide (s.now < samplingPoint s) && !(deadlineApplies s c && decide (killTime s c ≤ s.now)))) &&
    !(c < 16 && c % 2 == 0 && floodCtx s c && runningCtx s (c + 1) &&
      decide ((ctxOf s (c + 1)).bcn.ready ≤ s.now) && (wordHold s (c + 1)).1 == 0)

/-- The field of BCN_HOLDS that counts a hold, by the code of BCN_STATUS.HOLD: its lowest bit. -/
def holdLo (h : Nat) : Option Nat :=
  match h with
  | 1 => some 48
  | 2 => some 32
  | 3 => some 16
  | 4 => some 0
  | _ => none

/-- The span of a hold is counted in BCN_HOLDS when it ends, in units of 16 cycles (Table of BCN_HOLDS); what is below a
unit is carried to the stall's next hold of the same kind. -/
def countHold (s : State) (c : Nat) : State :=
  let b := (ctxOf s c).bcn
  match holdLo b.hold with
  | none => s
  | some lo =>
    if c = 16 then s
    else
      let n := (s.now - b.holdAt) / 625 + Tab.getD 0 b.hold (stallOf s (c / 2)).holdRest
      modStall (rbump s .bcnHolds (lo + 15) lo (c / 2) (n / 16)) (c / 2) fun x =>
        { x with holdRest := Tab.put b.hold (n % 16) x.holdRest }

/-- Tries to issue the word of a context. A word in its issue cycle stays; a word that holds issues no field (R200); a word
that nothing holds any more is checked, and an exception or a breach of reach issues no field either (R214, R215, R145). -/
def tryIssue (s : State) (c : Nat) : State :=
  let x := ctxOf s c
  if x.bcn.iss.isSome || !mayIssue s c then s
  else
    match wordHold s c with
    | (_, some tal) => stepFail (talErr s 0x31 x.req.step tal) .tal c 0x31 tal
    | (0, none) =>
      match wordExc s c with
      | some (code, field) => raiseExc s c code field
      | none =>
        match wordReach s c with
        | some a => violation s .bcn a
        | none =>
          modBcn (countHold s c) c fun b =>
            { b with hold := 0, iss := some { at_ := s.now, sc := b.sc, pd := b.pd, lcs := b.lcs, loops := b.loops, done := [] } }
    | (h, none) =>
      if x.bcn.hold = h then s
      else modBcn (countHold s c) c fun b => { b with hold := h, holdAt := s.now }

/-- Carries out one field of the word of a context: the word issues where it has not yet, and a field that the issue
cycle still has to carry out takes its effect. `want` tells whether the field is the one the command names. -/
def doField (s : State) (c field : Nat) (want : LongWord → Bool) (eff : Issue → State → State) : State :=
  if !want (wordAt (ctxOf s c).bcn) then s
  else
    let s := tryIssue s c
    match (ctxOf s c).bcn.iss with
    | none => s
    | some i =>
      if i.done.contains field then s
      else
        eff i (modBcn s c fun b => { b with iss := b.iss.map fun i => { i with done := field :: i.done } })

/-! ### Scalar fields -/

/-- The number of a scalar field (BCN_EXC.FIELD). -/
def fldNo : Fld → Nat
  | .a => 1
  | .b => 2

/-- One scalar operation of a context's word (R193): `eff` is its effect where the field is active. -/
def scalarCmd (sop : Nat) (c : Nat) (f : Fld) (eff : Issue → SField → State → State) (off : Issue → SField → State → State)
    (s : State) : State :=
  doField s c (fldNo f) (fun w => (sfield (lwScalar w f)).sop == sop) fun i s =>
    let fd := sfield (lwScalar (wordAt (ctxOf s c).bcn) f)
    if bodyActive s c i.lcs i.loops && predOn i.pd fd.pred fd.neg then eff i fd s else off i fd s

/-- Writes a scalar register of a context. -/
def putSc (s : State) (c r : Nat) (v : Word) : State := modBcn s c fun b => { b with sc := scPut b.sc r v }
/-- Writes a predicate of a context. -/
def putPd (s : State) (c p : Nat) (v : Bool) : State := modBcn s c fun b => { b with pd := pdPut b.pd p v }

/-- The second operand: SRCB, or the immediate. -/
def opB (i : Issue) (f : SField) : Word := if sopImm f.sop then f.imm else scGet i.sc f.srcb

/-- A two-operand operation by its code (Table 5.7). -/
def aluCmd (sop : Nat) (c : Nat) (f : Fld) (s : State) : State :=
  scalarCmd sop c f (fun i fd s => putSc s c fd.dst (alu (sop % 0x20) (scGet i.sc fd.srca) (opB i fd))) (fun _ _ s => s) s

/-- A multiply by its code: the result is usable 3 cycles after issue (Table 5.7). -/
def mulCmd (sop : Nat) (c : Nat) (f : Fld) (s : State) : State :=
  scalarCmd sop c f (fun i fd s =>
    let v := alu (sop % 0x20) (scGet i.sc fd.srca) (opB i fd)
    let p : PendReg := { reg := fd.dst, val := v, at_ := i.at_ + cyc 3, write := true }
    modBcn s c fun b => { b with muls := b.muls ++ [p] }) (fun _ _ s => s) s

/-- A compare by its code. -/
def cmpCmd (sop : Nat) (c : Nat) (f : Fld) (s : State) : State :=
  scalarCmd sop c f (fun i fd s =>
    putPd s c (fd.dst % 16) (compare_ (0x10 + (sop % 0x20 - 0x10)) (scGet i.sc fd.srca) (opB i fd))) (fun _ _ s => s) s

/-- A predicate operation by its code. -/
def pdCmd (sop : Nat) (c : Nat) (f : Fld) (s : State) : State :=
  scalarCmd sop c f (fun i fd s =>
    putPd s c (fd.dst % 16) (predOp sop (pdGet i.pd (fd.srca % 16)) (pdGet i.pd (fd.srcb % 16)))) (fun _ _ s => s) s

/-- The first moment of a context's rotation slot at or after a moment, in whole cycles (R202); BC8 uses slots that their
owner leaves idle. -/
def slotWait (s : State) (c at_ : Nat) : Nat :=
  if c = 16 then 0 else ((stallNo c) + 8 - (at_ - s.tide.tick) / 625 % 8) % 8

/-- The moment from `at_` on at which the bay schedule lets an access of stall n use its resources (R73-R75); none where no
bay of the tide takes it. -/
def bayCross (s : State) (n : Nat) (res : List Nat) (at_ : Nat) : Option Nat :=
  if res.isEmpty then some at_
  else
    (List.range s.tide.bays).findSome? fun b =>
      let x := max at_ (bayStartAt s b)
      if bayOccurs s b && (res.all fun r => bayAllows s n b r) && decide (x + beats 32 < bayEndAt s b) then some x else none

/-- The moment at which a Beacon access to an address crosses out of its domain: the rotation slot, then the bay and
refresh holds (R74, R75, R87); none where no bay of the tide takes it. -/
def crossAt (s : State) (c a at_ : Nat) : Option Nat :=
  let base := at_ + cyc (slotWait s c at_)
  let res := match placeOf a with | some p => pathRes .ct p | none => []
  if c = 16 then some (afterBlackout s a base)
  else
    match bayCross s (stallNo c) res base with
    | none => none
    | some x => if afterBlackout s a x = x then some x else (bayCross s (stallNo c) res (afterBlackout s a x)).map (afterBlackout s a)

/-- The load latency of Table 5.10 after the rotation slot, in cycles; HBM where the address names no memory (R211). -/
def ldCycles (a : Nat) : Nat :=
  match unitOf a with
  | .tile _ _ => 112
  | .loft _ => 128
  | _ => 352

/-- The store latency of Table 5.10 after the rotation slot, in cycles. -/
def stCycles (a : Nat) : Nat :=
  match unitOf a with
  | .tile _ _ => 112
  | .loft _ => 128
  | _ => 672

/-- LD (R194, R211): the access is issued and its data is usable later; an inactive Neap LD holds its destination as
long and writes nothing. -/
def ldCmd (c : Nat) (f : Fld) (s : State) : State :=
  scalarCmd 0x36 c f
    (fun i fd s =>
      let a := ldAddr i.sc fd
      match crossAt s c a i.at_ with
      | none => stepFail s .bcn c 0x02 a
      | some x => modBcn s c fun b => { b with lds := b.lds ++
          [{ reg := fd.dst, val := word a, at_ := x + cyc (ldCycles a), write := true }] })
    (fun i fd s =>
      if floodLoops s c then s
      else
        let a := ldAddr i.sc fd
        modBcn s c fun b => { b with lds := b.lds ++
          [{ reg := fd.dst, val := word a, at_ := i.at_ + cyc (slotWait s c i.at_ + ldCycles a), write := false }] }) s

/-- ST (R194): the store is issued and lands later. -/
def stCmd (c : Nat) (f : Fld) (s : State) : State :=
  scalarCmd 0x37 c f
    (fun i fd s =>
      let a := ldAddr i.sc fd
      match crossAt s c a i.at_ with
      | none => stepFail s .bcn c 0x02 a
      | some x => modBcn s c fun b => { b with sts := b.sts ++
          [{ addr := a, val := scGet i.sc fd.dst, cross := x, at_ := x + cyc (stCycles a) }] })
    (fun _ _ s => s) s

/-- The moment of a MUL result has come: the first that is due writes its register. -/
def mulReady (s : State) (c : Nat) : State :=
  match (ctxOf s c).bcn.muls.find? (fun p => decide (p.at_ ≤ s.now)) with
  | none => s
  | some p => putSc (modBcn s c fun b => { b with muls := b.muls.erase p }) c p.reg p.val

/-- LD data is usable: the first that is due; `rd` reads the 8 bytes (a register for BC8). -/
def ldUsable (rd : State → Nat → Word × State) (s : State) (c : Nat) : State :=
  match (ctxOf s c).bcn.lds.find? (fun p => decide (p.at_ ≤ s.now)) with
  | none => s
  | some p =>
    let s := modBcn s c fun b => { b with lds := b.lds.erase p }
    if p.write then let (v, s) := rd s p.val.toNat; putSc s c p.reg v else s

/-- A store lands: the oldest of the context, where it is due (R235); `wr` writes the 8 bytes. -/
def stLand (wr : State → Nat → Word → State) (s : State) (c : Nat) : State :=
  match (ctxOf s c).bcn.sts with
  | [] => s
  | p :: rest =>
    if p.at_ ≤ s.now then wr (modBcn s c fun b => { b with sts := rest }) p.addr p.val else s

/-! ### Issue slots -/

/-- The delay in cycles until a post reaches its queue (Table 5.10). -/
def postDelay (cls : Nat) : Nat :=
  if cls = 0 then 16 else if cls ≤ 2 then 24 else if cls ≤ 8 then 28 else 4

/-- A SIG_OP 2 signal issues: it changes its tally 2 cycles later (Table 5.10). -/
def issueSignal (s : State) (c at_ tal add : Nat) : State :=
  if add = 0 then s
  else
    let g : PendSig := { id := s.nextId, c := c, uid := (ctxOf s c).uid, tal := tal, add := add, at_ := at_ + cyc 2 }
    { s with sigs := s.sigs ++ [g], nextId := s.nextId + 1 }

/-- A command is posted to the queue of its engine (R204). -/
def postCmd (s : State) (c at_ : Nat) (f : SlotF) (addr : Nat) (null : Bool) : State :=
  let m : Cmd :=
    { id := s.nextId, c := c, uid := (ctxOf s c).uid, cls := f.cls, inst := f.inst, addr := addr
      len := 64 * (f.dlen + 1), null := null, sigTal := f.sigTal, sigAdd := if f.sigOp = 1 then f.sigAdd else 0
      arrive := at_ + cyc (postDelay f.cls), st := .queued, doneAt := 0, left := 0, desc := []
      rows := [], next := 0, total := 0, unfixed := false }
  { s with cmds := s.cmds ++ [m], nextId := s.nextId + 1 }

/-- A slot of the word in its issue cycle (R204, R206, R211, R212, R843). -/
def slotEffect (c k : Nat) (i : Issue) (s : State) : State :=
  let f := slotF (lwSlot (wordAt (ctxOf s c).bcn) k)
  let act := bodyActive s c i.lcs i.loops
  let on := slotOn act i.pd f
  let addr := slotAddr i.sc f
  let sig := if f.sigOp = 0 then 0 else f.sigAdd
  if f.empty then issueSignal s c i.at_ f.sigTal sig
  else if !on && floodLoops s c then issueSignal s c i.at_ f.sigTal sig
  else if c < 16 && (ctxOf s c).committed then
    issueSignal (logAccess s .stl 0x05 addr (stallReqCode (stallNo c))) c i.at_ f.sigTal sig
  else
    let s := postCmd s c i.at_ f addr (!on)
    if f.sigOp = 2 then issueSignal s c i.at_ f.sigTal f.sigAdd else s

/-- SLOT_POST (R204): slot k of the word, after the slots before it that are not NOPs. -/
def slotCmd (c k : Nat) (s : State) : State :=
  doField s c (k + 3)
    (fun w => decide (k < 4) && lwSlot w k != 0 &&
      (List.range k).all fun j => lwSlot w j == 0 ||
        (match (ctxOf s c).bcn.iss with | some i => i.done.contains (j + 3) | none => false))
    (slotEffect c k)

end Sys2Proof.Machine
end

