-- ==== Sys2Proof/Machine/Steps.lean ====
section
/-! DEFINITION. Steps and attempts (chapters 4 and 16): requests, starts and their checks, kills, pre-emption, the commit
point, and what drains after it. -/

namespace Sys2Proof.Machine

/-! ### Held transfers and the commit point -/

/-- The spans of a transfer's TLPs: at most 512 bytes (the maximum payload) and none crossing a 4 KiB host boundary
(R636); host address, offset and length of each. -/
def tlpCuts (max_ : Nat) : Nat → Nat → Nat → Nat → List (Nat × Nat × Nat)
  | 0, _, _, _ => []
  | fuel + 1, dst, off, len =>
    if len = 0 then []
    else
      let n := min len (min max_ (4096 - dst % 4096))
      (dst, off, n) :: tlpCuts max_ fuel (dst + n) (off + n) (len - n)

/-- Issues one held transfer: its source is read from HBM and its writes wait in ascending address order (R638). -/
def issueHeld (s : State) (c : Nat) (drain : Option (Nat × Nat)) (h : Held) : State :=
  match h.note with
  | some v =>
    postEvent s h.fn (eventBytes s 0x06 (c % 2) h.req.step h.req.tag 0 0 h.attempt h.variant h.req.echo 0 v.toNat) 2
  | none =>
    withBytes s .hau h.src h.len fun bytes s =>
      (tlpCuts 512 (h.len + 1) h.dst 0 h.len).foldl (fun s cut =>
        hostEnqueue s { fn := h.fn, addr := cut.1, bytes := slice bytes cut.2.1 cut.2.2, urgent := false, vec := none,
                        isMsix := false, drain := drain, census := none }) s

/-- The number of writes that a held transfer makes. -/
def heldWrites (h : Held) : Nat :=
  match h.note with | some _ => 0 | none => (tlpCuts 512 (h.len + 1) h.dst 0 h.len).length

/-- The staged slots flip: SIDE is inverted in every slot of the mask (R157), the staged buffers pass to the table, and
the pages of a key/value slot that the new count array names pass with it (R263). -/
def flipSlots (s : State) (c : Nat) : State :=
  let x := ctxOf s c
  let n := stallNo c
  x.staged.foldl (fun s j =>
    let p := pubOf s n j
    let s := setPub s n j { p with side := !p.side, sideC := p.side, invalid := false }
    let own := fun s h => if h = 0 then s else
      { s with bufs := Tab.put (keyOf h) { bufOf s (keyOf h) with uid := 0 } s.bufs }
    own (own s p.h0) p.h1) s

/-- The page handles that a count array of a table names. -/
def kvPages (s : State) (table : Nat) (h : KvHead) (k : Nat) : List Nat :=
  (List.range h.rows).flatMap fun row =>
    let pages := (kvCounts s table h k row).2
    (List.range h.layers).flatMap fun layer => (List.range pages).map fun page =>
      leNat (readMem s (table + kvEntryOff h row layer page) 4)

/-- What a commit does to the pages of a key/value slot (R263): pages that the new current array names pass to the table,
pages that only the former one named return. -/
def kvCommit (s : State) (n j : Nat) : State :=
  let p := pubOf s n j
  if !p.kv then s
  else
    let table := kvTableAddr s n j
    let h := kvHeadOf (readMem s table 16)
    let new := kvPages s table h p.side.toNat
    let old := kvPages s table h (!p.side).toNat
    let s := new.foldl (fun s hd => { s with bufs := Tab.put (keyOf hd) { bufOf s (keyOf hd) with uid := 0 } s.bufs }) s
    (old.filter fun hd => !new.contains hd).foldl (fun s hd => freeHandle s hd) s

/-- The handles of the row buffers that a stream table names (Table 15.3). -/
def streamRows (s : State) (table : Nat) : List Nat :=
  (List.range 3).flatMap fun i =>
    let at_ := table + 256 + 528 * i
    if fieldAt (readMem s at_ 1) 0 1 = 0 then []
    else ((List.range 64).map fun r => leNat (readMem s (at_ + 16 + 8 * r) 4)).filter (· ≠ 0)

/-- The row buffers of the stream table on a side of a slot. -/
def sideRows (s : State) (p : PubSlot) (side : Bool) : List Nat :=
  if p.stream side && p.handle side != 0 then streamRows s (keySpan s (keyOf (p.handle side))).1 else []

/-- What a commit does to the row buffers of a stream (R595): those that the new current table names pass to it, those that
only the former one names return. -/
def streamCommit (s : State) (n j : Nat) : State :=
  let p := pubOf s n j
  let new := sideRows s p p.side
  let old := if p.stream p.side then sideRows s p (!p.side) else []
  let s := new.foldl (fun s hd => { s with bufs := Tab.put (keyOf hd) { bufOf s (keyOf hd) with uid := 0 } s.bufs }) s
  (old.filter fun hd => !new.contains hd).foldl (fun s hd => freeHandle s hd) s

/-- The commit point of a step (R157, R159, R160, R175): the entry and its mask, the flip, the buffers outside the table
return, the held transfers are issued, and the OUTCOME event follows. An echo run publishes nothing and sets only ECHO. The
commit point is the core cycle after the commit command's; it takes effect with the command. -/
def commitPoint (s : State) (c : Nat) : State :=
  let x := ctxOf s c
  let n := stallNo c
  let s := modCtx s c fun y => { y with committed := true, commitT := s.now + cyc 1 }
  let s := if c < 16 then
      rput s .bcnCycles (word (x.req.step * 2 ^ 48 + ((s.now + cyc 1 - x.startT) / 625) % 2 ^ 48)) n
    else s
  if x.req.echo then
    let e := cmtOf s n (x.req.step % 64)
    let s := setCmt s n (x.req.step % 64) (setBit e.w 31 true) e.mask
    let s := x.staged.foldl (fun s j => unstage s n x.uid j) s
    let s := freeHeldBy (modCtx s c fun y => { y with staged := [], held := [] }) x.uid
    let s := { s with cmds := s.cmds.filter fun m => !(m.uid == x.uid && m.st == .held) }
    postOutcome s c x.req x.attempt (variantNow x) 1 0
  else
    let transfers := x.held.filter (·.note.isNone)
    let mask := word ((x.staged.map fun j => 2 ^ j).sum)
    let s := setCmt s n (x.req.step % 64)
      (cmtWord (tideNo s) 0 (variantNow x) x.attempt false x.req.urgent transfers.isEmpty 1 x.req.step) mask
    let s := x.staged.foldl (fun s j => streamCommit (kvCommit s n j) n j) (flipSlots s c)
    let s := freeHeldBy s x.uid
    let s := postOutcome s c x.req x.attempt (variantNow x) 1 0
    let s := if transfers.isEmpty then s
      else modStall s n fun st =>
        let d : Drain := { req := x.req, attempt := x.attempt, variant := variantNow x, held := transfers
                           left := (transfers.map heldWrites).sum }
        { st with drains := st.drains ++ [d] }
    let s := x.held.foldl (fun s h => issueHeld s c (some (n, x.req.step)) h) s
    let s := { s with cmds := s.cmds.map fun m =>
      if m.uid = x.uid ∧ m.cls = 11 ∧ m.st = .held then { m with st := .finished, doneAt := s.now } else m }
    hostFlush (modCtx s c fun y => { y with held := [], staged := [] })

/-- The attempt of a context ends (END after the commit point, or the end of an urgent step): the context is idle. -/
def endAttempt (s : State) (c : Nat) : State :=
  let x := ctxOf s c
  let s := landStores (dropWork s x.uid) c
  let s := freeHeldBy s x.uid
  setCtx s c { Ctx.clear with lastStep := x.req.step, ranThisTide := x.ranThisTide, req := x.req, attempt := x.attempt }

/-- HOST_TRANSFER_DRAINED (R160, R174): the last write of the oldest committed step that drains has left: DRAINED is set
in its entry and a DRAINED event is posted. -/
def transferDrained (s : State) (n : Nat) : State :=
  match (stallOf s n).drains with
  | [] => s
  | d :: rest =>
    let e := cmtOf s n (d.req.step % 64)
    let s := if bf e.w 11 0 = d.req.step ∧ bf e.w 28 26 = 1 then setCmt s n (d.req.step % 64) (setBit e.w 29 true) e.mask else s
    let s := modStall s n fun st => { st with drains := rest }
    let c := 2 * n + d.req.urgent.toNat
    let x := ctxOf s c
    let own := fun (m : Cmd) => x.committed && x.req.step == d.req.step && m.uid == x.uid && m.st == .held
    let s := { s with cmds := s.cmds.map fun m => if own m then { m with st := .finished, doneAt := s.now } else m }
    postEvent s n (eventBytes s 0x03 d.req.urgent.toNat d.req.step d.req.tag 0 0 d.attempt d.variant d.req.echo 0 0) 1

/-- HOST_TRANSFER_DRAINED (R160). -/
def execHostTransferDrained (n : Nat) (t : Nat) (s : State) : Host.Outcome State Fault Refusal :=
  whenEnabled t (fun s => decide (n < 8) && (match (stallOf s n).drains with | d :: _ => d.left == 0 | [] => false))
    (fun s => transferDrained s n) s

/-! ### Starting an attempt (R150, R187, R279, R292) -/

/-- The entry point of an attempt (R187). -/
def entryOf (s : State) (n : Nat) (fallback : Bool) : Nat :=
  bf (if fallback then rget s .stlFbEntry n else rget s .stlEntry n) 47 0

/-- The long words that a span of memory holds, from an index of the word store on. -/
def loadWords (bytes : List Byte) (at_ : Nat) (ws : Tab LongWord) : Tab LongWord :=
  (chunks 64 bytes).zipIdx.foldl (fun ws p =>
    let v := BitVec.ofNat 512 (leNat p.1)
    if v = 0 then Tab.del (at_ + p.2) ws else Tab.put (at_ + p.2) v ws) ws

/-- The preset registers of an attempt (R187). -/
def presets (s : State) (c : Nat) (req : StepReq) (attempt variant : Nat) : Tab Word :=
  let sc := scPut [] 1 req.arg
  let sc := scPut sc 2 (word req.step)
  let sc := scPut sc 3 (word attempt)
  let sc := scPut sc 4 (word variant)
  scPut sc 5 (word (req.urgent.toNat + 2 * req.echo.toNat + 4 * (floodCtx s c).toNat))

/-! ### Kill notices that arrive (R523) -/

/-- A step ends by a kill notice: it is not told to its group again. -/
def endByNotice (s : State) (c cause : Nat) : State := stepFail (modCtx s c fun x => { x with group := [] }) .stl c cause

/-- The attempt that follows a notice with NEXT 1 (`fallback`) or NEXT 2: it starts 4,000 ns after the kill or the
release, and a re-run of a primary attempt counts as a first attempt (R182). -/
def noticeNext (s : State) (c : Nat) (fallback : Bool) : NextAttempt :=
  let x := ctxOf s c
  let fb := fallback || x.variant == 1
  { at_ := s.now + ns 4000, fallback := fb, number := x.attempt + 1, first := !fb, notice := false, monitor := false }

/-- A kill notice acts on the running attempt of a context. -/
def noticeKill (s : State) (c next cause : Nat) : State :=
  match next with
  | 0 => endByNotice s c cause
  | 1 => if hasFallback s (stallNo c) then killFor s c (noticeNext s c true) else endByNotice s c 0x05
  | 2 => killFor s c (noticeNext s c false)
  | _ => modCtx (stopAttempt s c none none) c fun y => { y with after := .held }

/-- A kill notice acts on a held step: NEXT 2 releases it, NEXT 0 ends it, NEXT 1 starts its fall-back attempt. -/
def noticeHeld (s : State) (c next cause : Nat) : State :=
  let go := fun (s : State) (fb : Bool) =>
    let nx := noticeNext s c fb
    modCtx s c fun y =>
      if y.st = .held then { y with st := .between, next := some nx } else { y with after := .between, next := some nx }
  match next with
  | 0 => endByNotice s c cause
  | 1 => if hasFallback s (stallNo c) then go s true else endByNotice s c 0x05
  | 2 => go s false
  | _ => s

/-- A notice body names the present step and attempt of a context. -/
def noticeNames (x : Ctx) (b : List Byte) : Bool :=
  x.req.step == fieldAt b 0 2 % 4096 && x.attempt % 4 == fieldAt b 2 1 % 4

/-- A held notice for the attempt that has just started is applied (R523). -/
def applyHeldKill (s : State) (c : Nat) : State :=
  match Tab.find c s.heldKill with
  | none => s
  | some b =>
    if noticeNames (ctxOf s c) b then
      noticeKill { s with heldKill := Tab.del c s.heldKill } c (fieldAt b 2 1 / 4 % 4) (fieldAt b 3 1)
    else s

/-- A kill notice arrives for a context (R523): it acts on the attempt it names, or is held for one not yet started, or is
discarded. Which attempts are not yet started is read as Table 7.4 reads it for remote adds. -/
def noticeArrive (s : State) (c : Nat) (b : List Byte) : State :=
  let x := ctxOf s c
  let next := fieldAt b 2 1 / 4 % 4
  let held := x.st == .held || (x.st == .killing && x.after == .held && x.cause.isNone)
  if x.st == .running && noticeNames x b then noticeKill s c next (fieldAt b 3 1)
  else if held && noticeNames x b then noticeHeld s c next (fieldAt b 3 1)
  else if classifyAdd s c (fieldAt b 0 2 % 4096) (fieldAt b 2 1 % 4) = .park then
    match Tab.find c s.heldKill with
    | some old => if fieldAt old 2 1 / 4 % 4 = 0 then s else { s with heldKill := Tab.put c b s.heldKill }
    | none => { s with heldKill := Tab.put c b s.heldKill }
  else s

/-! ### The start itself -/

/-- The dealing positions and loose trackers of a stall restart at each attempt start (R318, R329). -/
def restartTiles (x : Tiles) (n : Nat) : Tiles :=
  { x with deal := Tab.delRange (2 * n) (2 * n + 2) x.deal
           trackers := Tab.delRange (16 * n * 2 ^ 64) (16 * (n + 1) * 2 ^ 64) x.trackers }

/-- An attempt starts (R187): a fresh context on a beat edge, presets, tallies at 0, the parked adds, and the first 256
words of its program, which must lie in one extent of the stall (R188). Its first word issues 1,000 ns later (R154). -/
def startAttempt (s : State) (c : Nat) (nx : NextAttempt) : State :=
  let x := ctxOf s c
  let n := stallNo c
  let st := beatUp s.now
  let variant := if nx.fallback then 1 else 0
  let y : Ctx :=
    { Ctx.clear with
      st := .running, req := x.req, attempt := nx.number, uid := s.nextUid, variant := variant, startT := st
      s0 := st, first := nx.first, ranThisTide := true, lastStep := x.req.step
      group := x.group
      bcn := { Bcn.clear with sc := presets s c x.req nx.number variant, ready := st + us 1 } }
  let s := setCtx { s with nextUid := s.nextUid + 1, tiles := restartTiles s.tiles n } c y
  let s := if nx.monitor then rmod s .tidMiss (fun w => setBit w (8 + n) true) else s
  let s := if nx.notice then
      { s with notices := s.notices ++ [{ c := c, step := x.req.step, attempt := nx.number - 1, next := 2, cause := 0,
                                          chips := x.group }] }
    else s
  let s := applyPark (clearHalf s c) c
  let a := entryOf s n nx.fallback
  let s := if (ctxOf s c).st == .running then applyHeldKill s c else s
  if (ctxOf s c).st != .running then s
  else if !inExtentOf s n a 16384 then violation s .bcn a
  else withBytes s .bcn a 16384 fun bytes s => modBcn s c fun b => { b with words := loadWords bytes 0 [] }

/-- The next attempt of a context starts, or the step ends where it would need a fifth attempt in one tide (R165). -/
def startNext (s : State) (c : Nat) : State :=
  match (ctxOf s c).next with
  | none => s
  | some nx => if 4 ≤ nx.number then stepFail s .stl c 0x06 else startAttempt s c nx

/-- An attempt may start at this moment: after a tick and before the sampling point (R77). -/
def tideOpen (s : State) : Bool := s.tide.running && !s.tide.sampled && decide (s.now < samplingPoint s)

/-- ATTEMPT_START (R187). -/
def execAttemptStart (c : Nat) (t : Nat) (s : State) : Host.Outcome State Fault Refusal :=
  whenEnabled t (fun s => decide (c < 16) && tideOpen s && (ctxOf s c).st == .between &&
      due ((ctxOf s c).next.map (·.at_)) s.now)
    (fun s => startNext s c) s

/-! ### Step requests (R628-R631) -/

/-- The request that 64 bytes hold (Table 16.5). -/
def reqOf (b : List Byte) : StepReq :=
  let f := fieldAt b 1 1
  { urgent := f % 2 == 1, echo := f / 2 % 2 == 1, step := fieldAt b 2 2 % 4096, tag := fieldAt b 4 4,
    arg := word (fieldAt b 8 8) }

/-- A request is well formed (FORM of Table 16.7). -/
def reqForm (b : List Byte) : Bool :=
  (List.range 16).all (fun i => b.getD (16 + i) 0#8 == ~~~ (b.getD i 0#8)) && fieldAt b 0 1 == 1 &&
    decide (fieldAt b 1 1 < 4) && decide (fieldAt b 2 2 < 4096) && allZero (slice b 32 32)

/-- The refusal cause of a request (Table 16.7); 0 for none. -/
def refusal (s : State) (n : Nat) (b : List Byte) : Nat :=
  let r := reqOf b
  if !reqForm b then 0x01
  else if !(s.img.inForce && s.img.isSealed) then 0x02
  else if s.pwr.fold.isSome then 0x03
  else if r.urgent then (if (stallOf s n).urgentReq.isSome then 0x04 else 0)
  else if 16 ≤ (stallOf s n).queue.length then 0x04 else 0

/-- A step doorbell (R628-R630, R643). -/
def stepDoorbell (s : State) (fn : Nat) (bytes : List Byte) : State :=
  if bytes.length ≠ 64 ∨ (fnOf s fn).bme = false then rbump s .hifFnStat 63 48 fn
  else
    let r := reqOf bytes
    let cause := refusal s fn bytes
    let s := if cause ≠ 0 then rbump s .hifFnStat 31 16 fn
      else if r.urgent then modStall s fn fun st => { st with urgentReq := some r }
      else modStall s fn fun st => { st with queue := st.queue ++ [r] }
    postEvent s fn (eventBytes s 0x01 r.urgent.toNat r.step r.tag (if cause = 0 then 1 else 2) cause 0 0 false 0 0) 2

/-- STEP_DB (R628). -/
def execStepDb (fn : Nat) (bytes : List Byte) (t : Nat) (s : State) : Host.Outcome State Fault Refusal :=
  whenEnabled t (fun s => decide (fn < 8) && reachable s (.vf (Fin.ofNat 8 fn))) (fun s => stepDoorbell s fn bytes) s

/-- Stall n owns a Deckarok port in its share (R16). -/
def ownsPort (s : State) (n : Nat) : Bool :=
  (List.range 32).any fun p => portOwner s (p % 4) (p / 4) == n && rfield s .dklCfg 1 0 (p / 4) (p % 4) != 0

/-- A lock-out persists (BWR_STATUS.LOCKOUT). -/
def lockedOut (s : State) : Bool := bitAt (rget s .bwrStatus) 63

/-- Stall n is changed by the partial image that applies at the coming tick (R129). -/
def imageChanges (s : State) (n : Nat) : Bool :=
  s.img.changes.testBit n && decide (s.img.pending.isSome) &&
    (s.img.applying || decide (s.img.applyTide = tideNo s + 1) || (decide (s.img.applyTide = 0) && !s.tide.sampled))

/-- The cause of the first start check that a step fails (R631); 0 for none. -/
def startCause (s : State) (c : Nat) (r : StepReq) : Nat :=
  let n := stallNo c
  let e := cmtOf s n (r.step % 64)
  let same := decide (bf e.w 11 0 = r.step) && decide (bf e.w 28 26 = 1)
  if !assigned s n then 0x0C
  else if 64 ≤ (stallOf s n).stepsThisTide then 0x03
  else if imageChanges s n then 0x04
  else if lockedOut s && ownsPort s n then 0x0D
  else if r.urgent && (ctxOf s (2 * n + 1)).st != .idle then 0x09
  else if r.echo then (if same then 0 else 0x08)
  else if same then 0x07 else 0

/-- A step that fails its start ends at once: no attempt runs (R631). The context it would have used is not disturbed. -/
def failAtStart (s : State) (c : Nat) (r : StepReq) (cause : Nat) : State :=
  let s := logRaw s (some c) 3 .stl cause 0 0
  let s :=
    if cause = 0x07 ∨ cause = 0x08 ∨ r.echo = true then s
    else setCmt s (stallNo c) (r.step % 64)
      (cmtWord (tideNo s) cause 0 0 false r.urgent false 2 r.step) 0
  postOutcome s c r 0 0 2 cause

/-- The attempt that follows a displaced one (R164): one number above it, of the same variant. -/
def displaced (x : Ctx) (nx : NextAttempt) : NextAttempt :=
  { nx with number := nx.number + 1, first := !nx.fallback, notice := !x.group.isEmpty, monitor := false }

/-- The primary context of a Neap stall when an urgent step starts (R164, R181): the moment at which the urgent step's
attempt starts, and the state. -/
def preempt (s : State) (n : Nat) : State × Nat :=
  let c := 2 * n
  let x := ctxOf s c
  if floodOf s n then (s, s.now)
  else
    match x.st with
    | .running =>
      if x.committed then (endAttempt s c, s.now)
      else
        let nx : NextAttempt := { at_ := 0, fallback := x.variant == 1, number := x.attempt + 1, first := x.variant == 0
                                  notice := !x.group.isEmpty, monitor := false }
        let s := sendNotice s c 3 0
        (modCtx (killFor s c nx) c fun y => { y with after := .suspended }, s.now + ns 4000)
    | .killing =>
      match x.cause, x.next with
      | none, some nx =>
        let s := sendNotice s c 3 0
        (modCtx s c fun y => { y with after := .suspended, next := some (displaced x nx) }, nx.at_)
      | _, _ => (s, s.now)
    | .between =>
      match x.next with
      | some nx =>
        let s := sendNotice s c 3 0
        (modCtx s c fun y => { y with st := .suspended, next := some (displaced x nx) }, nx.at_)
      | none => (s, s.now)
    | _ => (s, s.now)

/-- A step starts in a context (R631): its checks, then its first attempt. -/
def startStep (s : State) (c : Nat) (r : StepReq) : State :=
  let n := stallNo c
  let cause := startCause s c r
  let s := if cause = 0x0C ∨ cause = 0x03 then s
    else modStall s n fun st => { st with stepsThisTide := st.stepsThisTide + 1 }
  if cause ≠ 0 then failAtStart s c r cause
  else
    let (s, at_) := if r.urgent then preempt s n else (s, s.now)
    let nx : NextAttempt := { at_ := at_, fallback := false, number := 0, first := true, notice := false, monitor := false }
    setCtx s c { Ctx.clear with st := .between, req := r, next := some nx, ranThisTide := true, lastStep := r.step }

/-- A queued request may start: steps run in this tide; a primary request waits for its context and, in Neap mode, while
an urgent step is in progress (R631). -/
def mayStart (s : State) (c : Nat) : Bool :=
  let n := stallNo c
  decide (c < 16) && s.img.inForce && s.img.isSealed && s.pwr.fold.isNone && tideOpen s &&
    if c % 2 = 1 then (stallOf s n).urgentReq.isSome
    else !(stallOf s n).queue.isEmpty && (ctxOf s c).st == .idle &&
      (floodOf s n || (ctxOf s (c + 1)).st == .idle)

/-- STEP_START (R631). -/
def execStepStart (c : Nat) (t : Nat) (s : State) : Host.Outcome State Fault Refusal :=
  whenEnabled t (fun s => mayStart s c) (fun s =>
    let n := stallNo c
    if c % 2 = 1 then
      match (stallOf s n).urgentReq with
      | some r => startStep (modStall s n fun st => { st with urgentReq := none }) c r
      | none => s
    else
      match (stallOf s n).queue with
      | r :: rest => startStep (modStall s n fun st => { st with queue := rest }) c r
      | [] => s) s

/-! ### Kills -/

/-- A kill completes (R162, R279): buffers and staged sides return, the context's tallies are 0, and the step is reported
where it has ended. -/
def killDone (s : State) (c : Nat) : State :=
  let x := ctxOf s c
  let s := clearHalf (releaseAttempt s c) c
  match x.cause with
  | some k =>
    let s := postOutcome s c x.req x.attempt (variantNow x) (endStatus k) k
    setCtx s c { Ctx.clear with lastStep := x.req.step, ranThisTide := x.ranThisTide }
  | none => modCtx s c fun y => { y with st := y.after, after := .between }

/-- KILL_COMPLETE (R162). -/
def execKillComplete (c : Nat) (t : Nat) (s : State) : Host.Outcome State Fault Refusal :=
  whenEnabled t (fun s => decide (c < 16) && (ctxOf s c).st == .killing) (fun s => killDone s c) s

/-- ENGINE_STOP_TIMEOUT (R162): an engine of a killed attempt has not stopped 16,000 ns after the kill. -/
def execEngineStopTimeout (c : Nat) (t : Nat) (s : State) : Host.Outcome State Fault Refusal :=
  whenEnabled t (fun s => decide (c < 16) && (ctxOf s c).st == .killing && decide ((ctxOf s c).killT + ns 16000 ≤ s.now))
    (fun s => chipLoss s .stl 0x05 c 0) s

/-- PRIMARY_RESUME (R164): the urgent step has ended; the suspended primary step starts its next attempt at once. -/
def execPrimaryResume (n : Nat) (t : Nat) (s : State) : Host.Outcome State Fault Refusal :=
  whenEnabled t (fun s => decide (n < 8) && tideOpen s && (ctxOf s (2 * n)).st == .suspended &&
      (ctxOf s (2 * n + 1)).st == .idle)
    (fun s => startNext s (2 * n)) s

/-- The kills of an STL_KILL write: one half of its bits; a virtual function acts only on its own stall. -/
def killMask (q : Requester) (mask urgent : Nat) (s : State) : State :=
  (List.range 8).foldl (fun s n =>
    let own := match q with | .vf k => k.val == n | _ => true
    if own && mask.testBit n then stepFail s .stl (2 * n + urgent) 0x05 else s) s

/-- KILL_PRIMARY (R162). -/
def execKillPrimary (q : Requester) (mask : Nat) (t : Nat) (s : State) : Host.Outcome State Fault Refusal :=
  whenEnabled t (fun s => reachable s q) (killMask q mask 0) s

/-- KILL_URGENT (R162). -/
def execKillUrgent (q : Requester) (mask : Nat) (t : Nat) (s : State) : Host.Outcome State Fault Refusal :=
  whenEnabled t (fun s => reachable s q) (killMask q mask 1) s

/-! ### Control operations (Table 5.9) -/

/-- Every field of the word that is not an all-zero NOP has been carried out. -/
def fieldsDone (w : LongWord) (i : Issue) : Bool :=
  (lwScalar w .a == 0 || i.done.contains 1) && (lwScalar w .b == 0 || i.done.contains 2) &&
    (List.range 4).all fun k => lwSlot w k == 0 || i.done.contains (k + 3)

/-- The word ends: the open loops and counters, the next index, and when the next word may issue (Table 5.10). -/
def retire (s : State) (c : Nat) (loops : List Nat) (lcs : Tab LoopCtr) (next delay : Nat) : State :=
  modBcn s c fun b =>
    { b with loops := loops, lcs := lcs, pc := next, iss := none,
             ready := (match b.iss with | some i => i.at_ | none => s.now) + cyc delay }

/-- One control command of a context's word: the control field has the operation `cop`, every other field has been
carried out, and `eff` acts where the field is active. `eff` answers the next index and its delay, or none to go on in
order; the loops that end at this word are settled first (R199). -/
def controlCmd (cop : Nat) (c : Nat)
    (eff : Issue → CField → State → State × Option (Nat × Nat)) (s : State) : State :=
  let w := wordAt (ctxOf s c).bcn
  if (cfield (lwControl w)).cop ≠ cop then s
  else
    let s := tryIssue s c
    let b := (ctxOf s c).bcn
    match b.iss with
    | none => s
    | some i =>
      if !fieldsDone w i then s
      else
        let f := cfield (lwControl w)
        let on := bodyActive s c i.lcs i.loops && predOn i.pd f.pred f.neg
        let (loops, lcs, back) := endwStep (floodLoops s c) b.pc b.loops b.lcs
        let jumps := cop == 0x01 || cop == 0x02 || cop == 0x03 || cop == 0x04
        match back with
        | some tgt =>
          if (cop == 0 || jumps || !on) && cop != 0x05 then s
          else
            let (s, _) := eff i f s
            if (ctxOf s c).bcn.iss.isSome then retire s c loops lcs tgt 1 else s
        | none =>
          let (s, nx) := if on then eff i f s else (s, none)
          if (ctxOf s c).bcn.iss.isNone then s
          else
            match nx with
            | some (p, d) => retire s c loops lcs p d
            | none => retire s c loops lcs (b.pc + 1) 1

/-- CONTROL_NOP (R196). -/
def execControlNop (c : Nat) (t : Nat) (s : State) : Host.Outcome State Fault Refusal :=
  whenEnabled t (fun _ => true) (controlCmd 0x00 c fun _ _ s => (s, none)) s

/-- BR (R196). -/
def execBr (c : Nat) (t : Nat) (s : State) : Host.Outcome State Fault Refusal :=
  whenEnabled t (fun _ => true) (controlCmd 0x01 c fun _ f s => (s, some (f.target, 4))) s

/-- JMPR (R196). -/
def execJmpr (c : Nat) (t : Nat) (s : State) : Host.Outcome State Fault Refusal :=
  whenEnabled t (fun _ => true) (controlCmd 0x02 c fun i f s => (s, some ((scGet i.sc f.jreg).toNat, 4))) s

/-- CALL (R196). -/
def execCall (c : Nat) (t : Nat) (s : State) : Host.Outcome State Fault Refusal :=
  whenEnabled t (fun _ => true)
    (controlCmd 0x03 c fun _ f s => (modBcn s c fun b => { b with ret := (b.pc + 1) :: b.ret }, some (f.target, 4))) s

/-- RET (R196). -/
def execRet (c : Nat) (t : Nat) (s : State) : Host.Outcome State Fault Refusal :=
  whenEnabled t (fun _ => true)
    (controlCmd 0x04 c fun _ _ s =>
      (modBcn s c fun b => { b with ret := b.ret.tail }, some ((ctxOf s c).bcn.ret.headD 0, 4))) s

/-- LOOP (R208-R210, R225). In Flood mode an inactive LOOP or a trip count of 0 skips the body; in Neap mode the body
always runs BOUND times. A trip count above BOUND of an active LOOP ends the step with TRIP_BOUND. -/
def loopCmd (c : Nat) (s : State) : State :=
  let w := wordAt (ctxOf s c).bcn
  let f := cfield (lwControl w)
  if f.cop ≠ 0x05 then s
  else
    let s := tryIssue s c
    let b := (ctxOf s c).bcn
    match b.iss with
    | none => s
    | some i =>
      if !fieldsDone w i then s
      else
        let on := bodyActive s c i.lcs i.loops && predOn i.pd f.pred f.neg
        let trip := (scGet i.sc f.tripReg).toNat
        if on && decide (f.bound < trip) && c != 16 then stepFail s .bcn c 0x21
        else
          let n := if on then min trip (if c = 16 then trip else f.bound) else 0
          let l : LoopCtr := { index := 0, trip := n, bound := f.bound, endw := f.endw, start := b.pc + 1, off := !on }
          if floodLoops s c && n == 0 then retire s c b.loops b.lcs (f.endw + 1) 4
          else retire s c (f.lc :: b.loops) (Tab.put f.lc l b.lcs) (b.pc + 1) 1

/-- LOOP (R208). -/
def execLoop (c : Nat) (t : Nat) (s : State) : Host.Outcome State Fault Refusal :=
  whenEnabled t (fun _ => true) (loopCmd c) s

/-- LOOP_BACK_EDGE (R199): the word is an ENDW word whose issue takes a back-edge; a BR, JMPR, CALL or RET in it has no
effect. -/
def backEdgeCmd (c : Nat) (s : State) : State :=
  let w := wordAt (ctxOf s c).bcn
  let f := cfield (lwControl w)
  let s := tryIssue s c
  let b := (ctxOf s c).bcn
  match b.iss with
  | none => s
  | some i =>
    let on := bodyActive s c i.lcs i.loops && predOn i.pd f.pred f.neg
    let (loops, lcs, back) := endwStep (floodLoops s c) b.pc b.loops b.lcs
    match back with
    | none => s
    | some tgt =>
      if !fieldsDone w i || (on && (f.cop == 0x06 || f.cop == 0x07 || f.cop == 0x08 || f.cop == 0x09 || f.cop == 0x0A)) then s
      else retire s c loops lcs tgt 1

/-- LOOP_BACK_EDGE (R199). -/
def execLoopBackEdge (c : Nat) (t : Nat) (s : State) : Host.Outcome State Fault Refusal :=
  whenEnabled t (fun _ => true) (backEdgeCmd c) s

/-- The core cycles of a FETCH of n words from an address (Table 5.10). -/
def fetchCycles (a n : Nat) : Nat := ldCycles a + 8 * (cdiv n 2 - 1)

/-- FETCH (R198): the copy starts; words of its destination range hold until it completes. -/
def execFetch (c : Nat) (t : Nat) (s : State) : Host.Outcome State Fault Refusal :=
  whenEnabled t (fun _ => true)
    (controlCmd 0x06 c fun i f s =>
      let a := (scGet i.sc f.freg).toNat
      match crossAt s c a i.at_ with
      | none => (stepFail s .bcn c 0x02 a, none)
      | some x =>
        let p : PendFetch := { dst := f.dstw, count := f.count, addr := a, at_ := x + cyc (fetchCycles a f.count) }
        (modBcn s c fun b => { b with fetches := b.fetches ++ [p] }, none)) s

/-- FETCH_COMPLETE (R201): the oldest FETCH whose moment has come copies its words. -/
def execFetchComplete (c : Nat) (t : Nat) (s : State) : Host.Outcome State Fault Refusal :=
  whenEnabled t (fun s => (ctxOf s c).bcn.fetches.any fun f => decide (f.at_ ≤ s.now)) (fun s =>
    match (ctxOf s c).bcn.fetches.find? (fun f => decide (f.at_ ≤ s.now)) with
    | none => s
    | some f =>
      withBytes s .bcn f.addr (64 * f.count) fun bytes s =>
        modBcn s c fun b => { b with fetches := b.fetches.erase f, words := loadWords bytes f.dst b.words }) s

/-- DRAIN (R196): its condition is a hold of the word. -/
def execDrain (c : Nat) (t : Nat) (s : State) : Host.Outcome State Fault Refusal :=
  whenEnabled t (fun _ => true) (controlCmd 0x07 c fun _ _ s => (s, none)) s

/-- COMMIT (R157, R158): the commit point; after the step's commit point it has no effect and is logged; on BC8 it has no
effect (R217). -/
def execCommit (c : Nat) (t : Nat) (s : State) : Host.Outcome State Fault Refusal :=
  whenEnabled t (fun _ => true)
    (controlCmd 0x08 c fun _ _ s =>
      if c = 16 then (s, none)
      else if (ctxOf s c).committed then
        (logAccess s .stl 0x05 (ctxOf s c).bcn.pc (stallReqCode (stallNo c)), none)
      else (commitPoint s c, none)) s

/-- END (R197): after the commit point the attempt ends; before it the step fails with ABANDONED. On BC8 it has no
effect. -/
def execEndC (c : Nat) (t : Nat) (s : State) : Host.Outcome State Fault Refusal :=
  whenEnabled t (fun _ => true)
    (controlCmd 0x09 c fun _ _ s =>
      if c = 16 then (s, none)
      else if (ctxOf s c).committed then (endAttempt s c, none)
      else (stepFail s .bcn c 0x20, none)) s

/-- WAITTICK (R196): its condition is a hold of the word. -/
def execWaittick (c : Nat) (t : Nat) (s : State) : Host.Outcome State Fault Refusal :=
  whenEnabled t (fun _ => true) (controlCmd 0x0A c fun _ _ s => (s, none)) s

end Sys2Proof.Machine
end

