-- ==== Sys2Proof/Machine/Granary.lean ====
section
/-! DEFINITION. The Granary (chapter 6): handles and their check, allocation along a chain of reserves, the commands of
class 10, key/value tables, and what a fold reset rebuilds. -/

namespace Sys2Proof.Machine

/-! ### Handles (R245-R247) -/

/-- What the check of a handle finds (R247). -/
inductive HandleCheck where
  | ok
  | mismatch
  | violation
  deriving DecidableEq, Repr

/-- A handle with its complement, 8 bytes (R245). -/
def handleBytes (h : Nat) : List Byte := leBytes 4 h ++ leBytes 4 (onesComp 32 h)

/-- The check of every use of a handle by a command of stall n (R247): `h` the handle, `hc` its stored complement, and
the span of the buffer used. -/
def checkHandle (s : State) (n h hc off len : Nat) : HandleCheck :=
  let arena := bitsOf h 20 20 == 1
  let u := bitsOf h 28 24
  let ix := bitsOf h 19 0
  let w := unitReg s arena u
  let k := bufKey arena u ix
  let b := bufOf s k
  if hc ≠ onesComp 32 h then .mismatch
  else if bf w 59 40 = 0 ∨ bf w 63 61 ≠ bitsOf h 31 29 ∨ ix = 0 ∨ bf w 59 40 < ix ∨ b.alloc = false then .violation
  else if b.genC ≠ 7 - b.gen then .mismatch
  else if b.gen ≠ bitsOf h 23 21 then .violation
  else if (if arena then u / 4 else b.req / 16) ≠ n then .violation
  else if classSize (bf w 63 61) < off + len then .violation
  else .ok

/-- Goes on with the address of a span of a handle's buffer, or ends in the chip loss that the check dictates. -/
def withHandle (s : State) (src : Src) (n : Nat) (hb : Nat) (off len : Nat) (k : Nat → State → State) : State :=
  let h := hb % 2 ^ 32
  match checkHandle s n h (hb / 2 ^ 32) off len with
  | .mismatch => mismatch s src h
  | .violation => violation s src h
  | .ok => k ((keySpan s (keyOf h)).1 + off) s

/-! ### Allocation (R249-R253) -/

/-- The reserve register of requester r and class k. -/
def rsv (s : State) (r k : Nat) : Word := rget s .grnRsv (8 * r + k)

/-- The lowest free index of a range of a unit. -/
def lowestFree (s : State) (arena : Bool) (u : Nat) : Nat → Nat → Option Nat
  | _, 0 => none
  | ix, n + 1 => if (bufOf s (bufKey arena u ix)).alloc then lowestFree s arena u (ix + 1) n else some ix

/-- The buffers of a reserve that are allocated (HELD). -/
def heldCount (s : State) (r k : Nat) : Nat :=
  let w := rsv s r k
  let lo := bufKey false (bf w 52 48) (bf w 39 20)
  (s.bufs.filter fun b => b.2.alloc && decide (lo ≤ b.1) && decide (b.1 < lo + bf w 19 0)).length

/-- Marks a buffer allocated, and raises the reserve's PEAK (Table of GRN_HELD). -/
def takeBuf (s : State) (key r k c uid : Nat) : State :=
  let b := bufOf s key
  let s := { s with bufs := Tab.put key { b with alloc := true, req := r, c := c, uid := uid } s.bufs }
  if k < 8 then
    rmod s .grnHeld (fun w => setBf w 39 20 (max (bf w 39 20) (heldCount s r k))) 0 (8 * r + k)
  else s

/-- An allocation of class k by requester r: the lowest free index of its reserve, else along the chain (R249). -/
def allocBuf (s : State) (r c uid : Nat) : Nat → Nat → Option (Nat × State)
  | 0, _ => none
  | fuel + 1, k =>
    let w := rsv s r k
    match lowestFree s false (bf w 52 48) (bf w 39 20) (bf w 19 0) with
    | some ix =>
      let key := bufKey false (bf w 52 48) ix
      some (key, takeBuf s key r k c uid)
    | none => if bf w 40 40 = 1 then allocBuf s r c uid fuel (k + 1) else none

/-- A failed allocation is recorded in GRN_STATUS and ends the step (R250). -/
def allocFail (s : State) (c r k cause : Nat) : State :=
  let n := stallNo c
  let s := rmod s .grnStatus fun w =>
    setBf (setBf (setBit w (if cause = 0x28 then n else 8 + n) true) 22 16 r) 26 24 k
  stepFail s .grn c cause

/-- A page of an arena for a table of the attempt; the holder of a page is the stall (R246). -/
def allocPage (s : State) (n arena c uid : Nat) : Option (Nat × State) :=
  let a := 4 * n + arena
  let w := rget s .grnArena a
  match lowestFree s true a 1 (bf w 59 40) with
  | some ix => let key := bufKey true a ix; some (key, takeBuf s key (16 * n + 10) 8 c uid)
  | none => none

/-! ### Granary commands (Table 6.5) -/

/-- The OP of a Granary descriptor is one of the class. -/
def grnOpValid (o : Nat) : Bool := decide (1 ≤ o) && decide (o ≤ 7)

/-- The result record of a buffer: handle with complement, and its address (section "Granary commands"). -/
def resultRec (s : State) (key : Nat) : List Byte :=
  handleBytes (handleOf s key) ++ leBytes 8 (keySpan s key).1
/-- The record of the null handle, with address 0. -/
def nullRec : List Byte := handleBytes 0 ++ leBytes 8 0

/-- The bytes of results that an OP writes. -/
def resultLen (op count : Nat) : Nat :=
  match op with | 1 => 16 * count | 2 => 0 | 3 => 32 | _ => 16

/-- A Granary descriptor is well formed (R254, R842). -/
def grnDescOk (s : State) (c : Nat) (b : List Byte) : Bool :=
  let op := fieldAt b 0 1
  let cls := fieldAt b 1 1
  let charge := fieldAt b 2 1
  let slot := fieldAt b 3 1
  let count := fieldAt b 4 4
  let handle := fieldAt b 8 8
  let result := fieldAt b 16 8
  grnOpValid op && allZero (slice b 40 24) &&
  (if op == 1 || op == 3 || op == 5 then decide (cls ≤ 7) else cls == 0) &&
  (if op == 1 then decide (charge ≤ 11) else charge == 0) &&
  (if op == 3 || decide (5 ≤ op) then decide (slot < 64) else slot == 0) &&
  (if op == 1 then decide (1 ≤ count) && decide (count ≤ 64) else if decide (6 ≤ op) then true else count == 0) &&
  (if op == 2 || op == 4 then true else if decide (6 ≤ op) then decide (handle < 4096) else handle == 0) &&
  (if op == 2 then result == 0
   else result % 64 == 0 && inOwnTile s (stallNo c) result (resultLen op count)) &&
  (if op == 5 then true else allZero (slice b 24 16))

/-- A Granary command is taken: its request waits for the stall's rotation slots (R251). -/
def grnTake (c : Nat) (m : Cmd) (b : List Byte) (s : State) : State :=
  if !grnDescOk s c b then violation s .grn m.addr
  else
    let op := fieldAt b 0 1
    let n := stallNo c
    let q : GrReq :=
      { cmd := m.id, c := c, uid := m.uid, order := 16 * n + (if op = 1 then fieldAt b 2 1 else 10), op := op
        cls := fieldAt b 1 1, slot := fieldAt b 3 1, count := fieldAt b 4 4, handle := fieldAt b 8 8
        result := fieldAt b 16 8, header := slice b 24 16, null := m.null, served := 0, got := [] }
    startCmd { s with grReqs := s.grReqs ++ [q] } m.id 1

/-- The meaning of one Granary OP: the command is taken from the queue of class 10. -/
def grnCmd (op c : Nat) (s : State) : State := takeCmd s .grn c 10 0 op 64 grnOpValid (grnTake c)

/-- ALLOC (R249). -/
def execAlloc (c : Nat) (t : Nat) (s : State) : Host.Outcome State Fault Refusal := whenEnabled t (fun _ => true) (grnCmd 1 c) s
/-- RELEASE (R252). -/
def execRelease (c : Nat) (t : Nat) (s : State) : Host.Outcome State Fault Refusal := whenEnabled t (fun _ => true) (grnCmd 2 c) s
/-- STAGE (R156). -/
def execStage (c : Nat) (t : Nat) (s : State) : Host.Outcome State Fault Refusal := whenEnabled t (fun _ => true) (grnCmd 3 c) s
/-- RESOLVE (R254). -/
def execResolve (c : Nat) (t : Nat) (s : State) : Host.Outcome State Fault Refusal := whenEnabled t (fun _ => true) (grnCmd 4 c) s
/-- KV_STAGE (R257). -/
def execKvStage (c : Nat) (t : Nat) (s : State) : Host.Outcome State Fault Refusal := whenEnabled t (fun _ => true) (grnCmd 5 c) s
/-- KV_GROW (R260). -/
def execKvGrow (c : Nat) (t : Nat) (s : State) : Host.Outcome State Fault Refusal := whenEnabled t (fun _ => true) (grnCmd 6 c) s
/-- KV_TRIM (R260). -/
def execKvTrim (c : Nat) (t : Nat) (s : State) : Host.Outcome State Fault Refusal := whenEnabled t (fun _ => true) (grnCmd 7 c) s

/-! ### Serving a request -/

/-- A record is to be written 40 domain-48 cycles after the slot that produces it (R251). -/
def grnResult (s : State) (q : GrReq) (off : Nat) (bytes : List Byte) : State :=
  if q.null then s
  else { s with grWrites := s.grWrites ++ [{ cmd := q.cmd, uid := q.uid, addr := q.result + off, bytes := bytes, at_ := s.now + cyc 40 }] }

/-- The request is done: its command completes 40 cycles after its last slot. -/
def grnDone (s : State) (q : GrReq) : State :=
  finishCmd { s with grReqs := s.grReqs.filter (·.cmd ≠ q.cmd) } q.cmd (s.now + cyc 40)

/-- Slot j's current side holds a valid handle (STL_VALID). -/
def slotValid (s : State) (n j : Nat) : Bool :=
  let p := pubOf s n j
  !p.invalid && p.handle p.side != 0

/-- A key/value table header is valid and its table fits a buffer of a size (Table 6.6). -/
def kvHeadOk (s : State) (n : Nat) (b : List Byte) (size : Nat) : Bool :=
  let h := kvHeadOf b
  let tpp := kvTpp s n h
  decide (1 ≤ h.rows) && decide (h.rows ≤ 4096) && decide (1 ≤ h.layers) && decide (h.layers ≤ 128) &&
  decide (h.arena ≤ 3) && rfield s .grnArena 59 40 (4 * n + h.arena) != 0 && [1, 2, 4, 8, 16].contains h.spSize &&
  decide (h.spIndex < h.spSize) && fieldAt b 6 2 == 0 && decide (1 ≤ h.maxPages) && decide (h.maxPages ≤ 65536) &&
  decide (64 ≤ h.tokenBytes) && decide (h.tokenBytes ≤ 65536) && 2 ^ h.tokenBytes.log2 == h.tokenBytes &&
  decide (1 ≤ tpp) && decide (tpp ≤ 4096) && tpp * h.tokenBytes == kvPageSize s n h &&
  decide (kvE h + 8 * (h.rows * h.layers * h.maxPages) ≤ size)

/-- The counts of a row, written with their complements. -/
def kvCountBytes (tokens pages : Nat) : List Byte :=
  leBytes 4 tokens ++ leBytes 4 (onesComp 32 tokens) ++ leBytes 4 pages ++ leBytes 4 (onesComp 32 pages)

/-- The stored complements of a row's counts match. -/
def kvCountSound (b : List Byte) : Bool :=
  fieldAt b 4 4 == onesComp 32 (fieldAt b 0 4) && fieldAt b 12 4 == onesComp 32 (fieldAt b 8 4)

/-- STAGE is served (R156): a fresh buffer on the slot's staged side; the buffer that side held returns. -/
def serveStage (s : State) (q : GrReq) : State :=
  let n := stallNo q.c
  let p := pubOf s n q.slot
  if p.kv then stepFail s .grn q.c 0x2B
  else if (ctxOf s q.c).staged.contains q.slot then
    grnDone (grnResult s q 0 (resultRec s (keyOf (p.handle (!p.side))) ++ nullRec)) q
  else
    match allocBuf s (16 * n + 10) q.c q.uid 8 q.cls with
    | none => allocFail s q.c (16 * n + 10) q.cls 0x28
    | some (key, s) =>
      let prior := p.handle (!p.side)
      let s := freeHandle s prior
      let s := setPub s n q.slot (p.withSide (!p.side) (handleOf s key))
      let s := modCtx s q.c fun x => { x with staged := x.staged ++ [q.slot] }
      grnDone (grnResult s q 0 (resultRec s key ++ handleBytes prior ++ leBytes 8 0)) q

/-- KV_STAGE is served (R257). -/
def serveKvStage (s : State) (q : GrReq) : State :=
  let n := stallNo q.c
  let p := pubOf s n q.slot
  if (ctxOf s q.c).staged.contains q.slot then
    if p.kv then grnDone (grnResult s q 0 (resultRec s (keyOf (p.handle p.side)))) q else stepFail s .grn q.c 0x2B
  else if slotValid s n q.slot then
    if !p.kv then stepFail s .grn q.c 0x2B
    else
      let table := kvTableAddr s n q.slot
      let h := kvHeadOf (readMem s table 16)
      let s := writeMem s (table + kvCountOff h (!p.side).toNat 0) (readMem s (table + kvCountOff h p.side.toNat 0) (16 * h.rows))
      let s := modCtx s q.c fun x => { x with staged := x.staged ++ [q.slot] }
      grnDone (grnResult s q 0 (resultRec s (keyOf (p.handle p.side)))) q
  else
    match allocBuf s (16 * n + 10) q.c q.uid 8 q.cls with
    | none => allocFail s q.c (16 * n + 10) q.cls 0x28
    | some (key, s') =>
      let (addr, size) := keySpan s' key
      if !kvHeadOk s' n q.header size then stepFail s .grn q.c 0x2B
      else
        let h := kvHeadOf q.header
        let s := freeHandle (freeHandle s' p.h0) (if p.h1 = p.h0 then 0 else p.h1)
        let counts := (List.replicate (2 * h.rows) (kvCountBytes 0 0)).flatten
        let s := writeMem s addr (q.header ++ zeros 48 ++ counts)
        let hd := handleOf s key
        let s := setPub s n q.slot { (p.withSide false hd).withSide true hd with kv := true, invalid := false }
        let s := modCtx s q.c fun x => { x with staged := x.staged ++ [q.slot] }
        grnDone (grnResult s q 0 (resultRec s key)) q

/-- Pages of one token row up to a number, LAYERS pages at a time (R260): entries written, pages held by the attempt. -/
def kvAddPages (s : State) (c uid n table : Nat) (h : KvHead) (row : Nat) : List (Nat × Nat) → Option State
  | [] => some s
  | (page, layer) :: rest =>
    match allocPage s n h.arena c uid with
    | none => none
    | some (key, s) =>
      kvAddPages (writeMem s (table + kvEntryOff h row layer page) (handleBytes (handleOf s key))) c uid n table h row rest

/-- KV_GROW and KV_TRIM are served (R260). -/
def serveKvCount (s : State) (q : GrReq) (trim : Bool) : State :=
  let n := stallNo q.c
  let p := pubOf s n q.slot
  if !p.kv || !(ctxOf s q.c).staged.contains q.slot then stepFail s .grn q.c 0x2B
  else
    let table := kvTableAddr s n q.slot
    let h := kvHeadOf (readMem s table 16)
    let row := q.handle
    let at_ := table + kvCountOff h (!p.side).toNat row
    if h.rows ≤ row then violation s .grn table
    else if !kvCountSound (readMem s at_ 16) then mismatch s .grn at_
    else
      let (tokens, pages) := kvCounts s table h (!p.side).toNat row
      let tokens' := if trim then q.count else tokens + q.count
      let need := cdiv (kvLocal h tokens') (max 1 (kvTpp s n h))
      if h.maxPages < need ∨ 2 ^ 32 ≤ tokens' then stepFail s .grn q.c 0x2A
      else if trim then
        grnDone (grnResult (writeMem s at_ (kvCountBytes tokens' need)) q 0 (resultRec s (keyOf (p.handle p.side)))) q
      else
        let todo := (List.range (need - pages)).flatMap fun i => (List.range h.layers).map fun l => (pages + i, l)
        match kvAddPages s q.c q.uid n table h row todo with
        | none => allocFail s q.c (16 * n + 10) (rfield s .grnArena 63 61 (4 * n + h.arena)) 0x29
        | some s =>
          grnDone (grnResult (writeMem s at_ (kvCountBytes tokens' (max pages need))) q 0
            (resultRec s (keyOf (p.handle p.side)))) q

/-- The rotation slots that a request takes (R251, R257, R260). -/
def grnSlots (s : State) (q : GrReq) : Nat :=
  match q.op with
  | 1 => q.count
  | 5 =>
    let n := stallNo q.c
    let rows := if slotValid s n q.slot then (kvHeadOf (readMem s (kvTableAddr s n q.slot) 16)).rows else (kvHeadOf q.header).rows
    cdiv rows 4 + 1
  | 6 =>
    let n := stallNo q.c
    let p := pubOf s n q.slot
    let table := kvTableAddr s n q.slot
    let h := kvHeadOf (readMem s table 16)
    let (tokens, pages) := kvCounts s table h (!p.side).toNat q.handle
    max 1 ((cdiv (kvLocal h (tokens + q.count)) (max 1 (kvTpp s n h)) - pages) * h.layers)
  | _ => 1

/-- A handle stands in the publication table or among the pages of a key/value table of the stall (R255). -/
def handlePublished (s : State) (n h : Nat) : Bool :=
  (List.range 64).any fun j =>
    let p := pubOf s n j
    p.h0 == h || p.h1 == h || (sideRows s p false).contains h || (sideRows s p true).contains h ||
      (p.kv && (let table := kvTableAddr s n j
                let hd := kvHeadOf (readMem s table 16)
                (kvPages s table hd 0).contains h || (kvPages s table hd 1).contains h))

/-- The last slot of a request: its effect (R254). A null command uses its slots and does nothing else (R255). -/
def serveLast (s : State) (q : GrReq) : State :=
  let n := stallNo q.c
  if q.null then grnDone s q
  else
    match q.op with
    | 2 =>
      let h := q.handle % 2 ^ 32
      match checkHandle s n h (q.handle / 2 ^ 32) 0 0 with
      | .mismatch => mismatch s .grn h
      | .violation => violation s .grn h
      | .ok => if handlePublished s n h then violation s .grn h else grnDone (freeHandle s h) q
    | 3 => serveStage s q
    | 4 => withHandle s .grn n q.handle 0 0 fun _ s => grnDone (grnResult s q 0 (resultRec s (keyOf (q.handle % 2 ^ 32)))) q
    | 5 => serveKvStage s q
    | 6 => serveKvCount s q false
    | _ => serveKvCount s q true

/-- One slot of the request that is next in a stall's rotation (R251). -/
def serveOne (s : State) (q : GrReq) : State :=
  if (ctxOf s q.c).committed then
    grnDone (logAccess s .grn 0x05 q.result (stallReqCode (stallNo q.c))) { q with null := true }
  else if q.op = 1 ∧ q.null = false then
    match allocBuf s q.order q.c q.uid 8 q.cls with
    | none => allocFail s q.c q.order q.cls 0x28
    | some (key, s) =>
      let s := grnResult s q (16 * q.served) (resultRec s key)
      if q.served + 1 = q.count then grnDone s q
      else { s with grReqs := s.grReqs.map fun r => if r.cmd = q.cmd then { r with served := r.served + 1 } else r }
  else if q.served + 1 < grnSlots s q then
    { s with grReqs := s.grReqs.map fun r => if r.cmd = q.cmd then { r with served := r.served + 1 } else r }
  else serveLast s q

/-- The request that a stall's next slot serves: the lowest requester number, then the order of arrival (R251). -/
def grnNext (s : State) (n : Nat) : Option GrReq :=
  (s.grReqs.filter fun q => stallNo q.c == n).foldl (fun best q =>
    match best with
    | none => some q
    | some b => if q.order < b.order then some q else some b) none

/-- The present domain-48 cycle is a rotation slot of the stall that it has not used (R251). -/
def grnSlotNow (s : State) (n : Nat) : Bool :=
  (s.now - s.tide.tick) / 625 % 8 == n && Tab.find n s.grLast != some (cycleOf s.now)

/-- Result records whose moment has come are written. -/
def flushGrWrites (s : State) : State :=
  let s' := (s.grWrites.filter fun w => decide (w.at_ ≤ s.now)).foldl (fun s w => writeMem s w.addr w.bytes) s
  { s' with grWrites := s'.grWrites.filter fun w => decide (s.now < w.at_) }

/-- The slots of its stall that the GRANARY control of Squall makes a request of a Flood stall wait: drawn at the first
slot that would serve it (R789). -/
def grnDeferral (s : State) (n : Nat) (q : GrReq) : Nat × State :=
  if floodOf s n && squallOn s 5 n then
    match Tab.find q.cmd s.grDefer with
    | some k => (k, s)
    | none =>
      let (v, s) := squall s
      let k := v % (rfield s .sqlPace 23 16 + 1)
      (k, { rbump s .sqlStat 63 32 with
        grDefer := Tab.put q.cmd k (s.grDefer.filter fun p => s.grReqs.any fun r => r.cmd == p.1) })
  else (0, s)

/-- A rotation slot of a stall: it serves the request that is next, or passes while Squall defers that request. -/
def serveSlot (s : State) (n : Nat) : State :=
  match grnNext s n with
  | none => s
  | some q =>
    let (k, s) := grnDeferral s n q
    let s := flushGrWrites { s with grLast := Tab.put n (cycleOf s.now) s.grLast }
    if k = 0 then serveOne s q else { s with grDefer := Tab.put q.cmd (k - 1) s.grDefer }

/-- GRANARY_SERVE (R251). -/
def execGranaryServe (n : Nat) (t : Nat) (s : State) : Host.Outcome State Fault Refusal :=
  whenEnabled t (fun s => grnSlotNow s n && (grnNext s n).isSome) (fun s => serveSlot s n) s

/-- COMMAND_COMPLETE (R206): the records of a Granary command have been written by then (R251). -/
def execCommandComplete (id : Nat) (t : Nat) (s : State) : Host.Outcome State Fault Refusal :=
  whenEnabled t (fun s => completable s id) (fun s => completeCmd (flushGrWrites s) id) s

/-! ### Granary state across a fold reset (R274), and across an image (R271) -/

/-- The keys of the buffers that a fold reset keeps allocated: both sides of every valid slot, tables, the pages of
current count arrays; the buffers of held transfers lie among them or in extents (R274). -/
def keptKeys (s : State) : List Nat :=
  (List.range 8).flatMap fun n => (List.range 64).flatMap fun j =>
    let p := pubOf s n j
    if p.invalid then []
    else
      ([p.h0, p.h1].filter (· ≠ 0)).map keyOf ++ (sideRows s p p.side).map keyOf ++
        (if p.kv then
          let table := kvTableAddr s n j
          (kvPages s table (kvHeadOf (readMem s table 16)) p.side.toNat).map keyOf
         else [])

/-- The requester whose reserve range holds a pool buffer (R274). -/
def ownerReserve (s : State) (key : Nat) : Option Nat :=
  ((List.range 1024).find? fun i =>
    let w := rget s .grnRsv i
    let lo := bufKey false (bf w 52 48) (bf w 39 20)
    decide (lo ≤ key) && decide (key < lo + bf w 19 0)).map (· / 8)

/-- GRN_HELD_r_c of every reserve starts again from the buffers that are allocated (R270, R274). -/
def restartPeaks (s : State) : State :=
  (List.range 1024).foldl (fun s i =>
    let n := heldCount s (i / 8) (i % 8)
    if n = 0 then s else rput s .grnHeld (word (n * 2 ^ 20)) i) (rclear s [.grnHeld])

/-- A buffer that the rebuild does not keep: free, and, where it was allocated, returned (R246). -/
def Buf.dropped (b : Buf) : Buf :=
  let g := if b.alloc then (b.gen + 1) % 8 else b.gen
  { b with alloc := false, uid := 0, gen := g, genC := if b.alloc then 7 - g else b.genC }

/-- The rebuild of a fold reset (R274): every buffer that is not kept becomes free; kept ones are charged to the reserve whose
range holds them. -/
def grnRebuild (s : State) : State :=
  let keep := keptKeys s
  restartPeaks { s with
    grReqs := [], grWrites := [], grLast := []
    bufs := s.bufs.map fun kb =>
      if keep.contains kb.1 then (kb.1, { kb.2 with alloc := true, uid := 0, req := (ownerReserve s kb.1).getD kb.2.req })
      else (kb.1, kb.2.dropped) }

/-- Every generation matches its complement (R274). -/
def grnSound (s : State) : Bool := s.bufs.all fun kb => kb.2.genC == 7 - kb.2.gen

/-- The index of a buffer lies in a reserve or arena of stall n. -/
def ownedIndex (s : State) (n key : Nat) : Bool :=
  if 32 * 2 ^ 20 ≤ key then
    let a := key / 2 ^ 20 - 32
    a / 4 == n && decide (key % 2 ^ 20 ≤ rfield s .grnArena 59 40 a)
  else match ownerReserve s key with | some r => r / 16 == n | none => false

/-- What a change of the Granary does to the slots of a stall (R271, R275): a buffer or page outside the stall's ranges
returns, and the slot that holds or names it is marked invalid. -/
def grnRevise (s : State) (n : Nat) : State :=
  (List.range 64).foldl (fun s j =>
    let p := pubOf s n j
    let keys := ([p.h0, p.h1].filter (· ≠ 0)).map keyOf
    let pages := if p.kv then
        let table := kvTableAddr s n j
        (kvPages s table (kvHeadOf (readMem s table 16)) p.side.toNat).map keyOf
      else (sideRows s p p.side).map keyOf
    let out := (keys ++ pages).filter fun k => !ownedIndex s n k
    if out.isEmpty then s
    else
      let s := out.foldl freeBuf s
      setPub s n j { p with invalid := true }) s

end Sys2Proof.Machine
end

