-- ==== Sys2Proof/Machine/Links.lean ====
section
/-! DEFINITION. Deckarok ports (chapters 13 and 14): sessions, flits, sequence numbers, replay, credits, the framing of
units on the virtual channels, identity, retraining, darkness and failure. The line below a flit (wavelengths, FEC
symbols) is outside the model: a damaged flit arrives as a flit whose CRC fails. -/

namespace Sys2Proof.Machine

/-! ### Ports -/

/-- A channel with nothing sent, with the far end's advertised credit. -/
def TxChan.clear (adv : Nat) : TxChan := { units := [], count := 0, sum := 0, adv := adv }
/-- A channel with nothing received. -/
def RxChan.clear : RxChan := { part := [], partFrom := 0, units := [], got := 0, flits := [], freed := 0, late := [] }
/-- A port in OFF that has had no session. -/
def Port.clear : Port :=
  { st := 0, cause := 0, back := 0, since := 0, adapted := none, qualified := false, rxOk := false, farOk := false
    heard := [], tries := 0, retrain := false, retrainAt := 0, session := 0, nonce := [], far := [], txExt := 0
    oldest := 0, replayBuf := [], replayAt := none, ackDue := none, ackRest := 0, lastReplay := none, consReplay := 0
    consRetrain := 0, tx := [], rx := [], rot := 0, creditVc := 0, nak := false, nakSent := false, rxExt := 0
    reads := [], asked := [], readQ := [], authFails := 0, light := none, losAt := 0, goodAt := 0 }
/-- A port that Breakwater holds at OFF. -/
def BwPort.clear : BwPort :=
  { level := 0, was := 0, held := 0, tested := false, passed := none, test := none, holdTill := none, permitAt := 0
    permitDue := 0, seq := 0, sent := [], acc := none, rejects := [] }

/-- Port p. -/
def portOf (s : State) (p : Nat) : Port := Tab.getD Port.clear p s.ports
/-- The state with a port replaced. -/
def setPort (s : State) (p : Nat) (x : Port) : State := { s with ports := Tab.put p x s.ports }
/-- The state with a port changed. -/
def modPort (s : State) (p : Nat) (f : Port → Port) : State := setPort s p (f (portOf s p))
/-- Breakwater's part of port p. -/
def bwPortOf (s : State) (p : Nat) : BwPort := Tab.getD BwPort.clear p s.bw.ports
/-- The state with Breakwater's part of a port changed. -/
def modBwPort (s : State) (p : Nat) (f : BwPort → BwPort) : State :=
  { s with bw := { s.bw with ports := Tab.put p (f (bwPortOf s p)) s.bw.ports } }

/-- A field of DKL_CFG of port p. -/
def portCfg (s : State) (p hi lo : Nat) : Nat := rfield s .dklCfg hi lo (p / 4) (p % 4)
/-- ROLE: 0 unused, 1 peer, 2 spare, 3 uplink. -/
def portRole (s : State) (p : Nat) : Nat := portCfg s p 1 0
/-- OWNER of port p. -/
def ownerOfPort (s : State) (p : Nat) : Nat := portCfg s p 11 8
/-- ENC of port p. -/
def portEnc (s : State) (p : Nat) : Bool := portCfg s p 40 40 == 1
/-- Port p is fallow: its own mark, or its edge die's. -/
def portFallow (s : State) (p : Nat) : Bool := s.plan.fallowPorts.testBit p || fallow s (28 + p % 4)
/-- A counter field of DKL_ERR of port p raised. -/
def dklBump (s : State) (p hi lo : Nat) : State := rbump s .dklErr hi lo (p / 4) 1 (p % 4)

/-- The position that a peer port reaches (Table 14.1). -/
def peerPos (s : State) (p : Nat) : Option Nat :=
  if portRole s p ≠ 1 then none
  else
    match bitsOf s.plan.target 5 4 with
    | 2 => some (chipOnBoard s ^^^ (p % 16 + 1))
    | 1 => some (chipOnBoard s ^^^ (p % 16 / 2 + 1))
    | _ => none

/-- The ACTIVE peer ports to a position, in ascending order (R527). -/
def activeTo (s : State) (pos : Nat) : List Nat :=
  (List.range 32).filter fun p => (portOf s p).st == 4 && peerPos s p == some pos

/-! ### Random values -/

/-- A draw of the random bit generator (R716). -/
def draw (s : State) : Nat × State := (Config.freeRandom s.free, { s with free := s.free + 1 })

/-! ### Sessions (R503) -/

/-- A fresh session: the next SESSION (the first comes from the entropy source), a new NONCE, empty buffers, and every
counter at its start. -/
def freshSession (s : State) (p : Nat) : State :=
  let x := portOf s p
  let (a, s) := if x.nonce.isEmpty then draw s else (x.session + 1, s)
  let (b, s) := draw s
  modPort s p fun x =>
    { Port.clear with
      st := x.st, cause := x.cause, back := x.back, since := x.since, tries := x.tries
      session := a % 2 ^ 32, nonce := leBytes 16 b, authFails := x.authFails, light := x.light
      losAt := x.losAt, goodAt := x.goodAt, consRetrain := 0 }

/-- The steps that have a unit queued, unacknowledged or partly received on a port (R542). -/
def portOwners (s : State) (p : Nat) : List (Nat × Nat) :=
  let x := portOf s p
  let sent := x.tx.flatMap fun t => t.2.units.map fun u => (u.c, u.uid)
  let kept := x.replayBuf.flatMap (·.owners)
  let part := x.rx.flatMap fun r =>
    let b := r.2.part
    if r.1 = 0 then (if 7 ≤ b.length then [bitsOf (fieldAt b 6 1) 3 0] else [])
    else if r.1 = 3 then (if 2 ≤ b.length then [bitsOf (fieldAt b 1 1) 3 0] else [])
    else if 25 ≤ b.length then [bitsOf (fieldAt b 0 8) 51 49 + 8 * bitsOf (fieldAt b 24 1) 2 2] else []
  sent ++ kept ++ part.map fun v => let c := 2 * (v % 8) + v / 8; (c, (ctxOf s c).uid)

/-- The uncommitted steps of a list of attempts end with a cause. -/
def failOwners (s : State) (src : Src) (cause : Nat) (l : List (Nat × Nat)) : State :=
  l.foldl (fun s o =>
    if o.2 ≠ 0 ∧ (ctxOf s o.1).uid = o.2 ∧ (ctxOf s o.1).st = .running then stepFail s src o.1 cause else s) s

/-- A topology event: TOP_EVENT has changed (Table 16.6). -/
def topologyEvent (s : State) : State := postPf s 0x11 0 (rget s .topEvent).toNat 2

/-- A port becomes FAILED (R541, R542): its uncommitted steps end with LINK_FAILED, and the host is told. -/
def failPort (s : State) (p cause : Nat) : State :=
  if (portOf s p).st = 8 then s
  else
    let owners := portOwners s p
    let s := modPort s p fun x => { x with st := 8, cause := cause, since := s.now, ackDue := none, replayAt := none }
    let s := failOwners s .dkl 0x50 owners
    let s := rmod s .topEvent fun w => setBit w p true
    topologyEvent s

/-- A session ends because the far end has started a fresh one (R534, R546). -/
def sessionLost (s : State) (p : Nat) : State :=
  let s := failOwners s .dkl 0x51 (portOwners s p)
  freshSession s p

/-! ### Light states -/

/-- The acknowledgement timer pauses (R513). -/
def pauseAck (s : State) (p : Nat) : State :=
  modPort s p fun x =>
    match x.ackDue with | some d => { x with ackDue := none, ackRest := d - s.now } | none => x

/-- The acknowledgement timer goes on. -/
def resumeAck (s : State) (p : Nat) : State :=
  modPort s p fun x =>
    if x.ackDue.isNone && !x.replayBuf.isEmpty then { x with ackDue := some (s.now + x.ackRest) } else x

/-- A port enters TRAIN (R500, R502). -/
def enterTrain (s : State) (p : Nat) : State :=
  modPort (pauseAck s p) p fun x =>
    { x with st := 2, cause := 0, since := s.now, adapted := none, qualified := false, rxOk := false, farOk := false
             heard := [] }

/-- A port returns to PROBE; its session stays recorded (R540, R666). -/
def enterProbe (s : State) (p : Nat) : State :=
  modPort (pauseAck s p) p fun x =>
    { x with st := 1, cause := 0, since := s.now, adapted := none, qualified := false, rxOk := false, farOk := false
             retrain := false, replayAt := none }

/-- A port starts a retrain (R538); the fourth in succession with no advance of the acknowledged number makes it FAILED
(R539). -/
def startRetrain (s : State) (p : Nat) : State :=
  let s := dklBump (pauseAck s p) p 31 24
  let s := modPort s p fun x =>
    { x with st := 6, since := s.now, adapted := none, qualified := false, rxOk := false, farOk := false, heard := []
             retrain := true, retrainAt := s.now, consRetrain := x.consRetrain + 1, replayAt := none }
  if 4 ≤ (portOf s p).consRetrain then failPort s p 9 else s

/-- A failed training attempt (R502): the third in succession makes the port FAILED. -/
def trainFailed (s : State) (p : Nat) : State :=
  let n := (portOf s p).tries + 1
  let s := modPort s p fun x => { x with tries := n, retrain := false }
  if 3 ≤ n then failPort s p 8 else enterTrain s p

/-! ### Sequence, acknowledgement and replay (R509-R514) -/

/-- A replay starts, or a retrain in place of the ninth consecutive one (R513, R514). -/
def startReplay (s : State) (p : Nat) : State :=
  let x := portOf s p
  if x.txExt = x.oldest then s
  else if 8 ≤ x.consReplay then startRetrain s p
  else
    let s := dklBump s p 47 32
    modPort s p fun x =>
      { x with replayAt := some x.oldest, consReplay := x.consReplay + 1, lastReplay := some (x.oldest % 4096, s.now)
               ackDue := some (s.now + us 2) }

/-- The replay on resumption after RETRAIN or DARK (R513, R538): the count of consecutive replays stands at 0 (R514,
Table 13.9). -/
def resumeReplay (s : State) (p : Nat) : State :=
  modPort (startReplay (modPort s p fun x => { x with consReplay := 0 }) p) p fun x => { x with consReplay := 0 }

/-- Flits up to an extended number leave the replay buffer; the commands whose last byte they carried go on (R526). -/
def ackTo (s : State) (p next : Nat) : State :=
  let x := portOf s p
  if next ≤ x.oldest then s
  else
    let (gone, kept) := x.replayBuf.partition fun f => decide (f.ext < next)
    let s := modPort s p fun x =>
      { x with oldest := next, replayBuf := kept, consReplay := 0, consRetrain := 0
               replayAt := x.replayAt.bind fun r => if r < next then (if next < x.txExt then some next else none) else some r
               ackDue := if kept.isEmpty then none else some (s.now + us 2) }
    gone.foldl (fun s f => f.cmds.foldl cmdPart s) s

/-- An ACK is received (R511). -/
def receiveAck (s : State) (p a : Nat) : State :=
  let x := portOf s p
  let d := (a + 4096 - x.oldest % 4096) % 4096
  if d < x.txExt - x.oldest then ackTo s p (x.oldest + d + 1) else s

/-- A NAK is received with an ACK that has been applied (R513, R549). -/
def receiveNak (s : State) (p a : Nat) : State :=
  let x := portOf s p
  let racing := match x.lastReplay with
    | some (q, t) => decide ((a + 1) % 4096 = q) && decide (s.now < t + us 2)
    | none => false
  if x.txExt = x.oldest || racing then s else startReplay s p

/-! ### Encryption (R535-R537) -/

/-- The part of the key context that one end gives: GLOBAL_CHIP, PORT, SESSION, NONCE. -/
def keyContext (chip port session : Nat) (nonce : List Byte) : List Byte :=
  leBytes 2 chip ++ leBytes 1 port ++ leBytes 4 session ++ nonce

/-- The key and salt of a direction of a port in a key epoch; `tx` the direction from this end. -/
def linkKey (s : State) (p epoch : Nat) (tx : Bool) : List Byte × List Byte :=
  let x := portOf s p
  let farChip := fieldAt x.far 8 2
  let farPort := fieldAt x.far 10 1
  let own := keyContext s.plan.globalChip p x.session x.nonce
  let far := keyContext farChip farPort (fieldAt x.far 16 4) (slice x.far 20 16)
  let lower := decide (s.plan.globalChip < farChip) || (s.plan.globalChip == farChip && decide (p < farPort))
  let ctx := (if lower then own ++ far else far ++ own) ++ leBytes 8 epoch
  let k := Config.kdf s.sec.lmk [0x44#8, 0x4B#8, 0x4C#8, 0x2D#8, 0x47#8, 0x43#8, 0x4D#8] ctx 72
  if tx == lower then (slice k 0 32, slice k 32 4) else (slice k 36 32, slice k 68 4)

/-- The key epoch of an extended sequence number (R536). -/
def keyEpochOf (ext : Nat) : Nat := ext / 2 ^ 36

/-! ### The flit (R506, R507) -/

/-- CRC-64 of a flit's bytes 0-247 (R507). -/
def crc64 (b : List Byte) : Nat := crcMsb 64 0x42F0E1EBA9EA3693 0xFFFFFFFFFFFFFFFF b

/-- A flit header (Table 13.3). -/
structure FlitHead where
  seq : Nat
  ack : Nat
  sum : Nat
  sumVc : Nat
  fill : Nat
  vc : Nat
  nak : Bool
  crypt : Bool
  phase : Nat
  kind : Nat
  deriving DecidableEq, Repr

/-- The 64-bit value of a header. -/
def FlitHead.word (h : FlitHead) : Nat :=
  h.seq % 4096 * 2 ^ 52 + h.ack % 4096 * 2 ^ 40 + h.sum % 4096 * 2 ^ 28 + h.sumVc % 4 * 2 ^ 26 + h.fill % 256 * 2 ^ 18 +
    h.vc % 4 * 2 ^ 16 + h.nak.toNat * 2 ^ 15 + h.crypt.toNat * 2 ^ 14 + h.phase % 2 * 2 ^ 13 + h.kind % 4 * 2 ^ 11

/-- The header that a 64-bit value holds. -/
def flitHead (v : Nat) : FlitHead :=
  { seq := bitsOf v 63 52, ack := bitsOf v 51 40, sum := bitsOf v 39 28, sumVc := bitsOf v 27 26, fill := bitsOf v 25 18
    vc := bitsOf v 17 16, nak := bitsOf v 15 15 == 1, crypt := bitsOf v 14 14 == 1, phase := bitsOf v 13 13
    kind := bitsOf v 12 11 }

/-- The additional data of an encrypted flit: its header without ACK, CREDIT_SUM, CREDIT_VC and NAK (R537). -/
def flitAad (h : FlitHead) : List Byte :=
  leBytes 8 ({ h with ack := 0, sum := 0, sumVc := 0, nak := false } : FlitHead).word

/-- The header of the next flit of a port but for its DATA fields: the current ACK, the next credit sum, the NAK. -/
def baseHead (s : State) (p kind fill : Nat) : FlitHead :=
  let x := portOf s p
  let r := Tab.getD RxChan.clear x.creditVc x.rx
  let late := (r.late.filter fun t => decide (s.now < t)).length
  { seq := 0, ack := (x.rxExt + 4095) % 4096, sum := (r.freed - late) % 4096, sumVc := x.creditVc, fill := fill, vc := 0
    nak := x.nak, crypt := false, phase := 0, kind := kind }

/-- A flit leaves with a header and 240 payload bytes; a NAK it carries is sent, and the credit rotation moves on. An
armed injection OP 3 inverts bit 0 of the CRC of a DATA flit (R793). -/
def putFlit (s : State) (p : Nat) (h : FlitHead) (payload : List Byte) : State :=
  let body := leBytes 8 h.word ++ payload
  let inj := rget s .hltInject
  let hit := h.kind == 1 && bf inj 63 62 == 3 && bf inj 52 48 == p
  let crc := if hit then crc64 body ^^^ 1 else crc64 body
  let s := if hit then rsetField s .hltInject 63 62 0 else s
  let s := modPort s p fun x =>
    { x with creditVc := (x.creditVc + 1) % 4, nak := false, nakSent := x.nakSent || x.nak }
  { s with out := Out.flit p (body ++ leBytes 8 crc) :: s.out }

/-! ### Identity (Table 13.8) -/

/-- The credits this device advertises (R518). -/
def ownCredits : List Nat := [64, 1280, 1280, 512]

/-- The identity record of a port. -/
def identRecord (s : State) (p : Nat) : List Byte :=
  let x := portOf s p
  leBytes 8 s.fuse.serial ++ leBytes 2 s.plan.globalChip ++ leBytes 1 p ++ leBytes 1 (portRole s p) ++
    leBytes 2 (portCfg s p 63 48) ++ leBytes 1 ((portEnc s p).toNat + 2 * x.rxOk.toNat) ++ leBytes 1 1 ++
    leBytes 4 x.session ++ x.nonce ++ (ownCredits.flatMap fun c => leBytes 2 c) ++ leBytes 2 (portCfg s p 27 16) ++
    leBytes 1 (portCfg s p 36 32) ++ zeros 1 ++ leBytes 8 x.rxExt ++ zeros 8

/-- The first failing check of R532 between a far record and this port's LINKS entry; 0 for none. -/
def identCause (s : State) (p : Nat) (r : List Byte) : Nat :=
  if fieldAt r 8 2 ≠ portCfg s p 27 16 then 1
  else if fieldAt r 10 1 ≠ portCfg s p 36 32 then 2
  else if fieldAt r 44 2 ≠ s.plan.globalChip ∨ fieldAt r 46 1 ≠ p then 3
  else if fieldAt r 11 1 ≠ portRole s p then 4
  else if decide (fieldAt r 14 1 % 2 = 1) ≠ portEnc s p then 5
  else if fieldAt r 12 2 ≠ portCfg s p 63 48 then 6
  else 0

/-- The port enters HOLD with a cause (R532, R571): the host is told. -/
def enterHold (s : State) (p cause : Nat) : State :=
  let s := modPort s p fun x => { x with st := 7, cause := cause, since := s.now, retrain := false }
  let s := rmod s .topEvent fun w => setBit w (32 + p) true
  topologyEvent (logNote s .top (regAddr .topCable 0 p))

/-- The port enters ACTIVE, or STANDBY where its ROLE is spare; Breakwater starts the permit watch of an ACTIVE port
afresh, and its messages start at a new SEQ (R678, R679). -/
def enterUp (s : State) (p : Nat) : State :=
  let up := if portRole s p = 2 then 5 else 4
  let s := modPort s p fun x =>
    { x with st := up, cause := 0, since := s.now, tries := 0, retrain := false, goodAt := s.now }
  if up = 5 then s
  else
    let (v, s) := draw s
    modBwPort s p fun b => { b with permitAt := s.now, permitDue := s.now, seq := v % 2 ^ 32, sent := [], acc := none, rejects := [] }

/-- A session resumes (R534, R538): the far RX_EXT counts as an ACK, and what remains is replayed. -/
def resumeSession (s : State) (p : Nat) (r : List Byte) : State :=
  let x := portOf s p
  let rx := fieldAt r 48 8
  if rx < x.oldest ∨ x.txExt < rx then failPort s p 10
  else
    let s := ackTo s p rx
    resumeReplay (enterUp s p) p

/-- IDENT ends (R531-R534). -/
def identEnd (s : State) (p : Nat) (r : List Byte) : State :=
  let x := portOf s p
  if x.far.isEmpty then
    let cause := identCause s p r
    let adv := (List.range 4).map fun v => fieldAt r (36 + 2 * v) 2
    if adv.any fun a => decide (a < 16) || decide (2047 < a) then failPort s p 14
    else if cause ≠ 0 then enterHold s p cause
    else
      let s := modPort s p fun x =>
        { x with far := r
                 tx := (List.range 4).map fun v => (v, { Tab.getD (TxChan.clear 0) v x.tx with adv := adv.getD v 0 }) }
      enterUp s p
  else if slice r 0 11 ≠ slice x.far 0 11 then failPort s p 11
  else if fieldAt r 16 4 = fieldAt x.far 16 4 then resumeSession s p r
  else
    let s := sessionLost s p
    modPort s p fun x => { x with st := 3, since := s.now, qualified := true, rxOk := false, farOk := false, heard := [] }

/-- A CTRL flit with a record arrives (R501, R531). -/
def receiveCtrl (s : State) (p : Nat) (r : List Byte) : State :=
  let x := portOf s p
  let far := decide (fieldAt r 14 1 / 2 % 2 = 1)
  if (x.st = 2 ∨ x.st = 6) ∧ x.qualified = true then
    modPort s p fun x => { x with st := 3, since := s.now, heard := r, rxOk := false, farOk := far }
  else if x.st = 3 then
    let ok := x.rxOk || x.heard == r
    let s := modPort s p fun x => { x with heard := r, rxOk := ok, farOk := x.farOk || far }
    if ok && (x.farOk || far) then identEnd s p r else s
  else s

/-! ### Units in the byte streams (R517) -/

/-- The bytes of the first unit of a channel that a stream's first bytes announce; none where its header is not whole. -/
def unitLength (vc : Nat) (b : List Byte) : Option Nat :=
  if vc = 0 then (if 16 ≤ b.length then some (16 + fieldAt b 2 2) else none)
  else if b.length < 32 then none
  else if vc = 3 then some (if fieldAt b 0 1 = 1 then 32 + fieldAt b 16 4 % 8192 else 32)
  else some (32 + 64 * fieldAt b 18 2)

/-- The body length that a VC0 type asks for (Table 13.6). -/
def bodyLenOk (type len : Nat) : Bool :=
  match type with
  | 1 => len == 16
  | 2 => decide (64 ≤ len) && (len - 64) % 16 == 0
  | 3 => decide (64 ≤ len) && (len - 64) % 4 == 0
  | 4 => len == 8
  | 5 => len == 16
  | 6 => len == 16
  | 7 => len == 32
  | _ => false

/-- STALL and CTX of a VC0 header agree with what its body says of them (R522, R676). -/
def headAgrees (b : List Byte) : Bool :=
  let v := fieldAt b 6 1
  let body := b.drop 16
  match fieldAt b 0 1 with
  | 1 => bitsOf (fieldAt body 1 1) 3 0 == v % 16
  | 2 => bitsOf (fieldAt body 2 1) 2 2 == v / 8 % 2
  | 3 => bitsOf (fieldAt body 2 1) 2 2 == v / 8 % 2
  | 7 => v == 0
  | _ => true

/-- The checks of a whole VC0 message (R522): a CRC that fails is a complement mismatch, another breach fails the port;
so does a message other than SAFETY on a spare or uplink port (R559). -/
def vc0Check (s : State) (p : Nat) (b : List Byte) (k : State → State) : State :=
  if fieldAt b 12 4 ≠ crc32 (slice b 0 12 ++ b.drop 16) then mismatch s .dkl (regAddr .dklState (p % 4) (p / 4))
  else if !bodyLenOk (fieldAt b 0 1) (fieldAt b 2 2) || fieldAt b 1 1 != 0 || decide (4096 ≤ fieldAt b 4 2) ||
      decide (16 ≤ fieldAt b 6 1) || !allZero (slice b 7 5) || !headAgrees b ||
      (fieldAt b 0 1 != 7 && portRole s p != 1) then failPort s p 14
  else k s

/-- Receive flits of a channel whose bytes have all left give their credit back (R519); a CREDIT_HOLD reports some of
them late (R788). -/
def freeCredits (s : State) (p vc : Nat) : State :=
  let r := Tab.getD RxChan.clear vc (portOf s p).rx
  let spans := (if r.part.isEmpty then [] else [(r.partFrom, r.got)]) ++ r.units.map fun u => (u.from_, u.from_ + u.bytes.length)
  let held := r.flits.filter fun f => spans.any fun u => decide (u.1 < f.2) && decide (f.1 < u.2)
  let n := r.flits.length - held.length
  let hold := rfield s .sqlLink 31 16
  let on := decide (ownerOfPort s p < 8) && squallOn s 1 (ownerOfPort s p) && rfield s .sqlLink (32 + p) (32 + p) == 1
  let (late, s) := if on then
      (List.range n).foldl (fun (acc : List Nat × State) _ =>
        let (v, s) := squall acc.2
        (acc.1 ++ [s.now + beats (v % (hold + 1))], rbump s .sqlStat 63 32)) ([], s)
    else ([], s)
  modPort s p fun x =>
    { x with rx := Tab.put vc { r with flits := held, freed := r.freed + n
                                       late := (r.late.filter fun t => decide (s.now < t)) ++ late } x.rx }

/-- The stall that a unit of a channel names. -/
def unitStall (vc : Nat) (b : List Byte) : Nat :=
  if vc = 0 then fieldAt b 6 1 % 8 else if vc = 3 then fieldAt b 1 1 % 8 else bitsOf (fieldAt b 0 8) 51 49

/-- The delay of LINK_DELAY for a unit that has just been accepted (R788). -/
def linkDelay (s : State) (p vc : Nat) (b : List Byte) : Option Nat × State :=
  let safety := vc == 0 && fieldAt b 0 1 == 7
  if !safety && squallOn s 0 (unitStall vc b) && rfield s .sqlLink (32 + p) (32 + p) == 1 then
    let (v, s) := squall s
    (some (s.now + beats (v % (rfield s .sqlLink 15 0 + 1))), rbump s .sqlStat 63 32)
  else (none, s)

/-- Takes whole units off the front of a channel's stream. A READ_REQ goes into the port's table of 64 (R529). -/
def takeUnits (p vc : Nat) : Nat → State → State
  | 0, s => s
  | fuel + 1, s =>
    let r := Tab.getD RxChan.clear vc (portOf s p).rx
    match unitLength vc r.part with
    | none => s
    | some n =>
      if r.part.length < n ∨ n = 0 then s
      else
        let b := r.part.take n
        let go := fun (s : State) =>
          let (due, s) := linkDelay s p vc b
          let put := fun (us : List RxUnit) (x : Port) =>
            let r := Tab.getD RxChan.clear vc x.rx
            { x with rx := Tab.put vc { r with part := r.part.drop n, partFrom := r.partFrom + n, units := r.units ++ us } x.rx }
          let full := decide (64 ≤ (portOf s p).reads.length)
          if vc ≠ 0 ∧ portRole s p ≠ 1 then failPort s p 14
          else if vc = 3 ∧ fieldAt b 0 1 = 2 ∧ due = none ∧ r.units.isEmpty = true then
            if full then failPort s p 14
            else takeUnits p vc fuel (modPort s p fun x => { put [] x with reads := x.reads ++ [b] })
          else
            takeUnits p vc fuel (modPort s p (put [{ bytes := b, from_ := r.partFrom, due := due }]))
        if vc = 0 then vc0Check s p b go else go s

/-- The bytes of an accepted DATA flit join their channel's stream. -/
def streamBytes (s : State) (p vc : Nat) (bytes : List Byte) : State :=
  let s := modPort s p fun x =>
    let r := Tab.getD RxChan.clear vc x.rx
    let from_ := if r.part.isEmpty then r.got else r.partFrom
    { x with rx := Tab.put vc { r with part := r.part ++ bytes, partFrom := from_, got := r.got + bytes.length
                                       flits := r.flits ++ [(r.got, r.got + bytes.length)] } x.rx }
  freeCredits (takeUnits p vc (bytes.length + 1) s) p vc

/-- The first unit of a channel that is delivered in order, where no LINK_DELAY holds it. -/
def headUnit (s : State) (p vc : Nat) : Option (List Byte) :=
  match (Tab.getD RxChan.clear vc (portOf s p).rx).units with
  | u :: _ => if u.due.isNone then some u.bytes else none
  | [] => none

/-- The first unit of a channel leaves its receive buffer. -/
def dropUnit (s : State) (p vc : Nat) : State :=
  freeCredits (modPort s p fun x =>
    let r := Tab.getD RxChan.clear vc x.rx
    { x with rx := Tab.put vc { r with units := r.units.tail } x.rx }) p vc

/-- Whether the first message of VC0 is of a type. -/
def headIs (s : State) (p type : Nat) : Bool :=
  match headUnit s p 0 with | some b => fieldAt b 0 1 == type | none => false

/-! ### Receiving a flit -/

/-- A flit is discarded under R508 or for its tag: a NAK is due where none has been sent since the last accepted one. -/
def discardFlit (s : State) (p : Nat) : State :=
  modPort s p fun x => if (x.st = 4 ∨ x.st = 5) ∧ x.nakSent = false then { x with nak := true } else x

/-- The header's acknowledgement, credit sum and NAK take effect (R511, R513, R520). -/
def headerEffects (s : State) (p : Nat) (h : FlitHead) : State :=
  let s := receiveAck s p h.ack
  let s := modPort s p fun x =>
    let t := Tab.getD (TxChan.clear 0) h.sumVc x.tx
    if x.far.isEmpty then x else { x with tx := Tab.put h.sumVc { t with sum := h.sum } x.tx }
  if h.nak then receiveNak s p h.ack else s

/-- The extended sequence number of a DATA flit: a gap lies ahead of the expected one, a duplicate behind it (R512). -/
def extOf (x : Port) (seq : Nat) : Nat :=
  let d := (seq + 4096 - x.rxExt % 4096) % 4096
  if d ≤ 2046 then x.rxExt + d else x.rxExt + d - 4096

/-- The header of a flit whose CRC passes breaks the protocol (R508, R537). -/
def headerBad (s : State) (p : Nat) (v : Nat) : Bool :=
  let h := flitHead v
  let crypt := portEnc s p
  let fillOk :=
    match h.kind with
    | 0 => h.fill == 0
    | 1 => decide (1 ≤ h.fill) && decide (h.fill ≤ if h.crypt then 224 else 240)
    | _ => h.fill == 64
  h.kind == 3 || v % 2048 != 0 || !fillOk || (if h.kind == 1 then h.crypt != crypt else h.crypt) ||
    (h.kind == 1 && h.crypt && h.phase != keyEpochOf (extOf (portOf s p) h.seq) % 2)

/-- A DATA flit that has passed R508 (R512, R537, R548). -/
def receiveData (s : State) (p : Nat) (h : FlitHead) (payload : List Byte) : State :=
  let x := portOf s p
  let d := (h.seq + 4096 - x.rxExt % 4096) % 4096
  if d = 0 then
    let plain :=
      if h.crypt then
        let (key, salt) := linkKey s p (keyEpochOf x.rxExt) false
        Config.gcmOpen key (salt ++ leBytes 8 x.rxExt) (flitAad h) (slice payload 0 224) (slice payload 224 16)
      else some payload
    match plain with
    | none =>
      let s := discardFlit (dklBump s p 15 8) p
      let s := modPort s p fun x => { x with authFails := x.authFails + 1 }
      if 4 ≤ (portOf s p).authFails then failPort s p 12 else s
    | some b =>
      let s := modPort s p fun x => { x with rxExt := x.rxExt + 1, nak := false, nakSent := false }
      streamBytes s p h.vc (b.take h.fill)
  else if d ≤ 2046 then discardFlit s p
  else if d ≤ 2048 then failPort s p 10
  else s

/-- The states in which a port receives flits (R504). -/
def receivesFlits (x : Port) : Bool :=
  decide (x.st = 3 ∨ x.st = 4 ∨ x.st = 5 ∨ x.st = 7) || (decide (x.st = 2 ∨ x.st = 6) && x.qualified)

/-- A flit arrives: its CRC and its header are checked, then `eff` acts on it (R508). -/
def receiveFlit (kinds : List Nat) (p : Nat) (b : List Byte) (eff : FlitHead → List Byte → State → State) (s : State) : State :=
  let v := fieldAt b 0 8
  let h := flitHead v
  if fieldAt b 248 8 ≠ crc64 (b.take 248) then discardFlit (dklBump s p 63 48) p
  else if !kinds.contains h.kind then s
  else if headerBad s p v then failPort s p 14
  else eff h (slice b 8 240) (headerEffects (modPort s p fun x => { x with goodAt := s.now }) p h)

/-- A flit of 256 bytes may arrive at the port. -/
def flitArrives (s : State) (p : Nat) (b : List Byte) : Bool :=
  decide (p < 32) && b.length == 256 && receivesFlits (portOf s p) && (portOf s p).light.isSome

/-- DATA_FLIT_RX (R512): a DATA flit, or one whose KIND is invalid (R508). In a state that carries no traffic a DATA flit
is not accepted. -/
def execDataFlitRx (p : Nat) (bytes : List Byte) (t : Nat) (s : State) : Host.Outcome State Fault Refusal :=
  whenEnabled t (fun s => flitArrives s p bytes)
    (receiveFlit [1, 3] p bytes fun h payload s =>
      if (portOf s p).st = 4 ∨ (portOf s p).st = 5 then receiveData s p h payload else s) s

/-- IDLE_FLIT_RX (R509): its header's acknowledgement, credits and NAK act. -/
def execIdleFlitRx (p : Nat) (bytes : List Byte) (t : Nat) (s : State) : Host.Outcome State Fault Refusal :=
  whenEnabled t (fun s => flitArrives s p bytes) (receiveFlit [0] p bytes fun _ _ s => s) s

/-- CTRL_FLIT_RX (R530, R531). -/
def execCtrlFlitRx (p : Nat) (bytes : List Byte) (t : Nat) (s : State) : Host.Outcome State Fault Refusal :=
  whenEnabled t (fun s => flitArrives s p bytes)
    (receiveFlit [2] p bytes fun _ payload s => receiveCtrl s p (payload.take 64)) s

/-! ### Sending -/

/-- The header and body of a VC0 message (Table 13.5). -/
def vc0Message (s : State) (type stall ctx : Nat) (body : List Byte) : List Byte :=
  let h := leBytes 1 type ++ zeros 1 ++ leBytes 2 body.length ++ leBytes 2 s.plan.globalChip ++
    leBytes 1 (stall + 8 * ctx) ++ zeros 5
  h ++ leBytes 4 (crc32 (h ++ body)) ++ body

/-- A unit joins the queue of a channel; a SAFETY message goes ahead of every message that has not started (R521). -/
def sendUnit (s : State) (p vc : Nat) (u : TxUnit) : State :=
  modPort s p fun x =>
    let t := Tab.getD (TxChan.clear 0) vc x.tx
    let units := if u.safety then
        (t.units.takeWhile fun v => v.started || v.safety) ++ [u] ++ (t.units.dropWhile fun v => v.started || v.safety)
      else t.units ++ [u]
    { x with tx := Tab.put vc { t with units := units } x.tx }

/-- A VC0 message of a context's attempt goes to a position of the board, on the lowest-numbered ACTIVE peer port
(R527); with none, its step ends with NO_ROUTE. `cmd` is the command that its acknowledgement brings on. -/
def sendMessage (s : State) (c type pos : Nat) (body : List Byte) (cmd : Nat) : State :=
  match activeTo s pos with
  | [] => stepFail s .dkl c 0x4A
  | p :: _ =>
    sendUnit s p 0 { bytes := vc0Message s type (stallNo c) (c % 2) body, started := false, safety := false, reply := false
                     c := c, uid := (ctxOf s c).uid, cmd := cmd }

/-- The body of a kill notice (Table 13.7a). -/
def killBody (n : Notice) : List Byte :=
  leBytes 2 n.step ++ leBytes 1 (n.attempt % 4 + 4 * n.next) ++ leBytes 1 n.cause ++ zeros 4

/-- The kill notices that wait become messages on the ports to their chips (R166, R523); a chip without an ACTIVE port
is not told. -/
def flushNotices (s : State) : State :=
  let s' := s.notices.foldl (fun s n =>
    n.chips.foldl (fun s pos =>
      match activeTo s pos with
      | [] => s
      | p :: _ => sendUnit s p 0
          { bytes := vc0Message s 4 (stallNo n.c) (n.c % 2) (killBody n), started := false, safety := false, reply := false
            c := n.c, uid := 0, cmd := 0 }) s) s
  { s' with notices := [] }

/-- The bytes of the next flit of a channel: up to `room` bytes of its units in order; the flit's bytes, the attempts and
commands it carries the last bytes of, and what stays. -/
def fillFlit : Nat → List TxUnit → List Byte × List (Nat × Nat) × List Nat × List TxUnit
  | _, [] => ([], [], [], [])
  | room, u :: us =>
    if room = 0 then ([], [], [], u :: us)
    else if room < u.bytes.length then
      (u.bytes.take room, [(u.c, u.uid)], [], { u with bytes := u.bytes.drop room, started := true } :: us)
    else
      let (b, o, m, r) := fillFlit (room - u.bytes.length) us
      (u.bytes ++ b, (u.c, u.uid) :: o, (if u.cmd = 0 then m else u.cmd :: m), r)

/-- A channel may send a new DATA flit: bytes are ready, credit is available, and the window is open (R510, R520). -/
def vcReady (x : Port) (vc : Nat) : Bool :=
  let t := Tab.getD (TxChan.clear 0) vc x.tx
  !t.units.isEmpty && decide ((t.count + 4096 - t.sum) % 4096 < t.adv) && decide (x.txExt - x.oldest < 2047)

/-- The channel of the next new DATA flit (R521), with the rotation that follows: three VC2 flits to one VC3 flit. -/
def chooseVc (x : Port) : Option (Nat × Nat) :=
  if vcReady x 0 then some (0, x.rot)
  else if vcReady x 1 then some (1, x.rot)
  else
    match vcReady x 2, vcReady x 3 with
    | true, true => if x.rot < 3 then some (2, x.rot + 1) else some (3, 0)
    | true, false => some (2, x.rot)
    | false, true => some (3, x.rot)
    | false, false => none

/-- A replayed flit: its payload as first sent, its header with current fields (R513). -/
def sendReplay (s : State) (p r : Nat) : State :=
  match (portOf s p).replayBuf.find? (·.ext == r) with
  | none => modPort s p fun x => { x with replayAt := none }
  | some f =>
    let h := { baseHead s p 1 f.fill with seq := f.ext % 4096, vc := f.vc, crypt := f.crypt, phase := f.phase }
    let s := putFlit s p h f.payload
    modPort s p fun x => { x with replayAt := if r + 1 < x.txExt then some (r + 1) else none }

/-- A new DATA flit of a channel (R509, R520, R537). -/
def sendData (s : State) (p vc rot : Nat) : State :=
  let x := portOf s p
  let t := Tab.getD (TxChan.clear 0) vc x.tx
  let enc := portEnc s p
  let (b, owners, cmds, rest) := fillFlit (if enc then 224 else 240) t.units
  let h := { baseHead s p 1 b.length with seq := x.txExt % 4096, vc := vc, crypt := enc
                                          phase := if enc then keyEpochOf x.txExt % 2 else 0 }
  let payload :=
    if enc then
      let (key, salt) := linkKey s p (keyEpochOf x.txExt) true
      let (ct, tag) := Config.gcmSeal key (salt ++ leBytes 8 x.txExt) (flitAad h) (b ++ zeros (224 - b.length))
      ct ++ tag
    else b ++ zeros (240 - b.length)
  let f : TxFlit := { ext := x.txExt, vc := vc, fill := b.length, crypt := enc, phase := h.phase, payload := payload
                      owners := owners, cmds := cmds }
  let s := putFlit s p h payload
  modPort s p fun x =>
    { x with txExt := x.txExt + 1, replayBuf := x.replayBuf ++ [f], rot := rot
             tx := Tab.put vc { t with units := rest, count := t.count + 1 } x.tx
             ackDue := if x.ackDue.isNone then some (s.now + us 2) else x.ackDue }

/-- What a port sends in one flit time (R504, R521). -/
def flitTx (p : Nat) (s : State) : State :=
  let s := flushNotices s
  let x := portOf s p
  let idle := fun (s : State) => putFlit s p (baseHead s p 0 0) (zeros 240)
  let ctrl := fun (s : State) => putFlit s p (baseHead s p 2 64) (identRecord s p ++ zeros 176)
  match x.st with
  | 2 => if x.qualified then ctrl s else idle s
  | 6 => if x.qualified then ctrl s else idle s
  | 3 => ctrl s
  | 7 => ctrl s
  | 4 =>
    match x.replayAt with
    | some r => sendReplay s p r
    | none => match chooseVc x with | some (vc, rot) => sendData s p vc rot | none => idle s
  | _ => idle s

/-- The port carries a stream of flits (R504): in TRAIN and RETRAIN after adaptation; in DARK as before. -/
def sendsFlits (x : Port) : Bool :=
  decide (x.st = 3 ∨ x.st = 4 ∨ x.st = 5 ∨ x.st = 7 ∨ x.st = 9) || (decide (x.st = 2 ∨ x.st = 6) && x.adapted.isSome)

/-- FLIT_TX (R521). -/
def execFlitTx (p : Nat) (t : Nat) (s : State) : Host.Outcome State Fault Refusal :=
  whenEnabled t (fun s => decide (p < 32) && sendsFlits (portOf s p)) (flitTx p) s

/-- A timer of 2 µs that would expire at d, paused for the 8 µs of a dark interval that starts at i (R513, R675). -/
def pausedBy (i d : Nat) : Nat :=
  if d ≤ i then d else if d ≤ i + us 2 then d + us 8 else if d < i + us 10 then i + us 10 else d

/-- The expiry of a port's acknowledgement timer, with the pauses of a brake test in progress (Table 17.4). -/
def ackExpiry (s : State) (p : Nat) : Option Nat :=
  match (bwPortOf s p).test with
  | some (t0, _) => (portOf s p).ackDue.map fun d => pausedBy (t0 + us 40) (pausedBy t0 d)
  | none => (portOf s p).ackDue

/-- ACK_TIMEOUT (R513): the acknowledgement timer reaches 2 µs. -/
def execAckTimeout (p : Nat) (t : Nat) (s : State) : Host.Outcome State Fault Refusal :=
  whenEnabled t (fun s => decide (p < 32) && (portOf s p).st == 4 && due (ackExpiry s p) s.now)
    (fun s => startReplay s p) s

/-! ### Training -/

/-- RECEIVER_ADAPTED (R501): the receivers have adapted, and the end sends IDLE flits. -/
def execReceiverAdapted (p : Nat) (t : Nat) (s : State) : Host.Outcome State Fault Refusal :=
  whenEnabled t (fun s => decide (p < 32) && decide ((portOf s p).st = 2 ∨ (portOf s p).st = 6) &&
      (portOf s p).adapted.isNone && (portOf s p).light.isSome)
    (fun s => modPort s p fun x => { x with adapted := some s.now }) s

/-- The clean codewords of 3.2 ns each that qualify a receiver: 65,536 in TRAIN, 8,192 in RETRAIN (R501, R538). -/
def qualifySpan (x : Port) : Nat := if x.st = 6 then 8192 * 3200 else 65536 * 3200

/-- RX_QUALIFY (R501, R538). -/
def execRxQualify (p : Nat) (t : Nat) (s : State) : Host.Outcome State Fault Refusal :=
  whenEnabled t (fun s => decide (p < 32) && decide ((portOf s p).st = 2 ∨ (portOf s p).st = 6) &&
      !(portOf s p).qualified && due ((portOf s p).adapted.map (· + qualifySpan (portOf s p))) s.now)
    (fun s => modPort s p fun x => { x with qualified := true }) s

/-- TRAIN_TIMEOUT (R502): TRAIN has not entered IDENT in 2 ms, or IDENT has not ended in 100 µs. -/
def execTrainTimeout (p : Nat) (t : Nat) (s : State) : Host.Outcome State Fault Refusal :=
  whenEnabled t (fun s => decide (p < 32) &&
      (((portOf s p).st == 2 && decide ((portOf s p).since + ms 2 ≤ s.now)) ||
       ((portOf s p).st == 3 && decide ((portOf s p).since + us 100 ≤ s.now))))
    (fun s => trainFailed s p) s

/-- A port is ACTIVE or STANDBY. -/
def portUp (s : State) (p : Nat) : Bool := decide (p < 32) && decide ((portOf s p).st = 4 ∨ (portOf s p).st = 5)

/-- RX_SILENCE (R538): no flit has passed R508 for 4 µs. -/
def execRxSilence (p : Nat) (t : Nat) (s : State) : Host.Outcome State Fault Refusal :=
  whenEnabled t (fun s => portUp s p && decide ((portOf s p).goodAt + us 4 ≤ s.now)) (fun s => startRetrain s p) s

/-- CODEWORD_LOCK_LOST (R538): codeword lock has been lost for 8 consecutive codewords. -/
def execCodewordLockLost (p : Nat) (t : Nat) (s : State) : Host.Outcome State Fault Refusal :=
  whenEnabled t (fun s => portUp s p) (fun s => startRetrain s p) s

/-- PRBS_RX (R538): PRBS31Q is received. -/
def execPrbsRx (p : Nat) (t : Nat) (s : State) : Host.Outcome State Fault Refusal :=
  whenEnabled t (fun s => portUp s p) (fun s => startRetrain s p) s

/-- RETRAIN_TIMEOUT (R539): a retrain that has not resumed in 200 µs goes on as a full TRAIN. -/
def execRetrainTimeout (p : Nat) (t : Nat) (s : State) : Host.Outcome State Fault Refusal :=
  whenEnabled t (fun s => decide (p < 32) && (portOf s p).retrain &&
      decide ((portOf s p).st = 6 ∨ (portOf s p).st = 3) && decide ((portOf s p).retrainAt + us 200 ≤ s.now))
    (fun s => enterTrain (modPort s p fun x => { x with retrain := false }) p) s

/-! ### Darkness (R540, R543, R550) -/

/-- A port loses light: ACTIVE, STANDBY and RETRAIN enter DARK. -/
def loseLight (s : State) (p : Nat) : State :=
  let x := portOf s p
  let s := modPort s p fun x => { x with light := none, losAt := s.now }
  if x.st = 4 ∨ x.st = 5 ∨ x.st = 6 then
    let s := dklBump (pauseAck s p) p 23 16
    modPort s p fun y => { y with st := 9, back := x.st, since := s.now, replayAt := none }
  else s

/-- LOSS_OF_SIGNAL (R495, R540). -/
def execLossOfSignal (p : Nat) (t : Nat) (s : State) : Host.Outcome State Fault Refusal :=
  whenEnabled t (fun s => decide (p < 32) && (portOf s p).light.isSome) (fun s => loseLight s p) s

/-- SIGNAL_RETURN (R540): light is back. A dark port relocks and returns to its former state, with its replay from the
oldest unacknowledged flit; a relock that fails enters RETRAIN. The limit of a retrain was paused meanwhile (R550). -/
def execSignalReturn (p : Nat) (relocked : Bool) (t : Nat) (s : State) : Host.Outcome State Fault Refusal :=
  whenEnabled t (fun s => decide (p < 32) && (portOf s p).light.isNone) (fun s =>
    let x := portOf s p
    let s := modPort (rmod s .clkLockStatus fun w => setBit w (32 + p % 4) true) p fun y => { y with light := some s.now }
    if x.st ≠ 9 then s
    else if !relocked then startRetrain s p
    else
      let s := modPort s p fun y =>
        { y with st := x.back, since := s.now, goodAt := s.now, consReplay := 0
                 retrainAt := y.retrainAt + (s.now - x.losAt) }
      if x.back = 6 then s else resumeReplay s p) s

/-- LOS_TIMEOUT (R533, R540): loss of signal longer than 50 µs sends a dark port, or one in HOLD, to PROBE. -/
def execLosTimeout (p : Nat) (t : Nat) (s : State) : Host.Outcome State Fault Refusal :=
  whenEnabled t (fun s => decide (p < 32) && (portOf s p).light.isNone &&
      decide ((portOf s p).st = 9 ∨ (portOf s p).st = 7 ∨ (portOf s p).st = 3 ∨ (portOf s p).st = 2) &&
      decide ((portOf s p).losAt + us 50 < s.now))
    (fun s => enterProbe s p) s

/-- EDGE_RX_LOCK_LOST (R543): receive domain 32 + e loses lock, and the ports of that edge die see loss of signal. -/
def execEdgeRxLockLost (e : Nat) (t : Nat) (s : State) : Host.Outcome State Fault Refusal :=
  whenEnabled t (fun s => decide (e < 4) && !fallow s (28 + e) && bitAt (rget s .clkLockStatus) (32 + e)) (fun s =>
    let s := rmod (rmod s .clkLockLost (fun w => setBit w (32 + e) true)) .clkLockStatus (fun w => setBit w (32 + e) false)
    (List.range 8).foldl (fun s l => let p := 4 * l + e; if (portOf s p).light.isSome then loseLight s p else s) s) s

/-- LNKCLK is lost or out of tolerance: every port that the plan uses becomes FAILED with cause LNKCLK (R541). -/
def failAllPorts (s : State) : State :=
  (List.range 32).foldl (fun s p => if portRole s p ≠ 0 && !portFallow s p then failPort s p 13 else s) s

/-! ### DKL_CTRL (R533, R538, R544) -/

/-- A write of DKL_CTRL: its bits act where the port's state allows them, and are an access error elsewhere. -/
def writeDklCtrl (q : Requester) (p : Nat) (v : Word) (s : State) : State :=
  guardedWrite s q .dklCtrl (p % 4) (p / 4) v (fun s =>
      (!bitAt v 0 || portUp s p) && (!bitAt v 1 || (portOf s p).st == 7))
    (fun s =>
      let s := if bitAt v 0 then startRetrain s p else s
      if bitAt v 1 then enterProbe s p else s)

/-- RETRAIN (R538). -/
def execRetrain (q : Requester) (p : Nat) (t : Nat) (s : State) : Host.Outcome State Fault Refusal :=
  whenEnabled t (fun s => reachable s q && decide (p < 32)) (writeDklCtrl q p 1) s

/-- REPROBE (R533). -/
def execReprobe (q : Requester) (p : Nat) (t : Nat) (s : State) : Host.Outcome State Fault Refusal :=
  whenEnabled t (fun s => reachable s q && decide (p < 32)) (writeDklCtrl q p 2) s

end Sys2Proof.Machine
end

