-- ==== Sys2Proof/Machine/Breakwater.lean ====
section
/-! DEFINITION. Breakwater (chapter 17): light levels, interlocks, the optical brake, safety messages, channel faults and
degraded mode, lock-out and the two-step reset. The two channels act as one where both must find a condition true, and each
alone where either may cut the light. -/

namespace Sys2Proof.Machine

/-! ### Parameters and faults -/

/-- A field of the SAFETY section in force (Table 17.8). -/
def safetyOf (s : State) (off len : Nat) : Nat := fieldAt s.plan.safety off len
/-- PERMIT_PERIOD_US. -/
def permitPeriod (s : State) : Nat := us (safetyOf s 2 2)
/-- PERMIT_EXPECT_US. -/
def permitExpect (s : State) : Nat := us (safetyOf s 4 2)
/-- RTT_MAX_US. -/
def rttMax (s : State) : Nat := us (safetyOf s 6 2)
/-- LIGHT_MASK of port p. -/
def lightMask (s : State) (p : Nat) : Bool := (safetyOf s 18 4).testBit p

/-- A span of minutes. -/
abbrev minutes (n : Nat) : Nat := ms (60000 * n)

/-- The lock-out persists. -/
def inLockout (s : State) : Bool := bitAt (rget s .bwrStatus) 63
/-- A channel is faulty for an edge die. -/
def channelBad (s : State) (c : Channel) (e : Nat) : Bool :=
  match c with
  | .p => bitAt (rget s .bwrStatus) (58 + e)
  | .h => bitAt (rget s .bwrStatus) (54 + e)
/-- Degraded mode (R681): exactly one channel is faulty for some edge die, and for none are both. -/
def degraded (s : State) : Bool :=
  (List.range 4).any (fun e => channelBad s .p e != channelBad s .h e) &&
  (List.range 4).all fun e => !(channelBad s .p e && channelBad s .h e)
/-- Edge die e runs on one channel. -/
def dieDegraded (s : State) (e : Nat) : Bool := channelBad s .p e || channelBad s .h e
/-- The test interval of an edge die (R671). -/
def brakeInterval (s : State) (e : Nat) : Nat := minutes (if dieDegraded s e then 60 else safetyOf s 10 2)

/-! ### Levels and pins -/

/-- LASER_ON_e: some port of the edge die is at FULL or BRAKE (Table 17.9). -/
def laserOn (s : State) (e : Nat) : Bool := (List.range 8).any fun l => decide (2 ≤ (bwPortOf s (4 * l + e)).level)

/-- The name of an edge die's laser pin. -/
def laserPin (e : Nat) : String := if e = 0 then "LASER_ON_0" else if e = 1 then "LASER_ON_1" else if e = 2 then "LASER_ON_2" else "LASER_ON_3"

/-- A package pin changes. -/
def drivePin (s : State) (name : String) (v : Bool) : State := { s with out := Out.pin name v :: s.out }

/-- A port's level changes, and LASER_ON of its edge die with it. -/
def setLevel (s : State) (p level : Nat) : State :=
  let before := laserOn s (p % 4)
  let s := modBwPort s p fun b => { b with level := level }
  if laserOn s (p % 4) = before then s else drivePin s (laserPin (p % 4)) (!before)

/-- What a brake test leaves of its port's acknowledgement timer, whose pauses are over. -/
def endTest (s : State) (p : Nat) : State :=
  let e := ackExpiry s p
  let s := modPort s p fun x => { x with ackDue := e }
  modBwPort s p fun b => { b with test := none }

/-- A port is reduced to PROBE: its link enters PROBE and keeps its session (R666). `held` is stored where the reason is no
condition that persists (a lost permit). -/
def reduceProbe (s : State) (p held : Nat) : State :=
  let s := setLevel (endTest s p) p 1
  let s := modBwPort s p fun b => { b with held := held }
  if (portOf s p).st = 8 ∨ (portOf s p).st = 0 ∨ (portOf s p).st = 1 then s else enterProbe s p

/-- A port is cut to OFF: its link enters OFF, and a test in progress is abandoned (R666, R693, R695). -/
def cutOff (s : State) (p : Nat) : State :=
  let s := setLevel (endTest s p) p 0
  let s := modBwPort s p fun b => { b with held := 0 }
  modPort s p fun x => { x with st := 0, cause := 0, since := s.now, ackDue := none, replayAt := none, retrain := false }

/-- Every port of an edge die is cut. -/
def cutDie (s : State) (e : Nat) : State := (List.range 8).foldl (fun s l => cutOff s (4 * l + e)) s

/-! ### Safety messages (R676-R680) -/

/-- H_CRC (R677). -/
def hCrc (b : List Byte) : Nat := crcMsb 32 0x741B8CD7 0xFFFFFFFF b

/-- The body of a safety message of a port (Table 17.5). -/
def safetyBody (s : State) (p msg reason hold : Nat) : List Byte :=
  let b := bwPortOf s p
  let head := leBytes 1 msg ++ leBytes 1 ((degraded s).toNat + (if msg = 2 then 2 else 0)) ++ leBytes 2 s.plan.globalChip ++
    leBytes 1 p ++ leBytes 1 (fieldAt (portOf s p).far 10 1) ++ leBytes 2 (fieldAt (portOf s p).far 8 2) ++ leBytes 4 b.seq ++
    leBytes 4 (b.acc.getD 0xFFFFFFFF) ++ leBytes 2 reason ++ leBytes 2 hold ++ zeros 4
  head ++ leBytes 4 (crc32c head) ++ leBytes 4 (hCrc head)

/-- A safety message joins VC0 ahead of every message that has not started (R521, R676). -/
def sendSafety (s : State) (p msg reason hold : Nat) : State :=
  let s := sendUnit s p 0 { bytes := vc0Message s 7 0 0 (safetyBody s p msg reason hold), started := false, safety := true
                            reply := false, c := 0, uid := 0, cmd := 0 }
  modBwPort s p fun b => { b with seq := (b.seq + 1) % 2 ^ 32
                                  sent := (b.seq, s.now) :: b.sent.filter fun x => decide (s.now ≤ x.2 + rttMax s) }

/-- PERMIT_SEND (R676): an ACTIVE port's next PERMIT is due. -/
def execPermitSend (p : Nat) (t : Nat) (s : State) : Host.Outcome State Fault Refusal :=
  whenEnabled t (fun s => decide (p < 32) && (portOf s p).st == 4 && s.bw.sfOn && decide ((bwPortOf s p).permitDue ≤ s.now))
    (fun s => modBwPort (sendSafety s p 1 0 0) p fun b => { b with permitDue := s.now + permitPeriod s }) s

/-! ### Lock-out entry (R684-R686) -/

/-- A cause of Table 17.6 is decided (time 0 of Table 17.7): LOCKOUT, the cause and the next LOCK_ID are written, and
SHUTDOWN is placed on every ACTIVE port. A cause that arises in lock-out, while a reset is armed or runs, is recorded and
refuses the reset (R695). -/
def decideLockout (s : State) (cause : Nat) : State :=
  let running := s.bw.armAt.isSome || s.bw.confirm.isSome
  let refuse := fun (s : State) =>
    if running then
      let s := { s with bw := { s.bw with armAt := none, confirm := none } }
      rsetField (rsetField s .bwrResetStatus 63 63 0) .bwrResetStatus 59 56 2
    else s
  if inLockout s then
    if running then rsetField (refuse s) .bwrStatus 31 24 cause else s
  else
    let s := rsetField (rsetField (refuse s) .bwrStatus 63 63 1) .bwrStatus 31 24 cause
    let s := rsetField s .bwrStatus 15 0 (rfield s .bwrStatus 15 0 + 1)
    let s := (List.range 32).foldl (fun s p =>
      if (portOf s p).st = 4 then sendSafety s p 2 cause (safetyOf s 8 2) else s) s
    { s with bw := { s.bw with entry := some (cause, s.now) } }

/-- LOCKOUT_ENTRY (R686): from 16 µs after the decision on, both switches of every port are open, every uncommitted step
ends in lock-out, LOCKOUT_N falls, and the event and the entry are written. -/
def execLockoutEntry (t : Nat) (s : State) : Host.Outcome State Fault Refusal :=
  whenEnabled t (fun s => match s.bw.entry with | some (_, at_) => decide (at_ + us 16 ≤ s.now) | none => false) (fun s =>
    let cause := (s.bw.entry.getD (0, 0)).1
    let s := (List.range 32).foldl cutOff s
    let s := (List.range 16).foldl lockStep s
    let s := drivePin { s with bw := { s.bw with entry := none } } "LOCKOUT_N" false
    logRaw (postPf s 0x14 1 0 3) none 5 .bwr cause (rfield s .bwrStatus 15 0) 0) s

/-- EXTERNAL_STOP (R684): a SAFE_STOP line has been low for 100 µs. -/
def execExternalStop (line : Nat) (t : Nat) (s : State) : Host.Outcome State Fault Refusal :=
  whenEnabled t (fun s => decide (line < 2) && (s.bw.sfOn || line == 1)) (fun s => decideLockout s 0x07) s

/-! ### Channel faults and degraded mode (R661, R662, R681-R683) -/

/-- A channel becomes faulty for edge dies: lock-out where a die is left with no channel, degraded mode otherwise. -/
def faultChannel (s : State) (c : Channel) (es : List Nat) : State :=
  let base := match c with | .p => 58 | .h => 54
  let was := degraded s
  let s := es.foldl (fun s e => rsetField s .bwrStatus (base + e) (base + e) 1) s
  if (List.range 4).any fun e => channelBad s .p e && channelBad s .h e then decideLockout s 0x02
  else
    let s := { s with bw := { s.bw with degradedAt := some (s.bw.degradedAt.getD s.now) } }
    if was then s else drivePin s "SAFE_FAULT_N" false

/-- CHANNEL_FAULT (R662): an event of Table 17.2 on one edge die, or, for numbers from 4 on, on all of them. Faults that the
clock monitor has told of are taken up with it. -/
def execChannelFault (chan : Channel) (e : Nat) (t : Nat) (s : State) : Host.Outcome State Fault Refusal :=
  whenEnabled t (fun s => s.bw.sfOn) (fun s =>
    let told := match chan with
      | .p => if s.clk.told.testBit 0 then List.range 4 else []
      | .h => (List.range 4).filter fun e => s.clk.told.testBit (e + 1)
    let clear := match chan with | .p => s.clk.told &&& 0x1E | .h => s.clk.told &&& 1
    faultChannel { s with clk := { s.clk with told := clear } } chan ((if e < 4 then [e] else List.range 4) ++ told)) s

/-- ROM_CRC_CHECK (R662): a failure makes Channel P faulty for every edge die. -/
def execRomCrcCheck (ok : Bool) (t : Nat) (s : State) : Host.Outcome State Fault Refusal :=
  whenEnabled t (fun s => s.bw.sfOn) (fun s => if ok then s else faultChannel s .p (List.range 4)) s

/-- CHANNEL_DISCREPANCY (R661): the channels have disagreed on a port for 2 ms. -/
def execChannelDiscrepancy (p : Nat) (t : Nat) (s : State) : Host.Outcome State Fault Refusal :=
  whenEnabled t (fun s => decide (p < 32) && s.bw.sfOn && s.bw.disagree.isNone) (fun s =>
    { cutDie s (p % 4) with bw := { (cutDie s (p % 4)).bw with disagree := some (p % 4) } }) s

/-- CHANNEL_SELF_TEST_DONE (R661). -/
def execChannelSelfTestDone (okP : Bool) (okH : List Bool) (t : Nat) (s : State) : Host.Outcome State Fault Refusal :=
  whenEnabled t (fun s => s.bw.disagree.isSome) (fun s =>
    let e := s.bw.disagree.getD 0
    let h := okH.getD e true
    let s := { s with bw := { s.bw with disagree := none } }
    if okP && h then decideLockout s 0x05
    else
      let s := if okP then s else faultChannel s .p [e]
      if h then s else faultChannel s .h [e]) s

/-- DEGRADED_LIMIT_H as a span. -/
def degradedLimit (s : State) : Nat := minutes (60 * safetyOf s 13 1)

/-- DEGRADED_WARNING (R682): 10 minutes before the limit. -/
def execDegradedWarning (t : Nat) (s : State) : Host.Outcome State Fault Refusal :=
  whenEnabled t (fun s => degraded s && !s.bw.warned && due (s.bw.degradedAt.map (· + degradedLimit s - minutes 10)) s.now)
    (fun s => logRaw { s with bw := { s.bw with warned := true } } none 6 .bwr 0x02 0 0) s

/-- DEGRADED_EXPIRED (R682): the limit is reached once. -/
def execDegradedExpired (t : Nat) (s : State) : Host.Outcome State Fault Refusal :=
  whenEnabled t (fun s => degraded s && !s.bw.expired && due (s.bw.degradedAt.map (· + degradedLimit s)) s.now)
    (fun s => decideLockout { s with bw := { s.bw with expired := true } } 0x03) s

/-! ### Raising and lowering light (R664-R667) -/

/-- A latch of an edge die is set in BWR_INTLK. -/
def latched (s : State) (e : Nat) : Bool := bitAt (rget s .bwrIntlk) (4 * e + 2) || bitAt (rget s .bwrIntlk) (4 * e + 3)

/-- Both contacts of a receptacle have read closed for 100 ms (R669). A faulty channel's contact does not count. -/
def interlockClosed (s : State) (e : Nat) : Bool :=
  let ok := fun k => match Tab.find (2 * e + k) s.bw.closed with | some t => decide (t + ms 100 ≤ s.now) | none => false
  (ok 0 || channelBad s .p e) && (ok 1 || channelBad s .h e)

/-- Breakwater permits light on a port at all. -/
def lightAllowed (s : State) (p : Nat) : Bool :=
  s.bw.sfOn && lightMask s p && portRole s p != 0 && !portFallow s p && interlockClosed s (p % 4) && !latched s (p % 4) &&
    (bwPortOf s p).holdTill.isNone && !inLockout s && !s.clk.lnkBad && !s.pwr.thermtrip && s.bw.disagree != some (p % 4)

/-- A port's test is overdue by more than 60 minutes (R674). -/
def overdue (s : State) (p : Nat) : Bool :=
  match (bwPortOf s p).passed with
  | some t => decide (t + brakeInterval s (p % 4) + minutes 60 < s.now)
  | none => false

/-- PORT_PROBE_START (R499): a port leaves OFF with a fresh session, whose random values wait for the entropy source (R717);
what the old one held is lost. -/
def execPortProbeStart (p : Nat) (t : Nat) (s : State) : Host.Outcome State Fault Refusal :=
  whenEnabled t (fun s => decide (p < 32) && (portOf s p).st == 0 && s.img.inForce && s.img.isSealed && s.pwr.fold.isNone &&
      s.sec.badSince.isNone && lightAllowed s p)
    (fun s => setLevel (modPort (sessionLost s p) p fun x => { x with st := 1, cause := 0, since := s.now, tries := 0 }) p 1) s

/-- The conditions of R664 but for the pre-grant test. -/
def mayGrant (s : State) (p : Nat) : Bool :=
  lightAllowed s p && (portOf s p).st == 1 && (bwPortOf s p).level == 1 && !overdue s p &&
    due ((portOf s p).light.map (· + ms 1)) s.now

/-- A brake test starts (Table 17.4). -/
def startTest (s : State) (p : Nat) : State :=
  let l := (bwPortOf s p).level
  let s := modBwPort s p fun b => { b with was := l, test := some (s.now, false) }
  setLevel s p 3

/-- FULL_POWER_GRANT (R664, R500): a port whose cut-off paths have passed since the last reset goes to FULL and its link to
TRAIN; otherwise its pre-grant test starts (R673). -/
def execFullPowerGrant (p : Nat) (t : Nat) (s : State) : Host.Outcome State Fault Refusal :=
  whenEnabled t (fun s => decide (p < 32) && mayGrant s p) (fun s =>
    if (bwPortOf s p).tested then
      enterTrain (modBwPort (setLevel s p 2) p fun b => { b with held := 0 }) p
    else startTest s p) s

/-- APR_REDUCE (R665): a port at FULL has had no light for 50 µs. -/
def execAprReduce (p : Nat) (t : Nat) (s : State) : Host.Outcome State Fault Refusal :=
  whenEnabled t (fun s => decide (p < 32) && decide (2 ≤ (bwPortOf s p).level) && (portOf s p).light.isNone &&
      decide ((portOf s p).losAt + us 50 ≤ s.now))
    (fun s => reduceProbe s p 0) s

/-- OVER_POWER (R654): a port's transmitted power cuts it to OFF and sets its edge die's latch. -/
def execOverPower (p : Nat) (chan : Channel) (t : Nat) (s : State) : Host.Outcome State Fault Refusal :=
  whenEnabled t (fun s => decide (p < 32) && decide ((bwPortOf s p).level ≠ 0) && !channelBad s chan (p % 4))
    (fun s => rmod (cutOff s p) .bwrIntlk fun w => setBit w (4 * (p % 4) + 3) true) s

/-! ### Interlocks (R668-R670) -/

/-- A contact reads open. -/
def contactOpen (s : State) (key : Nat) : State :=
  { s with bw := { s.bw with closed := Tab.del key s.bw.closed, wrong := Tab.del key s.bw.wrong } }

/-- One channel's pulse of a period: a right one shows its contact closed; two wrong ones in succession on a contact that
reads closed are a wiring fault. -/
def pulse (s : State) (e key : Nat) (sense : Bool) : State :=
  if sense then
    { s with bw := { s.bw with closed := Tab.put key (Tab.getD s.now key s.bw.closed) s.bw.closed
                               wrong := Tab.del key s.bw.wrong } }
  else if (Tab.find key s.bw.closed).isNone then s
  else
    let n := Tab.getD 0 key s.bw.wrong + 1
    let s := { s with bw := { s.bw with wrong := Tab.put key n s.bw.wrong } }
    if n < 2 then s else rmod (cutDie s e) .bwrIntlk fun w => setBit w (4 * e + 2) true

/-- INTERLOCK_PULSE (R668, R670): one period of both channels on a receptacle. -/
def execInterlockPulse (e : Nat) (senseP senseH : Bool) (t : Nat) (s : State) : Host.Outcome State Fault Refusal :=
  whenEnabled t (fun s => decide (e < 4) && s.bw.sfOn) (fun s =>
    let s := if channelBad s .p e then s else pulse s e (2 * e) senseP
    if channelBad s .h e then s else pulse s e (2 * e + 1) senseH) s

/-- INTERLOCK_OPEN (R669): a channel reads its contact open, and every port of the receptacle is cut. -/
def execInterlockOpen (e : Nat) (chan : Channel) (t : Nat) (s : State) : Host.Outcome State Fault Refusal :=
  whenEnabled t (fun s => decide (e < 4) && !channelBad s chan e)
    (fun s => cutDie (contactOpen s (2 * e + (match chan with | .p => 0 | .h => 1))) e) s

/-! ### The optical brake (R671-R675) -/

/-- A port is due for a test (R671): at PROBE or FULL, its last pass at least the interval ago. -/
def brakeDue (s : State) (p : Nat) : Bool :=
  let b := bwPortOf s p
  (b.level == 1 || b.level == 2) &&
    (match b.passed with | some t => decide (t + brakeInterval s (p % 4) ≤ s.now) | none => true)

/-- The lowest-numbered due port of an edge die. -/
def brakePort (s : State) (e : Nat) : Option Nat :=
  ((List.range 8).map fun l => 4 * l + e).find? fun p => brakeDue s p

/-- The moment of this tide's test on edge dies: BRAKE_OFFSET_US into the brake bay. -/
def brakeMoment (s : State) : Nat := bayStartAt s (safetyOf s 12 1) + us (safetyOf s 14 4)

/-- BRAKE_TEST_START (R671): in the brake bay, at its offset, where the bay goes on for 60 µs, one test per edge die and
tide. -/
def execBrakeTestStart (e : Nat) (t : Nat) (s : State) : Host.Outcome State Fault Refusal :=
  whenEnabled t (fun s => decide (e < 4) && s.bw.sfOn && s.tide.running && !s.tide.sampled && s.tide.bay == safetyOf s 12 1 &&
      bayOccurs s (safetyOf s 12 1) && decide (brakeMoment s ≤ s.now) && decide (s.now + us 60 ≤ bayEndAt s s.tide.bay) &&
      (match Tab.find e s.bw.testAt with | some a => decide (a < s.tide.tick) | none => true) && (brakePort s e).isSome)
    (fun s =>
      let s' := startTest s ((brakePort s e).getD 0)
      { s' with bw := { s'.bw with testAt := Tab.put e s.now s'.bw.testAt } }) s

/-- The port of an edge die whose check is next: path H 6 µs after T0, path P 46 µs after T0 (Table 17.4). -/
def checkPort (s : State) (e : Nat) : Option Nat :=
  ((List.range 8).map fun l => 4 * l + e).find? fun p =>
    match (bwPortOf s p).test with
    | some (t0, h) => decide (t0 + us (if h then 46 else 6) ≤ s.now)
    | none => false

/-- BRAKE_TEST_CHECK (R672, R673): what the two channels read; `true` where every lane is below −30 dBm. -/
def execBrakeTestCheck (e : Nat) (monP monH : Bool) (t : Nat) (s : State) : Host.Outcome State Fault Refusal :=
  whenEnabled t (fun s => decide (e < 4) && (checkPort s e).isSome) (fun s =>
    let p := (checkPort s e).getD 0
    let second := match (bwPortOf s p).test with | some (_, h) => h | none => false
    let ok := monP && monH
    let s := rput s .bwrLastTest (word (tideNo s % 2 ^ 48 * 2 ^ 16 + p * 64 + second.toNat * 32 + ok.toNat))
    if !ok then decideLockout (cutOff s p) 0x01
    else if !second then modBwPort s p fun b => { b with test := b.test.map fun x => (x.1, true) }
    else
      let was := (bwPortOf s p).was
      modBwPort (setLevel (endTest s p) p was) p fun b => { b with tested := true, passed := some s.now }) s

/-- BRAKE_TEST_OVERDUE (R674): a port whose test is overdue by more than 60 minutes is held at PROBE. -/
def execBrakeTestOverdue (p : Nat) (t : Nat) (s : State) : Host.Outcome State Fault Refusal :=
  whenEnabled t (fun s => decide (p < 32) && (bwPortOf s p).level == 2 && overdue s p) (fun s => reduceProbe s p 0) s

/-! ### Receiving safety messages (R678-R680) -/

/-- What the channels say of the first message of a port's VC0 (R678): accepted by P, accepted by H. -/
def safetyAccepts (s : State) (p : Nat) (body : List Byte) : Bool × Bool :=
  let b := bwPortOf s p
  let f := fun off len => fieldAt body off len
  let far := (portOf s p).far
  let common := decide (f 0 1 = 1 ∨ f 0 1 = 2) && decide (f 1 1 < 4) && decide (f 2 2 < 4096) && decide (f 4 1 < 32) &&
    decide (f 5 1 < 32) && decide (f 6 2 < 4096) && allZero (slice body 20 4) && f 6 2 == s.plan.globalChip && f 5 1 == p &&
    f 2 2 == fieldAt far 8 2 && f 4 1 == fieldAt far 10 1 &&
    (match b.acc with
     | none => true
     | some a => let d := (f 8 4 + 2 ^ 32 - a) % 2 ^ 32; decide (1 ≤ d) && decide (d ≤ 1000))
  (common && f 24 4 == crc32c (body.take 24), common && f 28 4 == hCrc (body.take 24))

/-- A message that a channel rejects is counted; the third within 10 ms is a permit loss (R678). -/
def rejectSafety (s : State) (p : Nat) : State :=
  let s := rbump s .bwrPort 31 16 p
  let s := modBwPort s p fun b => { b with rejects := (s.now :: b.rejects.filter fun t => decide (s.now ≤ t + ms 10)).take 3 }
  if (bwPortOf s p).rejects.length < 3 then s
  else
    let s := modBwPort s p fun b => { b with rejects := [] }
    if (bwPortOf s p).level = 0 then s else reduceProbe s p 5

/-- The PERMIT is timely (R679). -/
def timely (s : State) (p echo : Nat) : Bool :=
  let b := bwPortOf s p
  (b.sent.any fun x => x.1 == echo && decide (s.now ≤ x.2 + rttMax s)) ||
    (echo == 0xFFFFFFFF && decide (s.now ≤ (portOf s p).since + permitExpect s))

/-- The body of the first VC0 message of a port. -/
def safetyHead (s : State) (p : Nat) : List Byte := match headUnit s p 0 with | some b => b.drop 16 | none => []

/-- PERMIT (R679): the first message is a SAFETY message other than SHUTDOWN; both channels must accept it. -/
def execPermit (p : Nat) (t : Nat) (s : State) : Host.Outcome State Fault Refusal :=
  whenEnabled t (fun s => decide (p < 32) && headIs s p 7 && fieldAt (safetyHead s p) 0 1 != 2) (fun s =>
    let body := safetyHead s p
    let ok := safetyAccepts s p body
    let s := dropUnit s p 0
    if !(ok.1 && ok.2) then rejectSafety s p
    else
      let now := timely s p (fieldAt body 12 4)
      modBwPort s p fun b => { b with acc := some (fieldAt body 8 4), permitAt := if now then s.now else b.permitAt }) s

/-- SHUTDOWN (R680): either channel that accepts it cuts the port to OFF for the hold time it gives. -/
def execShutdown (p : Nat) (t : Nat) (s : State) : Host.Outcome State Fault Refusal :=
  whenEnabled t (fun s => decide (p < 32) && headIs s p 7 && fieldAt (safetyHead s p) 0 1 == 2) (fun s =>
    let body := safetyHead s p
    let ok := safetyAccepts s p body
    let s := dropUnit s p 0
    let s := if ok.1 && ok.2 then s else rejectSafety s p
    if !(ok.1 || ok.2) then s
    else
      let s := rbump (cutOff s p) .bwrPort 15 0 p
      modBwPort s p fun b => { b with acc := some (fieldAt body 8 4), holdTill := some (s.now + ms (fieldAt body 18 2)) }) s

/-- PERMIT_LOSS (R679). -/
def execPermitLoss (p : Nat) (t : Nat) (s : State) : Host.Outcome State Fault Refusal :=
  whenEnabled t (fun s => decide (p < 32) && (portOf s p).st == 4 && decide ((bwPortOf s p).permitAt + permitExpect s ≤ s.now))
    (fun s => reduceProbe s p 5) s

/-- SHUTDOWN_HOLD_END (R680). -/
def execShutdownHoldEnd (p : Nat) (t : Nat) (s : State) : Host.Outcome State Fault Refusal :=
  whenEnabled t (fun s => decide (p < 32) && due (bwPortOf s p).holdTill s.now)
    (fun s => modBwPort s p fun b => { b with holdTill := none }) s

/-! ### BWR_CMD and the two-step reset (R687-R689) -/

/-- RESULT of BWR_RESET_STATUS written and ARMED cleared. -/
def endArm (s : State) (result : Nat) : State :=
  rsetField (rsetField { s with bw := { s.bw with armAt := none } } .bwrResetStatus 63 63 0) .bwrResetStatus 59 56 result

/-- ARM: with the key that LOCK_ID asks for, a fresh challenge is set; with another, the result says so. -/
def armReset (v : Word) (s : State) : State :=
  if bf v 31 16 ≠ onesComp 16 (rfield s .bwrStatus 15 0) ∨ 4 < bf v 50 48 then rsetField s .bwrResetStatus 59 56 5
  else
    let (c, s) := draw s
    let s := rsetField (rsetField s .bwrResetStatus 47 32 c) .bwrResetStatus 62 60 (bf v 50 48)
    rsetField { s with bw := { s.bw with armAt := some s.now, lastArm := some s.now } } .bwrResetStatus 63 63 1

/-- CONFIRM with the pins as both channels sample them: the self-tests start, or the reset is refused (R687-R689). -/
def confirmReset (v : Word) (permit stopP stopH : Bool) (s : State) : State :=
  match s.bw.armAt with
  | none => endArm s 2
  | some a =>
    if bf v 31 16 ≠ onesComp 16 (rfield s .bwrResetStatus 47 32) ∨ bf v 50 48 ≠ rfield s .bwrResetStatus 62 60 then endArm s 5
    else if s.now < a + ms 1000 ∨ a + ms 60000 < s.now ∨ !permit ∨ !stopP ∨ !stopH ∨ s.clk.safeBad ∨ s.clk.lnkBad ∨
        inLockout s ≠ decide (bf v 50 48 = 0) then endArm s 2
    else
      let s := rsetField { s with bw := { s.bw with armAt := none } } .bwrResetStatus 63 63 0
      { s with bw := { s.bw with confirm := some (bf v 50 48) } }

/-- The write of BWR_CMD (R692): BC8 writes only OP LOCKOUT; an OP of no operation has no effect and is an access error. -/
def writeBwrCmd (q : Requester) (v : Word) (permit stopP stopH : Bool) (s : State) : State :=
  let op := bf v 63 56
  if q = .bc8 ∧ op ≠ 1 then logAccess s .bwr 0x04 (regAddr .bwrCmd 0 0) (reqCode q)
  else
    guardedWrite s q .bwrCmd 0 0 v (fun _ => decide (1 ≤ op) && decide (op ≤ 4)) fun s =>
      match op with
      | 1 => decideLockout s 0x04
      | 2 => armReset v s
      | 3 => confirmReset v permit stopP stopH s
      | _ => { rsetField s .bwrResetStatus 63 63 0 with bw := { s.bw with armAt := none } }

/-- The command writes BWR_CMD with its own OP. -/
def bwrOp (v : Word) (op : Nat) : Bool := bf v 63 56 == op

/-- LOCKOUT (R684). -/
def execLockout (q : Requester) (v : Word) (t : Nat) (s : State) : Host.Outcome State Fault Refusal :=
  whenEnabled t (fun s => reachable s q && s.bw.sfOn && bwrOp v 1) (writeBwrCmd q v false true true) s
/-- ARM (R687). -/
def execArm (q : Requester) (v : Word) (t : Nat) (s : State) : Host.Outcome State Fault Refusal :=
  whenEnabled t (fun s => reachable s q && s.bw.sfOn && bwrOp v 2) (writeBwrCmd q v false true true) s
/-- CONFIRM (R687): with the levels of SAFE_PERMIT, SAFE_STOP_P_N and SAFE_STOP_H_N. -/
def execConfirm (q : Requester) (v : Word) (permit stopP stopH : Bool) (t : Nat) (s : State) :
    Host.Outcome State Fault Refusal :=
  whenEnabled t (fun s => reachable s q && s.bw.sfOn && bwrOp v 3) (writeBwrCmd q v permit stopP stopH) s
/-- ABORT (R687). -/
def execAbortC (q : Requester) (v : Word) (t : Nat) (s : State) : Host.Outcome State Fault Refusal :=
  whenEnabled t (fun s => reachable s q && s.bw.sfOn && bwrOp v 4) (writeBwrCmd q v false true true) s

/-- ARM_TIMEOUT (R687): no CONFIRM within 60 s. -/
def execArmTimeout (t : Nat) (s : State) : Host.Outcome State Fault Refusal :=
  whenEnabled t (fun s => match s.bw.armAt with | some a => decide (a + ms 60000 < s.now) | none => false)
    (fun s => endArm s 4) s

/-- A confirmed reset of scope 0 succeeds (R688). -/
def leaveLockout (s : State) : State :=
  let s := rmod s .bwrStatus fun w => setBf (setBf w 63 63 0) 61 54 0
  let s := rput (rsetField s .bwrResetStatus 59 56 1) .bwrIntlk 0
  let s := { s with bw := { s.bw with degradedAt := none, warned := false, expired := false, entry := none, wrong := [], disagree := none } }
  drivePin (drivePin (postPf s 0x14 2 0 3) "LOCKOUT_N" true) "SAFE_FAULT_N" true

/-- RESET_SELF_TEST_DONE (R688, R689, R696). -/
def execResetSelfTestDone (okP : Bool) (okH : List Bool) (t : Nat) (s : State) : Host.Outcome State Fault Refusal :=
  whenEnabled t (fun s => s.bw.confirm.isSome) (fun s =>
    let scope := s.bw.confirm.getD 0
    let s := { s with bw := { s.bw with confirm := none } }
    let h := fun e => okH.getD e true
    if scope = 0 then
      if okP && (List.range 4).all h then leaveLockout s else rsetField s .bwrResetStatus 59 56 3
    else if okP && h (scope - 1) then
      rsetField (rmod { s with bw := { s.bw with wrong := Tab.del (2 * (scope - 1)) (Tab.del (2 * (scope - 1) + 1) s.bw.wrong) } }
        .bwrIntlk fun w => setBf w (4 * (scope - 1) + 3) (4 * (scope - 1) + 2) 0) .bwrResetStatus 59 56 1
    else rsetField s .bwrResetStatus 59 56 3) s

/-! ### The safety die's supply (R685, R700) -/

/-- The BWR_ registers. -/
def bwrRegs : List Reg := [.bwrStatus, .bwrIntlk, .bwrCmd, .bwrResetStatus, .bwrLastTest, .bwrPort, .bwrHStatus]

/-- SF_POWER_LOSS (R700): every switch P opens and every port goes dark. -/
def execSfPowerLoss (t : Nat) (s : State) : Host.Outcome State Fault Refusal :=
  whenEnabled t (fun s => s.bw.sfOn) (fun s =>
    let s := (List.range 32).foldl cutOff s
    drivePin { s with bw := { s.bw with sfOn := false } } "LOCKOUT_N" false) s

/-- SF_POWER_ON (R685): Channel P starts with its registers at their reset values; where PKG_PWROK is high at that moment
(`withPkgOk`), in lock-out with cause SF_RESTART. -/
def execSfPowerOn (withPkgOk : Bool) (t : Nat) (s : State) : Host.Outcome State Fault Refusal :=
  whenEnabled t (fun s => !s.bw.sfOn && withPkgOk == s.pwr.pwrok) (fun s =>
    let s := { rclear s bwrRegs with bw := { Bw.reset with sfOn := true } }
    if withPkgOk then decideLockout s 0x06 else drivePin s "LOCKOUT_N" true) s

end Sys2Proof.Machine
end

