-- ==== Sys2Proof/Machine/ClockEvents.lean ====
section
/-! DEFINITION. The clock events of Table 1.10 that also reach the Deckarok ports. -/

namespace Sys2Proof.Machine

/-- LNKCLK is declared lost or out of tolerance: every port fails, and Channel H of every edge die is at fault. -/
def lnkLost (s : State) : State := failAllPorts (lnkFail s)

/-- CLOCK_INPUT_LOST (R49, R50): an input shows no edge for 32 monitor cycles. -/
def execClockInputLost (input : RefInput) (t : Nat) (s : State) : Host.Outcome State Fault Refusal :=
  whenEnabled t monitorRuns (fun s =>
    match input with
    | .refclk => refFail s
    | .lnkclk => lnkLost s
    | .safeclk => safeFail s) s

/-- TOLERANCE_WINDOW (R49): the end of a 100 µs window, with the three counts scaled to nominal 1,000,000. An input is out
of tolerance when it differs from both others; when all three disagree pairwise there is no majority. The OK bits and
REF_DEV_PPM show the window. An input that was out already is not declared again. REFCLK's unbroken span starts with the first window
in tolerance after one out of it (R56). -/
def execToleranceWindow (ref lnk safe : Nat) (t : Nat) (s : State) : Host.Outcome State Fault Refusal :=
  whenEnabled t monitorRuns (fun s =>
    let rl := ppmApart ref lnk
    let rs := ppmApart ref safe
    let ls := ppmApart lnk safe
    let none_ := rl && rs && ls
    let refOut := rl && rs
    let lnkOut := rl && ls
    let safeOut := rs && ls
    let s := rsetField s .clkRefStatus 47 32 (ofSigned 16 (refDev ref lnk safe))
    let s := rsetField s .clkRefStatus 2 0 ((!refOut).toNat + 2 * (!lnkOut).toNat + 4 * (!safeOut).toNat)
    let wasBad := s.clk.refBad
    let wasLnk := s.clk.lnkBad
    let wasSafe := s.clk.safeBad
    let from_ := if refOut then 0 else if wasBad && s.clk.refGoodFrom = 0 then s.now else s.clk.refGoodFrom
    let s := { s with clk := { s.clk with
      refGoodFrom := from_
      refBad := refOut || wasBad && decide (s.now < from_ + ms 1)
      lnkBad := lnkOut, safeBad := safeOut } }
    if none_ then
      let s := rmod s .clkRefStatus (fun w => setBit w 11 true)
      clockLoss (tellBreakwater { s with clk := { s.clk with refBad := true } } 0x1F) 2
    else
      let s := if refOut && !wasBad then refFail s else s
      let s := if lnkOut && !wasLnk then lnkLost s else s
      if safeOut && !wasSafe then safeFail s else s) s

end Sys2Proof.Machine
end

