-- ==== Sys2Proof/Machine/Haul.lean ====
section
/-! DEFINITION. Haul movers (chapter 6, R264-R269, R276) and the transfers to and from the host that they make. A command
moves its bytes when the mover takes it, and completes at the moment that R269 gives. -/

namespace Sys2Proof.Machine

/-! ### What an engine may read -/

/-- The span lies in one allocated buffer or page of the stall (R229, R246). -/
def inStallBuf (s : State) (n a len : Nat) : Bool :=
  s.bufs.any fun kb =>
    kb.2.alloc && (if 32 * 2 ^ 20 ≤ kb.1 then (kb.1 / 2 ^ 20 - 32) / 4 == n else kb.2.req / 16 == n) &&
      (let sp := keySpan s kb.1; decide (sp.1 ≤ a) && decide (a + len ≤ sp.1 + sp.2))

/-- An engine may read the span for a context (R229): its extents, its tiles, and the buffers and pages it may use. -/
def mayUse (s : State) (c a len : Nat) : Bool :=
  mayRead s c a len || (decide (c < 16) && inStallBuf s (stallNo c) a len)

/-- An engine's read of a span for a context. -/
def withUse (s : State) (src : Src) (c a len : Nat) (k : List Byte → State → State) : State :=
  if mayUse s c a len then withBytes s src a len k else violation s src a

/-- An engine of a class and instance runs no command. -/
def engineIdle (s : State) (cls inst : Nat) : Bool :=
  s.cmds.all fun m => !(m.cls == cls && m.inst == inst) ||
    !(m.st == .running || (m.st == .finished && decide (s.now < m.doneAt)))

/-- The bay gate of a transfer (R74, R75): it starts, or it is held and the command stays queued, or no bay is left and
the step ends with BAY_MISS. BC8 has no bays. -/
def gated (s : State) (src : Src) (c : Nat) (res : List Nat) (addr : Nat) (k : State → State) : State :=
  if c = 16 then k s
  else
    match gate s (stallNo c) res with
    | .go => k s
    | .hold => s
    | .miss => stepFail s src c 0x02 addr

/-- The stall runs in Neap mode. -/
def neapCtx (s : State) (c : Nat) : Bool := decide (c < 16) && !floodCtx s c

/-! ### The descriptor (Table 6.7, R267) -/

/-- A Haul descriptor. -/
structure HaulDesc where
  op : Nat
  srcKind : Nat
  dstKind : Nat
  rows : Nat
  src : Nat
  dst : Nat
  srcOff : Nat
  dstOff : Nat
  len : Nat
  srcStride : Nat
  dstStride : Nat
  deriving DecidableEq, Repr

/-- The Haul descriptor of 64 bytes. -/
def haulDesc (b : List Byte) : HaulDesc :=
  { op := fieldAt b 0 1, srcKind := fieldAt b 1 1, dstKind := fieldAt b 2 1, rows := fieldAt b 4 4
    src := fieldAt b 8 8, dst := fieldAt b 16 8, srcOff := fieldAt b 24 4, dstOff := fieldAt b 28 4
    len := fieldAt b 32 4, srcStride := fieldAt b 36 4, dstStride := fieldAt b 40 4 }

/-- The chip field of a board address and its local part (R231). -/
def boardChip (a : Nat) : Nat := a / 2 ^ 48
/-- The local part of a board address. -/
def boardLocal (a : Nat) : Nat := a % 2 ^ 48

/-- A board address names a chip of the board (R233). -/
def boardOk (s : State) (a : Nat) : Bool := decide (a < 2 ^ 52) && decide (boardChip a < boardChips s)

/-- A board address names another chip. -/
def boardFar (s : State) (kind a : Nat) : Bool := kind == 0 && boardChip a != chipOnBoard s

/-- The form of a Haul descriptor (R267, R842). -/
def haulForm (s : State) (d : HaulDesc) (b : List Byte) : Bool :=
  let al := fun v => v % 64 == 0
  let srcAllowed :=
    match d.op with
    | 2 => d.srcKind == 0
    | 5 => d.srcKind == 3
    | _ => decide (d.srcKind ≤ 2)
  let dstAllowed := if d.op = 4 then d.dstKind == 3 else d.dstKind == 0 || d.dstKind == 1
  let srcAddr :=
    if d.op = 2 then true
    else
      match d.srcKind with
      | 0 => boardOk s d.src && al d.src
      | 2 => decide (d.src < 64)
      | 3 => al d.src
      | _ => true
  let dstAddr :=
    match d.dstKind with
    | 0 => boardOk s d.dst && al d.dst
    | 3 => al d.dst
    | _ => true
  let far := (d.op != 2 && boardFar s d.srcKind d.src).toNat + (boardFar s d.dstKind d.dst).toNat
  decide (1 ≤ d.op) && decide (d.op ≤ 5) && fieldAt b 3 1 == 0 && allZero (slice b 44 20) && srcAllowed && dstAllowed &&
    srcAddr && dstAddr && al d.len && d.len != 0 && al d.srcOff && al d.dstOff &&
    (d.srcKind == 1 || d.srcKind == 2 || d.srcOff == 0) && (d.dstKind == 1 || d.dstOff == 0) &&
    (if d.op = 3 then decide (1 ≤ d.rows) && decide (d.rows ≤ 65535) && al d.srcStride && al d.dstStride
     else d.rows == 1 && d.srcStride == 0 && d.dstStride == 0) &&
    (if d.op = 1 ∨ d.op = 3 then decide (far ≤ 1) else far == 0)

/-- The bytes that one side spans, from its first address. -/
def haulSpan (d : HaulDesc) (stride : Nat) : Nat := (d.rows - 1) * stride + d.len

/-- Goes on with the first address of the source. -/
def haulSrc (s : State) (c : Nat) (d : HaulDesc) (k : Nat → State → State) : State :=
  match d.srcKind with
  | 1 => withHandle s .hau (stallNo c) d.src d.srcOff (haulSpan d d.srcStride) k
  | 2 =>
    let n := stallNo c
    let p := pubOf s n d.src
    if c = 16 then violation s .hau d.src
    else if !p.sound then mismatch s .hau d.src
    else if !slotValid s n d.src then stepFail s .hau c 0x0A d.src
    else
      let h := p.handle p.side
      withHandle s .hau n (h + onesComp 32 h * 2 ^ 32) d.srcOff (haulSpan d d.srcStride) k
  | _ => k (boardLocal d.src) s

/-- Goes on with the first address of the destination. -/
def haulDst (s : State) (c : Nat) (d : HaulDesc) (k : Nat → State → State) : State :=
  match d.dstKind with
  | 1 => withHandle s .hau (stallNo c) d.dst d.dstOff (haulSpan d d.dstStride) k
  | _ => k (boardLocal d.dst) s

/-- The rows of a local copy: source, destination, length. -/
def haulRows (d : HaulDesc) (src dst : Nat) : List (Nat × Nat × Nat) :=
  (List.range d.rows).map fun i => (src + i * d.srcStride, dst + i * d.dstStride, d.len)

/-- A span cut at multiples of `unit` bytes from its start: offset and length of each piece. -/
def cuts (unit : Nat) : Nat → Nat → Nat → List (Nat × Nat)
  | 0, _, _ => []
  | fuel + 1, off, len => if len = 0 then [] else (off, min unit len) :: cuts unit fuel (off + min unit len) (len - min unit len)

/-- Copies rows in order; `fill` gives the pattern in place of a source. -/
def copyRows (fill : Option (List Byte)) (null : Bool) : List (Nat × Nat × Nat) → State → State
  | [], s => s
  | (a, d, len) :: rest, s =>
    match fill with
    | some pat =>
      copyRows fill null rest (if null then s else writeMem s d ((List.replicate (len / 8) pat).flatten))
    | none =>
      withBytes s .hau a len fun b s => copyRows fill null rest (if null then s else writeMem s d b)

/-- The places of a mover's transfer and the bay-scheduled resources on its two paths (R841). -/
def haulRes (m : Nat) (src dst : Option Place) : List Nat :=
  let at_ := Place.cd (m / 2)
  (match src with | some p => pathRes p at_ | none => []) ++ (match dst with | some p => pathRes at_ p | none => [])

/-- The fixed time of a COPY, FILL or COPY_2D on the chip (R269), in picoseconds. -/
def haulTime (m : Nat) (d : HaulDesc) (src dst : Option Place) : Nat :=
  let at_ := Place.cd (m / 2)
  let lat := fun (o : Option Place) => match o with | some p => readLatency at_ p | none => 0
  lat src + lat dst + d.rows * (cdiv d.len 128 * 500)

/-- Bytes moved are counted (HAU_BYTES). -/
def haulCount (s : State) (m n : Nat) : State := rbump s .hauBytes 63 0 m n

/-- The steward's 4 KiB pieces of a command's rows (R266). -/
def stewardPieces (rows : List (Nat × Nat × Nat)) : List (Nat × Nat × Nat) :=
  rows.flatMap fun r => (cuts 4096 (r.2.2 + 1) 0 r.2.2).map fun p => (r.1 + p.1, r.2.1 + p.1, p.2)

/-- BC8 may use mover m now (R266). -/
def stewardMay (s : State) (m : Nat) : Bool :=
  let o := cdOwner s (m / 2)
  if 8 ≤ o then true
  else if floodOf s o then
    s.cmds.all fun x => !(x.cls == 0 && x.inst == m && x.c != 16 && (x.st == .queued || x.st == .running))
  else s.tide.running && s.tide.sampled && decide (samplingPoint s + ns 4000 ≤ s.now)

/-- The rows that remain of a steward command: `left` pieces. -/
def stewardNext (s : State) (m : Nat) (x : Cmd) : State :=
  let d := haulDesc x.desc
  let rows := stewardPieces (haulRows d (boardLocal d.src) (boardLocal d.dst))
  let fill := if d.op = 2 then some (leBytes 8 d.src) else none
  match rows.drop (rows.length - x.left) with
  | [] => finishCmd s x.id s.now
  | r :: _ =>
    let s := haulCount (copyRows fill false [r] s) m r.2.2
    cmdPart s x.id

/-- A COPY, FILL or COPY_2D that stays on the chip (R268, R269); BC8's on an owned die goes on in pieces (R266). -/
def haulLocal (c m : Nat) (x : Cmd) (d : HaulDesc) (src dst : Nat) (s : State) : State :=
  let rows := haulRows d src dst
  let fill := if d.op = 2 then some (leBytes 8 d.src) else none
  let sp := if d.op = 2 then none else placeOf src
  let dp := placeOf dst
  match rows.find? (fun r => (d.op != 2 && !mayUse s c r.1 r.2.2) || !mayWrite s c r.2.1 r.2.2) with
  | some r => violation s .hau (if d.op != 2 && !mayUse s c r.1 r.2.2 then r.1 else r.2.1)
  | none =>
    gated s .hau c (haulRes m sp dp) dst fun s =>
      if c = 16 && decide (cdOwner s (m / 2) < 8) then
        let s := modCmd s x.id fun y => { y with st := .running, left := (stewardPieces rows).length, desc := x.desc }
        stewardNext s m { x with left := (stewardPieces rows).length }
      else
        let from_ := max (afterBlackout s src s.now) (afterBlackout s dst s.now)
        let s := haulCount (copyRows fill x.null rows s) m (if x.null then 0 else d.rows * d.len)
        finishCmd s x.id (from_ + haulTime m d sp dp)

/-! ### Copies to and from another chip (R268, Table 13.7) -/

/-- A VC3 unit: its header with the CRC-16 over bytes 0-29 and the payload. -/
def vc3Unit (unit stall ctx attempt : Nat) (reply : Bool) (step copy addr len back : Nat) (payload : List Byte) : List Byte :=
  let h := leBytes 1 unit ++ leBytes 1 (stall + 8 * ctx + 16 * (attempt % 4) + 64 * reply.toNat) ++ leBytes 2 step ++
    leBytes 4 copy ++ leBytes 8 addr ++ leBytes 4 len ++ leBytes 8 back ++ zeros 2
  h ++ leBytes 2 (crc16 (h ++ payload)) ++ payload

/-- The ports of a stall to a position: ROLE peer, OWNER the stall, ACTIVE (R440, R527). -/
def stallPorts (s : State) (n pos : Nat) : List Nat := (activeTo s pos).filter fun p => ownerOfPort s p == n

/-- A READ_REQ goes out where fewer than 64 are outstanding on the port, else it waits (R529). -/
def sendReadReq (s : State) (p : Nat) (u : TxUnit) : State :=
  if (portOf s p).asked.length < 64 then
    let len := fieldAt u.bytes 16 4
    sendUnit (modPort s p fun x => { x with asked := x.asked ++ [(fieldAt u.bytes 4 4, fieldAt u.bytes 20 8, len, len)] }) p 3 u
  else modPort s p fun x => { x with readQ := x.readQ ++ [u] }

/-- A COPY or COPY_2D with one side on another chip. -/
def haulRemote (c m : Nat) (x : Cmd) (d : HaulDesc) (src dst : Nat) (s : State) : State :=
  let n := stallNo c
  let y := ctxOf s c
  let toFar := boardFar s d.dstKind d.dst
  let pos := if toFar then boardChip d.dst else boardChip d.src
  let pieces := stewardPieces (haulRows d src dst)
  let bad := (haulRows d src dst).find? fun r => if toFar then !mayUse s c r.1 r.2.2 else !mayWrite s c r.2.1 r.2.2
  match bad with
  | some r => violation s .hau (if toFar then r.1 else r.2.1)
  | none =>
    if c = 16 then violation s .hau d.src
    else
      match stallPorts s n pos with
      | [] => stepFail s .hau c 0x4A
      | p :: _ =>
        let place := placeOf (if toFar then src else dst)
        gated s .hau c (haulRes m place none ++ pathRes (.cd (m / 2)) (.dd (m / 16))) src fun s =>
          if x.null then finishCmd s x.id s.now
          else
            let s := haulCount s m (d.rows * d.len)
            let unit := fun (payload : List Byte) (u addr back len : Nat) =>
              ({ bytes := vc3Unit u n (c % 2) y.attempt false y.req.step (x.id % 2 ^ 32) addr len back payload
                 started := false, safety := false, reply := false, c := c, uid := x.uid, cmd := 0 } : TxUnit)
            let s := markUnfixed (startCmd s x.id pieces.length) x.id
            if toFar then
              pieces.foldl (fun s r =>
                withBytes s .hau r.1 r.2.2 fun b s => sendUnit s p 3 (unit b 1 r.2.1 0 r.2.2)) s
            else pieces.foldl (fun s r => sendReadReq s p (unit [] 2 r.1 r.2.1 r.2.2)) s

/-! ### Transfers to and from the host (R160, R636-R640) -/

/-- TO_HOST: held until the commit point; its source must lie in HBM (R160). BC8's goes at once. -/
def haulToHost (c m : Nat) (x : Cmd) (d : HaulDesc) (src : Nat) (s : State) : State :=
  if !mayUse s c src d.len then violation s .hau src
  else
    let y := ctxOf s c
    let h : Held := { fn := if c = 16 then 8 else stallNo c, req := y.req, attempt := y.attempt, variant := variantNow y
                      cmd := x.id, src := src, len := d.len, dst := d.dst, note := none }
    if c = 16 then hostFlush (finishCmd (issueHeld (haulCount s m d.len) c none h) x.id s.now)
    else if !isHbm src then stepFail s .hau c 0x0B src
    else if x.null then finishCmd s x.id s.now
    else
      let s := modCtx (haulCount s m d.len) c fun y => { y with held := y.held ++ [h] }
      modCmd s x.id fun y => { y with st := .held, unfixed := true }

/-- The lowest tag of a function that no outstanding read holds. -/
def freeTag (s : State) (fn : Nat) : Nat :=
  ((List.range (s.host.reads.length + 1)).find? fun k =>
    s.host.reads.all fun r => !(r.fn == fn && r.tag == k &&
      (match r.timedOut with | some t => decide (s.now < t + ms 500) | none => true))).getD 0

/-- One read request of a FROM_HOST leaves. -/
def hostReadReq (c fn : Nat) (x : Cmd) (s : State) (cut : Nat × Nat × Nat) (dst : Nat) : State :=
  let tag := freeTag s fn
  let r : HostRd := { fn := fn, tag := tag, c := c, uid := x.uid, cmd := x.id, dst := dst + cut.2.1, len := cut.2.2
                      orphan := false, timedOut := none, delayed := none }
  { s with
    host := { s.host with reads := s.host.reads.filter (fun y => !(y.fn == fn && y.tag == tag)) ++ [r] }
    out := Out.hostRead fn tag cut.1 cut.2.2 :: s.out }

/-- FROM_HOST (R636, R643): split into reads of at most 512 bytes that cross no 4 KiB boundary. -/
def haulFromHost (c m : Nat) (x : Cmd) (d : HaulDesc) (dst : Nat) (s : State) : State :=
  let fn := if c = 16 then 8 else stallNo c
  if !mayWrite s c dst d.len then violation s .hau dst
  else if (fnOf s fn).bme = false then (if c = 16 then s else stepFail s .hif c 0x63)
  else if x.null then finishCmd s x.id s.now
  else
    let reads := tlpCuts 512 (d.len + 1) d.src 0 d.len
    let s := markUnfixed (startCmd (haulCount s m d.len) x.id reads.length) x.id
    reads.foldl (fun s cut => hostReadReq c fn x s cut dst) s

/-! ### The commands -/

/-- A mover takes a Haul command. -/
def haulTake (c m : Nat) (x : Cmd) (b : List Byte) (s : State) : State :=
  let d := haulDesc b
  let x := { x with desc := b.take 64 }
  if !haulForm s d b then violation s .hau x.addr
  else
    match d.op with
    | 2 => haulDst s c d fun dst s => haulLocal c m x d 0 dst s
    | 4 => haulSrc s c d fun src s => haulToHost c m x d src s
    | 5 => haulDst s c d fun dst s => haulFromHost c m x d dst s
    | _ =>
      haulSrc s c d fun src s => haulDst s c d fun dst s =>
        if boardFar s d.srcKind d.src || boardFar s d.dstKind d.dst then haulRemote c m x d src dst s
        else haulLocal c m x d src dst s

/-- A Haul OP of the class. -/
def haulOpValid (o : Nat) : Bool := decide (1 ≤ o) && decide (o ≤ 5)

/-- Mover m takes the oldest command of a context where its OP is `op`. -/
def haulCmd (op c m : Nat) (s : State) : State :=
  if !engineIdle s 0 m || (c == 16 && !stewardMay s m) then s
  else takeCmd s .hau c 0 m op 64 haulOpValid (haulTake c m)

/-- COPY (R269). -/
def execCopy (c m : Nat) (t : Nat) (s : State) : Host.Outcome State Fault Refusal := whenEnabled t (fun _ => true) (haulCmd 1 c m) s
/-- FILL (R269). -/
def execFill (c m : Nat) (t : Nat) (s : State) : Host.Outcome State Fault Refusal := whenEnabled t (fun _ => true) (haulCmd 2 c m) s
/-- COPY_2D (R269). -/
def execCopy2d (c m : Nat) (t : Nat) (s : State) : Host.Outcome State Fault Refusal := whenEnabled t (fun _ => true) (haulCmd 3 c m) s
/-- TO_HOST (R160). -/
def execToHost (c m : Nat) (t : Nat) (s : State) : Host.Outcome State Fault Refusal := whenEnabled t (fun _ => true) (haulCmd 4 c m) s
/-- FROM_HOST (R639). -/
def execFromHost (c m : Nat) (t : Nat) (s : State) : Host.Outcome State Fault Refusal := whenEnabled t (fun _ => true) (haulCmd 5 c m) s

/-- The steward command that waits at mover m with pieces left. -/
def stewardCmd (s : State) (m : Nat) : Option Cmd :=
  s.cmds.find? fun x => x.c == 16 && x.cls == 0 && x.inst == m && x.st == .running && x.left != 0 &&
    decide ((haulDesc x.desc).op ≤ 3)

/-- STEWARD_HAUL_RESUME (R266, R276): the next 4 KiB piece of BC8's command at mover m, where R266 allows it. -/
def execStewardHaulResume (m : Nat) (t : Nat) (s : State) : Host.Outcome State Fault Refusal :=
  whenEnabled t (fun s => stewardMay s m && (stewardCmd s m).isSome) (fun s =>
    match stewardCmd s m with | some x => stewardNext s m x | none => s) s

/-! ### REMOTE_ADD (R288, R289) -/

/-- REMOTE_ADD: the add goes to the far chip as a VC0 message and completes when it is acknowledged (R289, R526); to this
chip itself it is a local add. -/
def remoteAdd (c : Nat) (m : Cmd) (b : List Byte) (s : State) : State :=
  let d := talDesc b
  if !talDescOk s c d b then violation s .tal m.addr
  else if d.chip = chipOnBoard s then
    tallyAdd (finishCmd s m.id (max s.now (m.arrive + cyc 8))) c d.index d.amount
  else
    let x := ctxOf s c
    let body := remoteAddBody (chipOnBoard s) (stallNo c) (c % 2) x.attempt x.req.step d.index d.amount
    let s := startCmd s m.id 1
    let s := modCtx s c fun x => { x with group := if x.group.contains d.chip then x.group else x.group ++ [d.chip] }
    sendMessage s c 1 d.chip body m.id

/-- REMOTE_ADD (R289). -/
def execRemoteAdd (c : Nat) (t : Nat) (s : State) : Host.Outcome State Fault Refusal :=
  whenEnabled t (fun s => talReady s c) (fun s => takeCmd s .tal c 9 0 3 64 talOpValid (remoteAdd c)) s

end Sys2Proof.Machine
end

