-- ==== Sys2Proof/Machine/Float.lean ====
section
/-! DEFINITION. The number formats of Table 8.1 and exact arithmetic on their values. A finite value is a sign, a natural
number and a power of two, so that sums and products are formed exactly and rounded once, where a rule says so. -/

namespace Sys2Proof.Machine

/-- The value of a number of any format: NaN, an infinity, or (−1)^neg × m × 2^e; m = 0 is a signed zero. -/
inductive Fp where
  | nan
  | inf (neg : Bool)
  | fin (neg : Bool) (m : Nat) (e : Int)
  deriving DecidableEq, Repr

namespace Fp

/-- +0. -/
def zero : Fp := .fin false 0 0
/-- +1. -/
def one : Fp := .fin false 1 0
/-- The value of an integer. -/
def ofInt (i : Int) : Fp := .fin (decide (i < 0)) i.natAbs 0

/-- The value is a NaN. -/
def isNan : Fp → Bool | .nan => true | _ => false
/-- The value is ±0. -/
def isZero : Fp → Bool | .fin _ m _ => m == 0 | _ => false
/-- The sign of a value. -/
def sign : Fp → Bool | .nan => false | .inf n => n | .fin n _ _ => n
/-- The value is finite. -/
def isFin : Fp → Bool | .fin _ _ _ => true | _ => false

/-- The value with its sign inverted. -/
def neg : Fp → Fp
  | .nan => .nan
  | .inf n => .inf (!n)
  | .fin n m e => .fin (!n) m e
/-- The value's magnitude. -/
def abs : Fp → Fp
  | .nan => .nan
  | .inf _ => .inf false
  | .fin _ m e => .fin false m e
/-- The value with a sign. -/
def withSign (n : Bool) (v : Fp) : Fp := if n then v.abs.neg else v.abs

/-- The exact product. -/
def mul : Fp → Fp → Fp
  | .nan, _ => .nan
  | _, .nan => .nan
  | .inf a, .inf b => .inf (a != b)
  | .inf a, .fin b m _ => if m = 0 then .nan else .inf (a != b)
  | .fin a m _, .inf b => if m = 0 then .nan else .inf (a != b)
  | .fin a m e, .fin b n f => .fin (a != b) (m * n) (e + f)

/-- The signed mantissa of a finite value at an exponent not above its own. -/
def mantAt (neg : Bool) (m : Nat) (e f : Int) : Int :=
  let v : Int := (m * 2 ^ (e - f).toNat : Nat)
  if neg then -v else v

/-- The exact sum; a sum of zeros is −0 only where both are, and an exact cancellation is +0 (round to nearest). -/
def add : Fp → Fp → Fp
  | .nan, _ => .nan
  | _, .nan => .nan
  | .inf a, .inf b => if a = b then .inf a else .nan
  | .inf a, _ => .inf a
  | _, .inf b => .inf b
  | .fin a m e, .fin b n f =>
    if m = 0 ∧ n = 0 then .fin (a && b) 0 0
    else
      let g := min e f
      let v := mantAt a m e g + mantAt b n f g
      if v = 0 then .fin false 0 0 else .fin (decide (v < 0)) v.natAbs g

/-- The exact difference. -/
def sub (a b : Fp) : Fp := add a b.neg

/-- a < b for values that are not NaN. -/
def lt (a b : Fp) : Bool :=
  match a, b with
  | .nan, _ => false
  | _, .nan => false
  | .inf x, .inf y => x && !y
  | .inf x, _ => x
  | _, .inf y => !y
  | .fin x m e, .fin y n f => let g := min e f; decide (mantAt x m e g < mantAt y n f g)

/-- The values are equal as numbers. -/
def eqv (a b : Fp) : Bool := !a.isNan && !b.isNan && !lt a b && !lt b a

/-- The larger value; NaN where either is, and +0 above −0 (Table 8.4, R333). -/
def max (a b : Fp) : Fp :=
  if a.isNan || b.isNan then .nan
  else if a.isZero && b.isZero then .fin (a.sign && b.sign) 0 0
  else if lt a b then b else a
/-- The smaller value. -/
def min (a b : Fp) : Fp :=
  if a.isNan || b.isNan then .nan
  else if a.isZero && b.isZero then .fin (a.sign || b.sign) 0 0
  else if lt b a then b else a

/-- The exponent of the leading bit of a nonzero finite value: ⌊log2 |v|⌋. -/
def top (m : Nat) (e : Int) : Int := (m.log2 : Int) + e

end Fp

/-! ### Rounding -/

/-- m divided by 2^sh, rounded to nearest, ties to even. -/
def rneShift (m sh : Nat) : Nat :=
  if sh = 0 then m
  else
    let q := m >>> sh
    let r := m % 2 ^ sh
    let h := 2 ^ (sh - 1)
    if h < r ∨ (r = h ∧ q % 2 = 1) then q + 1 else q

/-- m divided by 2^sh, truncated, with the last bit set where bits were lost (odd rounding, R355). -/
def oddShift (m sh : Nat) : Nat :=
  if m % 2 ^ sh = 0 then m >>> sh else let q := m >>> sh; if q % 2 = 1 then q else q + 1

/-- A binary format: precision p (significant bits), lowest and highest exponent. -/
structure FpFormat where
  p : Nat
  emin : Int
  emax : Int
  deriving DecidableEq, Repr

/-- Rounds a finite value so that its last bit is not below `lsb` and it has at most p significant bits. -/
def roundTo (shift : Nat → Nat → Nat) (p : Nat) (lsbMin : Option Int) (v : Fp) : Fp :=
  match v with
  | .fin n m e =>
    if m = 0 then v
    else
      let want := Fp.top m e - ((p : Int) - 1)
      let lsb := match lsbMin with | some l => if want < l then l else want | none => want
      if lsb ≤ e then v else .fin n (shift m (lsb - e).toNat) lsb
  | _ => v

/-- A finite value lies beyond the largest finite value of a format. -/
def overflows (f : FpFormat) (v : Fp) : Bool :=
  match v with
  | .fin _ m e => decide (m ≠ 0) && decide (f.emax < Fp.top m e)
  | _ => false

/-- Round to nearest even in a format with subnormals, overflow to an infinity. -/
def roundFmt (f : FpFormat) (v : Fp) : Fp :=
  let r := roundTo rneShift f.p (some (f.emin - ((f.p : Int) - 1))) v
  if overflows f r then .inf v.sign else r

/-- binary32. -/
def fmt32 : FpFormat := { p := 24, emin := -126, emax := 127 }
/-- bf16. -/
def fmtBf16 : FpFormat := { p := 8, emin := -126, emax := 127 }
/-- fp16. -/
def fmtFp16 : FpFormat := { p := 11, emin := -14, emax := 15 }
/-- E5M2. -/
def fmtE5M2 : FpFormat := { p := 3, emin := -14, emax := 15 }
/-- E4M3: its largest exponent holds finite values but for the last mantissa. -/
def fmtE4M3 : FpFormat := { p := 4, emin := -6, emax := 8 }

/-- RNE_fp32 (R305). -/
def rne32 (v : Fp) : Fp := roundFmt fmt32 v

/-! ### Bit patterns -/

/-- The value of a pattern of an IEEE-like format: e exponent bits, f fraction bits. -/
def ieeeVal (e f v : Nat) : Fp :=
  let bias : Int := (2 ^ (e - 1) : Nat) - 1
  let n := v / 2 ^ (e + f) % 2 == 1
  let x := v / 2 ^ f % 2 ^ e
  let m := v % 2 ^ f
  if x = 2 ^ e - 1 then (if m = 0 then .inf n else .nan)
  else if x = 0 then .fin n m (1 - bias - f)
  else .fin n (m + 2 ^ f) ((x : Int) - bias - f)

/-- The pattern of a finite value that the format holds exactly; its sign, exponent and fraction bits. -/
def finBits (e f : Nat) (bias : Int) (n : Bool) (m : Nat) (x : Int) : Nat :=
  let s := n.toNat * 2 ^ (e + f)
  if m = 0 then s
  else
    let t := Fp.top m x
    if t < 1 - bias then
      let lsb := 1 - bias - f
      s + (if lsb ≤ x then m * 2 ^ (x - lsb).toNat else m / 2 ^ (lsb - x).toNat)
    else
      let lsb := t - f
      let q := if lsb ≤ x then m * 2 ^ (x - lsb).toNat else m / 2 ^ (lsb - x).toNat
      s + (t + bias).toNat * 2 ^ f + q % 2 ^ f

/-- The pattern of a value that the format holds exactly; the canonical NaN is quiet, positive, with no other bit (R306). -/
def ieeeBits (e f : Nat) (v : Fp) : Nat :=
  match v with
  | .nan => (2 ^ e - 1) * 2 ^ f + 2 ^ (f - 1)
  | .inf n => n.toNat * 2 ^ (e + f) + (2 ^ e - 1) * 2 ^ f
  | .fin n m x => finBits e f ((2 ^ (e - 1) : Nat) - 1) n m x

/-- The value of an fp32 pattern. -/
def f32 (v : Nat) : Fp := ieeeVal 8 23 v
/-- The fp32 pattern of a value, rounded to nearest even. -/
def f32bits (v : Fp) : Nat := ieeeBits 8 23 (rne32 v)

/-- The value of an E4M3 pattern: no infinity, NaN at the largest magnitude. -/
def e4m3Val (v : Nat) : Fp :=
  let n := v / 128 % 2 == 1
  let x := v / 8 % 16
  let m := v % 8
  if x = 15 ∧ m = 7 then .nan
  else if x = 0 then .fin n m (-9)
  else .fin n (m + 8) ((x : Int) - 10)

/-- The value of an E2M1 pattern. -/
def e2m1Val (v : Nat) : Fp :=
  let n := v / 8 % 2 == 1
  let x := v / 2 % 4
  let m := v % 2
  if x = 0 then .fin n m (-1) else .fin n (m + 2) ((x : Int) - 2)

/-- The exponent of an E8M0 scale; none for the code 0xFF (R306). -/
def e8m0 (v : Nat) : Option Int := if v = 255 then none else some ((v : Int) - 127)

/-- The number of bits of an element of a format code (Table 8.1). -/
def fmtBits (c : Nat) : Nat :=
  match c with
  | 0x01 => 16 | 0x02 => 16 | 0x07 => 4 | 0x10 => 32 | 0x11 => 32 | _ => 8

/-- The format is an MX format. -/
def fmtMx (c : Nat) : Bool := decide (0x05 ≤ c) && decide (c ≤ 0x07)

/-- The format code is one of Table 8.1. -/
def fmtValid (c : Nat) : Bool := (decide (1 ≤ c) && decide (c ≤ 8)) || c == 0x10 || c == 0x11

/-- The value of an element's bits in a format; an MX element without its scale. -/
def fmtVal (c v : Nat) : Fp :=
  match c with
  | 0x01 => ieeeVal 8 7 v
  | 0x02 => ieeeVal 5 10 v
  | 0x03 => e4m3Val v
  | 0x04 => ieeeVal 5 2 v
  | 0x05 => e4m3Val v
  | 0x06 => ieeeVal 5 2 v
  | 0x07 => e2m1Val v
  | 0x08 => Fp.ofInt (toSigned 8 v)
  | 0x11 => Fp.ofInt (toSigned 32 v)
  | _ => f32 v

/-- An element scaled by its block's E8M0 scale; the code 0xFF makes it NaN. -/
def scaled (v : Fp) (scale : Nat) : Fp :=
  match e8m0 scale, v with
  | none, _ => .nan
  | some x, .fin n m e => .fin n m (e + x)
  | some _, v => v

/-! ### Conversion to an output format (R307) -/

/-- The largest finite value of a plain or MX FP8 format. -/
def fp8Max (e4 : Bool) : Fp := if e4 then .fin false 14 5 else .fin false 7 13

/-- A value rounded to E4M3 or E5M2 to nearest even, without a bound on its exponent. -/
def fp8Round (e4 : Bool) (v : Fp) : Fp :=
  let f := if e4 then fmtE4M3 else fmtE5M2
  roundTo rneShift f.p (some (f.emin - ((f.p : Int) - 1))) v

/-- The pattern of a value that an FP8 format holds exactly. -/
def fp8Bits (e4 : Bool) (v : Fp) : Nat :=
  match v with
  | .nan => if e4 then 0x7F else 0x7E
  | .inf n => if e4 then 0x7F else n.toNat * 128 + 0x7C
  | .fin n m x => if e4 then finBits 4 3 7 n m x else finBits 5 2 15 n m x

/-- Plain FP8 output: beyond the largest finite value, FP8_SAT decides. -/
def toFp8 (e4 sat : Bool) (v : Fp) : Nat :=
  match v with
  | .nan => fp8Bits e4 .nan
  | .inf n => if sat then fp8Bits e4 (Fp.withSign n (fp8Max e4)) else fp8Bits e4 (.inf n)
  | .fin n _ _ =>
    let r := fp8Round e4 v
    if Fp.lt (fp8Max e4) r.abs then
      (if sat then fp8Bits e4 (Fp.withSign n (fp8Max e4)) else fp8Bits e4 (.inf n))
    else fp8Bits e4 r

/-- The pattern of a value in a plain output format (R307); an int32 takes the value's own 32 bits. -/
def toFmt (c : Nat) (sat : Bool) (v : Fp) : Nat :=
  match c with
  | 0x01 => ieeeBits 8 7 (roundFmt fmtBf16 v)
  | 0x02 => ieeeBits 5 10 (roundFmt fmtFp16 v)
  | 0x03 => toFp8 true sat v
  | 0x04 => toFp8 false sat v
  | 0x11 => match v with | .fin n m e => ofSigned 32 (Fp.mantAt n m e 0) | _ => 0
  | _ => f32bits v

/-- The shared exponent of an MXFP8 block of finite values (R307). -/
def mxExponent (e4 : Bool) (vs : List Fp) : Int :=
  let amax := vs.foldl (fun a v => if Fp.lt a v.abs then v.abs else a) Fp.zero
  match amax with
  | .fin _ m e => if m = 0 then -127 else Max.max (-127) (Min.min 127 (Fp.top m e - (if e4 then 8 else 15)))
  | _ => -127

/-- An MXFP8 block: its scale code and its elements (R307). -/
def mxBlock (e4 : Bool) (vs : List Fp) : Nat × List Nat :=
  if vs.all (·.isFin) then
    let x := mxExponent e4 vs
    ((x + 127).toNat, vs.map fun v =>
      match v with
      | .fin n m e =>
        let r := fp8Round e4 (.fin n m (e - x))
        if Fp.lt (fp8Max e4) r.abs then fp8Bits e4 (Fp.withSign n (fp8Max e4)) else fp8Bits e4 r
      | _ => 0)
  else (255, vs.map fun _ => fp8Bits e4 .nan)

/-! ### The wide format (R364) -/

/-- Rounds a value to the wide format: 40 significant bits, exponents −2,046 to 2,047, no subnormals. -/
def wide (v : Fp) : Fp :=
  let r := roundTo rneShift 40 none v
  match r with
  | .fin n m e =>
    if m = 0 then r
    else if 2047 < Fp.top m e then .inf n
    else if Fp.top m e < -2046 then .fin n 0 0
    else r
  | _ => r

/-- Short mode: odd rounding to 13 significant bits (R355), with the last bit not below fp32's own; a value beyond fp32 is
an infinity. -/
def shortRound (v : Fp) : Fp :=
  let r := roundTo oddShift 13 (some (-149)) v
  if overflows fmt32 r then .inf v.sign else r

/-- The result of a function in its mode (R354, R355): fp32 or short. -/
def sfuRound (short : Bool) (v : Fp) : Fp := if short then shortRound v else rne32 v

/-! ### Sums in sheaf order (R309, R335) -/

/-- One level of the tree of R309: neighbours combine, a last one without a partner passes up. -/
def treeLevel (op : Fp → Fp → Fp) : List Fp → List Fp
  | a :: b :: r => op a b :: treeLevel op r
  | l => l

/-- The tree of R309 over partials in order. -/
def treeFuel (op : Fp → Fp → Fp) : Nat → List Fp → Fp
  | 0, l => l.headD Fp.zero
  | _ + 1, [] => Fp.zero
  | _ + 1, [a] => a
  | f + 1, l => treeFuel op f (treeLevel op l)

/-- The tree of R309 with RNE_fp32 additions. -/
def tree32 (l : List Fp) : Fp := treeFuel (fun a b => rne32 (Fp.add a b)) l.length l

/-- A wrapping int32 sum (R305). -/
def wrap32 (a b : Fp) : Fp :=
  match a, b with
  | .fin n m e, .fin n' m' e' => Fp.ofInt (toSigned 32 (ofSigned 32 (Fp.mantAt n m e 0 + Fp.mantAt n' m' e' 0)))
  | _, _ => .nan

/-- The tree of R309 with wrapping int32 additions. -/
def treeInt (l : List Fp) : Fp := treeFuel wrap32 l.length l

/-! ### Philox-4×32-10 (R471) -/

/-- One round. -/
def philoxRound (k0 k1 : Nat) (c : Nat × Nat × Nat × Nat) : Nat × Nat × Nat × Nat :=
  let (c0, c1, c2, c3) := c
  let a := 0xD2511F53 * c0
  let b := 0xCD9E8D57 * c2
  ((b / 2 ^ 32) ^^^ c1 ^^^ k0, b % 2 ^ 32, (a / 2 ^ 32) ^^^ c3 ^^^ k1, a % 2 ^ 32)

/-- Ten rounds with the key increments. -/
def philoxRounds : Nat → Nat → Nat → Nat × Nat × Nat × Nat → Nat × Nat × Nat × Nat
  | 0, _, _, c => c
  | n + 1, k0, k1, c =>
    philoxRounds n ((k0 + 0x9E3779B9) % 2 ^ 32) ((k1 + 0xBB67AE85) % 2 ^ 32) (philoxRound k0 k1 c)

/-- Output word w of the draw of a counter under a seed (R471, R474). -/
def philox (seed : Nat) (c0 c1 c2 c3 w : Nat) : Nat :=
  let (x0, x1, x2, x3) := philoxRounds 10 (seed % 2 ^ 32) (seed / 2 ^ 32 % 2 ^ 32) (c0, c1, c2, c3)
  match w with | 0 => x0 | 1 => x1 | 2 => x2 | _ => x3

end Sys2Proof.Machine
end

