-- ==== Sys2Proof/Machine/Real.lean ====
section
/-! DEFINITION. The true mathematical values that Table 9.2 rounds, to more than enough bits: a real number stands as an
integer that counts 2^-4096 (a fixed-point number), or as an exact value of `Fp` with thousands of significant bits. A
rounding of the approximation is the rounding of the value, since no value of these functions at an fp32 or wide argument
comes so close to a rounding boundary without lying on it (an assumption of the log); the algebraic functions are exact. -/

namespace Sys2Proof.Machine

/-- The fraction bits of a fixed-point number. -/
abbrev fixB : Nat := 4096
/-- One. -/
def fixOne : Int := (2 ^ fixB : Nat)
/-- The product of fixed-point numbers, rounded down. -/
def fixMul (a b : Int) : Int := (a * b) / fixOne
/-- The quotient of fixed-point numbers. -/
def fixDiv (a b : Int) : Int := (a * fixOne) / b
/-- A finite value as a fixed-point number. -/
def fixOf (v : Fp) : Int :=
  match v with
  | .fin n m e => if -(fixB : Int) ≤ e then Fp.mantAt n m e (-(fixB : Int)) else 0
  | _ => 0
/-- A fixed-point number as a value. -/
def fixVal (x : Int) : Fp := .fin (decide (x < 0)) x.natAbs (-(fixB : Int))

/-- Σ of the odd powers t, t·z/3, t·z²/5 …: `t` a power, `z` its square with the sign of the series. -/
def oddSeries (z : Int) : Nat → Nat → Int → Int → Int
  | 0, _, _, acc => acc
  | f + 1, k, t, acc => if t = 0 then acc else oddSeries z f (k + 2) (fixMul t z) (acc + t / (k : Int))

/-- artanh x for |x| ≤ 1/3. -/
def fixAtanh (x : Int) : Int := oddSeries (fixMul x x) 2000 1 x 0
/-- arctan(1/n). -/
def fixAtanInv (n : Int) : Int := oddSeries (-(fixOne / (n * n))) 2000 1 (fixOne / n) 0

/-- ln 2. -/
def fixLn2 : Int := 2 * fixAtanh (fixOne / 3)
/-- π. -/
def fixPi : Int := 16 * fixAtanInv 5 - 4 * fixAtanInv 239

/-- Σ x^k / k! from the k-th term t on. -/
def expSeries (x : Int) : Nat → Nat → Int → Int → Int
  | 0, _, _, acc => acc
  | f + 1, k, t, acc => if t = 0 then acc else expSeries x f (k + 1) (fixMul t x / (k : Int)) (acc + t)

/-- A fixed-point number squared n times. -/
def sqN : Nat → Int → Int
  | 0, x => x
  | n + 1, x => sqN n (fixMul x x)

/-- e^x for 0 ≤ x < 1. -/
def fixExp (x : Int) : Int := sqN 16 (expSeries (x / 65536) 1000 1 fixOne 0)

/-- 2^x of a fixed-point number, as a value; beyond ±8,000 the argument is held there, where every format has overflowed
or underflowed. -/
def exp2Val (x : Int) : Fp :=
  let lim := 8000 * fixOne
  let x := max (-lim) (min lim x)
  let n := x / fixOne
  let f := x - n * fixOne
  if f = 0 then .fin false 1 n else .fin false (fixExp (fixMul f fixLn2)).natAbs (n - (fixB : Int))

/-- e^x of a fixed-point number, as a value. -/
def expVal (x : Int) : Fp := exp2Val (fixDiv x fixLn2)

/-- ln of a positive finite value m × 2^e, as a fixed-point number. -/
def fixLn (m : Nat) (e : Int) : Int :=
  let t := m.log2
  let y : Int := (m : Int) * fixOne / ((2 ^ t : Nat) : Int)
  2 * fixAtanh (fixDiv (y - fixOne) (y + fixOne)) + (e + t) * fixLn2

/-- a / b of natural numbers with 2^sh scaling and a last bit that tells a remainder. -/
def stickyDiv (a b sh : Nat) : Nat := let q := a * 2 ^ sh / b; 2 * q + (if q * b = a * 2 ^ sh then 0 else 1)

/-- The quotient of finite values, b not zero. -/
def divVal (a b : Fp) : Fp :=
  match a, b with
  | .fin n m e, .fin n' m' e' =>
    let sh := 2 * fixB + m'.log2
    .fin (n != n') (stickyDiv m m' sh) (e - e' - sh - 1)
  | _, _ => .nan

/-- ⌊√n⌋ by Newton's method from above. -/
def isqrtFuel : Nat → Nat → Nat → Nat
  | 0, _, x => x
  | f + 1, n, x => let y := (x + n / x) / 2; if x ≤ y then x else isqrtFuel f n y
/-- ⌊√n⌋. -/
def isqrt (n : Nat) : Nat := if n = 0 then 0 else isqrtFuel (n.log2 + 8) n (2 ^ (n.log2 / 2 + 1))

/-- √ of a positive finite value. -/
def sqrtVal (m : Nat) (e : Int) : Fp :=
  let (m, e) := if e % 2 = 0 then (m, e) else (2 * m, e - 1)
  let n := m * 2 ^ 1024
  let q := isqrt n
  .fin false (2 * q + (if q * q = n then 0 else 1)) (e / 2 - 512 - 1)

/-- 1/√ of a positive finite value. -/
def rsqrtVal (m : Nat) (e : Int) : Fp :=
  let (m, e) := if e % 2 = 0 then (m, e) else (2 * m, e - 1)
  let sh := 1024 + 2 * m.log2
  let n := 2 ^ (2 * sh) / m
  let q := isqrt n
  .fin false (2 * q + (if q * q * m = 2 ^ (2 * sh) then 0 else 1)) (-(e / 2) - sh - 1)

/-- 1 / (1 + e^-x) of a fixed-point number. -/
def sigmoidVal (x : Int) : Fp := divVal Fp.one (Fp.add Fp.one (expVal (-x)))

/-- tanh of a fixed-point number. -/
def tanhVal (x : Int) : Fp :=
  let e := expVal (-(2 * (x.natAbs : Int)))
  let v := divVal (Fp.sub Fp.one e) (Fp.add Fp.one e)
  if x < 0 then v.neg else v

/-- x + x³/3 + x⁵/15 + … from a term on. -/
def phiSeries (z : Int) : Nat → Nat → Int → Int → Int
  | 0, _, _, acc => acc
  | f + 1, k, t, acc => if t = 0 then acc else phiSeries z f (k + 2) (fixMul t z / (k : Int)) (acc + t)

/-- The normal distribution function Φ of a fixed-point number, held at ±50: Φ(x) = 1/2 + φ(x) (x + x³/3 + x⁵/15 + …). -/
def normCdf (x : Int) : Fp :=
  let lim := 50 * fixOne
  let x := max (-lim) (min lim x)
  let z := fixMul x x
  let s := phiSeries z 20000 3 x 0
  let phi := Fp.mul (expVal (-(z / 2))) (divVal Fp.one (sqrtVal (2 * fixPi).natAbs (-(fixB : Int))))
  Fp.add (.fin false 1 (-1)) (Fp.mul phi (fixVal s))

/-- Σ of the terms t, −t·z/(k(k+1)), … of a sine or cosine. -/
def trigSeries (z : Int) : Nat → Nat → Int → Int → Int
  | 0, _, _, acc => acc
  | f + 1, k, t, acc => if t = 0 then acc else trigSeries z f (k + 2) (-(fixMul t z) / ((k * (k + 1) : Nat) : Int)) (acc + t)

/-- sin x (k = 0) or cos x (k = 1) of a fixed-point number, by the quarter turn it lies in. -/
def trigVal (x : Int) (k : Int) : Fp :=
  let h := fixPi / 2
  let n := (x + h / 2) / h
  let r := x - n * fixPi / 2
  let z := fixMul r r
  let sin := trigSeries z 3000 2 r 0
  let cos := trigSeries z 3000 1 fixOne 0
  match ((n + k) % 4).toNat with
  | 0 => fixVal sin
  | 1 => fixVal cos
  | 2 => fixVal (-sin)
  | _ => fixVal (-cos)

/-- The argument of the tanh approximation of GELU: √(2/π) (x + 0.044715 x³). -/
def geluArg (x : Int) : Int :=
  let c : Int := (isqrt ((fixDiv (2 * fixOne) fixPi).natAbs * 2 ^ fixB) : Nat)
  fixMul c (x + fixMul (fixMul x x) x * 8943 / 200000)

end Sys2Proof.Machine
end

