-- ==== Sys2Proof/Machine/Sfu.lean ====
section
/-! DEFINITION. The special functions (chapter 9): the built-in functions of Table 9.1 with their special values, the
pass counts, segment tables, and the microprograms of user functions. -/

namespace Sys2Proof.Machine

/-! ### Built-in functions (Tables 9.1, 9.2, R359, R360) -/

/-- A function of one input with its values at −∞, +∞ and ±0 and its value elsewhere; a NaN gives NaN (R359). -/
def fn1 (lo hi : Fp) (zero : Bool → Fp) (f : Bool → Nat → Int → Fp) : Fp → Fp
  | .nan => .nan
  | .inf n => if n then lo else hi
  | .fin n m e => if m = 0 then zero n else f n m e

/-- A signed zero. -/
def szero (n : Bool) : Fp := .fin n 0 0

/-- 2^a. -/
def fnExp2 : Fp → Fp := fn1 Fp.zero (.inf false) (fun _ => Fp.one) fun n m e => exp2Val (fixOf (.fin n m e))
/-- e^a. -/
def fnExp : Fp → Fp := fn1 Fp.zero (.inf false) (fun _ => Fp.one) fun n m e => expVal (fixOf (.fin n m e))
/-- log2 a. -/
def fnLog2 : Fp → Fp :=
  fn1 .nan (.inf false) (fun _ => .inf true) fun n m e => if n then .nan else fixVal (fixDiv (fixLn m e) fixLn2)
/-- ln a. -/
def fnLog : Fp → Fp := fn1 .nan (.inf false) (fun _ => .inf true) fun n m e => if n then .nan else fixVal (fixLn m e)
/-- a / b by IEEE 754. -/
def fnDiv (a b : Fp) : Fp :=
  match a, b with
  | .nan, _ => .nan
  | _, .nan => .nan
  | .inf _, .inf _ => .nan
  | .inf x, .fin y _ _ => .inf (x != y)
  | .fin x _ _, .inf y => szero (x != y)
  | .fin x m _, .fin y n _ =>
    if n = 0 then (if m = 0 then .nan else .inf (x != y)) else if m = 0 then szero (x != y) else divVal a b
/-- 1 / √a. -/
def fnRsqrt : Fp → Fp := fn1 .nan Fp.zero (fun n => .inf n) fun n m e => if n then .nan else rsqrtVal m e
/-- √a. -/
def fnSqrt : Fp → Fp := fn1 .nan (.inf false) szero fun n m e => if n then .nan else sqrtVal m e
/-- 1 / (1 + e^−a). -/
def fnSigmoid : Fp → Fp := fn1 Fp.zero Fp.one (fun _ => .fin false 1 (-1)) fun n m e => sigmoidVal (fixOf (.fin n m e))
/-- tanh a. -/
def fnTanh : Fp → Fp := fn1 Fp.one.neg Fp.one szero fun n m e => tanhVal (fixOf (.fin n m e))
/-- a × sigmoid(a); the limit −0 at −∞. -/
def fnSilu : Fp → Fp := fn1 (szero true) (.inf false) szero fun n m e =>
  Fp.mul (.fin n m e) (sigmoidVal (fixOf (.fin n m e)))
/-- a × Φ(a). -/
def fnGeluErf : Fp → Fp := fn1 (szero true) (.inf false) szero fun n m e =>
  Fp.mul (.fin n m e) (normCdf (fixOf (.fin n m e)))
/-- The tanh approximation of GELU: a × sigmoid(2 u), u the argument of the tanh. -/
def fnGeluTanh : Fp → Fp := fn1 (szero true) (.inf false) szero fun n m e =>
  Fp.mul (.fin n m e) (sigmoidVal (2 * geluArg (fixOf (.fin n m e))))
/-- sin a. -/
def fnSin : Fp → Fp := fn1 .nan .nan szero fun n m e => trigVal (fixOf (.fin n m e)) 0
/-- cos a. -/
def fnCos : Fp → Fp := fn1 .nan .nan (fun _ => Fp.one) fun n m e => trigVal (fixOf (.fin n m e)) 1
/-- EXP at the wide-rounded difference a − b; +0 where b = −∞ and a is not NaN (R360). -/
def fnExpSub (a b : Fp) : Fp := if b == .inf true && !a.isNan then Fp.zero else fnExp (wide (Fp.sub a b))
/-- SMX: the fp32-mode EXP_SUB term divided by c; +0 for +0 / +0 (R360). -/
def fnSmx (a b c : Fp) : Fp :=
  let t := rne32 (fnExpSub a b)
  if c.isZero && !c.sign && t.isZero && !t.sign then Fp.zero else fnDiv t c
/-- A gate (R373): the wide activation value times b, formed exactly. -/
def gateOf (f : Fp → Fp) (a b : Fp) : Fp := Fp.mul (wide (f a)) b

/-- The value of a built-in function before its rounding (Table 9.1); none for a code that is not valid. -/
def builtin (code : Nat) (a b c : Fp) : Option Fp :=
  match code with
  | 0x01 => some (fnExp2 a)
  | 0x02 => some (fnLog2 a)
  | 0x03 => some (fnExp a)
  | 0x04 => some (fnLog a)
  | 0x05 => some (fnDiv Fp.one a)
  | 0x06 => some (fnRsqrt a)
  | 0x07 => some (fnSqrt a)
  | 0x08 => some (fnDiv a b)
  | 0x09 => some (fnSigmoid a)
  | 0x0A => some (fnTanh a)
  | 0x0B => some (fnSilu a)
  | 0x0C => some (fnGeluErf a)
  | 0x0D => some (fnGeluTanh a)
  | 0x0E => some (fnSin a)
  | 0x0F => some (fnCos a)
  | 0x10 => some (fnExpSub a b)
  | 0x11 => some (if a.isNan || b.isNan || c.isNan then .nan else fnSmx a b c)
  | 0x20 => some (gateOf fnSilu a b)
  | 0x21 => some (gateOf fnGeluErf a b)
  | 0x22 => some (gateOf fnGeluTanh a b)
  | 0x23 => some (gateOf fnSigmoid a b)
  | 0x24 => some (Fp.mul (Fp.max a Fp.zero) b)
  | _ => none

/-- The passes of a built-in function in the base-2 set and in the rectifier set (Table 9.1); 0 for an invalid code. -/
def builtinPasses (rect : Bool) (code : Nat) : Nat :=
  match code with
  | 0x01 => 1 | 0x02 => 1 | 0x03 => 2 | 0x04 => 2 | 0x05 => 3 | 0x06 => 3 | 0x07 => 4 | 0x08 => 4
  | 0x09 => if rect then 1 else 6
  | 0x0A => if rect then 3 else 7
  | 0x0B => if rect then 1 else 7
  | 0x0C => if rect then 1 else 9
  | 0x0D => if rect then 1 else 10
  | 0x0E => 3 | 0x0F => 3 | 0x10 => 2 | 0x11 => 6
  | 0x20 => if rect then 1 else 8
  | 0x21 => if rect then 1 else 10
  | 0x22 => if rect then 1 else 11
  | 0x23 => if rect then 1 else 7
  | 0x24 => 1
  | _ => 0

/-! ### The stall's block (R367) -/

/-- The number of functions, steps and tables of a block. -/
def sfuCounts (b : List Byte) : Nat × Nat × Nat := (fieldAt b 0 2, fieldAt b 2 2, fieldAt b 4 2)

/-- Function entry i: FN, FIRST, COUNT. -/
def sfuEntry (b : List Byte) (i : Nat) : Nat × Nat × Nat :=
  (fieldAt b (16 + 8 * i) 1, fieldAt b (17 + 8 * i) 2, fieldAt b (19 + 8 * i) 1)

/-- Step k of a block. -/
def sfuStep (b : List Byte) (k : Nat) : Nat := fieldAt b (16 + 8 * (sfuCounts b).1 + 8 * k) 8

/-- The offset of table k of a block. -/
def sfuTableOff (b : List Byte) (k : Nat) : Nat := fieldAt b (16 + 8 * (sfuCounts b).1 + 8 * (sfuCounts b).2.1 + 4 * k) 4

/-- The steps of user function f; none where the block does not define it. -/
def sfuFunction (b : List Byte) (f : Nat) : Option (List Nat) :=
  ((List.range (sfuCounts b).1).find? fun i => (sfuEntry b i).1 == f).map fun i =>
    let (_, first, count) := sfuEntry b i
    (List.range count).map fun k => sfuStep b (first + k)

/-- A block's bytes of one table: header and records (R361). -/
def sfuTable (b : List Byte) (k : Nat) : List Byte := b.drop (sfuTableOff b k)

/-! ### Segment tables (R361-R363) -/

/-- A position in a segment table. -/
inductive SegAt where
  | below
  | above
  | at_ (i : Nat) (t : Fp)
  | nan
  deriving DecidableEq, Repr

/-- The exact quotient of a finite value by a power of two scaled to an integer part and a rest: value = i + t with t in
[0, 1), for a value that is not negative. -/
def splitUnit (m : Nat) (e : Int) : Nat × Fp :=
  if 0 ≤ e then (m * 2 ^ e.toNat, Fp.zero)
  else
    let d := (-e).toNat
    (m / 2 ^ d, .fin false (m % 2 ^ d) e)

/-- Where an input lies in a table (R362). The fraction of a wide input is cut to 23 bits in binade mode, as fp32's is. -/
def segLocate (b : List Byte) (x : Fp) : SegAt :=
  let segs := fieldAt b 4 2
  let mb := fieldAt b 2 1
  let sgn := fieldAt b 3 1
  let emin := toSigned 16 (fieldAt b 6 2)
  let lo := f32 (fieldAt b 8 4)
  let hi := f32 (fieldAt b 12 4)
  if fieldAt b 0 1 = 0 then
    match x with
    | .nan => .nan
    | .inf n => if n then .below else .above
    | v =>
      if Fp.lt v lo then .below
      else if !Fp.lt v hi then .above
      else
        match Fp.sub v lo, Fp.sub hi lo with
        | .fin _ m e, .fin _ w f =>
          let (i, t) := splitUnit (m * segs) (e - (f + (w.log2 : Int)))
          .at_ i t
        | _, _ => .nan
  else
    match x with
    | .nan => .nan
    | .inf _ => .above
    | .fin n m e =>
      let eCount := segs / ((sgn + 1) * 2 ^ mb)
      if m = 0 ∨ Fp.top m e < emin then .below
      else if emin + (eCount : Int) ≤ Fp.top m e then .above
      else
        let k := (Fp.top m e - emin).toNat
        let frac := if m.log2 ≤ 23 then m * 2 ^ (23 - m.log2) % 2 ^ 23 else m / 2 ^ (m.log2 - 23) % 2 ^ 23
        let s := if n && sgn == 1 then 1 else 0
        .at_ (s * eCount * 2 ^ mb + k * 2 ^ mb + frac / 2 ^ (23 - mb)) (.fin false (frac % 2 ^ (23 - mb)) (-((23 - mb : Nat) : Int)))

/-- The interpolation of one segment, exact and rounded once to the wide format (R363). -/
def segEval (b : List Byte) (i : Nat) (t : Fp) : Fp :=
  let quad := fieldAt b 1 1 == 2
  let size := if quad then 12 else 8
  let c := fun k => f32 (fieldAt b (32 + size * i + 4 * k) 4)
  let lin := Fp.add (c 0) (Fp.mul (c 1) t)
  wide (if quad then Fp.add lin (Fp.mul (c 2) (Fp.mul t t)) else lin)

/-- The table's value at an input (R363). -/
def segValue (b : List Byte) (x : Fp) : Fp :=
  let outside := fieldAt b 24 1 == 1
  match segLocate b x with
  | .nan => .nan
  | .at_ i t => segEval b i t
  | .below => if outside then f32 (fieldAt b 16 4) else segEval b 0 Fp.zero
  | .above => if outside then f32 (fieldAt b 20 4) else segEval b (fieldAt b 4 2 - 1) Fp.one

/-! ### Basic steps (Tables 9.4-9.6) -/

/-- A number that stands for a value, for the open results of Config. -/
def Fp.code : Fp → Nat
  | .nan => 0
  | .inf n => 1 + n.toNat
  | .fin n m e => 3 + n.toNat + 2 * ((e + 2 ^ 20).toNat + 2 ^ 21 * m)

/-- The value that a number stands for. -/
def Fp.ofCode : Nat → Fp
  | 0 => .nan
  | 1 => .inf false
  | 2 => .inf true
  | k => .fin ((k - 3) % 2 == 1) ((k - 3) / 2 / 2 ^ 21) ((((k - 3) / 2 % 2 ^ 21 : Nat) : Int) - 2 ^ 20)

/-- A finite value as an integer, where it is one. -/
def intOf : Fp → Option Int
  | .fin n m e =>
    if m = 0 then some 0
    else if 0 ≤ e then some (Fp.mantAt n m e 0)
    else if m % 2 ^ (-e).toNat = 0 then (let v : Int := (m / 2 ^ (-e).toNat : Nat); some (if n then -v else v))
    else none
  | _ => none

/-- Round to an integer, ties to even (RINT). -/
def rint : Fp → Fp
  | .fin n m e => if 0 ≤ e then .fin n m e else .fin n (rneShift m (-e).toNat) 0
  | v => v

/-- The lane registers of a microprogram with the early result of R366. -/
structure MicroSt where
  w : List Fp
  early : Option Fp
  out : Fp
  deriving DecidableEq, Repr

/-- The class of SA and the early result that SPECIAL's code for it gives (Table 9.6). -/
def specialResult (imm : Nat) (a : Fp) : Option Fp :=
  let k :=
    match a with
    | .inf true => some 0
    | .inf false => some 1
    | .fin n m _ => if m = 0 then some (if n then 2 else 3) else none
    | .nan => none
  match k with
  | none => none
  | some k =>
    match bitsOf imm (8 * k + 7) (8 * k) with
    | 1 => some Fp.zero
    | 2 => some (szero true)
    | 3 => some Fp.one
    | 4 => some Fp.one.neg
    | 5 => some (.inf false)
    | 6 => some (.inf true)
    | 7 => some .nan
    | 8 => some a
    | _ => none

/-- One step of a microprogram (Table 9.5). -/
def microStep (blk : List Byte) (st : MicroSt) (step : Nat) : MicroSt :=
  let r := fun i => st.w.getD i Fp.zero
  let m := bitsOf step 41 40
  let a0 := r (bitsOf step 55 54)
  let a1 := if m % 2 = 1 then a0.abs else a0
  let a := if m / 2 = 1 then a1.neg else a1
  let b := r (bitsOf step 53 52)
  let c := r (bitsOf step 51 50)
  let imm := bitsOf step 31 0
  let k := f32 imm
  let put := fun v => { st with w := st.w.set (bitsOf step 57 56) (wide v) }
  match bitsOf step 63 58 with
  | 0x01 => put (segValue (sfuTable blk (bitsOf step 47 42)) a)
  | 0x02 => put (Fp.add (Fp.mul a b) c)
  | 0x03 => put (Fp.add (Fp.mul a k) b)
  | 0x04 => put (rint a)
  | 0x05 =>
    put (match a, intOf b with
      | .fin n m e, some i => .fin n m (e + max (-4096) (min 4096 i))
      | v, some _ => v
      | .nan, none => .nan
      | v, none => if b.isNan then .nan else Fp.ofCode (Config.openScaleb v.code b.code))
  | 0x06 =>
    put (match a with
      | .fin _ m e => if m = 0 then .inf true else Fp.ofInt (Fp.top m e)
      | .inf _ => .inf false
      | .nan => .nan)
  | 0x07 =>
    put (match a with
      | .fin _ m _ => if m = 0 then Fp.zero else .fin false m (-(m.log2 : Int))
      | _ => .nan)
  | 0x08 => put (Fp.min a k)
  | 0x09 => put (Fp.max a k)
  | 0x0A => put (if Fp.lt a k then b else c)
  | 0x0B => put (match a with | .nan => .nan | v => Fp.withSign b.sign v)
  | 0x0C => let st' := put a; { st' with early := match st.early with | some v => some v | none => specialResult imm a }
  | 0x3F => { st with out := a }
  | _ => st

/-- The result of a user function before its rounding (R364-R366). -/
def userFn (blk : List Byte) (steps : List Nat) (a b c : Fp) : Fp :=
  if a.isNan || b.isNan || c.isNan then .nan
  else
    let st := steps.foldl (microStep blk) { w := [a, b, c, Fp.zero], early := none, out := Fp.zero }
    st.early.getD st.out

/-! ### The SFU operation (R350-R356) -/

/-- The stall's block and set. -/
def sfuBlock (s : State) (n : Nat) : List Byte := s.plan.sfu.getD n []
/-- SFU_SET of a stall: the rectifier set. -/
def sfuRect (s : State) (n : Nat) : Bool := s.plan.numeric.getD n 0 % 2 == 1

/-- The passes of function `code` for stall n; 0 where the code is not valid (R350). -/
def sfuPasses (s : State) (n code : Nat) : Nat :=
  if code < 0x100 then builtinPasses (sfuRect s n) code
  else if code < 0x140 then ((sfuFunction (sfuBlock s n) (code - 0x100)).getD []).length
  else 0

/-- The fp32 pattern that function `code` gives for three fp32 patterns, in short mode or in fp32 mode (R354-R356). -/
def sfuResult (blk : List Byte) (short : Bool) (code a b c : Nat) : Nat :=
  let v :=
    if code < 0x100 then (builtin code (f32 a) (f32 b) (f32 c)).getD .nan
    else userFn blk ((sfuFunction blk (code - 0x100)).getD []) (f32 a) (f32 b) (f32 c)
  ieeeBits 8 23 (sfuRound short v)

/-- T_sfu (R348): a function of n passes that arrives at a moment at vector unit v; in rotation its first pass waits for
the unit's slot. -/
def sfuTime (v passes arrive : Nat) : Nat := (v % 4 + 4 - arrive % 4) % 4 + 4 * (passes - 1) + 12

end Sys2Proof.Machine
end

