-- ==== Sys2Proof/Machine/Matrix.lean ====
section
/-! DEFINITION. Matrix tiles (chapter 8): descriptors, sheaf-ordered products, pieces and their dealing or claiming,
SPLIT, COMBINE and loose accumulation. -/

namespace Sys2Proof.Machine

/-! ### The descriptor (Table 8.2, R304, R310-R312) -/

/-- A matrix descriptor. -/
structure MtxDesc where
  op : Nat
  fa : Nat
  fb : Nat
  fc : Nat
  accIn : Bool
  rowsMem : Bool
  loose : Bool
  groups : Nat
  m : Nat
  n : Nat
  k : Nat
  first : Nat
  count : Nat
  a : Nat
  b : Nat
  c : Nat
  aScale : Nat
  bScale : Nat
  cScale : Nat
  rows : Nat
  aStride : Nat
  bStride : Nat
  cStride : Nat
  trk : Nat
  aG : Nat
  bG : Nat
  cG : Nat
  deriving DecidableEq, Repr

/-- The matrix descriptor of 128 bytes. -/
def mtxDesc (b : List Byte) : MtxDesc :=
  let fl := fieldAt b 4 2
  { op := fieldAt b 0 1, fa := fieldAt b 1 1, fb := fieldAt b 2 1, fc := fieldAt b 3 1
    accIn := fl.testBit 0, rowsMem := fl.testBit 1, loose := fl.testBit 2, groups := fieldAt b 6 2
    m := fieldAt b 8 4, n := fieldAt b 12 4, k := fieldAt b 16 4, first := fieldAt b 20 2, count := fieldAt b 22 2
    a := fieldAt b 24 8, b := fieldAt b 32 8, c := fieldAt b 40 8, aScale := fieldAt b 48 8, bScale := fieldAt b 56 8
    cScale := fieldAt b 64 8, rows := fieldAt b 72 8, aStride := fieldAt b 80 4, bStride := fieldAt b 84 4
    cStride := fieldAt b 88 4, trk := fieldAt b 92 1, aG := fieldAt b 96 8, bG := fieldAt b 104 8, cG := fieldAt b 112 8 }

/-- The group and the K per cycle of a format (Table 8.1). -/
def fmtGroup (f : Nat) : Nat := if f = 3 ∨ f = 4 then 2 else if fmtMx f then 32 else 1
/-- K per cycle. -/
def fmtRate (f : Nat) : Nat := if f = 7 then 4 else if 3 ≤ f then 2 else 1

/-- A pair of operand formats is valid (Table 8.1). -/
def pairOk (a b : Nat) : Bool :=
  (decide (1 ≤ a) && decide (a ≤ 6) && decide (1 ≤ b) && decide (b ≤ 6)) ||
  (a == 7 && (b == 7 || b == 5 || b == 6)) || (b == 7 && (a == 5 || a == 6)) || (a == 8 && b == 8)

/-- The bytes of n elements of a format. -/
def fmtLen (f n : Nat) : Nat := cdiv (n * fmtBits f) 8

/-- The number of sheaves of a reduction of K. -/
def sheaves (k : Nat) : Nat := cdiv k 4096

/-- The elements of sheaf j. -/
def sheafLen (k j : Nat) : Nat := min (4096 * (j + 1)) k - 4096 * j

/-- A field is 0 where it is not used (R842). -/
def unused0 (used : Bool) (v : Nat) : Bool := used || v == 0

/-- The form of a matrix descriptor (R310-R312, R324-R326, R329, R842) for a stall. COMBINE's partials have the format
FMT_A, fp32 or int32. -/
def mtxForm (s : State) (n : Nat) (d : MtxDesc) (b : List Byte) : Bool :=
  let comb := d.op == 4
  let intp := if comb then d.fa == 0x11 else d.fa == 8
  let mx := fmtMx d.fa || fmtMx d.fb
  let al := fun v => v % 64 == 0
  decide (1 ≤ d.op) && decide (d.op ≤ 4) && decide (fieldAt b 4 2 < 8) && allZero (slice b 93 3) && allZero (slice b 120 8) &&
  (if comb then (d.fa == 0x10 || d.fa == 0x11) && d.fb == 0 else pairOk d.fa d.fb) &&
  (if intp then d.fc == 0x11 else if d.op == 3 then d.fc == 0x10 else (decide (1 ≤ d.fc) && decide (d.fc ≤ 6)) || d.fc == 0x10) &&
  (if d.op == 2 then decide (1 ≤ d.groups) && decide (d.groups ≤ 1024) else d.groups == 1) &&
  decide (1 ≤ d.m) && decide (d.m ≤ 2 ^ 20) && decide (1 ≤ d.n) && decide (d.n ≤ 2 ^ 20) &&
  (if comb then d.k == 0 else decide (1 ≤ d.k) && decide (d.k ≤ 524288) && (!mx || d.k % 32 == 0)) &&
  (if d.op == 3 ∨ comb then decide (1 ≤ d.count) && decide (d.count ≤ 128) else d.count == 0) &&
  (if d.op == 3 then decide (d.first + d.count ≤ sheaves d.k) && !d.accIn else d.first == 0) &&
  (!fmtMx d.fc || d.n % 32 == 0) &&
  unused0 (!comb) d.b && unused0 (fmtMx d.fa) d.aScale && unused0 (fmtMx d.fb) d.bScale && unused0 (fmtMx d.fc) d.cScale &&
  unused0 d.rowsMem d.rows && unused0 d.loose d.trk && unused0 (!comb) d.bStride &&
  unused0 (d.op == 2 || d.op == 3 || comb) d.aG && unused0 (d.op == 2) d.bG && unused0 (d.op == 2 || d.op == 3) d.cG &&
  al d.a && al d.b && al d.c && al d.aScale && al d.bScale && al d.cScale &&
  (!d.loose ||
    (d.op == 3 && floodOf s n && (s.plan.numeric.getD n 0).testBit 1 && d.fc == 0x10 && decide (d.trk < 16) &&
      (match unitOf d.c with | .loft _ => true | .tile c _ => cdOwner s c == n | _ => false) &&
      decide (cdiv d.m 64 * cdiv d.n 128 ≤ 4096)))

/-! ### Spans (R229, R317) -/

/-- The rows of bytes that a command reads: address and length. -/
def mtxReads (d : MtxDesc) : List (Nat × Nat) :=
  let gs := List.range d.groups
  let rws := fun (base cnt stride len : Nat) => (List.range cnt).map fun i => (base + i * stride, len)
  (if d.op = 4 then (List.range d.count).flatMap fun j => rws (d.a + j * d.aG) d.m d.aStride (4 * d.n)
   else gs.flatMap fun g =>
     rws (d.a + g * d.aG) d.m d.aStride (fmtLen d.fa d.k) ++ rws (d.b + g * d.bG) d.n d.bStride (fmtLen d.fb d.k) ++
     (if fmtMx d.fa then [(d.aScale + g * (d.m * d.k / 32), d.m * d.k / 32)] else []) ++
     (if fmtMx d.fb then [(d.bScale + g * (d.n * d.k / 32), d.n * d.k / 32)] else [])) ++
  (if d.rowsMem then [(d.rows, 4 * d.groups)] else [])

/-- The rows of bytes that a command writes. -/
def mtxWrites (d : MtxDesc) : List (Nat × Nat) :=
  let rws := fun (base len : Nat) => (List.range d.m).map fun i => (base + i * d.cStride, len)
  if d.op = 3 then (List.range (if d.loose then 1 else d.count)).flatMap fun j => rws (d.c + j * d.cG) (4 * d.n)
  else (List.range d.groups).flatMap fun g =>
    rws (d.c + g * d.cG) (fmtLen d.fc d.n) ++
      (if fmtMx d.fc then [(d.cScale + g * (d.m * d.n / 32), d.m * d.n / 32)] else [])

/-- The span lies in the tile SRAM of a compute die. -/
def onDie (die a len : Nat) : Bool :=
  match unitOf a, unitOf (a + (len - 1)) with
  | .tile d _, .tile e _ => d == die && e == die
  | _, _ => false

/-- Goes on where a command's spans keep R229 and R155; else a protection violation. -/
def withSpans (s : State) (src : Src) (c : Nat) (rd wr : List (Nat × Nat)) (k : State → State) : State :=
  match rd.find? (fun p => !mayUse s c p.1 p.2) with
  | some p => violation s src p.1
  | none =>
    match wr.find? (fun p => !mayWrite s c p.1 p.2) with
    | some p => violation s src p.1
    | none => k s

/-! ### Products in sheaf order (R303-R309) -/

/-- The first n elements that bytes hold in a format (R840). -/
def elemsOf (f n : Nat) (b : List Byte) : List Nat :=
  match fmtBits f with
  | 4 => (b.flatMap fun x => [x.toNat % 16, x.toNat / 16]).take n
  | 8 => (b.map (·.toNat)).take n
  | w => ((chunks (w / 8) b).map leNat).take n

/-- The exponent of an operand's block; 0 for an operand that is not MX, none for the scale code 0xFF. -/
def blockExp (f : Nat) (scale : Nat) : Option Int := if fmtMx f then e8m0 scale else some 0

/-- The exact sum of products of one group (R305). -/
def exactDot (as bs : List Fp) : Fp :=
  match List.zipWith Fp.mul as bs with
  | [] => Fp.zero
  | p :: ps => ps.foldl Fp.add p

/-- A value scaled by a power of two. -/
def Fp.scale (x : Int) : Fp → Fp
  | .fin n m e => .fin n m (e + x)
  | v => v

/-- One step of a tile: acc ← RNE_fp32(acc + 2^(sa+sb) × Σ a b), or the wrapping int32 sum (R305, R306). -/
def groupStep (intp : Bool) (acc : Fp) (g : (List Fp × List Fp) × Option Int × Option Int) : Fp :=
  if intp then wrap32 acc (exactDot g.1.1 g.1.2)
  else
    match g.2.1, g.2.2 with
    | some x, some y => rne32 (Fp.add acc (Fp.scale (x + y) (exactDot g.1.1 g.1.2)))
    | _, _ => .nan

/-- The partial of one sheaf (R308): the elements of A's row and B's column, and their scales by block of 32. -/
def sheafPartial (fa fb : Nat) (as bs : List Fp) (sa sb : List Nat) : Fp :=
  let g := max (fmtGroup fa) (fmtGroup fb)
  let steps := (List.zip (chunks g as) (chunks g bs)).zipIdx.map fun p =>
    (p.1, blockExp fa (sa.getD p.2 127), blockExp fb (sb.getD p.2 127))
  steps.foldl (groupStep (fa == 8)) Fp.zero

/-- The partials of sheaves `first` … of a row and a column, given as elements and scales of the whole reduction. -/
def rowPartials (fa fb first count : Nat) (as bs : List Fp) (sa sb : List Nat) : List Fp :=
  (List.range count).map fun j =>
    let o := 4096 * (first + j)
    sheafPartial fa fb ((as.drop o).take 4096) ((bs.drop o).take 4096) ((sa.drop (o / 32)).take 128)
      ((sb.drop (o / 32)).take 128)

/-- The tree of R309 over partials. -/
def combineTree (intp : Bool) (l : List Fp) : Fp := if intp then treeInt l else tree32 l

/-! ### Pieces (R313, R314, R318, R320) -/

/-- The row groups of a group of M rows with v valid ones: 64 rows each over M in Neap mode, over the granules in Flood
mode. -/
def rowGroups (neap : Bool) (m v : Nat) : Nat := if neap then cdiv m 64 else cdiv (cdiv v 16) 4

/-- The pieces of a command in order: group, column block, row group (R313). -/
def mtxPieces (neap : Bool) (d : MtxDesc) (counts : List Nat) : List (Nat × Nat × Nat) :=
  (List.range d.groups).flatMap fun g =>
    (List.range (cdiv d.n 128)).flatMap fun j =>
      (List.range (rowGroups neap d.m (counts.getD g d.m))).map fun r => (g, j, r)

/-- The cycles c in which the array adds groups for a piece (R319). -/
def mtxCycles (d : MtxDesc) : Nat :=
  let g := max (fmtGroup d.fa) (fmtGroup d.fb)
  let r := min (fmtRate d.fa) (fmtRate d.fb)
  let elems := if d.op = 3 then ((List.range d.count).map fun j => sheafLen d.k (d.first + j)).sum else d.k
  if d.op = 4 then 32 * d.count else cdiv (cdiv elems g * g) r

/-! ### The results of a piece -/

/-- Operand row or column i of group g: its values and scales. -/
def operandRow (s : State) (f base g gs i stride scale cnt k : Nat) : List Fp × List Nat :=
  let b := readMem s (base + g * gs + i * stride) (fmtLen f k)
  let sc := if fmtMx f then (readMem s (scale + g * (cnt * k / 32) + i * (k / 32)) (k / 32)).map (·.toNat) else []
  ((elemsOf f k b).map (fmtVal f), sc)

/-- The accumulator values of a row of a piece before R307: of a product or of a COMBINE. -/
def pieceRow (s : State) (d : MtxDesc) (g row : Nat) (cols : List Nat) : List Fp :=
  if d.op = 4 then
    cols.map fun col => combineTree (d.fa == 0x11) ((List.range d.count).map fun j =>
      fmtVal d.fa (leNat (readMem s (d.a + j * d.aG + row * d.aStride + 4 * col) 4)))
  else
    let (as, sa) := operandRow s d.fa d.a g d.aG row d.aStride d.aScale d.m d.k
    cols.map fun col =>
      let (bs, sb) := operandRow s d.fb d.b g d.bG col d.bStride d.bScale d.n d.k
      combineTree (d.fa == 8) (rowPartials d.fa d.fb 0 (sheaves d.k) as bs sa sb)

/-- The values of C_in of a row, in the format of C. -/
def cInRow (s : State) (d : MtxDesc) (g row : Nat) (cols : List Nat) : List Fp :=
  cols.map fun col =>
    let v := fmtVal d.fc (leNat (readMem s (d.c + g * d.cG + row * d.cStride + col * (fmtBits d.fc / 8)) (fmtBits d.fc / 8)))
    if fmtMx d.fc then
      scaled v (readByte s (d.cScale + g * (d.m * d.n / 32) + row * (d.n / 32) + col / 32)).toNat
    else v

/-- A row of results converted to the C format: element bytes and, for an MX format, the scale bytes of its blocks (R307). -/
def convertRow (fc : Nat) (sat : Bool) (vs : List Fp) : List Byte × List Byte :=
  if fmtMx fc then
    let bl := (chunks 32 vs).map (mxBlock (fc == 5))
    (bl.flatMap fun b => b.2.map (BitVec.ofNat 8), bl.map fun b => BitVec.ofNat 8 b.1)
  else (vs.flatMap fun v => leBytes (fmtBits fc / 8) (toFmt fc sat v), [])

/-- The columns of a column block. -/
def blockCols (n j : Nat) : List Nat := (List.range (min 128 (n - 128 * j))).map (· + 128 * j)

/-- The valid rows of a piece. -/
def pieceRows (d : MtxDesc) (counts : List Nat) (g r : Nat) : List Nat :=
  (List.range (min 64 (d.m - 64 * r))).map (· + 64 * r) |>.filter fun i => decide (i < counts.getD g d.m)

/-- The writes of a GEMM, GROUPED or COMBINE piece. -/
def productWrites (s : State) (n : Nat) (d : MtxDesc) (counts : List Nat) (g j r : Nat) : List (Nat × List Byte) :=
  let cols := blockCols d.n j
  let sat := (s.plan.numeric.getD n 0).testBit 2
  (pieceRows d counts g r).flatMap fun row =>
    let acc := pieceRow s d g row cols
    let acc := if d.accIn then
        List.zipWith (fun a b => if d.fc = 0x11 then wrap32 a b else rne32 (Fp.add a b)) acc (cInRow s d g row cols)
      else acc
    let (e, sc) := convertRow d.fc sat acc
    [(d.c + g * d.cG + row * d.cStride + 128 * j * (fmtBits d.fc / 8), e),
     (d.cScale + g * (d.m * d.n / 32) + row * (d.n / 32) + 4 * j, sc)]

/-- The partials of a SPLIT piece: for each sheaf, the rows' values with the addresses they go to (R324, R327). -/
def splitPartials (s : State) (d : MtxDesc) (counts : List Nat) (j r : Nat) : List (Nat × List (Nat × List Nat)) :=
  let cols := blockCols d.n j
  let rows := pieceRows d counts 0 r
  let vals := rows.map fun row =>
    let (as, sa) := operandRow s d.fa d.a 0 0 row d.aStride d.aScale d.m d.k
    (row, cols.map fun col =>
      let (bs, sb) := operandRow s d.fb d.b 0 0 col d.bStride d.bScale d.n d.k
      rowPartials d.fa d.fb d.first d.count as bs sa sb)
  (List.range d.count).map fun q =>
    (d.first + q, vals.map fun rv =>
      (d.c + (if d.loose then 0 else q * d.cG) + rv.1 * d.cStride + 512 * j,
       rv.2.map fun ps => toFmt d.fc false (ps.getD q Fp.zero)))

/-! ### Starting a command (R311-R314, R321) -/

/-- MTX_ERR records the first event (Table of MTX_ERR). -/
def mtxErr (s : State) (c cause : Nat) : State :=
  if bitAt (rget s .mtxErr) 63 then s
  else rput s .mtxErr (word (2 ^ 63 + stallNo c * 2 ^ 24 + (ctxOf s c).req.step * 2 ^ 8 + cause))

/-- A command of classes 1 and 2 starts with its descriptor, its row counts and the number of its pieces; with none it
completes at once (R339). -/
def openCmd (s : State) (m : Cmd) (desc : List Byte) (rows : List Nat) (total : Nat) : State :=
  modCmd s m.id fun x =>
    { x with desc := desc, rows := rows, total := total, next := 0, left := total, doneAt := s.now
             st := if total = 0 then .finished else .running }

/-- A matrix command starts: its form, its spans, its counts, read once (R314). -/
def openMatrix (c : Nat) (m : Cmd) (b : List Byte) (s : State) : State :=
  let n := stallNo c
  let d := mtxDesc b
  if m.len ≠ 128 ∨ mtxForm s n d b = false then violation s .mtx m.addr
  else
    withSpans s .mtx c (mtxReads d) (mtxWrites d) fun s =>
      let go := fun counts s =>
        openCmd s m (b.take 128) counts (mtxPieces (neapCtx s c) d counts).length
      if d.rowsMem then
        withBytes s .mtx d.rows (4 * d.groups) fun rb s =>
          let counts := (chunks 4 rb).map leNat
          if counts.any fun v => decide (d.m < v) then stepFail (mtxErr s c 0x38) .mtx c 0x38
          else go counts s
      else go (List.replicate d.groups d.m) s

/-! ### Tiles and units -/

/-- The units of a stall for a class in ascending (die, unit) order over dies that are not fallow (R318, R345). -/
def stallUnits (s : State) (n : Nat) : List Nat :=
  (List.range 128).filter fun u => cdOwner s (u / 8) == n && !fallow s (u / 8)

/-- A number of cycles of compute die `die` as a span of time: its tiles and units run in its own domain, whose cycle is
0.625 ns at multiplier 16 (R39, R346, R802). DEDUCED, log entry 48. -/
def cdCycles (s : State) (die n : Nat) : Nat := cdiv (n * 10000) (10 + cdCode (rget s .clkAppliedCd) die)

/-- The busy key of a unit of class 1 or 2. -/
def busyKey (cls u : Nat) : Nat := 128 * (cls - 1) + u
/-- The moment until which a unit is busy. -/
def busyTill (s : State) (cls u : Nat) : Nat := Tab.getD 0 (busyKey cls u) s.tiles.busy
/-- The state with a unit busy until a moment. -/
def setBusy (s : State) (cls u t : Nat) : State := { s with tiles := { s.tiles with busy := Tab.put (busyKey cls u) t s.tiles.busy } }
/-- Commands of the direct queues of a unit that have arrived and not finished. -/
def directWork (s : State) (cls u : Nat) : List Cmd :=
  s.cmds.filter fun m => m.cls == cls && m.inst == u && (m.st == .queued || m.st == .running) && decide (m.arrive ≤ s.now)
/-- The pieces that a unit has been handed. -/
def unitPieces (s : State) (cls u : Nat) : List Piece := s.tiles.pieces.filter fun p => p.cls == cls && p.unit == u

/-- The commands of the common work list of a context that have reached it. -/
def listCmds (s : State) (c cls : Nat) : List Cmd :=
  s.cmds.filter fun m => m.c == c && m.cls == cls && m.inst == 0xFF && decide (m.arrive ≤ s.now)

/-- The pieces of a Neap work-list command are dealt (R318): piece i goes to unit (D + i) mod T. -/
def dealPieces (s : State) (id : Nat) : State :=
  match s.cmds.find? (·.id == id) with
  | none => s
  | some m =>
    let us := stallUnits s (stallNo m.c)
    let key := 2 * stallNo m.c + (m.cls - 1)
    let d0 := Tab.getD 0 key s.tiles.deal
    let t := max 1 us.length
    let ps := (List.range m.total).map fun i =>
      ({ cmd := m.id, c := m.c, uid := m.uid, cls := m.cls, unit := us.getD ((d0 + i) % t) 0, piece := i, at_ := s.now
         first := decide (i < t) } : Piece)
    let s := modCmd s id fun x => { x with next := x.total }
    { s with tiles := { s.tiles with pieces := s.tiles.pieces ++ ps
                                     deal := Tab.put key ((d0 + m.total) % t) s.tiles.deal } }

/-- Every work-list command of a context that has reached its list starts, in order; in Neap mode its pieces are dealt. -/
def openList (opn : Nat → Cmd → List Byte → State → State) (valid : Nat → Bool) (src : Src) (c cls size : Nat) (s : State) :
    State :=
  (listCmds s c cls).foldl (fun s m =>
    if m.st != .queued || !(s.cmds.any fun x => x.id == m.id && x.st == .queued) then s
    else if !mayRead s c m.addr m.len || decide (m.len < size) || !valid (leNat (readMem s m.addr 1)) then violation s src m.addr
    else
      let s := withBytes s src m.addr m.len (opn c m)
      if neapCtx s c then dealPieces s m.id else s) s

/-- A matrix OP of the class. -/
def mtxOpValid (o : Nat) : Bool := decide (1 ≤ o) && decide (o ≤ 4)

/-- The descriptor read latency d in cycles (R319). -/
def descCycles (u : Nat) (cls : Nat) (a : Nat) : Nat :=
  match unitOf a with
  | .tile d t => if cls = 1 && d == u / 8 && t == u % 8 then 6 else if d = u / 8 then 12 else 0
  | _ => 0

/-- What a unit does next for a context and class: a command of its direct queue, or a piece handed to it. -/
inductive Work where
  | direct (m : Cmd)
  | handed (m : Cmd) (p : Piece)
  | none
  deriving DecidableEq, Repr

/-- The work of a unit for a context (R316): urgent before primary; a direct command that runs goes on; in Neap mode
direct commands and dealt pieces in the order in which they joined the unit; in Flood mode a claimed piece when it is
there, else the oldest direct command. -/
def unitWork (s : State) (c cls u : Nat) : Work :=
  let direct := directWork s cls u
  let urgentWaits := c < 16 && c % 2 == 0 && floodCtx s c &&
    (direct.any (fun m => m.c == c + 1) || (unitPieces s cls u).any fun p => p.c == c + 1)
  let runs := direct.find? fun m => m.st == .running
  let piece := (unitPieces s cls u).find? fun p => p.c == c
  let handed := match piece with
    | some p =>
      (match s.cmds.find? (·.id == p.cmd) with
       | some m => if p.at_ ≤ s.now then Work.handed m p else .none
       | none => .none)
    | none => .none
  match runs with
  | some m => if m.c = c then .direct m else .none
  | none =>
    if urgentWaits then .none
    else
      match direct.find? (fun m => m.c == c), piece with
      | some m, some p => if m.arrive ≤ p.at_ && neapCtx s c then .direct m else handed
      | some m, none => .direct m
      | none, _ => handed

/-- The writes of a piece land, none for a null command. -/
def landWrites (null : Bool) (ws : List (Nat × List Byte)) (s : State) : State :=
  if null then s else ws.foldl (fun s w => writeMem s w.1 w.2) s

/-- The operands of a piece lie on the executing tile's die (R317), checked by the first and last row. -/
def pieceOnDie (d : MtxDesc) (m : Cmd) (u g j r : Nat) : Bool :=
  let die := u / 8
  let rows := (List.range (min 64 (d.m - 64 * r))).map (· + 64 * r)
  let cols := blockCols d.n j
  onDie die m.addr m.len && (!d.rowsMem || onDie die d.rows (4 * d.groups)) &&
  (if d.op = 4 then
     (List.range d.count).all fun q => rows.all fun i => onDie die (d.a + q * d.aG + i * d.aStride + 512 * j) (4 * cols.length)
   else
     rows.all (fun i => onDie die (d.a + g * d.aG + i * d.aStride) (fmtLen d.fa d.k) &&
       (!fmtMx d.fa || onDie die (d.aScale + g * (d.m * d.k / 32) + i * (d.k / 32)) (d.k / 32))) &&
     cols.all (fun i => onDie die (d.b + g * d.bG + i * d.bStride) (fmtLen d.fb d.k) &&
       (!fmtMx d.fb || onDie die (d.bScale + g * (d.n * d.k / 32) + i * (d.k / 32)) (d.k / 32))))

/-- SOURCE of a unit's status register while it runs work of a command. -/
def workSource (m : Cmd) : Nat := if m.inst = 0xFF then 2 + m.c % 2 else 1

/-- A unit has done a piece of a command: it leaves the hand, the unit is busy for its cycles in Neap mode, and the
command completes with its last one, 16 cycles after in Neap mode (R319). -/
def pieceDone (s : State) (m : Cmd) (cls u piece d0 cycles : Nat) (first : Bool) (add : Nat) : State :=
  let neap := neapCtx s m.c
  let end_ := if neap then s.now + cdCycles s (u / 8) ((if first then d0 else 0) + cycles) else s.now
  let s := setBusy s cls u end_
  let s := { s with tiles := { s.tiles with
    pieces := s.tiles.pieces.filter fun p => !(p.cmd == m.id && p.piece == piece)
    last := Tab.put (busyKey cls u) (workSource m, (ctxOf s m.c).req.step, m.null) s.tiles.last } }
  modCmd s m.id fun x =>
    let left := x.left + add - 1
    { x with next := if x.inst = 0xFF then x.next else x.next + 1, left := left
             doneAt := max x.doneAt (if neap then end_ + cdCycles s (u / 8) 16 else end_)
             st := if left = 0 then .finished else x.st }

/-- A loose partial joins those that have left their tile (R327). -/
def sendLoose (s : State) (m : Cmd) (d : MtxDesc) (u j r : Nat) (parts : List (Nat × List (Nat × List Nat))) : State :=
  let blk := d.c + 64 * r * d.cStride + 512 * j
  { s with tiles := { s.tiles with loose := s.tiles.loose ++ parts.map fun p =>
      { cmd := m.id, c := m.c, uid := m.uid, trk := d.trk, block := blk, sheaf := p.1, unit := u, adds := p.2 } } }

/-- One piece of a matrix command runs on a tile (R303, R319). -/
def runPiece (s : State) (m : Cmd) (u piece : Nat) (first : Bool) : State :=
  let c := m.c
  let d := mtxDesc m.desc
  match (mtxPieces (neapCtx s c) d m.rows)[piece]? with
  | none => s
  | some (g, j, r) =>
    if neapCtx s c && !pieceOnDie d m u g j r then violation s .mtx m.addr
    else
      let res := match placeOf d.c with | some p => pathRes (.cd (u / 8)) p | none => []
      gated s .mtx c res d.c fun s =>
        let bytes := (mtxReads d).filter fun p => s.upsets.any fun x => decide (p.1 < 8 * x.1 + 8) && decide (8 * x.1 < p.1 + p.2)
        let body := fun (s : State) =>
          let add := if d.loose && !m.null then d.count else 0
          let s :=
            if d.op = 3 then
              let parts := splitPartials s d m.rows j r
              if d.loose then (if m.null then s else sendLoose s m d u j r parts)
              else landWrites m.null (parts.flatMap fun p => p.2.map fun w => (w.1, w.2.flatMap (leBytes 4))) s
            else landWrites m.null (productWrites s (stallNo c) d m.rows g j r) s
          let s := if d.op = 4 then s else rbump s .mtxTileBusy 63 0 (u % 8) (mtxCycles d) (u / 8)
          pieceDone s m 1 u piece (descCycles u 1 m.addr) (32 + mtxCycles d) first add
        match bytes with
        | [] => body s
        | p :: _ => withBytes s .mtx p.1 p.2 fun _ s => body s

/-- A tile runs piece `piece` of a matrix command with OP `op` for context c. -/
def mtxCmd (op c u piece : Nat) (s : State) : State :=
  let s := openList openMatrix mtxOpValid .mtx c 1 128 s
  if s.now < busyTill s 1 u || fallow s (u / 8) || 128 ≤ u then s
  else
    match unitWork s c 1 u with
    | .none => s
    | .handed m p => if p.piece = piece ∧ fieldAt m.desc 0 1 = op then runPiece s m u piece p.first else s
    | .direct m =>
      if m.st = .running then
        (if m.next = piece ∧ fieldAt m.desc 0 1 = op then runPiece s m u piece (m.next == 0) else s)
      else if piece = 0 then
        let s := takeCmd s .mtx c 1 u op 128 mtxOpValid (openMatrix c)
        match s.cmds.find? (fun x => x.id == m.id && x.st == .running) with
        | some x => runPiece s x u 0 true
        | none => s
      else s

/-- GEMM (R305). -/
def execGemm (c unit piece : Nat) (t : Nat) (s : State) : Host.Outcome State Fault Refusal :=
  whenEnabled t (fun _ => true) (mtxCmd 1 c unit piece) s
/-- GROUPED (R311). -/
def execGrouped (c unit piece : Nat) (t : Nat) (s : State) : Host.Outcome State Fault Refusal :=
  whenEnabled t (fun _ => true) (mtxCmd 2 c unit piece) s
/-- SPLIT (R324). -/
def execSplit (c unit piece : Nat) (t : Nat) (s : State) : Host.Outcome State Fault Refusal :=
  whenEnabled t (fun _ => true) (mtxCmd 3 c unit piece) s
/-- COMBINE (R325). -/
def execCombine (c unit piece : Nat) (t : Nat) (s : State) : Host.Outcome State Fault Refusal :=
  whenEnabled t (fun _ => true) (mtxCmd 4 c unit piece) s

/-! ### Loose adds (R327, R328, R341, R342) -/

/-- Adds a row of fp32 values into memory, each by one RNE_fp32 read-add-write. -/
def addRow (s : State) (w : Nat × List Nat) : State :=
  writeMem s w.1 (w.2.zipIdx.flatMap fun p =>
    leBytes 4 (f32bits (Fp.add (f32 (leNat (readMem s (w.1 + 4 * p.2) 4))) (f32 p.1))))

/-- The tracker key of a loose add: its tracker and the address of its destination block, which commands may share (R329). -/
def trackKey (x : LooseAdd) : Nat := (16 * stallNo x.c + x.trk) * 2 ^ 64 + x.block

/-- The tracker of a block. -/
def trackerOf (s : State) (k : Nat) : Tracker := Tab.getD { done := [], cyc := 0, unit := 0 } k s.tiles.trackers

/-- The lowest sheaf index that a block has not received. -/
def lowestSheaf (done : List Nat) : Nat := ((List.range (done.length + 1)).find? fun j => !done.contains j).getD 0

/-- A loose partial may be added: adds of one cycle to a block go in ascending (die, tile) order (R327, R342). -/
def looseReady (s : State) (x : LooseAdd) : Bool :=
  let t := trackerOf s (trackKey x)
  !(t.cyc == cycleOf s.now && !t.done.isEmpty && decide (x.unit < t.unit))

/-- A loose partial is added; an add that is not of the lowest outstanding sheaf is a timing-dependent choice (R328). -/
def looseAdd (x : LooseAdd) (s : State) : State :=
  let n := stallNo x.c
  let k := trackKey x
  let t := trackerOf s k
  let s := x.adds.foldl addRow s
  let s := if x.sheaf = lowestSheaf t.done then s
    else rsetField (rbump s .mtxLoose 31 0 n) .mtxLoose 63 52 (ctxOf s x.c).req.step n
  let s := { s with tiles := { s.tiles with
    loose := s.tiles.loose.erase x
    trackers := Tab.put k { done := x.sheaf :: t.done, cyc := cycleOf s.now, unit := x.unit } s.tiles.trackers } }
  cmdPart s x.cmd

/-- LOOSE_ADD (R327): the n-th loose partial of the context that has not been added arrives at its memory. -/
def execLooseAdd (c n : Nat) (t : Nat) (s : State) : Host.Outcome State Fault Refusal :=
  whenEnabled t (fun s =>
      match (s.tiles.loose.filter fun x => x.c == c)[n]? with | some x => looseReady s x | none => false)
    (fun s => match (s.tiles.loose.filter fun x => x.c == c)[n]? with | some x => looseAdd x s | none => s) s

end Sys2Proof.Machine
end

