-- ==== Sys2Proof/Machine/Vector.lean ====
section
/-! DEFINITION. Vector units (chapter 8, R330-R336, R473): descriptors, the operations of Table 8.4, reductions in sheaf
order, and the claims of work-list pieces by tiles and units in Flood mode. -/

namespace Sys2Proof.Machine

/-! ### The descriptor (Table 8.3, R332, R334) -/

/-- A vector operation of 16 bytes. -/
structure VOp where
  opc : Nat
  dst : Nat
  a : Nat
  b : Nat
  c : Nat
  fmt : Nat
  rowEnd : Bool
  rowScalar : Bool
  stream : Nat
  modRest : Nat
  imm : Nat
  deriving DecidableEq, Repr

/-- The operation that 16 bytes hold. -/
def vOp (b : List Byte) : VOp :=
  let m := fieldAt b 6 2
  { opc := fieldAt b 0 1, dst := fieldAt b 1 1, a := fieldAt b 2 1, b := fieldAt b 3 1, c := fieldAt b 4 1
    fmt := fieldAt b 5 1, rowEnd := m.testBit 0, rowScalar := m.testBit 1, stream := bitsOf m 3 2
    modRest := bitsOf m 15 4, imm := fieldAt b 8 8 }

/-- A vector descriptor. -/
structure VDesc where
  nops : Nat
  rows : Nat
  cols : Nat
  ins : List Nat
  out : Nat
  strides : List Nat
  ops : List VOp
  deriving DecidableEq, Repr

/-- The vector descriptor: a header of 64 bytes and NOPS operations. -/
def vDesc (b : List Byte) : VDesc :=
  let n := fieldAt b 1 1
  { nops := n, rows := fieldAt b 4 4, cols := fieldAt b 8 4, ins := (List.range 3).map fun i => fieldAt b (16 + 8 * i) 8
    out := fieldAt b 40 8, strides := (List.range 4).map fun i => fieldAt b (48 + 4 * i) 4
    ops := (List.range n).map fun i => vOp (slice b (64 + 16 * i) 16) }

/-- The registers and accumulators that an operation names, and whether each is an accumulator: DST, SRCA, SRCB, SRCC. -/
def vOpUses (o : VOp) : List (Nat × Bool) :=
  match o.opc with
  | 0x01 => [(o.dst, false)]
  | 0x02 => [(o.a, false)]
  | 0x03 => [(o.dst, false), (o.a, false), (o.b, false), (o.c, false)]
  | 0x0A => [(o.dst, false), (o.a, false), (o.b, false), (o.c, false)]
  | 0x0B => [(o.dst, false)]
  | 0x0C => [(o.dst, false), (o.a, false)]
  | 0x0D => [(o.dst, false), (o.a, false), (o.b, false), (o.c, false)]
  | 0x0E => [(o.dst, true), (o.a, false)]
  | 0x0F => [(o.dst, true), (o.a, false)]
  | 0x10 => [(o.dst, true), (o.a, false)]
  | 0x11 => [(o.dst, false), (o.a, true)]
  | 0x12 => [(o.dst, false)]
  | _ => [(o.dst, false), (o.a, false), (o.b, false)]

/-- An operation is well formed (R332, R334, R350, R354, R473): a listed OPC, ROW_END on RFIN and no other, ROW_SCALAR on
LD only, register fields in range, and the format, function and IMM that it takes. -/
def vOpOk (s : State) (n : Nat) (o : VOp) : Bool :=
  decide (1 ≤ o.opc) && decide (o.opc ≤ 0x12) && (o.rowEnd == (o.opc == 0x11)) && o.modRest == 0 &&
  (vOpUses o).all (fun u => decide (u.1 < if u.2 then 4 else 32)) &&
  (!o.rowScalar || o.opc == 0x01) && (if o.opc = 0x01 then decide (o.stream < 3) else o.stream == 0) &&
  (match o.opc with
   | 0x01 => fmtValid o.fmt && decide (o.imm < 2 ^ 48) && (fmtMx o.fmt || o.imm == 0)
   | 0x02 => fmtValid o.fmt && decide (o.imm < 2 ^ 48) && (fmtMx o.fmt || o.imm == 0)
   | 0x0B => decide (o.imm < 2 ^ 32)
   | 0x0C => fmtValid o.fmt
   | 0x0D => decide (o.imm < 2 ^ 16) && sfuPasses s n o.imm != 0 && (o.fmt == 0x10 || (decide (1 ≤ o.fmt) && decide (o.fmt ≤ 6)))
   | 0x12 => decide (o.imm < 2 ^ 39)
   | _ => true)

/-- A stream is loaded by some operation; and by a row-scalar load. -/
def streamUsed (d : VDesc) (i : Nat) : Bool := d.ops.any fun o => o.opc == 0x01 && o.stream == i
/-- A stream has a row-scalar load. -/
def streamScalar (d : VDesc) (i : Nat) : Bool := d.ops.any fun o => o.opc == 0x01 && o.stream == i && o.rowScalar

/-- The form of a vector descriptor for a stall. -/
def vForm (s : State) (n len : Nat) (d : VDesc) (b : List Byte) : Bool :=
  fieldAt b 0 1 == 0x10 && decide (1 ≤ d.nops) && decide (d.nops ≤ 12) && fieldAt b 2 2 == 0 && fieldAt b 12 4 == 0 &&
  decide (64 + 16 * d.nops ≤ len) && decide (1 ≤ d.rows) && decide (d.rows ≤ 2 ^ 20) && decide (1 ≤ d.cols) &&
  decide (d.cols ≤ 2 ^ 20) && d.ops.all (vOpOk s n) &&
  (List.range 3).all (fun i => unused0 (streamUsed d i) (d.ins.getD i 0) && unused0 (streamUsed d i) (d.strides.getD i 0) &&
    unused0 (!streamScalar d i) (d.strides.getD i 0)) &&
  (let st := d.ops.any (·.opc == 0x02); unused0 st d.out && unused0 st (d.strides.getD 3 0)) &&
  d.ops.all fun o => !(o.opc == 0x02 && fmtMx o.fmt) || d.cols % 32 == 0

/-- The spans of an LD or ST of a row: the elements and, for an MX format, its scales. -/
def vRowSpans (d : VDesc) (o : VOp) (row : Nat) : List (Nat × Nat) :=
  if o.rowScalar then
    let base := d.ins.getD o.stream 0
    (base + row * fmtBits o.fmt / 8, fmtLen o.fmt 1) :: (if fmtMx o.fmt then [(o.imm + row, 1)] else [])
  else
    let base := if o.opc = 0x02 then d.out else d.ins.getD o.stream 0
    let stride := if o.opc = 0x02 then d.strides.getD 3 0 else d.strides.getD o.stream 0
    (base + row * stride, fmtLen o.fmt d.cols) ::
      (if fmtMx o.fmt then [(o.imm + row * cdiv d.cols 32, cdiv d.cols 32)] else [])

/-- The spans that a command reads or writes. -/
def vSpans (d : VDesc) (opc : Nat) : List (Nat × Nat) :=
  (d.ops.filter (·.opc == opc)).flatMap fun o => (List.range d.rows).flatMap fun r => vRowSpans d o r

/-- A vector command starts: its form, its spans, and its pieces of 16 rows (R336). -/
def openVector (c : Nat) (m : Cmd) (b : List Byte) (s : State) : State :=
  let n := stallNo c
  let d := vDesc b
  if !vForm s n m.len d b then violation s .vec m.addr
  else
    withSpans s .vec c (vSpans d 0x01) (vSpans d 0x02) fun s =>
      openCmd s m (b.take (64 + 16 * d.nops)) [] (cdiv d.rows 16)

/-! ### Lanes (R330, R331) -/

/-- A vector register's 64 lanes. -/
def vrGet (u : VUnit) (r : Nat) : List Nat := Tab.getD (List.replicate 64 0) r u.vr
/-- The unit with a register written. -/
def vrPut (u : VUnit) (r : Nat) (v : List Nat) : VUnit := { u with vr := Tab.put r v u.vr }
/-- An accumulator that has restarted. -/
def RAcc.clear : RAcc := { kind := 0, lanes := List.replicate 64 0, partials := [], best := none }
/-- A unit with every register at 0. -/
def VUnit.clear : VUnit := { vr := [], ra := [] }
/-- An accumulator of a unit. -/
def raGet (u : VUnit) (r : Nat) : RAcc := Tab.getD RAcc.clear r u.ra
/-- The unit with an accumulator written. -/
def raPut (u : VUnit) (r : Nat) (v : RAcc) : VUnit := { u with ra := Tab.put r v u.ra }

/-- The pattern of a value in a lane; NaN is canonical (R333). -/
def lane (v : Fp) : Nat := f32bits v
/-- A lane's pattern with its NaN made canonical. -/
def canon (v : Nat) : Nat := lane (f32 v)

/-- Where a unit is in its command: the row, the chunk and how many of its lanes are present. -/
structure VAt where
  n : Nat
  step : Nat
  row : Nat
  chunk : Nat
  present : Nat
  deriving DecidableEq, Repr

/-- What a unit holds while a piece runs: its registers, the memory and log, and the stores that a null command leaves
out. -/
structure VRun where
  u : VUnit
  s : State

/-- A free value for a result that the manual does not state. -/
def freeLane (r : VRun) : Nat × VRun :=
  (Config.freeValue r.s.free % 2 ^ 32, { r with s := { r.s with free := r.s.free + 1 } })

/-- Free values for n lanes. -/
def freeLanes : Nat → VRun → List Nat × VRun
  | 0, r => ([], r)
  | n + 1, r => let (v, r) := freeLane r; let (vs, r) := freeLanes n r; (v :: vs, r)

/-- An element's bits in a format as fp32: exact; an int32 beyond 24 bits has no exact fp32 and gives a free value. -/
def toLane (fmt : Nat) (v : Fp) (r : VRun) : Nat × VRun :=
  match v with
  | .fin n m e =>
    if fmt = 0x11 && Fp.eqv (rne32 (.fin n m e)) (.fin n m e) == false then freeLane r else (lane v, r)
  | v => (lane v, r)

/-- The lanes of elements. -/
def toLanes (fmt : Nat) : List Fp → VRun → List Nat × VRun
  | [], r => ([], r)
  | v :: vs, r => let (x, r) := toLane fmt v r; let (xs, r) := toLanes fmt vs r; (x :: xs, r)

/-- The formats to which R307 states a conversion of an fp32 value. -/
def fmtOut (f : Nat) : Bool := (decide (1 ≤ f) && decide (f ≤ 6)) || f == 0x10

/-- LD: a chunk of elements, or one element of the row in every lane. -/
def vLoad (d : VDesc) (o : VOp) (at_ : VAt) (r : VRun) : VRun :=
  let count := if o.rowScalar then 1 else at_.present
  let base := d.ins.getD o.stream 0
  let el :=
    if o.rowScalar then
      let b := readMem r.s (base + at_.row * fmtBits o.fmt / 8) (fmtLen o.fmt 1)
      if fmtBits o.fmt = 4 then (elemsOf o.fmt 2 b).drop (at_.row % 2) |>.take 1 else elemsOf o.fmt 1 b
    else
      elemsOf o.fmt count (readMem r.s (base + at_.row * d.strides.getD o.stream 0 + 64 * at_.chunk * fmtBits o.fmt / 8)
        (fmtLen o.fmt count))
  let vs := el.zipIdx.map fun p =>
    let v := fmtVal o.fmt p.1
    if fmtMx o.fmt then
      let q := if o.rowScalar then o.imm + at_.row else o.imm + at_.row * cdiv d.cols 32 + 2 * at_.chunk + p.2 / 32
      scaled v (readByte r.s q).toNat
    else v
  let (xs, r) := toLanes o.fmt vs r
  let lanes := if o.rowScalar then List.replicate 64 (xs.getD 0 0) else xs ++ (vrGet r.u o.dst).drop xs.length
  { r with u := vrPut r.u o.dst lanes }

/-- ST: the present lanes converted to FMT (R307); a conversion that R307 does not state stores free values. -/
def vStore (d : VDesc) (o : VOp) (null : Bool) (at_ : VAt) (r : VRun) : VRun :=
  let sat := (r.s.plan.numeric.getD at_.n 0).testBit 2
  let base := d.out + at_.row * d.strides.getD 3 0 + 64 * at_.chunk * fmtBits o.fmt / 8
  let vs := ((vrGet r.u o.a).take at_.present).map f32
  if fmtOut o.fmt then
    let (e, sc) := convertRow o.fmt sat vs
    if null then r
    else
      let s := writeMem r.s base e
      { r with s := writeMem s (o.imm + at_.row * cdiv d.cols 32 + 2 * at_.chunk) sc }
  else
    let (xs, r) := freeLanes at_.present r
    let b := (xs.flatMap fun v => leBytes 4 v).take (fmtLen o.fmt at_.present)
    if null then r else { r with s := writeMem r.s base b }

/-- ROUND: to FMT and back to fp32; MX formats by blocks of 32 lanes. -/
def vRound (o : VOp) (at_ : VAt) (r : VRun) : VRun :=
  let sat := (r.s.plan.numeric.getD at_.n 0).testBit 2
  let lanes := vrGet r.u o.a
  if !fmtOut o.fmt then
    let (xs, r) := freeLanes 64 r
    { r with u := vrPut r.u o.dst xs }
  else if fmtMx o.fmt then
    let out := (chunks 32 ((lanes.take at_.present).map f32)).flatMap fun blk =>
      let (sc, es) := mxBlock (o.fmt == 5) blk
      es.map fun e => lane (scaled (fmtVal o.fmt e) sc)
    { r with u := vrPut r.u o.dst (out ++ (vrGet r.u o.dst).drop out.length) }
  else { r with u := vrPut r.u o.dst (lanes.map fun v => lane (fmtVal o.fmt (toFmt o.fmt sat (f32 v)))) }

/-- An accumulator used by a reduction of a kind: used by two kinds it is mixed, and the manual states no result. -/
def RAcc.use (x : RAcc) (k : Nat) : RAcc := if x.kind = 0 ∨ x.kind = k then { x with kind := k } else { x with kind := 0xFF }

/-- The end of a sheaf or a row: the 64 lane values combine, and the lanes restart (R335). -/
def RAcc.close (x : RAcc) : RAcc :=
  { x with partials := x.partials ++ [lane (tree32 (x.lanes.map f32))], lanes := List.replicate 64 0 }

/-- RSUM, RMAX and RARGMAX on the present lanes of a chunk. -/
def vReduce (o : VOp) (at_ : VAt) (r : VRun) : VRun :=
  let x := (raGet r.u o.dst).use o.opc
  let v := (vrGet r.u o.a).take at_.present
  let x :=
    if o.opc = 0x0E then
      let sums := List.zipWith (fun a b => lane (Fp.add (f32 a) (f32 b))) x.lanes v
      { x with lanes := sums ++ x.lanes.drop sums.length }
    else
      { x with best := v.zipIdx.foldl (fun best p =>
          let col := 64 * at_.chunk + p.2
          match best with
          | none => some (p.1, col)
          | some (b, k) =>
            if o.opc = 0x0F then some (lane (Fp.max (f32 b) (f32 p.1)), 0)
            else if (f32 b).isNan then some (b, k)
            else if (f32 p.1).isNan || Fp.lt (f32 b) (f32 p.1) then some (p.1, col)
            else some (b, k)) x.best }
  { r with u := raPut r.u o.dst x }

/-- RFIN: the final value of an accumulator in every lane, and its restart. -/
def vFinal (o : VOp) (r : VRun) : VRun :=
  let x := raGet r.u o.a
  let (v, r) :=
    match x.kind, x.best with
    | 0x0E, _ => (lane (tree32 (x.partials.map f32)), r)
    | 0x0F, some (b, _) => (canon b, r)
    | 0x10, some (b, k) => ((if (f32 b).isNan then lane .nan else k), r)
    | _, _ => freeLane r
  { r with u := vrPut (raPut r.u o.a RAcc.clear) o.dst (List.replicate 64 v) }

/-- RAND (R471-R474): word WORD of the draw of each lane's column under the row's identity. -/
def vRand (o : VOp) (at_ : VAt) (r : VRun) : VRun :=
  let seed := r.s.plan.seeds.getD at_.n 0
  let token := (bitsOf o.imm 38 18 + at_.row) % 2097152
  let ident := at_.step % 4096 * 2 ^ 52 + at_.n * 2 ^ 49 + token * 2 ^ 25
  let c3 := 0x80000000 + bitsOf o.imm 17 2
  let out := (List.range 64).map fun i =>
    philox seed ((64 * at_.chunk + i) % 2 ^ 32) (ident % 2 ^ 32) (ident / 2 ^ 32) c3 (o.imm % 4)
  { r with u := vrPut r.u o.dst out }

/-- A lanewise operation of two registers. -/
def vLanes2 (f : Fp → Fp → Fp) (o : VOp) (r : VRun) : VRun :=
  { r with u := vrPut r.u o.dst (List.zipWith (fun a b => lane (f (f32 a) (f32 b))) (vrGet r.u o.a) (vrGet r.u o.b)) }

/-- The lanes of three registers together. -/
def zip3 (a b c : List Nat) : List (Nat × Nat × Nat) := List.zip a (List.zip b c)

/-- One operation on one chunk (Table 8.4). -/
def vStep (d : VDesc) (null : Bool) (at_ : VAt) (r : VRun) (o : VOp) : VRun :=
  let tri := fun (f : Nat → Nat → Nat → Nat) =>
    { r with u := vrPut r.u o.dst ((zip3 (vrGet r.u o.a) (vrGet r.u o.b) (vrGet r.u o.c)).map fun x => f x.1 x.2.1 x.2.2) }
  match o.opc with
  | 0x01 => vLoad d o at_ r
  | 0x02 => vStore d o null at_ r
  | 0x03 => tri fun a b c => lane (Fp.add (Fp.mul (f32 a) (f32 b)) (f32 c))
  | 0x04 => vLanes2 Fp.add o r
  | 0x05 => vLanes2 Fp.sub o r
  | 0x06 => vLanes2 Fp.mul o r
  | 0x07 => vLanes2 Fp.max o r
  | 0x08 => vLanes2 Fp.min o r
  | 0x09 => vLanes2 (fun a b => if Fp.lt b a then Fp.one else Fp.zero) o r
  | 0x0A => tri fun a b c => canon (if (f32 c).isZero then b else a)
  | 0x0B => { r with u := vrPut r.u o.dst (List.replicate 64 (canon o.imm)) }
  | 0x0C => vRound o at_ r
  | 0x0D => tri fun a b c => sfuResult (sfuBlock r.s at_.n) (o.fmt != 0x10) o.imm a b c
  | 0x0E => vReduce o at_ r
  | 0x0F => vReduce o at_ r
  | 0x10 => vReduce o at_ r
  | 0x11 => vFinal o r
  | _ => vRand o at_ r

/-- The accumulators that RSUM uses. -/
def sumAccs (d : VDesc) : List Nat := ((d.ops.filter (·.opc == 0x0E)).map (·.dst)).eraseDups

/-- One row (R331, R335): its chunks, the ends of its sheaves, and its ROW_END operations. -/
def vRow (d : VDesc) (null : Bool) (n step : Nat) (r : VRun) (row : Nat) : VRun :=
  let chunks_ := cdiv d.cols 64
  let r := (List.range chunks_).foldl (fun r ch =>
    let at_ : VAt := { n := n, step := step, row := row, chunk := ch, present := min 64 (d.cols - 64 * ch) }
    let r := (d.ops.filter (!·.rowEnd)).foldl (vStep d null at_) r
    if (ch + 1) % 64 = 0 ∨ ch + 1 = chunks_ then
      { r with u := (sumAccs d).foldl (fun u a => raPut u a (raGet u a).close) r.u }
    else r) r
  let at_ : VAt := { n := n, step := step, row := row, chunk := chunks_ - 1, present := 64 }
  (d.ops.filter (·.rowEnd)).foldl (vStep d null at_) r

/-! ### A piece (R336) -/

/-- The SFU passes that a chunk starts. -/
def vPasses (s : State) (n : Nat) (d : VDesc) : Nat := ((d.ops.filter (·.opc == 0x0D)).map fun o => sfuPasses s n o.imm).sum

/-- The cycles of the operations of a chunk from a cycle of the die on, counted from the tick (R336, R348): the cycle they end in. -/
def vChunkEnd (s : State) (n v : Nat) (d : VDesc) (at_ : Nat) : Nat :=
  (d.ops.filter (!·.rowEnd)).foldl (fun k o =>
    if o.opc = 0x0D then k + 1 + sfuTime v (sfuPasses s n o.imm) (k + 1) else k + 1) at_

/-- The cycles of a piece that starts at a cycle of the tide (R336). -/
def vCycles (s : State) (n v : Nat) (d : VDesc) (rows start : Nat) : Nat :=
  let e := (d.ops.filter (·.rowEnd)).length
  let sheaf := 8 * ((sumAccs d).length * cdiv d.cols 4096)
  let end_ := (List.range rows).foldl (fun k _ =>
    (List.range (cdiv d.cols 64)).foldl (fun k _ => vChunkEnd s n v d k) k + e + sheaf) (start + 8)
  end_ - start

/-- The piece's streams lie on the unit's die (R336). -/
def vOnDie (d : VDesc) (m : Cmd) (u : Nat) (rows : List Nat) : Bool :=
  onDie (u / 8) m.addr m.len && (d.ops.filter fun o => o.opc == 0x01 || o.opc == 0x02).all fun o =>
    rows.all fun r => (vRowSpans d o r).all fun p => onDie (u / 8) p.1 p.2

/-- One piece of a vector command runs on a unit. -/
def runVector (s : State) (m : Cmd) (u piece : Nat) (first : Bool) : State :=
  let c := m.c
  let n := stallNo c
  let d := vDesc m.desc
  let rows := (List.range (min 16 (d.rows - 16 * piece))).map (· + 16 * piece)
  if neapCtx s c && !vOnDie d m u rows then violation s .vec m.addr
  else
    let res := match placeOf d.out with | some p => pathRes (.cd (u / 8)) p | none => []
    gated s .vec c res d.out fun s =>
      let bad := (vSpans d 0x01).find? fun p => s.upsets.any fun x => decide (p.1 < 8 * x.1 + 8) && decide (8 * x.1 < p.1 + p.2)
      let body := fun (s : State) =>
        let start := (s.now - s.tide.tick) * (10 + cdCode (rget s .clkAppliedCd) (u / 8)) / 10000
        let cycles := vCycles s n (u % 8) d rows.length start
        let r := rows.foldl (vRow d m.null n (ctxOf s c).req.step) { u := Tab.getD VUnit.clear u s.tiles.units, s := s }
        let s := { r.s with tiles := { r.s.tiles with units := Tab.put u r.u r.s.tiles.units } }
        let chunks_ := rows.length * cdiv d.cols 64
        let s := rbump s .vecUnitBusy 63 0 (u % 8) (chunks_ * (d.ops.filter (!·.rowEnd)).length + rows.length * (d.ops.filter (·.rowEnd)).length) (u / 8)
        let s := rbump s .sfuBusy 63 0 (u % 8 / 4) (chunks_ * vPasses s n d) (u / 8)
        pieceDone s m 2 u piece (descCycles u 2 m.addr) cycles first 0
      match bad with
      | some p => withBytes s .vec p.1 p.2 fun _ s => body s
      | none => body s

/-- A vector OP of the class. -/
def vecOpValid (o : Nat) : Bool := o == 0x10

/-- A vector unit runs piece `piece` of a command for context c. -/
def vecCmd (c u piece : Nat) (s : State) : State :=
  let s := openList openVector vecOpValid .vec c 2 64 s
  if s.now < busyTill s 2 u || fallow s (u / 8) || 128 ≤ u then s
  else
    match unitWork s c 2 u with
    | .none => s
    | .handed m p => if p.piece = piece then runVector s m u piece p.first else s
    | .direct m =>
      if m.st = .running then (if m.next = piece then runVector s m u piece (m.next == 0) else s)
      else if piece = 0 then
        let s := takeCmd s .vec c 2 u 0x10 64 vecOpValid (openVector c)
        match s.cmds.find? (fun x => x.id == m.id && x.st == .running) with
        | some x => runVector s x u 0 true
        | none => s
      else s

/-- PROGRAM (R331). -/
def execProgram (c unit piece : Nat) (t : Nat) (s : State) : Host.Outcome State Fault Refusal :=
  whenEnabled t (fun _ => true) (vecCmd c unit piece) s

/-! ### Claims (R316, R322, R343) -/

/-- A unit is free for work-list pieces: nothing runs on it, its direct queues are empty and it holds no piece. -/
def unitFree (s : State) (cls u : Nat) : Bool :=
  (directWork s cls u).isEmpty && (unitPieces s cls u).isEmpty && decide (busyTill s cls u ≤ s.now)

/-- The first command of a context's list with a piece to hand out. -/
def listNext (s : State) (c cls : Nat) : Option Cmd :=
  (listCmds s c cls).find? fun m => m.st == .running && decide (m.next < m.total)

/-- ARB of STL_CTRL: demand arbitration. -/
def arbOf (s : State) (n : Nat) : Bool := bitAt (rget s .stlCtrl n) 2

/-- The claimant that the list serves now (R322): under ARB 0 the first free unit after the last one served; under ARB 1
the free unit that has claimed longest, ties to the lower. -/
def claimant (s : State) (n cls : Nat) (m : Cmd) : Option Nat :=
  let free := (stallUnits s n).filter (unitFree s cls)
  let last := (Tab.getD (0, 127) (2 * n + (cls - 1)) s.tiles.claims).2
  if arbOf s n then
    free.foldl (fun best u =>
      let at_ := fun u => max (busyTill s cls u) m.arrive
      match best with
      | none => some u
      | some b => if at_ u < at_ b then some u else some b) none
  else match free.find? (fun u => decide (last < u)) with | some u => some u | none => free.head?

/-- The unit that the list serves now: the claimant of R322, or, while the WORKLIST control of Squall acts, one drawn at
random of the free units, where none has reached the bound of R322 (R789). -/
def claimPick (s : State) (n cls : Nat) (m : Cmd) : Option Nat × State :=
  if squallOn s 3 n then
    let units := stallUnits s n
    let free := units.filter (unitFree s cls)
    let seen := fun u => Tab.getD 0 (128 * (2 * n + (cls - 1)) + u) s.tiles.waits
    match free.find? fun u => decide (units.length ≤ seen u + 1) with
    | some u => (some u, s)
    | none =>
      let (v, s) := squall s
      (free[v % max 1 free.length]?, rbump s .sqlStat 31 0)
  else (claimant s n cls m, s)

/-- The grants that the free units of a stall have seen, after one for a unit: one more for each other claimant. -/
def claimWaits (s : State) (n cls u : Nat) : Tab Nat :=
  let at_ := fun v => 128 * (2 * n + (cls - 1)) + v
  if squallOn s 3 n then
    ((stallUnits s n).filter fun v => unitFree s cls v && v != u).foldl
      (fun w v => Tab.put (at_ v) (Tab.getD 0 (at_ v) s.tiles.waits + 1) w)
      (Tab.delRange (at_ 0) (at_ 128) s.tiles.waits)
  else s.tiles.waits

/-- A claim is granted: one in each cycle, the urgent list before the primary one; the piece reaches the unit 24 cycles
later. -/
def claimCmd (c u cls : Nat) (s : State) : State :=
  let n := stallNo c
  let key := 2 * n + (cls - 1)
  let opn := fun (s : State) (c : Nat) =>
    if cls = 1 then openList openMatrix mtxOpValid .mtx c 1 128 s else openList openVector vecOpValid .vec c 2 64 s
  let s := opn (if c % 2 = 0 then opn s (c + 1) else s) c
  let granted := match Tab.find key s.tiles.claims with | some g => g.1 == cycleOf s.now | none => false
  if granted || (c % 2 == 0 && (listNext s (c + 1) cls).isSome) then s
  else
    match listNext s c cls with
    | none => s
    | some m =>
      let (pick, drawn) := claimPick s n cls m
      if pick ≠ some u then s
      else
        let s := { drawn with tiles := { drawn.tiles with waits := claimWaits s n cls u } }
        let p : Piece := { cmd := m.id, c := c, uid := m.uid, cls := cls, unit := u, piece := m.next, at_ := s.now + cyc 24
                           first := false }
        let s := modCmd s m.id fun x => { x with next := x.next + 1 }
        { s with tiles := { s.tiles with pieces := s.tiles.pieces ++ [p]
                                         claims := Tab.put key (cycleOf s.now, u) s.tiles.claims } }

/-- WORKLIST_CLAIM (R322). -/
def execWorklistClaim (c unit : Nat) (vector : Bool) (t : Nat) (s : State) : Host.Outcome State Fault Refusal :=
  whenEnabled t (fun s => decide (c < 16) && floodCtx s c) (claimCmd c unit (if vector then 2 else 1)) s

end Sys2Proof.Machine
end

