-- ==== Sys2Proof/Machine/Winnow.lean ====
section
/-! DEFINITION. Winnow (chapter 10): scores, selection and choice records; the census of a context and its exchange; the
answer window, the verdict and its application. -/

namespace Sys2Proof.Machine

/-! ### The descriptor (Table 10.1) -/

/-- A Winnow descriptor. -/
structure WinDesc where
  sigmoid : Bool
  k : Nat
  kfb : Nat
  e : Nat
  g : Nat
  m : Nat
  norm : Bool
  fz : Nat
  tokens : Nat
  base : Nat
  zStride : Nat
  z : Nat
  bias : Nat
  slots : Nat
  out : Nat
  noise : Nat
  scale : Nat
  deriving DecidableEq, Repr

/-- The Winnow descriptor of 64 bytes. -/
def winDesc (b : List Byte) : WinDesc :=
  { sigmoid := fieldAt b 1 1 == 1, k := fieldAt b 2 1, kfb := fieldAt b 3 1, e := fieldAt b 4 2, g := fieldAt b 6 2
    m := fieldAt b 8 1, norm := fieldAt b 9 1 == 1, fz := fieldAt b 10 1, tokens := fieldAt b 12 4, base := fieldAt b 16 4
    zStride := fieldAt b 20 4, z := fieldAt b 24 8, bias := fieldAt b 32 8, slots := fieldAt b 40 8, out := fieldAt b 48 8
    noise := fieldAt b 56 4, scale := fieldAt b 60 4 }

/-- The form of a Winnow descriptor (R388). -/
def winForm (d : WinDesc) (b : List Byte) : Bool :=
  decide (fieldAt b 1 1 ≤ 1) && decide (1 ≤ d.k) && decide (d.k ≤ 8) && decide (1 ≤ d.kfb) && decide (d.kfb ≤ d.k) &&
    decide (1 ≤ d.e) && decide (d.e ≤ 1024) && decide (1 ≤ d.g) && decide (d.g ≤ 64) && d.e % d.g == 0 &&
    decide (1 ≤ d.m) && decide (d.m ≤ d.g) && decide (fieldAt b 9 1 ≤ 1) && (d.fz == 0x01 || d.fz == 0x10) &&
    fieldAt b 11 1 == 0 && decide (1 ≤ d.tokens) && decide (d.tokens ≤ 32768) && decide (d.base + d.tokens ≤ 2097152) &&
    d.out % 64 == 0

/-- The spans that a Winnow command reads. -/
def winReads (d : WinDesc) : List (Nat × Nat) :=
  ((List.range d.tokens).map fun r => (d.z + r * d.zStride, fmtLen d.fz d.e)) ++
    (if d.bias = 0 then [] else [(d.bias, 4 * d.e)]) ++ (if d.slots = 0 then [] else [(d.slots, 2 * d.tokens)])

/-! ### Scoring and selection (R382-R385) -/

/-- The product rounded to fp32. -/
def mul32 (a b : Fp) : Fp := rne32 (Fp.mul a b)
/-- The sum rounded to fp32. -/
def add32 (a b : Fp) : Fp := rne32 (Fp.add a b)

/-- A row sum as RSUM forms it (R335): 64 lanes by column modulo 64, then the tree. -/
def rowSum (xs : List Fp) : Fp :=
  let lanes := (chunks 64 xs).foldl (fun acc c => List.zipWith add32 acc (c ++ List.replicate (64 - c.length) Fp.zero))
    (List.replicate 64 Fp.zero)
  tree32 lanes

/-- The probabilities of a row (R382). -/
def winProbs (sigmoid : Bool) (z : List Fp) : List Fp :=
  if sigmoid then z.map fun x => rne32 (fnSigmoid x)
  else
    let m := z.foldl Fp.max (z.headD Fp.zero)
    let s := rowSum (z.map fun x => rne32 (fnExpSub x m))
    z.map fun x => if x.isNan || m.isNan || s.isNan then .nan else rne32 (fnSmx x m s)

/-- The identity of a token's noise (R472): the tag of its rank-0 choice with ORIGIN 0. -/
def winIdentity (step stall token slot : Nat) : Nat :=
  step % 4096 * 2 ^ 52 + stall % 8 * 2 ^ 49 + token % 2 ^ 21 * 2 ^ 25 + slot % 2 ^ 13

/-- The noise term of expert e (R383). -/
def winNoise (seed scale ident e : Nat) : Fp :=
  if scale = 0 then Fp.zero
  else
    let w := philox seed (0x8000 + e) (ident % 2 ^ 32) (ident / 2 ^ 32) 0 0 / 256
    mul32 (f32 scale) (.fin (decide (w < 2 ^ 23)) (max w (2 ^ 23) - min w (2 ^ 23)) (-23))

/-- Picks the first entry of the highest value; a NaN ranks lowest. -/
def pickBest (l : List (Nat × Fp)) : Option (Nat × Fp) :=
  l.foldl (fun b x =>
    match b with
    | none => some x
    | some y => if Fp.lt y.2 x.2 || (y.2.isNan && !x.2.isNan) then some x else some y) none

/-- The n best entries in descending value, ties in list order. -/
def pickN : Nat → List (Nat × Fp) → List Nat
  | 0, _ => []
  | n + 1, l =>
    match pickBest l with
    | none => []
    | some b => b.1 :: pickN n (l.filter fun x => x.1 != b.1)

/-- The score of a group (R384): the sum of its two highest σ. -/
def groupScore (sg : List Fp) : Fp :=
  match (pickN 2 (sg.zipIdx.map fun x => (x.2, x.1))).map fun i => sg.getD i .nan with
  | [a] => a
  | [a, b] => add32 a b
  | _ => .nan

/-- The choices of a token in rank order, and whether a NaN removed them (R384, R385). -/
def winChoices (d : WinDesc) (z sg : List Fp) : List Nat × Bool :=
  if z.any Fp.isNan || sg.any Fp.isNan then ([], true)
  else
    let size := d.e / d.g
    let groups := pickN d.m ((List.range d.g).map fun g => (g, groupScore ((sg.drop (g * size)).take size)))
    let el := (List.range d.e).filter fun e => z.getD e .nan != .inf true && groups.contains (e / size)
    (pickN d.k (el.map fun e => (e, sg.getD e .nan)), false)

/-- The weights of a token's choices over its ranks below a bound (R386). -/
def winWeights (d : WinDesc) (ps : List Fp) (bound : Nat) : List Fp :=
  let sum := match ps.take bound with | [] => Fp.zero | p :: r => r.foldl add32 p
  let sc := f32 d.scale
  ps.zipIdx.map fun p =>
    if bound ≤ p.2 then Fp.zero
    else if sum.isZero then Fp.zero
    else if d.norm then mul32 sc (rne32 (fnDiv p.1 sum)) else mul32 sc p.1

/-- A choice record (Table 10.2). -/
def choiceRec (token rank : Nat) (absent nan : Bool) (expert slot wf wb : Nat) : List Byte :=
  leBytes 4 (token + rank * 2 ^ 21 + absent.toNat * 2 ^ 24 + nan.toNat * 2 ^ 25) ++ leBytes 2 expert ++ leBytes 2 slot ++
    leBytes 4 wf ++ leBytes 4 wb

/-- The records of one row, and whether a NaN removed its choices (R389). -/
def winRow (s : State) (c : Nat) (d : WinDesc) (r : Nat) : List Byte × Bool :=
  let n := stallNo c
  let z := (elemsOf d.fz d.e (readMem s (d.z + r * d.zStride) (fmtLen d.fz d.e))).map (fmtVal d.fz)
  let bias := if d.bias = 0 then List.replicate d.e Fp.zero else (elemsOf 0x10 d.e (readMem s d.bias (4 * d.e))).map f32
  let slot := if d.slots = 0 then 0 else leNat (readMem s (d.slots + 2 * r) 2) % 8192
  let token := d.base + r
  let ident := winIdentity (ctxOf s c).req.step n token slot
  let p := winProbs d.sigmoid z
  let sg := ((p.zip bias).zipIdx).map fun x =>
    add32 (add32 x.1.1 x.1.2) (winNoise (s.plan.seeds.getD n 0) d.noise ident x.2)
  let (ch, nan) := winChoices d z sg
  let ps := ch.map fun e => p.getD e .nan
  let wf := winWeights d ps ch.length
  let wb := winWeights d ps (min d.kfb ch.length)
  ((List.range d.k).flatMap fun i =>
    match ch[i]? with
    | some e => choiceRec token i false false e slot (f32bits (wf.getD i .nan)) (f32bits (wb.getD i .nan))
    | none => choiceRec token i true nan 0x3FF slot 0 0, nan)

/-- The moment at which a dispatch-die engine ends: its domain-36 cycles of 0.5 ns (Table 1.8), the latencies of some
of the places it reaches (Table 1.4), and the refresh holds of all of them (R87). -/
def ddTime (s : State) (dd : Nat) (cycles : Nat) (lats all : List Nat) : Nat :=
  let lat := fun (a : Nat) => match placeOf a with | some p => readLatency (.dd dd) p | none => 0
  all.foldl (fun t a => max t (afterBlackout s a s.now)) s.now + cycles * 500 + (lats.map lat).sum

/-- The bay-scheduled resources of a dispatch die's paths to addresses. -/
def ddRes (dd : Nat) (as : List Nat) : List Nat :=
  as.flatMap fun a => match placeOf a with | some p => pathRes (.dd dd) p | none => []

/-- ROUTE: Winnow on a dispatch die routes the rows of its descriptor (R381-R390). -/
def winTake (c dd : Nat) (m : Cmd) (b : List Byte) (s : State) : State :=
  let d := winDesc b
  if !winForm d b then violation s .win m.addr
  else
    withSpans s .win c (winReads d) [(d.out, 16 * d.tokens * d.k)] fun s =>
      gated s .win c (ddRes dd [d.z, d.out]) d.z fun s =>
        let rows := (List.range d.tokens).map fun r => winRow s c d r
        let done := ddTime s dd (96 + d.tokens * (cdiv d.e 64 + d.k + 4)) [] [d.z, d.out, d.bias, d.slots]
        let s := if m.null then s
          else
            let s := writeMem s d.out (rows.flatMap (·.1))
            rbump s .winDrops 15 0 (stallNo c) (rows.filter (·.2)).length
        finishCmd s m.id done

/-- ROUTE (R381). -/
def execRoute (c dd : Nat) (t : Nat) (s : State) : Host.Outcome State Fault Refusal :=
  whenEnabled t (fun s => decide (c < 16) && decide (dd < 2) && engineIdle s 3 dd)
    (fun s => takeCmd s .win c 3 dd 1 64 (fun o => o == 1) (winTake c dd)) s

/-! ### The census descriptor (Table 10.3) -/

/-- A census descriptor. -/
structure CenDesc where
  mode : Nat
  lead : Nat
  k : Nat
  mask : Nat
  e : Nat
  defCf : Nat
  fbCf : Nat
  kfb : Nat
  wait : Nat
  capMax : Nat
  loc : Nat
  group : Nat
  out : Nat
  deriving DecidableEq, Repr

/-- The census descriptor of 64 bytes. -/
def cenDesc (b : List Byte) : CenDesc :=
  { mode := fieldAt b 1 1, lead := fieldAt b 2 1, k := fieldAt b 3 1, mask := fieldAt b 4 2, e := fieldAt b 6 2
    defCf := fieldAt b 8 2, fbCf := fieldAt b 10 2, kfb := fieldAt b 12 1, wait := fieldAt b 14 2, capMax := fieldAt b 16 4
    loc := fieldAt b 24 8, group := fieldAt b 32 8, out := fieldAt b 40 8 }

/-- A capacity factor code is in range. -/
def cfOk (v : Nat) : Bool := decide (0x40 ≤ v) && decide (v ≤ 0x1000)

/-- The chips of a group mask. -/
def maskChips (mask : Nat) : List Nat := (List.range 16).filter fun c => mask.testBit c

/-- The form of a census descriptor: Table 10.3, with every chip of the group on the board (R233). -/
def cenForm (s : State) (c : Nat) (d : CenDesc) (b : List Byte) : Bool :=
  decide (d.mode ≤ 1) && decide (d.lead < 16) && decide (1 ≤ d.k) && decide (d.k ≤ 8) && d.mask.testBit (chipOnBoard s) &&
    d.mask.testBit d.lead && (maskChips d.mask).all (fun x => decide (x < boardChips s)) && decide (1 ≤ d.e) &&
    decide (d.e ≤ 1024) && cfOk d.defCf && cfOk d.fbCf && decide (1 ≤ d.kfb) && decide (d.kfb ≤ d.k) && fieldAt b 13 1 == 0 &&
    decide (1 ≤ d.wait) && decide (d.wait ≤ 10000) && decide (d.capMax ≤ 524288) && (d.capMax != 0 || !neapCtx s c) &&
    fieldAt b 20 4 == 0 && allZero (slice b 48 16)

/-- LSIZE (Table 10.3). -/
def lsize (e : Nat) : Nat := 64 * cdiv (64 + 16 * e) 64

/-- Censuses and forwarded verdicts discarded under R397. -/
def winStale (s : State) (n : Nat) (k : Nat := 1) : State := rbump s .winCensus 63 48 n k

/-- The attempt asks no host: MODE 1, or a fall-back attempt, by the deadline or by an earlier verdict (R405, R171). -/
def noWindow (x : Ctx) (d : CenDesc) : Bool := d.mode == 1 || x.variant == 1 || x.verdictFb.isSome

/-- STEP, ATTEMPT and CTX of a census or verdict are those of a context's attempt. -/
def sameAttempt (c : Nat) (x : Ctx) (b : List Byte) : Bool :=
  fieldAt b 0 2 % 4096 == x.req.step && fieldAt b 2 1 % 4 == x.attempt % 4 && fieldAt b 2 1 / 4 % 2 == c % 2

/-- A census or forwarded verdict is of the next step (R397): the next step of the context, a later attempt of its step,
or the next round of its attempt; in a tide in which the context has run no step, any step. -/
def isNextStep (s : State) (c : Nat) (b : List Byte) : Bool :=
  let x := ctxOf s c
  let step := fieldAt b 0 2 % 4096
  let n := if x.st = .idle then x.lastStep else x.req.step
  let att := fieldAt b 2 1 % 4
  !x.ranThisTide || (step + 4096 - n) % 4096 == 1 ||
    (step == n && x.st != .idle && !x.committed && (decide (x.attempt < att) || (x.attempt == att && x.st == .running)))

/-! ### Applying a verdict (R391, R392, R405-R408) -/

/-- An applied verdict: fall-back, capacity factor, overrides, source and the lead's CENSUS_SEQ. -/
structure Verdict where
  fallback : Bool
  cf : Nat
  ovr : List (Nat × Nat)
  source : Nat
  seq : Nat
  deriving DecidableEq, Repr

/-- The base capacity B (R391). -/
def baseCapacity (cf t ka e capMax : Nat) : Nat :=
  let b := 16 * cdiv (cdiv (cf * t * ka) (256 * e)) 16
  if capMax = 0 then b else min b capMax

/-- The capacity C_e of an expert (R392). -/
def capacityOf (v : Verdict) (b capMax e : Nat) : Nat :=
  if v.fallback then b
  else
    match v.ovr.find? (·.1 == e) with
    | some o => if capMax = 0 then o.2 else min o.2 capMax
    | none => b

/-- The applied verdict area (Table 10.7); a capacity beyond its 20 bits is held at their largest value. -/
def verdictArea (step attempt ctx : Nat) (v : Verdict) (ka t : Nat) (caps : List Nat) : List Byte :=
  leBytes 2 step ++ leBytes 1 (attempt % 4 + 4 * ctx) ++ leBytes 1 (v.source % 4 + 128 * v.fallback.toNat) ++ leBytes 1 ka ++
    zeros 1 ++ leBytes 2 v.cf ++ leBytes 4 t ++ leBytes 4 v.seq ++ zeros 48 ++
    caps.flatMap fun k => leBytes 4 (min k (2 ^ 20 - 1))

/-- The moment at which the window of a context's census opened: the post has completed (R402, R633). -/
def windowOpen (s : State) (c : Nat) : Option Nat :=
  match (ctxOf s c).cen with
  | some r => (s.host.posted.find? (·.1 == 32 * r.seq + c)).map (·.2)
  | none => none

/-- A context's census applies a verdict: fall-back takes effect (R407), the area is written, and the census command
completes (R408). -/
def applyVerdict (s : State) (c : Nat) (run : CensusRun) (v : Verdict) : State :=
  let x := ctxOf s c
  let n := stallNo c
  let d := cenDesc run.desc
  let ka := if v.fallback then d.kfb else d.k
  let v := { v with cf := if v.fallback && v.cf == 0 then d.fbCf else v.cf }
  let b := baseCapacity v.cf run.total ka d.e d.capMax
  let caps := (List.range d.e).map fun e => capacityOf v b d.capMax e
  let lead := d.lead == chipOnBoard s && !noWindow x d
  let wait := match windowOpen s c with | some o => if lead then min 511 ((s.now - o) / us 1) else 0 | none => 0
  let s := modCtx s c fun x =>
    { x with cen := none
             verdictFb := if v.fallback && x.variant == 0 && x.verdictFb.isNone then some s.now else x.verdictFb }
  let s := rmod s .winLast (fun w =>
      setBf (setBf (setBit (setBf w 31 20 x.req.step) 17 v.fallback) 19 18 v.source) 8 0 wait) 0 n
  let s := { s with host := { s.host with posted := s.host.posted.filter (·.1 % 32 != c) } }
  let s := engineWrite s .win c d.out (verdictArea x.req.step x.attempt (c % 2) v ka run.total caps)
  finishCmd (markUnfixed s run.cmd) run.cmd s.now

/-- The bytes of a default verdict that the lead forwards (R406). -/
def defaultBytes (c : Nat) (x : Ctx) (cf seq : Nat) : List Byte :=
  let h := leBytes 2 x.req.step ++ leBytes 1 (x.attempt % 4 + 4 * (c % 2)) ++ zeros 1 ++ leBytes 2 cf ++ zeros 2 ++
    leBytes 4 seq ++ zeros 4
  h ++ h.map (~~~ ·) ++ zeros 32

/-- The verdict that Table 10.6 bytes hold, from a source. -/
def verdictOf (b : List Byte) (source : Nat) : Verdict :=
  { fallback := fieldAt b 3 1 % 2 == 1, cf := fieldAt b 4 2, source := source, seq := fieldAt b 8 4
    ovr := (List.range (fieldAt b 6 1)).map fun j =>
      let w := fieldAt b (64 + 4 * j) 4; (w % 1024, w / 4096) }

/-- The lead forwards the applied verdict to every other chip of the group (R406). -/
def forwardVerdict (s : State) (c : Nat) (d : CenDesc) (bytes : List Byte) (source : Nat) : State :=
  let body := patch (bytes.take (64 + 4 * fieldAt bytes 6 1)) 32 (leBytes 1 source)
  (maskChips d.mask).foldl (fun s pos => if pos = chipOnBoard s then s else sendMessage s c 3 pos body 0) s

/-- The lead's window closes without a verdict (R405, R632). -/
def windowDefault (s : State) (c : Nat) (run : CensusRun) : State :=
  let d := cenDesc run.desc
  let s := rbump s .winVerdict 47 32 (stallNo c)
  let s := forwardVerdict s c d (defaultBytes c (ctxOf s c) d.defCf run.seq) 1
  if (ctxOf s c).cen.isNone then s
  else applyVerdict s c run { fallback := false, cf := d.defCf, ovr := [], source := 1, seq := run.seq }

/-! ### The census round (R395-R401) -/

/-- The counts of a local census: of expert e, all ranks and rank 0. -/
def cenCount (b : List Byte) (e : Nat) : Nat × Nat :=
  (((List.range 8).map fun r => fieldAt b (64 + 16 * e + 2 * r) 2).sum, fieldAt b (64 + 16 * e) 2)

/-- The host census (Table 10.5, R401). -/
def hostCensus (c : Nat) (x : Ctx) (run : CensusRun) (noWin lead : Bool) (windowUs : Nat) : List Byte :=
  let e := (cenDesc run.desc).e
  let cens := run.got.map (·.2)
  let sum := fun (off : Nat) => (cens.map fun b => fieldAt b off 4).sum
  let ns := (List.range e).map fun i => ((cens.map fun b => (cenCount b i).1).sum, (cens.map fun b => (cenCount b i).2).sum)
  let all := (List.range e).map fun i => (i, Fp.ofInt ((ns.getD i (0, 0)).1 : Int))
  let top := if e ≤ 504 then List.range e else pickN 504 all
  let listed := (List.range e).filter top.contains
  let rest := (List.range e).filter fun i => !listed.contains i
  let h := leBytes 2 x.req.step ++ leBytes 1 (x.attempt % 4 + 4 * (c % 2)) ++
    leBytes 1 ((decide (504 < e)).toNat + 2 * noWin.toNat + 4 * lead.toNat) ++ leBytes 2 e ++ leBytes 2 listed.length ++
    leBytes 4 run.seq ++ leBytes 4 run.total ++ leBytes 4 ((ns.map (·.1)).sum) ++ leBytes 4 (sum 12) ++ leBytes 4 (sum 16) ++
    leBytes 4 ((rest.map fun i => (ns.getD i (0, 0)).1).sum) ++ leBytes 4 ((rest.map fun i => (ns.getD i (0, 0)).2).sum) ++
    leBytes 2 windowUs ++ zeros 26
  let ents := listed.flatMap fun i =>
    let v := ns.getD i (0, 0)
    leBytes 8 (i + v.1 % 2 ^ 20 * 2 ^ 12 + v.2 % 2 ^ 20 * 2 ^ 44)
  h ++ ents ++ zeros (4096 - 64 - ents.length)

/-- The host census is posted (R399, R632, R633): its buffer, then its event; false where R632 writes nothing.
An event that a full ring drops (R624) holds nothing: the post then counts as complete. -/
def postCensus (s : State) (c : Nat) (seq windowUs : Nat) (bytes : List Byte) : State × Bool :=
  let n := stallNo c
  let area := (rget s .hifCensusBase n).toNat
  if area = 0 ∨ bitAt (rget s .hifEvtCfg n) 0 = false then (s, false)
  else
    let x := ctxOf s c
    let key := 32 * seq + c
    let buf := seq % 8 + 8 * (c % 2)
    let s := (List.range 8).foldl (fun s i =>
      hostEnqueue s { fn := n, addr := area + 4096 * buf + 512 * i, bytes := slice bytes (512 * i) 512, urgent := true
                      vec := none, isMsix := false, drain := none, census := none }) s
    let rec_ := eventBytes s 0x04 (c % 2) x.req.step x.req.tag 0 0 x.attempt (variantNow x) x.req.echo seq
      (buf + windowUs * 2 ^ 16)
    let s := hostFlush (postEvent s n rec_ 0 (some key))
    let gone := s.host.queue.all (fun q => q.census != some key) && s.host.posted.all (fun q => q.1 != key)
    (if gone then { s with host := { s.host with posted := (key, s.now) :: s.host.posted } } else s, true)

/-- The group census is complete (R396, R398, R399): GROUP is written, the host census is posted, and the verdict that
already stands applies. -/
def censusComplete (s : State) (c : Nat) (run : CensusRun) : State :=
  let x := ctxOf s c
  let n := stallNo c
  let d := cenDesc run.desc
  let keys := run.got.map fun g => (fieldAt g.2 4 1, fieldAt g.2 6 2, fieldAt g.2 2 1 / 8 % 4)
  if keys.any fun k => !(some k == keys.head?) then stepFail s .win c 0x42
  else if (fnOf s n).bme = false then stepFail s .hif c 0x63
  else
    let sz := lsize d.e
    let area := (List.range 16).flatMap fun i =>
      let b := Tab.getD [] i run.got
      (b ++ zeros (sz - b.length)).take sz
    let seq := (Tab.getD 0 c s.seqs + 1) % 2 ^ 32
    let noWin := noWindow x d
    let lead := d.lead == chipOnBoard s
    let w := s.plan.windows.getD n 0
    let wUs := if lead && !noWin then w else 0
    let run := { run with complete := some s.now, seq := seq, total := (run.got.map fun g => fieldAt g.2 8 4).sum }
    let s := engineWrite s .win c d.group area
    let s := { s with seqs := Tab.put c seq s.seqs, host := { s.host with posted := s.host.posted.filter (·.1 % 32 != c) } }
    let s := if c % 2 = 0 then rsetField s .winLast 63 32 seq n else s
    let (s, ok) := postCensus s c seq wUs (hostCensus c x run noWin lead wUs)
    let run := { run with written := ok }
    let s := { s with opened := if lead && !noWin then Tab.put c (seq :: Tab.getD [] c s.opened) s.opened else s.opened }
    let s := modCtx s c fun x => { x with cen := x.cen.map fun _ => run }
    if (ctxOf s c).cen.isNone then s
    else if noWin then
      let fb := decide (x.variant = 1) || x.verdictFb.isSome
      applyVerdict s c run { fallback := fb, cf := if fb then d.fbCf else d.defCf, ovr := [], source := 2, seq := seq }
    else if lead then (if ok then s else windowDefault s c run)
    else
      match run.fwd with
      | some b => applyVerdict s c run (verdictOf b (fieldAt b 32 1))
      | none => s

/-- The census of a context goes on where every member's census is present. -/
def censusCheck (s : State) (c : Nat) : State :=
  match (ctxOf s c).cen with
  | none => s
  | some run =>
    if run.complete.isNone && (maskChips (cenDesc run.desc).mask).all fun i => (Tab.find i run.got).isSome then
      censusComplete s c run
    else s

/-- The next bank of a context gives its matching censuses and its matching verdict to a census command that starts; the
others are discarded (R397, R406). -/
def takeBank (s : State) (c : Nat) (run : CensusRun) : CensusRun × State :=
  let x := ctxOf s c
  let mine := (List.range 17).filterMap fun i => (Tab.find (32 * c + i) s.bank).map fun b => (i, b)
  let (ok, no) := mine.partition fun p =>
    sameAttempt c x p.2 && (p.1 == 16 || (cenDesc run.desc).mask.testBit p.1)
  let s := winStale { s with bank := Tab.delRange (32 * c) (32 * c + 17) s.bank } (stallNo c) no.length
  ({ run with got := (ok.filter (·.1 < 16)).foldl (fun t p => Tab.put p.1 p.2 t) run.got
              fwd := (ok.find? (·.1 == 16)).map (·.2) }, s)

/-- The census command starts (R395, R429): the local census is completed, read, cleared and sent. -/
def cenTake (c : Nat) (m : Cmd) (b : List Byte) (s : State) : State :=
  let d := cenDesc b
  let me := chipOnBoard s
  let len := 64 + 16 * d.e
  if !cenForm s c d b then violation s .win m.addr
  else
    withSpans s .win c [(d.loc, lsize d.e)] [(d.loc, lsize d.e), (d.group, 16 * lsize d.e), (d.out, 64 + 4 * d.e)] fun s =>
      if m.null then finishCmd s m.id s.now
      else
        withBytes s .win d.loc len fun bytes s =>
          let x := ctxOf s c
          let bytes := patch bytes 0 (leBytes 2 x.req.step ++
            leBytes 1 (x.attempt % 4 + 4 * (c % 2) + 8 * (variantNow x % 4)) ++ leBytes 1 me)
          let crc := leBytes 4 (crc32 (bytes.drop 64))
          let loc := patch bytes 24 crc
          let s := writeMem s d.loc (patch (patch loc 8 (zeros 16)) 64 (zeros (16 * d.e)))
          let s := startCmd s m.id 1
          let s := modCmd s m.id fun y => { y with desc := b.take 64 }
          let run : CensusRun := { cmd := m.id, desc := b.take 64, start := s.now, got := [(me, loc)], complete := none
                                   total := 0, seq := 0, written := false, fwd := none }
          let (run, s) := takeBank s c run
          let s := modCtx s c fun x => { x with cen := some run, group := (maskChips d.mask).filter (· ≠ me) }
          let s := (maskChips d.mask).foldl (fun s pos => if pos = me then s else sendMessage s c 2 pos loc 0) s
          if (ctxOf s c).cen.isNone then s else censusCheck s c

/-- A Host mailbox OP of the class. -/
def mailOpValid (o : Nat) : Bool := decide (1 ≤ o) && decide (o ≤ 2)

/-- CENSUS (R395): the mailbox takes a context's next command when its census in progress has ended. -/
def execCensus (c : Nat) (t : Nat) (s : State) : Host.Outcome State Fault Refusal :=
  whenEnabled t (fun s => decide (c < 16) && (ctxOf s c).cen.isNone)
    (fun s => takeCmd s .win c 11 0 1 64 mailOpValid (cenTake c)) s

/-- A census arrives (R397). -/
def censusArrive (s : State) (c : Nat) (b : List Byte) : State :=
  let n := stallNo c
  let x := ctxOf s c
  let chip := fieldAt b 3 1 % 16
  if fieldAt b 24 4 ≠ crc32 (b.drop 64) then mismatch s .win chip
  else if !assigned s n || inFence s then winStale s n
  else
    match x.cen with
    | some run =>
      if sameAttempt c x b && run.complete.isNone && (cenDesc run.desc).mask.testBit chip && (Tab.find chip run.got).isNone then
        censusCheck (modCtx s c fun x => { x with cen := some { run with got := Tab.put chip b run.got } }) c
      else if isNextStep s c b && (Tab.find (32 * c + chip) s.bank).isNone then
        { s with bank := Tab.put (32 * c + chip) b s.bank }
      else winStale s n
    | none =>
      if isNextStep s c b && (Tab.find (32 * c + chip) s.bank).isNone then
        { s with bank := Tab.put (32 * c + chip) b s.bank }
      else winStale s n

/-- The context that a VC0 message names: bits 2:0 STALL and bit 3 CTX of byte 6. -/
def msgCtx (b : List Byte) : Nat := 2 * (fieldAt b 6 1 % 8) + fieldAt b 6 1 / 8 % 2

/-- The first message of VC0, of a type, leaves the buffer and acts. -/
def onMessage (type p : Nat) (act : List Byte → State → State) (t : Nat) (s : State) : Host.Outcome State Fault Refusal :=
  whenEnabled t (fun s => decide (p < 32) && headIs s p type) (fun s =>
    match headUnit s p 0 with
    | some b => act b (dropUnit s p 0)
    | none => s) s

/-- CENSUS_MSG (R397). -/
def execCensusMsg (p : Nat) (t : Nat) (s : State) : Host.Outcome State Fault Refusal :=
  onMessage 2 p (fun b s => censusArrive s (msgCtx b) (b.drop 16)) t s

/-- CENSUS_TIMEOUT (R398). -/
def execCensusTimeout (c : Nat) (t : Nat) (s : State) : Host.Outcome State Fault Refusal :=
  whenEnabled t (fun s => match (ctxOf s c).cen with
      | some r => r.complete.isNone && decide (r.start + us (cenDesc r.desc).wait ≤ s.now)
      | none => false)
    (fun s => stepFail s .win c 0x40) s

/-! ### The host's answer (R402-R405, R634, R635) -/

/-- A verdict is valid (R404, R634): its complement, its reserved bits and its ranges hold, and no expert stands twice. -/
def verdictValid (e : Nat) (b : List Byte) : Bool :=
  let fb := fieldAt b 3 1
  let n := fieldAt b 6 1
  let cf := fieldAt b 4 2
  let ovr := (List.range n).map fun j => fieldAt b (64 + 4 * j) 4
  let es := ovr.map (· % 1024)
  (List.range 16).all (fun i => b.getD (16 + i) 0#8 == ~~~ (b.getD i 0#8)) && decide (fieldAt b 0 2 < 4096) &&
    decide (fieldAt b 2 1 < 8) && decide (fb ≤ 1) && (if fb = 1 then cf == 0 && n == 0 else cfOk cf) && decide (n ≤ 32) &&
    fieldAt b 7 1 == 0 && fieldAt b 12 4 == 0 && allZero (slice b 32 32) && b.length == 64 + 4 * n &&
    ovr.all (fun w => decide (w % 1024 < e) && w / 1024 % 4 == 0 && decide (w / 4096 ≤ 524288)) &&
    (List.range n).all fun i => !(es.drop (i + 1)).contains (es.getD i 0)

/-- How a received verdict is answered (the RESULT of VERDICT_ANSWER): 1 applied, 2 invalid, 3 late, 4 stray. -/
def verdictClass (s : State) (n : Nat) (b : List Byte) : Nat :=
  let c := 2 * n + fieldAt b 2 1 / 4 % 2
  let x := ctxOf s c
  let e := match x.cen with | some r => (cenDesc r.desc).e | none => 1024
  let seq := fieldAt b 8 4
  if !verdictValid e b then 2
  else
    match x.cen with
    | some r =>
      let d := cenDesc r.desc
      if d.lead ≠ chipOnBoard s then 4
      else
        match windowOpen s c with
        | some o =>
          let open_ := decide (cycleOf s.now ≤ cycleOf (o + us (s.plan.windows.getD n 0)))
          if seq = r.seq then (if !open_ then 3 else if sameAttempt c x b then 1 else 4)
          else if (Tab.getD [] c s.opened).contains seq then 3 else 4
        | none => if seq ≠ r.seq ∧ (Tab.getD [] c s.opened).contains seq = true then 3 else 4
    | none => if (Tab.getD [] c s.opened).contains seq then 3 else 4

/-- A verdict is received (R402, R404, R635). -/
def verdictReceived (s : State) (n : Nat) (b : List Byte) : State :=
  let k := verdictClass s n b
  let c := 2 * n + fieldAt b 2 1 / 4 % 2
  let x := ctxOf s c
  let s := match k with
    | 1 => rbump s .winVerdict 63 48 n
    | 2 => rbump s .winVerdict 15 8 n
    | 3 => rbump s .winVerdict 31 16 n
    | _ => rbump s .winVerdict 7 0 n
  let s := match k, x.cen with
    | 1, some run =>
      let s := forwardVerdict s c (cenDesc run.desc) b 0
      if (ctxOf s c).cen.isNone then s else applyVerdict s c run (verdictOf b 0)
    | _, _ => s
  postEvent s n (eventBytes s 0x05 (c % 2) (fieldAt b 0 2) (if k = 1 then x.req.tag else 0) k 0 (fieldAt b 2 1 % 4) 0 false
    (fieldAt b 8 4) 0) 0

/-- VERDICT_DB (R634): the bytes that the host has written to VERDICT_BUF from offset 0 stand there, and LENGTH bytes are
copied; a LENGTH above 192, or not that of the copied bytes, makes the verdict invalid. A doorbell of a function with bus
mastering off is not carried out (R643). -/
def execVerdictDb (fn len : Nat) (bytes : List Byte) (t : Nat) (s : State) : Host.Outcome State Fault Refusal :=
  whenEnabled t (fun s => decide (fn < 8) && reachable s (.vf (Fin.ofNat 8 fn))) (fun s =>
    let s := modFn s fn fun f =>
      { f with verdictBuf := (bytes ++ (f.verdictBuf ++ zeros (256 - f.verdictBuf.length)).drop bytes.length).take 256 }
    if (fnOf s fn).bme = false then rbump s .hifFnStat 63 48 fn
    else
      let b := (fnOf s fn).verdictBuf.take len
      verdictReceived s fn (if 192 < len ∨ len < 64 then (fnOf s fn).verdictBuf.take 63 else b)) s

/-- ANSWER_WINDOW_EXPIRE (R402, R405): W µs have passed since the lead opened its window. -/
def execAnswerWindowExpire (c : Nat) (t : Nat) (s : State) : Host.Outcome State Fault Refusal :=
  whenEnabled t (fun s => match (ctxOf s c).cen, windowOpen s c with
      | some r, some o => r.complete.isSome && (cenDesc r.desc).lead == chipOnBoard s && !noWindow (ctxOf s c) (cenDesc r.desc) &&
          decide (o + us (s.plan.windows.getD (stallNo c) 0) ≤ s.now)
      | _, _ => false)
    (fun s => match (ctxOf s c).cen with | some r => windowDefault s c r | none => s) s

/-! ### The forwarded verdict (R406) -/

/-- A forwarded verdict arrives. -/
def verdictArrive (s : State) (c : Nat) (b : List Byte) : State :=
  let n := stallNo c
  let x := ctxOf s c
  let hold := fun (s : State) =>
    if isNextStep s c b && (Tab.find (32 * c + 16) s.bank).isNone then { s with bank := Tab.put (32 * c + 16) b s.bank }
    else winStale s n
  if !(List.range 16).all (fun i => b.getD (16 + i) 0#8 == ~~~ (b.getD i 0#8)) then mismatch s .win n
  else if !assigned s n || inFence s then winStale s n
  else
    match x.cen with
    | some run =>
      let d := cenDesc run.desc
      if sameAttempt c x b && d.lead != chipOnBoard s && !noWindow x d && run.fwd.isNone then
        if run.complete.isSome then applyVerdict s c run (verdictOf b (fieldAt b 32 1))
        else modCtx s c fun x => { x with cen := some { run with fwd := some b } }
      else hold s
    | none => hold s

/-- VERDICT_MSG (R406). -/
def execVerdictMsg (p : Nat) (t : Nat) (s : State) : Host.Outcome State Fault Refusal :=
  onMessage 3 p (fun b s => verdictArrive s (msgCtx b) (b.drop 16)) t s

/-- VERDICT_LOST (R406): W + 20 µs after its group census completed a peer has no forwarded verdict. -/
def execVerdictLost (c : Nat) (t : Nat) (s : State) : Host.Outcome State Fault Refusal :=
  whenEnabled t (fun s => match (ctxOf s c).cen with
      | some r =>
        (match r.complete with
         | some o => (cenDesc r.desc).lead != chipOnBoard s && !noWindow (ctxOf s c) (cenDesc r.desc) &&
             decide (o + us (s.plan.windows.getD (stallNo c) 0 + 20) ≤ s.now)
         | none => false)
      | none => false)
    (fun s => stepFail s .win c 0x41) s

/-- REMOTE_ADD_MSG (R290). -/
def execRemoteAddMsg (p : Nat) (t : Nat) (s : State) : Host.Outcome State Fault Refusal :=
  onMessage 1 p (fun b s => remoteAddArrive s (b.drop 16)) t s

end Sys2Proof.Machine
end

