-- ==== Sys2Proof/Machine/Thresher.lean ====
section
/-! DEFINITION. Dispatch (chapter 11), first part: the plan, tags and record headers, and Thresher's HISTOGRAM and SCATTER. -/

namespace Sys2Proof.Machine

/-! ### The dispatch plan (Table 11.2, R422, R423) -/

/-- A dispatch plan. -/
structure DPlan where
  k : Nat
  fmt : Nat
  e : Nat
  len : Nat
  mask : Nat
  tokens : Nat
  base : Nat
  recvRows : Nat
  experts : Nat
  sendRows : Nat
  shared : Nat
  sharedFmt : Nat
  residFmt : Nat
  outFmt : Nat
  choices : Nat
  group : Nat
  verdict : Nat
  map : Nat
  x : Nat
  send : Nat
  retHdr : Nat
  retPay : Nat
  recv : Nat
  counts : Nat
  glOut : Nat
  sharedOut : Nat
  resid : Nat
  xStride : Nat
  sendStride : Nat
  outStride : Nat
  sharedStride : Nat
  deriving DecidableEq, Repr

/-- The plan that 256 bytes hold. -/
def dPlan (b : List Byte) : DPlan :=
  { k := fieldAt b 0 1, fmt := fieldAt b 1 1, e := fieldAt b 2 2, len := fieldAt b 4 2, mask := fieldAt b 6 2
    tokens := fieldAt b 8 4, base := fieldAt b 12 4, recvRows := fieldAt b 16 2, experts := fieldAt b 18 2
    sendRows := fieldAt b 20 4, shared := fieldAt b 24 1, sharedFmt := fieldAt b 25 1, residFmt := fieldAt b 26 1
    outFmt := fieldAt b 27 1, choices := fieldAt b 32 8, group := fieldAt b 40 8, verdict := fieldAt b 48 8
    map := fieldAt b 56 8, x := fieldAt b 64 8, send := fieldAt b 72 8, retHdr := fieldAt b 80 8, retPay := fieldAt b 88 8
    recv := fieldAt b 96 8, counts := fieldAt b 104 8, glOut := fieldAt b 112 8, sharedOut := fieldAt b 120 8
    resid := fieldAt b 128 8, xStride := fieldAt b 136 4, sendStride := fieldAt b 140 4, outStride := fieldAt b 144 4
    sharedStride := fieldAt b 148 4 }

/-- A payload or row format of a plan. -/
def rowFmt (f : Nat) : Bool := f == 0x01 || f == 0x02 || f == 0x10

/-- The form of a plan (R422, R423). -/
def planForm (s : State) (p : DPlan) (b : List Byte) : Bool :=
  let addrs := [p.choices, p.group, p.verdict, p.map, p.x, p.send, p.retHdr, p.retPay, p.recv, p.counts, p.glOut, p.sharedOut,
    p.resid]
  decide (1 ≤ p.k) && decide (p.k ≤ 8) && rowFmt p.fmt && decide (1 ≤ p.e) && decide (p.e ≤ 1024) && decide (1 ≤ p.len) &&
    decide (p.len ≤ 1024) && p.mask.testBit (chipOnBoard s) && (maskChips p.mask).all (fun c => decide (c < boardChips s)) &&
    decide (p.base + p.tokens ≤ 2 ^ 21) && decide (1 ≤ p.recvRows) && decide (p.experts ≤ 64) &&
    decide (p.experts * p.recvRows ≤ 65536) && decide (p.shared ≤ 4) && rowFmt p.sharedFmt &&
    (p.residFmt == 0 || rowFmt p.residFmt) && rowFmt p.outFmt && fieldAt b 28 4 == 0 && allZero (slice b 152 104) &&
    (p.residFmt != 0 || p.resid == 0) && addrs.all fun a => a % 64 == 0

/-- The payload bytes of a record, and the record's bytes. -/
def DPlan.pay (p : DPlan) : Nat := 64 * p.len
def DPlan.recLen (p : DPlan) : Nat := 32 + 64 * p.len
/-- The elements of a payload. -/
def DPlan.elems (p : DPlan) : Nat := 8 * p.pay / fmtBits p.fmt

/-- A Thresher, Ferry or Gleaner descriptor (Table 11.3). -/
structure DispDesc where
  op : Nat
  dest : Nat
  first : Nat
  count : Nat
  plan : Nat
  loc : Nat
  deriving DecidableEq, Repr

/-- The descriptor of 64 bytes. -/
def dispDesc (b : List Byte) : DispDesc :=
  { op := fieldAt b 0 1, dest := fieldAt b 2 2, first := fieldAt b 4 4, count := fieldAt b 8 4, plan := fieldAt b 16 8
    loc := fieldAt b 24 8 }

/-- The reserved and unused fields of a descriptor are 0 (R424, R842): DEST_MASK used by an EXCHANGE, FIRST and COUNT by the
others, LOCAL by a HISTOGRAM. -/
def dispForm (exch hist : Bool) (d : DispDesc) (b : List Byte) : Bool :=
  fieldAt b 1 1 == 0 && fieldAt b 12 4 == 0 && allZero (slice b 32 32) && unused0 exch d.dest &&
    unused0 (!exch) d.first && unused0 (!exch) d.count && unused0 hist d.loc && d.plan % 64 == 0

/-- Goes on with a command's plan, read when the engine takes the command (R422). -/
def withPlan (s : State) (src : Src) (c : Nat) (a : Nat) (k : DPlan → List Byte → State → State) : State :=
  withUse s src c a 256 fun b s => if planForm s (dPlan b) b then k (dPlan b) b s else violation s src a

/-! ### Counts, statuses and positions (R431-R433) -/

/-- What a round's decisions rest on: the plan, the group census, the applied verdict, and the map. -/
structure RoundInfo where
  p : DPlan
  group : List Byte
  verdict : List Byte
  map : List Byte
  deriving DecidableEq, Repr

/-- Reads a round's areas. -/
def roundInfo (s : State) (p : DPlan) : RoundInfo :=
  { p := p, group := readMem s p.group (16 * lsize p.e), verdict := readMem s p.verdict (64 + 4 * p.e)
    map := readMem s p.map (2 * p.e) }

/-- The spans of those areas. -/
def roundSpans (p : DPlan) : List (Nat × Nat) :=
  [(p.group, 16 * lsize p.e), (p.verdict, 64 + 4 * p.e), (p.map, 2 * p.e)]

/-- k_a of the applied verdict. -/
def RoundInfo.ka (i : RoundInfo) : Nat := fieldAt i.verdict 4 1
/-- The applied verdict ordered fall-back. -/
def RoundInfo.fb (i : RoundInfo) : Bool := fieldAt i.verdict 3 1 / 128 == 1
/-- C_e. -/
def RoundInfo.cap (i : RoundInfo) (e : Nat) : Nat := fieldAt i.verdict (64 + 4 * e) 4 % 2 ^ 20
/-- The chips of the group. -/
def RoundInfo.chips (i : RoundInfo) : List Nat := maskChips i.p.mask
/-- n(c, e, r). -/
def RoundInfo.n (i : RoundInfo) (c e r : Nat) : Nat := fieldAt i.group (c * lsize i.p.e + 64 + 16 * e + 2 * r) 2
/-- n_e(r) over the group. -/
def RoundInfo.nAll (i : RoundInfo) (e r : Nat) : Nat := (i.chips.map fun c => i.n c e r).sum
/-- N_e(<r). -/
def RoundInfo.below (i : RoundInfo) (e r : Nat) : Nat := ((List.range r).map fun q => i.nAll e q).sum
/-- The holder of an expert and its local index there. -/
def RoundInfo.holder (i : RoundInfo) (e : Nat) : Nat := fieldAt i.map (2 * e) 2 % 16
def RoundInfo.localIx (i : RoundInfo) (e : Nat) : Nat := fieldAt i.map (2 * e) 2 / 16 % 64

/-- Every map entry names a chip of the group, and on this chip a local index below LOCAL_EXPERTS (R423). -/
def RoundInfo.mapOk (i : RoundInfo) (me : Nat) : Bool :=
  (List.range i.p.e).all fun e =>
    i.p.mask.testBit (i.holder e) && decide (fieldAt i.map (2 * e) 2 < 1024) &&
      (i.holder e != me || decide (i.localIx e < i.p.experts))

/-- The status of an expert and rank (R431). -/
inductive Fate where
  | cut
  | keep
  | drop
  | boundary
  deriving DecidableEq, Repr

/-- The first row of R431 that applies. -/
def RoundInfo.fate (i : RoundInfo) (e r : Nat) : Fate :=
  if i.ka ≤ r then .cut
  else if i.below e r + i.nAll e r ≤ i.cap e then .keep
  else if i.cap e ≤ i.below e r then .drop
  else .boundary

/-- Choices of the expert and rank are sent. -/
def RoundInfo.isSent (i : RoundInfo) (e r : Nat) : Bool := i.fate e r == .keep || i.fate e r == .boundary
/-- The rows of a rank in an expert's receive layout. -/
def RoundInfo.rankRows (i : RoundInfo) (e r : Nat) : Nat := if i.isSent e r then i.nAll e r else 0
/-- S_e (R432). -/
def RoundInfo.rows (i : RoundInfo) (e : Nat) : Nat := ((List.range 8).map fun r => i.rankRows e r).sum
/-- O(e, r, c) (R432). -/
def RoundInfo.start (i : RoundInfo) (e r c : Nat) : Nat :=
  ((List.range r).map fun q => i.rankRows e q).sum + ((i.chips.filter fun d => decide (d < c)).map fun d => i.n d e r).sum
/-- The boundary rank of an expert, where it has one. -/
def RoundInfo.boundary (i : RoundInfo) (e : Nat) : Option Nat := (List.range 8).find? fun r => i.fate e r == .boundary
/-- V_e (R443). -/
def RoundInfo.valid (i : RoundInfo) (e : Nat) : Nat :=
  match i.boundary e with
  | some r => i.below e r + (i.cap e - i.below e r)
  | none => i.rows e
/-- The records of chip c to destination d before expert e, rank r (R433). -/
def RoundInfo.sentBefore (i : RoundInfo) (c d e r : Nat) : Nat :=
  ((List.range e).map fun f => if i.holder f = d then ((List.range 8).map fun q => if i.isSent f q then i.n c f q else 0).sum else 0).sum +
    ((List.range r).map fun q => if i.isSent e q then i.n c e q else 0).sum
/-- The records of chip c to destination d. -/
def RoundInfo.sentTo (i : RoundInfo) (c d : Nat) : Nat := i.sentBefore c d i.p.e 0

/-- The round a command belongs to (R425). -/
def roundOf (s : State) (c : Nat) : Nat := ((ctxOf s c).disp.censuses + 255) % 256

/-! ### Tags and headers (R419, R420, R426) -/

/-- The fields of a choice record (Table 10.2). -/
structure Choice where
  token : Nat
  rank : Nat
  absent : Bool
  nan : Bool
  expert : Nat
  slot : Nat
  wf : Nat
  wb : Nat
  deriving DecidableEq, Repr

/-- The choice record of 16 bytes. -/
def choiceOf (b : List Byte) : Choice :=
  let w := fieldAt b 0 4
  { token := w % 2 ^ 21, rank := w / 2 ^ 21 % 8, absent := w.testBit 24, nan := w.testBit 25, expert := fieldAt b 4 2 % 1024
    slot := fieldAt b 6 2 % 8192, wf := fieldAt b 8 4, wb := fieldAt b 12 4 }

/-- The choice records of tokens from FIRST on, in order. -/
def choicesAt (s : State) (p : DPlan) (first count : Nat) : List Choice :=
  (chunks 16 (readMem s (p.choices + 16 * first * p.k) (16 * count * p.k))).map choiceOf

/-- A record names an expert of the round and a rank below K. -/
def Choice.ok (x : Choice) (p : DPlan) : Bool := decide (x.rank < p.k) && (x.absent || decide (x.expert < p.e))

/-- The tag of a choice (Table 11.1). -/
def tagOf (step stall origin : Nat) (x : Choice) : Nat :=
  step % 4096 * 2 ^ 52 + stall % 8 * 2 ^ 49 + x.rank * 2 ^ 46 + x.token * 2 ^ 25 + origin % 4096 * 2 ^ 13 + x.slot

/-- A record header (Table 11.4) with the CRC over it and a payload. -/
structure RecHead where
  tag : Nat
  expert : Nat
  len : Nat
  weight : Nat
  attempt : Nat
  ctx : Nat
  dir : Nat
  state : Nat
  round : Nat
  origin : Nat
  holder : Nat
  fmt : Nat
  pos : Nat
  deriving DecidableEq, Repr

/-- The 32 bytes of a header. -/
def RecHead.bytes (h : RecHead) (payload : List Byte) : List Byte :=
  let b := leBytes 8 h.tag ++ leBytes 8 (onesComp 64 h.tag) ++ leBytes 2 h.expert ++ leBytes 2 h.len ++ leBytes 4 h.weight ++
    leBytes 1 (h.attempt % 4 + 4 * h.ctx + 8 * h.dir + 16 * h.state) ++ leBytes 1 h.round ++
    leBytes 1 (h.origin + 16 * h.holder) ++ leBytes 1 h.fmt ++ leBytes 2 h.pos
  b ++ leBytes 2 (crc16 (b ++ payload))

/-- The header that 32 bytes hold. -/
def recHead (b : List Byte) : RecHead :=
  let f := fieldAt b 24 1
  { tag := fieldAt b 0 8, expert := fieldAt b 16 2 % 1024, len := fieldAt b 18 2, weight := fieldAt b 20 4, attempt := f % 4
    ctx := f / 4 % 2, dir := f / 8 % 2, state := f / 16 % 8, round := fieldAt b 25 1, origin := fieldAt b 26 1 % 16
    holder := fieldAt b 26 1 / 16, fmt := fieldAt b 27 1, pos := fieldAt b 28 2 }

/-- The tag's complement matches (R420). -/
def tagSound (b : List Byte) : Bool := fieldAt b 8 8 == onesComp 64 (fieldAt b 0 8)
/-- The CRC of a record matches. -/
def recSound (b : List Byte) : Bool := fieldAt b 30 2 == crc16 (b.take 30 ++ b.drop 32)

/-- An ERR register of a dispatch die records the first event (Table of THR_ERR). -/
def ddErr (s : State) (r : Reg) (dd c cause : Nat) : State :=
  if bitAt (rgetX s r dd 0) 63 then s
  else rputX s r dd 0 (word (2 ^ 63 + stallNo c * 2 ^ 24 + (ctxOf s c).req.step * 2 ^ 8 + cause))

/-! ### HISTOGRAM (R428-R430, R414) -/

/-- A count of bytes raised. -/
def addField (b : List Byte) (off len n : Nat) : List Byte := patch b off (leBytes len (fieldAt b off len + n))

/-- One token's choice records counted into a local census. -/
def histToken (k : Nat) (b : List Byte) (cs : List Choice) : List Byte :=
  let live := cs.filter fun x => !x.absent
  let b := addField b 8 4 1
  let b := if live.length ≠ 0 ∧ live.length < k then addField b 12 4 1 else b
  let b := if cs.any (·.nan) then addField b 16 4 1 else b
  let b := addField b 20 4 (cs.length - live.length)
  live.foldl (fun b x => addField b (64 + 16 * x.expert + 2 * x.rank) 2 1) b

/-- HISTOGRAM. -/
def histTake (c dd : Nat) (m : Cmd) (b : List Byte) (s : State) : State :=
  let d := dispDesc b
  if !dispForm false true d b then violation s .thr m.addr
  else
    withPlan s .thr c d.plan fun p _ s =>
      if p.tokens < d.first + d.count then violation s .thr d.plan
      else
        let len := 64 + 16 * p.e
        let from_ := p.choices + 16 * d.first * p.k
        withSpans s .thr c [(from_, 16 * d.count * p.k), (d.loc, len)] [(d.loc, len)] fun s =>
          let cs := choicesAt s p d.first d.count
          if cs.any fun x => !x.ok p then violation s .thr from_
          else
            let old := readMem s d.loc len
            if 32768 < fieldAt old 8 4 + d.count then stepFail (ddErr s .thrErr dd c 0x43) .thr c 0x43
            else
              gated s .thr c (ddRes dd [p.choices, d.loc]) p.choices fun s =>
                let new := (chunks p.k cs).foldl (histToken p.k) (patch (patch old 4 (leBytes 1 p.k)) 6 (leBytes 2 p.e))
                let s := if m.null then s else writeMem s d.loc new
                finishCmd s m.id (ddTime s dd (96 + cdiv (d.count * p.k) 8) [p.choices, d.loc] [p.choices, d.loc])

/-- A Thresher OP of the class. -/
def thrOpValid (o : Nat) : Bool := decide (1 ≤ o) && decide (o ≤ 2)

/-- HISTOGRAM (R428). -/
def execHistogram (c dd : Nat) (t : Nat) (s : State) : Host.Outcome State Fault Refusal :=
  whenEnabled t (fun s => decide (c < 16) && decide (dd < 2) && engineIdle s 4 dd)
    (fun s => takeCmd s .thr c 4 dd 1 64 thrOpValid (histTake c dd)) s

/-! ### SCATTER (R434-R436, R427) -/

/-- The weight a record carries (R427). -/
def choiceWeight (x : Ctx) (i : RoundInfo) (ch : Choice) : Nat := if x.variant = 1 ∨ i.fb = true then ch.wb else ch.wf

/-- What SCATTER writes for one choice: its return header, and the record it sends with its place; `before` counts the
chip's earlier choices of the same expert and rank (R432, R433). -/
def scatterOne (s : State) (c : Nat) (i : RoundInfo) (tok : Nat) (before : Nat) (ch : Choice) :
    List (Nat × List Byte) × Option (Nat × List Byte) :=
  let x := ctxOf s c
  let me := chipOnBoard s
  let fate := i.fate ch.expert ch.rank
  let send := !ch.absent && (fate == .keep || fate == .boundary)
  let st := if ch.absent then 4 else match fate with | .cut => 3 | .drop => 2 | _ => 0
  let pos := i.start ch.expert ch.rank me + before
  let h : RecHead :=
    { tag := tagOf x.req.step (stallNo c) s.plan.globalChip ch, expert := ch.expert, len := 0, weight := choiceWeight x i ch
      attempt := x.attempt, ctx := c % 2, dir := 0, state := st, round := roundOf s c, origin := me
      holder := if ch.absent then 0 else i.holder ch.expert, fmt := i.p.fmt, pos := if send then pos else 0 }
  let slot := (i.p.retHdr + 32 * (tok * i.p.k + ch.rank), h.bytes [])
  if send then
    let pay := readMem s (i.p.x + tok * i.p.xStride) i.p.pay
    let d := i.holder ch.expert
    let ix := i.sentBefore me d ch.expert ch.rank + before
    let r := ({ h with state := 1, len := i.p.len } : RecHead).bytes pay ++ pay
    ([slot], some (i.p.send + d * i.p.sendStride + ix * i.p.recLen, r))
  else ([slot], none)

/-- Goes over tokens in order, counting the choices of each expert and rank met so far; writes those from FIRST on. -/
def scatterRun (c first : Nat) (i : RoundInfo) : List (Nat × List Choice) → Tab Nat → State → State × Nat × Nat
  | [], _, s => (s, 0, 0)
  | (tok, cs) :: rest, seen, s =>
    let outs := if tok < first then [] else cs.map fun ch =>
      (ch, scatterOne s c i tok (Tab.getD 0 (8 * ch.expert + ch.rank) seen) ch)
    let s1 := outs.foldl (fun s o => o.2.1.foldl (fun s w => engineWrite s .thr c w.1 w.2) s) s
    let s2 := outs.foldl (fun s o => match o.2.2 with | some w => engineWrite s .thr c w.1 w.2 | none => s) s1
    let seen := (cs.filter fun ch => !ch.absent).foldl (fun t ch =>
      let k := 8 * ch.expert + ch.rank; Tab.put k (Tab.getD 0 k t + 1) t) seen
    let n := (outs.filter fun o => o.2.2.isSome).length
    let (s3, a, b) := scatterRun c first i rest seen s2
    (s3, a + n, b + n)

/-- SCATTER. -/
def scatTake (c dd : Nat) (m : Cmd) (b : List Byte) (s : State) : State :=
  let d := dispDesc b
  if !dispForm false false d b then violation s .thr m.addr
  else
    withPlan s .thr c d.plan fun p pb s =>
      let upto := d.first + d.count
      if p.tokens < upto then violation s .thr d.plan
      else
        let xs := (List.range d.count).map fun k => (p.x + (d.first + k) * p.xStride, p.pay)
        withSpans s .thr c ([(p.choices, 16 * upto * p.k)] ++ roundSpans p ++ xs)
            [(p.retHdr + 32 * d.first * p.k, 32 * d.count * p.k)] fun s =>
          let i := roundInfo s p
          let me := chipOnBoard s
          let cs := choicesAt s p 0 upto
          if cs.any (fun x => !x.ok p) || !i.mapOk me then violation s .thr p.choices
          else if (List.range p.e).any fun e => decide (p.recvRows < i.rows e) then
            stepFail (ddErr s .thrErr dd c 0x48) .thr c 0x48
          else if i.chips.any fun q => decide (p.sendRows < i.sentTo me q) then
            stepFail (ddErr s .thrErr dd c 0x49) .thr c 0x49
          else
            gated s .thr c (ddRes dd [p.choices, p.x, p.retHdr, p.send]) p.choices fun s =>
              let rho := roundOf s c
              let toks := (chunks p.k cs).zipIdx.map fun q => (q.2, q.1)
              let sentHere := (toks.drop d.first).flatMap (·.2) |>.filter fun x => !x.absent && i.isSent x.expert x.rank
              let done := ddTime s dd (96 + cdiv (upto * p.k) 8 + d.count * p.k + sentHere.length * cdiv p.recLen 128)
                [p.choices, p.send] [p.choices, p.x, p.retHdr, p.send]
              if m.null then finishCmd s m.id done
              else
                let (s, sent, pend) := scatterRun c d.first i toks [] s
                let s := modCtx s c fun x =>
                  let fresh := match x.disp.scat with | some q => q.1 != rho | none => true
                  { x with disp := { x.disp with scat := some (rho, pb)
                                                 pendW := (if fresh then 0 else x.disp.pendW) + pend
                                                 pendF := if fresh then 0 else x.disp.pendF } }
                let x := ctxOf s c
                let s := if c % 2 = 0 then
                    let s := rputX s .thrRound dd (stallNo c) (word (x.req.step * 2 ^ 52 + rho * 2 ^ 44 + sent % 2 ^ 20 * 2 ^ 20 + pend % 2 ^ 20))
                    (List.range 2).foldl (fun s k => rputX s .fryReturn k (stallNo c)
                      (word (x.req.step * 2 ^ 52 + rho * 2 ^ 44 + x.disp.pendW % 2 ^ 20 * 2 ^ 20 + x.disp.pendF % 2 ^ 20))) s
                  else s
                finishCmd s m.id done

/-- SCATTER (R434). -/
def execScatter (c dd : Nat) (t : Nat) (s : State) : Host.Outcome State Fault Refusal :=
  whenEnabled t (fun s => decide (c < 16) && decide (dd < 2) && engineIdle s 4 dd)
    (fun s => takeCmd s .thr c 4 dd 2 64 thrOpValid (scatTake c dd)) s

end Sys2Proof.Machine
end

