-- ==== Sys2Proof/Machine/Ferry.lean ====
section
/-! DEFINITION. Dispatch (chapter 11), second part: Ferry's EXCHANGE and RETURN, the classification of arrivals, placement
reports, and Gleaner's COMBINE. -/

namespace Sys2Proof.Machine

/-! ### Counts of records between chips (R524) -/

/-- The key of a count: DIR, ROUND and chip. -/
def hopKey (dir round chip : Nat) : Nat := 16 * (256 * dir + round) + chip
/-- The dispatch of a context changed. -/
def modDisp (s : State) (c : Nat) (f : Disp → Disp) : State := modCtx s c fun x => { x with disp := f x.disp }

/-- A PLACED message tells a sender how many of its records have landed (R524, Table 13.7a). -/
def sendPlaced (s : State) (c key : Nat) : State :=
  let x := ctxOf s c
  let n := Tab.getD 0 key x.disp.landed
  let body := leBytes 2 x.req.step ++ leBytes 1 (x.attempt % 4 + 4 * (key / 4096 % 2)) ++ leBytes 1 (key / 16 % 256) ++
    leBytes 4 n ++ zeros 8
  sendMessage (modDisp s c fun d => { d with told := Tab.put key n d.told }) c 5 (key % 16) body 0

/-- A record of another chip has landed: counted, and reported after every 64 (R524). -/
def noteLanded (s : State) (c dir round chip : Nat) : State :=
  if chip = chipOnBoard s then s
  else
    let key := hopKey dir round chip
    let s := modDisp s c fun d =>
      { d with landed := Tab.put key (Tab.getD 0 key d.landed + 1) d.landed, landAt := Tab.put key s.now d.landAt }
    let d := (ctxOf s c).disp
    if Tab.getD 0 key d.told + 64 ≤ Tab.getD 0 key d.landed then sendPlaced s c key else s

/-- A conflict ends the step (R450). -/
def placeConflict (s : State) (c dd : Nat) : State := stepFail (ddErr s .fryErr dd c 0x4B) .fry c 0x4B

/-! ### Settling (R443) -/

/-- The addresses of a local expert: HDR, PAY, OUT of its RECV_TABLE entry. -/
def recvEntry (s : State) (p : DPlan) (le : Nat) : Nat × Nat × Nat :=
  let b := readMem s (p.recv + 32 * le) 24
  (fieldAt b 0 8, fieldAt b 8 8, fieldAt b 16 8)

/-- The expert that a chip holds at a local index. -/
def RoundInfo.expertAt (i : RoundInfo) (chip le : Nat) : Option Nat :=
  (List.range i.p.e).find? fun e => i.holder e == chip && i.localIx e == le

/-- The rows of a boundary rank in order after settling: the R_e lowest tags first, keeping their layout order, then the
others, now DROPPED. -/
def settleRows (room : Nat) (rows : List (List Byte × List Byte)) : List (List Byte × List Byte) :=
  let tag := fun (r : List Byte × List Byte) => fieldAt r.1 0 8 % 2 ^ 49
  let low := fun r => decide ((rows.filter fun q => decide (tag q < tag r)).length < room)
  let dropped := (rows.filter fun r => !low r).map fun r =>
    (({ recHead r.1 with state := 2 } : RecHead).bytes r.2, r.2)
  rows.filter low ++ dropped

/-- Ferry settles a local expert: its boundary rank, and its valid count. -/
def settleExpert (s : State) (c : Nat) (i : RoundInfo) (le : Nat) : State :=
  let p := i.p
  let (hdr, pay, _) := recvEntry s p le
  match i.expertAt (chipOnBoard s) le with
  | none => engineWrite s .fry c (p.counts + 4 * le) (leBytes 4 0)
  | some e =>
    let s := match i.boundary e with
      | none => s
      | some r =>
        let lo := i.below e r
        let rows := (List.range (i.rows e - lo)).map fun k =>
          (readMem s (hdr + 32 * (lo + k)) 32, readMem s (pay + p.pay * (lo + k)) p.pay)
        if rows.any fun q => !tagSound q.1 then mismatch s .fry (hdr + 32 * lo)
        else (settleRows (i.cap e - lo) rows).zipIdx.foldl (fun s q =>
          engineWrite (engineWrite s .fry c (hdr + 32 * (lo + q.2)) q.1.1) .fry c (pay + p.pay * (lo + q.2)) q.1.2) s
    engineWrite s .fry c (p.counts + 4 * le) (leBytes 4 (i.valid e))

/-- Settles every local expert whose rows have all landed. -/
def settleAll (s : State) (c : Nat) : State :=
  match (ctxOf s c).disp.exch with
  | none => s
  | some ex =>
    let i := roundInfo s (dPlan ex.plan)
    let landed := fun le => (ex.rows.filter fun r => r.1 / 65536 == le).length
    let due_ := fun le => match i.expertAt (chipOnBoard s) le with | some e => i.rows e | none => 0
    let ready := (List.range i.p.experts).filter fun le => !ex.settled.contains le && landed le == due_ le
    let s := ready.foldl (fun s le => settleExpert s c i le) s
    modDisp s c fun d => { d with exch := d.exch.map fun x => { x with settled := x.settled ++ ready } }

/-! ### Completion (R444, R446) -/

/-- What an EXCHANGE or RETURN waits for is done. -/
def hopDone (s : State) (c : Nat) (w : DispWait) : Bool :=
  let d := (ctxOf s c).disp
  let me := chipOnBoard s
  let placed := w.dests.all fun q =>
    q == me || Tab.getD 0 (hopKey w.dir w.round q) d.placed == Tab.getD 0 (hopKey w.dir w.round q) d.sent
  placed &&
    if w.dir = 0 then
      (match d.exch with
       | some ex => ex.round != w.round || ex.settled.length == (dPlan ex.plan).experts
       | none => true)
    else (match d.scat with | some q => q.1 != w.round || d.pendF == d.pendW | none => true)

/-- The EXCHANGE and RETURN commands of a context that are done complete. -/
def hopCheck (s : State) (c : Nat) : State :=
  let ready := (ctxOf s c).disp.waits.filter fun w => hopDone s c w
  let s := ready.foldl (fun s w => modCmd s w.cmd fun m => { m with st := .finished, left := 0, doneAt := max s.now m.doneAt }) s
  modDisp s c fun d => { d with waits := d.waits.filter fun w => !ready.contains w }

/-- FRY_ARRIVE and FRY_RETURN of a primary context show its round, on both dispatch dies. -/
def fryShow (s : State) (c : Nat) (r : Reg) (round expected landed : Nat) : State :=
  if c % 2 = 1 then s
  else (List.range 2).foldl (fun s k => rputX s r k (stallNo c)
    (word ((ctxOf s c).req.step * 2 ^ 52 + round * 2 ^ 44 + expected % 2 ^ 20 * 2 ^ 20 + landed % 2 ^ 20))) s

/-! ### Placing (R442, R446, R448, R449) -/

/-- A dispatch record of the running EXCHANGE's round. -/
def placeDispatch (s : State) (c dd : Nat) (b : List Byte) : State :=
  match (ctxOf s c).disp.exch with
  | none => s
  | some ex =>
    let p := dPlan ex.plan
    let i := roundInfo s p
    let me := chipOnBoard s
    let h := recHead b
    let le := i.localIx h.expert
    if h.holder ≠ me ∨ p.e ≤ h.expert ∨ i.holder h.expert ≠ me ∨ i.rows h.expert ≤ h.pos ∨ h.state ≠ 1 ∨ h.len ≠ p.len ∨
        b.length ≠ p.recLen then placeConflict s c dd
    else
      match Tab.find (65536 * le + h.pos) ex.rows with
      | some tag => if tag = h.tag then rbump s .fryDrop 63 48 (stallNo c) 1 dd else placeConflict s c dd
      | none =>
        let (hdr, pay, _) := recvEntry s p le
        let s := engineWrite s .fry c (hdr + 32 * h.pos) (b.take 32)
        let s := engineWrite s .fry c (pay + p.pay * h.pos) (b.drop 32)
        let s := modDisp s c fun d =>
          { d with exch := d.exch.map fun x => { x with rows := Tab.put (65536 * le + h.pos) h.tag x.rows } }
        let due_ := ((List.range p.e).map fun e => if i.holder e = me then i.rows e else 0).sum
        let s := fryShow s c .fryArrive ex.round due_ (ex.rows.length + 1)
        hopCheck (settleAll (noteLanded s c 0 h.round h.origin) c) c

/-- A return of the last SCATTER's round. -/
def placeReturn (s : State) (c dd : Nat) (b : List Byte) : State :=
  match (ctxOf s c).disp.scat with
  | none => s
  | some (round, plan) =>
    let p := dPlan plan
    let h := recHead b
    let token := bitsOf h.tag 45 25
    let rank := bitsOf h.tag 48 46
    if token < p.base ∨ p.base + p.tokens ≤ token ∨ p.k ≤ rank then placeConflict s c dd
    else
      let j := (token - p.base) * p.k + rank
      let slot := readMem s (p.retHdr + 32 * j) 32
      let sh := recHead slot
      let same := sh.tag == h.tag && sh.round == h.round
      let form := (h.state == 1 && h.len == p.len && b.length == p.recLen) || (h.state == 2 && h.len == 0 && b.length == 32)
      if !tagSound slot then mismatch s .fry (p.retHdr + 32 * j)
      else if same && sh.state == 0 && form then
        let s := engineWrite s .fry c (p.retHdr + 32 * j) (b.take 32)
        let s := engineWrite s .fry c (p.retPay + p.pay * j) (b.drop 32)
        let s := modDisp s c fun d => { d with pendF := d.pendF + 1 }
        let d := (ctxOf s c).disp
        let s := fryShow s c .fryReturn round d.pendW d.pendF
        hopCheck (noteLanded s c 1 h.round h.holder) c
      else if same && (sh.state == 1 || sh.state == 2) then rbump s .fryDrop 63 48 (stallNo c) 1 dd
      else placeConflict s c dd

/-! ### EXCHANGE (R440, R441) -/

/-- A unit of a context's attempt for VC1 or VC2. -/
def recUnit (s : State) (c : Nat) (b : List Byte) : TxUnit :=
  { bytes := b, started := false, safety := false, reply := false, c := c, uid := (ctxOf s c).uid, cmd := 0 }

/-- One record leaves for a chip, by its number on the ports to that chip, or is placed here (R440). -/
def sendRec (s : State) (c dd dir chip ix : Nat) (b : List Byte) : State :=
  if (ctxOf s c).st != .running then s
  else if !tagSound b then mismatch s .fry chip
  else if chip = chipOnBoard s then (if dir = 0 then placeDispatch s c dd b else placeReturn s c dd b)
  else
    let ports := stallPorts s (stallNo c) chip
    let key := hopKey dir (fieldAt b 25 1) chip
    let s := sendUnit s (ports.getD (ix % max 1 ports.length) 0) (if dir = 0 then 2 else 1) (recUnit s c b)
    modDisp s c fun d => { d with sent := Tab.put key (Tab.getD 0 key d.sent + 1) d.sent }

/-- The time of a transfer that stays on the chip: it is fixed, and the manual gives no number (R444). -/
def hopTime (s : State) (dd bytes : Nat) (lats : List Nat) : Nat := ddTime s dd (96 + cdiv bytes 128) lats lats

/-- A command of Ferry waits for its placements; on a group of one chip it completes at a fixed time. -/
def hopStart (s : State) (m : Cmd) (c dir round : Nat) (dests : List Nat) (single : Bool) (at_ : Nat) : State :=
  let s := startCmd s m.id 1
  let s := if single then modCmd s m.id fun x => { x with doneAt := at_ } else markUnfixed s m.id
  modDisp s c fun d => { d with waits := d.waits ++ [{ cmd := m.id, dir := dir, round := round, dests := dests }] }

/-- EXCHANGE. -/
def exchTake (c dd : Nat) (m : Cmd) (b : List Byte) (s : State) : State :=
  let d := dispDesc b
  if !dispForm true false d b then violation s .fry m.addr
  else
    withPlan s .fry c d.plan fun p pb s =>
      withSpans s .fry c (roundSpans p ++ [(p.recv, 32 * p.experts)]) [(p.counts, 4 * p.experts)] fun s =>
        let i := roundInfo s p
        let me := chipOnBoard s
        let dests := maskChips (d.dest &&& p.mask)
        let n := fun q => i.sentTo me q
        if !i.mapOk me then violation s .fry p.map
        else
          match dests.find? (fun q => !mayUse s c (p.send + q * p.sendStride) (n q * p.recLen)) with
          | some q => violation s .fry (p.send + q * p.sendStride)
          | none =>
            if dests.any fun q => q != me && n q != 0 && (stallPorts s (stallNo c) q).isEmpty then
              stepFail (ddErr s .fryErr dd c 0x4A) .fry c 0x4A
            else if m.null then finishCmd s m.id s.now
            else
              gated s .fry c (ddRes dd [p.send, p.recv]) p.send fun s =>
                let rho := roundOf s c
                let s := modDisp s c fun x =>
                  let ex : Exch := { round := rho, plan := pb, rows := [], settled := [] }
                  { x with exch := some (match x.exch with | some y => if y.round = rho then y else ex | none => ex) }
                let s := modCtx s c fun x => { x with group := (maskChips p.mask).filter (· ≠ me) }
                let due_ := ((List.range p.e).map fun e => if i.holder e = me then i.rows e else 0).sum
                let landed := match (ctxOf s c).disp.exch with | some y => y.rows.length | none => 0
                let s := fryShow s c .fryArrive rho due_ landed
                let bytes := (dests.map fun q => n q * p.recLen).sum
                let at_ := hopTime s dd bytes [p.send, p.recv]
                let s := hopStart s m c 0 rho dests (p.mask == 2 ^ me) at_
                let s := dests.foldl (fun s q =>
                  (List.range (n q)).foldl (fun s ix =>
                    sendRec s c dd 0 q ix (readMem s (p.send + q * p.sendStride + ix * p.recLen) p.recLen)) s) s
                if (ctxOf s c).st != .running then s else hopCheck (settleAll s c) c

/-- A Ferry OP of the class. -/
def fryOpValid (o : Nat) : Bool := decide (1 ≤ o) && decide (o ≤ 2)

/-- Ferry on a dispatch die runs no command of the context: one that waits for placements holds no other context. -/
def fryIdle (s : State) (c dd : Nat) : Bool :=
  s.cmds.all fun m => !(m.c == c && m.cls == 5 && m.inst == dd) ||
    !(m.st == .running || (m.st == .finished && decide (s.now < m.doneAt)))

/-- EXCHANGE (R441). -/
def execExchange (c dd : Nat) (t : Nat) (s : State) : Host.Outcome State Fault Refusal :=
  whenEnabled t (fun s => decide (c < 16) && decide (dd < 2) && fryIdle s c dd)
    (fun s => takeCmd s .fry c 5 dd 1 64 fryOpValid (exchTake c dd)) s

/-! ### RETURN (R445) -/

/-- The returns of a local expert: origin, row and record. -/
def returnsOf (s : State) (i : RoundInfo) (le : Nat) : List (Nat × Nat × List Byte) :=
  let (hdr, _, out) := recvEntry s i.p le
  match i.expertAt (chipOnBoard s) le with
  | none => []
  | some e =>
    (List.range (i.rows e)).map fun q =>
      let hb := readMem s (hdr + 32 * q) 32
      let h := recHead hb
      if !tagSound hb then (h.origin, q, hb)
      else if q < i.valid e then
        let pay := readMem s (out + i.p.pay * q) i.p.pay
        (h.origin, q, ({ h with dir := 1, state := 1, len := i.p.len } : RecHead).bytes pay ++ pay)
      else (h.origin, q, ({ h with dir := 1, state := 2, len := 0 } : RecHead).bytes [])

/-- RETURN. -/
def retTake (c dd : Nat) (m : Cmd) (b : List Byte) (s : State) : State :=
  let d := dispDesc b
  if !dispForm false false d b then violation s .fry m.addr
  else
    withPlan s .fry c d.plan fun p _ s =>
      if p.experts < d.first + d.count then violation s .fry d.plan
      else
        withSpans s .fry c (roundSpans p ++ [(p.recv, 32 * p.experts)]) [] fun s =>
          let i := roundInfo s p
          let me := chipOnBoard s
          if !i.mapOk me then violation s .fry p.map
          else
            let les := (List.range d.count).map (· + d.first)
            let spans := les.flatMap fun le =>
              let en := recvEntry s p le
              match i.expertAt me le with
              | some e => if i.rows e = 0 then [] else [(en.1, 32 * i.rows e)] ++ (if i.valid e = 0 then [] else [(en.2.2, p.pay * i.valid e)])
              | none => []
            withSpans s .fry c spans [] fun s =>
              let recs := les.flatMap fun le => returnsOf s i le
              let dests := (List.range 16).filter fun q => recs.any fun r => r.1 == q
              if dests.any fun q => q != me && (stallPorts s (stallNo c) q).isEmpty then
                stepFail (ddErr s .fryErr dd c 0x4A) .fry c 0x4A
              else if m.null then finishCmd s m.id s.now
              else
                gated s .fry c (ddRes dd [p.recv, p.retHdr]) p.recv fun s =>
                  let rho := roundOf s c
                  let bytes := (recs.map fun r => r.2.2.length).sum
                  let s := hopStart s m c 1 rho dests (p.mask == 2 ^ me) (hopTime s dd bytes [p.recv, p.retHdr])
                  let s := recs.foldl (fun s r => sendRec s c dd 1 r.1 r.2.1 r.2.2) s
                  if (ctxOf s c).st != .running then s else hopCheck s c

/-- RETURN (R445). -/
def execReturnC (c dd : Nat) (t : Nat) (s : State) : Host.Outcome State Fault Refusal :=
  whenEnabled t (fun s => decide (c < 16) && decide (dd < 2) && fryIdle s c dd)
    (fun s => takeCmd s .fry c 5 dd 2 64 fryOpValid (retTake c dd)) s

/-! ### Arrivals (Table 11.6) -/

/-- What Table 11.6 says of an arriving record whose CRC and tag hold. -/
inductive Arrival where
  | unclaimed
  | stale
  | place
  | hold
  | answer
  deriving DecidableEq, Repr

/-- The context that a record names. -/
def recCtx (b : List Byte) : Nat := 2 * bitsOf (fieldAt b 0 8) 51 49 + fieldAt b 24 1 / 4 % 2

/-- The first matching row of Table 11.6. -/
def classifyRec (s : State) (b : List Byte) : Arrival :=
  let c := recCtx b
  let x := ctxOf s c
  let h := recHead b
  let running := match x.disp.exch with
    | some ex => ex.round == h.round && x.disp.waits.any fun w => w.dir == 0 && w.round == ex.round
    | none => false
  let next := match x.disp.exch with | some ex => (ex.round + 1) % 256 | none => 0
  if !assigned s (stallNo c) then .unclaimed
  else if inFence s then .stale
  else if !(x.st == .running && x.req.step == bitsOf h.tag 63 52 && x.attempt % 4 == h.attempt) then .stale
  else if h.dir = 0 ∧ running = true then .place
  else if h.dir = 0 ∧ h.round = next then .hold
  else if h.dir = 1 ∧ (x.disp.scat.map (·.1)) = some h.round then .answer
  else .stale

/-- A record arrives. -/
def recArrive (s : State) (dd : Nat) (b : List Byte) : State :=
  let c := recCtx b
  if !recSound b || !tagSound b then mismatch s .fry dd
  else
    match classifyRec s b with
    | .unclaimed => rbump s .fryDrop 47 32 (stallNo c) 1 dd
    | .stale => rbump s .fryDrop 31 0 (stallNo c) 1 dd
    | .place => placeDispatch s c dd b
    | .answer => placeReturn s c dd b
    | .hold => s

/-- A record is held in the VC2 receive buffer until its EXCHANGE starts. -/
def recHeld (s : State) (b : List Byte) : Bool := recSound b && tagSound b && classifyRec s b == .hold

/-- A record that the attempt it names will write to memory. -/
def recLands (s : State) (b : List Byte) : Bool :=
  recSound b && tagSound b && (classifyRec s b == .place || classifyRec s b == .answer)

/-- The memory that a record goes to: the receive entries of its round, or the return slots of the last SCATTER. -/
def recPlace (s : State) (b : List Byte) : Nat :=
  let x := (ctxOf s (recCtx b)).disp
  if classifyRec s b == .place then (match x.exch with | some ex => (dPlan ex.plan).recv | none => 0)
  else (match x.scat with | some p => (dPlan p.2).retHdr | none => 0)

/-- The first unit of a channel that no LINK_DELAY and no Table 11.6 row holds. -/
def freeRec (s : State) (p vc : Nat) : Option RxUnit :=
  ((Tab.getD RxChan.clear vc (portOf s p).rx).units.takeWhile fun u => u.due.isNone).find? fun u => !recHeld s u.bytes

/-- The dispatch die next to a port's edge die. -/
def ddOfPort (p : Nat) : Nat := p % 4 / 2

/-- The first record of a channel that may be taken leaves the buffer, with its credit, and acts. -/
def takeRec (s : State) (p vc : Nat) : State :=
  match freeRec s p vc with
  | none => s
  | some u =>
    let c := recCtx u.bytes
    let go := fun (s : State) =>
      let s := modPort s p fun x =>
        let r := Tab.getD RxChan.clear vc x.rx
        { x with rx := Tab.put vc { r with units := r.units.erase u } x.rx }
      recArrive (freeCredits s p vc) (ddOfPort p) u.bytes
    if recLands s u.bytes then
      if ownerOfPort s p ≠ stallNo c then violation s .dkl (regAddr .dklState (p % 4) (p / 4))
      else
        match gate s (stallNo c) (ddRes (ddOfPort p) [recPlace s u.bytes]) with
        | .go => go s
        | .hold => s
        | .miss => stepFail s .fry c 0x02 (recPlace s u.bytes)
    else go s

/-- DISPATCH_RECORD_ARRIVAL (R442, R447). -/
def execDispatchRecordArrival (p : Nat) (t : Nat) (s : State) : Host.Outcome State Fault Refusal :=
  whenEnabled t (fun s => decide (p < 32) && (freeRec s p 2).isSome) (fun s => takeRec s p 2) s

/-- RETURN_ARRIVAL (R446, R447). -/
def execReturnArrival (p : Nat) (t : Nat) (s : State) : Host.Outcome State Fault Refusal :=
  whenEnabled t (fun s => decide (p < 32) && (freeRec s p 1).isSome) (fun s => takeRec s p 1) s

/-- PLACED_MSG (R524): a holder reports how many records of this chip have landed. -/
def execPlacedMsg (p : Nat) (t : Nat) (s : State) : Host.Outcome State Fault Refusal :=
  onMessage 5 p (fun m s =>
    let c := msgCtx m
    let b := m.drop 16
    let x := ctxOf s c
    match peerPos s p with
    | none => s
    | some chip =>
      if x.st == .running && x.req.step == fieldAt b 0 2 % 4096 && x.attempt % 4 == fieldAt b 2 1 % 4 then
        let key := hopKey (fieldAt b 2 1 / 4 % 2) (fieldAt b 3 1) chip
        hopCheck (modDisp s c fun d => { d with placed := Tab.put key (max (fieldAt b 4 4) (Tab.getD 0 key d.placed)) d.placed }) c
      else s) t s

/-- The counts of a context that have changed since their last report, 1 µs after the last landing (R524). -/
def placedDue (s : State) (c : Nat) : List Nat :=
  let d := (ctxOf s c).disp
  (d.landed.filter fun k =>
    k.2 != Tab.getD 0 k.1 d.told && decide (Tab.getD 0 k.1 d.landAt + us 1 ≤ s.now)).map (·.1)

/-- PLACED_TIMER (R524). -/
def execPlacedTimer (c : Nat) (t : Nat) (s : State) : Host.Outcome State Fault Refusal :=
  whenEnabled t (fun s => decide (c < 16) && (ctxOf s c).st == .running && !(placedDue s c).isEmpty)
    (fun s => (placedDue s c).foldl (fun s k => sendPlaced s c k) s) s

/-! ### COMBINE (R451-R453) -/

/-- The values of a row in memory. -/
def rowVals (s : State) (f a n : Nat) : List Fp := (elemsOf f n (readMem s a (fmtLen f n))).map (fmtVal f)

/-- The slots of a token: header bytes in rank order. -/
def tokenSlots (s : State) (p : DPlan) (tok : Nat) : List (List Byte) :=
  (List.range p.k).map fun r => readMem s (p.retHdr + 32 * (tok * p.k + r)) 32

/-- The output of a token (R451). -/
def tokenSum (s : State) (p : DPlan) (tok : Nat) : List Fp :=
  let n := p.elems
  let acc := (List.range p.k).foldl (fun acc r =>
    let j := tok * p.k + r
    let h := recHead (readMem s (p.retHdr + 32 * j) 32)
    if h.state = 1 then
      List.zipWith (fun y a => rne32 (Fp.add (Fp.mul (f32 h.weight) y) a)) (rowVals s p.fmt (p.retPay + p.pay * j) n) acc
    else acc) (List.replicate n Fp.zero)
  let acc := (List.range p.shared).foldl (fun acc e =>
    List.zipWith (fun y a => add32 a y) (rowVals s p.sharedFmt (p.sharedOut + e * p.sharedStride + tok * p.outStride) n) acc) acc
  if p.residFmt = 0 then acc
  else List.zipWith (fun y a => add32 a y) (rowVals s p.residFmt (p.resid + tok * p.outStride) n) acc

/-- Tokens in ascending order; the first one with a damaged tag or a PENDING slot ends the command. -/
def combineRun (c dd : Nat) (p : DPlan) : List Nat → State → State × Bool
  | [], s => (s, true)
  | tok :: rest, s =>
    let slots := tokenSlots s p tok
    if slots.any fun b => !tagSound b then (mismatch s .gln (p.retHdr + 32 * tok * p.k), false)
    else if slots.any fun b => (recHead b).state == 0 then (stepFail (ddErr s .glnErr dd c 0x4C) .gln c 0x4C, false)
    else
      let n := stallNo c
      let has := fun st => (slots.filter fun b => (recHead b).state == st).length
      let s := engineWrite s .gln c (p.glOut + tok * p.outStride) (convertRow p.outFmt false (tokenSum s p tok)).1
      let s := rbump (rbump s .winDrops 63 32 n (has 2)) .winDrops 31 16 n (has 3)
      let s := rbump (rbump s .glnDone 63 32 n 1 dd) .glnDone 31 0 n (has 1) dd
      combineRun c dd p rest s

/-- COMBINE. -/
def gleanTake (c dd : Nat) (m : Cmd) (b : List Byte) (s : State) : State :=
  let d := dispDesc b
  if !dispForm false false d b then violation s .gln m.addr
  else
    withPlan s .gln c d.plan fun p _ s =>
      let n := p.elems
      if p.tokens < d.first + d.count then violation s .gln d.plan
      else
        let toks := (List.range d.count).map (· + d.first)
        let rd := [(p.retHdr + 32 * d.first * p.k, 32 * d.count * p.k)] ++
          (List.range p.shared).flatMap (fun e => toks.map fun t =>
            (p.sharedOut + e * p.sharedStride + t * p.outStride, fmtLen p.sharedFmt n)) ++
          (if p.residFmt = 0 then [] else toks.map fun t => (p.resid + t * p.outStride, fmtLen p.residFmt n)) ++
          toks.flatMap fun t => (tokenSlots s p t).zipIdx.filterMap fun q =>
            if (recHead q.1).state = 1 then some (p.retPay + p.pay * (t * p.k + q.2), p.pay) else none
        withSpans s .gln c rd (toks.map fun t => (p.glOut + t * p.outStride, fmtLen p.outFmt n)) fun s =>
          gated s .gln c (ddRes dd [p.retHdr, p.retPay, p.glOut]) p.retHdr fun s =>
            let r := if p.residFmt = 0 then 0 else 1
            let done := ddTime s dd (96 + d.count * (p.k + p.shared + r + 1) * cdiv p.len 2) [p.retPay, p.glOut]
              [p.retHdr, p.retPay, p.glOut]
            let (s, ok) := if m.null then (s, true) else combineRun c dd p toks s
            if ok then finishCmd s m.id done else s

/-- COMBINE of Gleaner (R451). -/
def execGleanerCombine (c dd : Nat) (t : Nat) (s : State) : Host.Outcome State Fault Refusal :=
  whenEnabled t (fun s => decide (c < 16) && decide (dd < 2) && engineIdle s 6 dd)
    (fun s => takeCmd s .gln c 6 dd 1 64 (fun o => o == 1) (gleanTake c dd)) s

end Sys2Proof.Machine
end

