-- ==== Sys2Proof/Machine/Barnplan.lean ====
section
/-! DEFINITION. Bitric images (chapter 3): the layout of an image and of its sections, the checks of Table 3.10 in their
order, what a partial image may touch and release, and what the sections fill. -/

namespace Sys2Proof.Machine

/-! ### Layout (Tables 3.1-3.3) -/

/-- The length of the signature block (R99). -/
abbrev sigLen : Nat := 4736

/-- The bytes of the image in the staging store (R100): as many as IMAGE_LEN gives. -/
def stagedImage (s : State) : List Byte :=
  let hd := (List.range 128).map fun i => Tab.getD 0#8 i s.img.staging
  (List.range (min (fieldAt hd 8 4) 4194304)).map fun i => Tab.getD 0#8 i s.img.staging

/-- IMAGE_LEN as the header gives it. -/
def imgLen (b : List Byte) : Nat := fieldAt b 8 4
/-- PARTIAL. -/
def imgPartial (b : List Byte) : Bool := bitsOf (fieldAt b 6 2) 0 0 == 1
/-- SEAL_ON_CMD. -/
def imgSealOnCmd (b : List Byte) : Bool := bitsOf (fieldAt b 6 2) 1 1 == 1
/-- ADVANCE_SVN. -/
def imgAdvance (b : List Byte) : Bool := bitsOf (fieldAt b 6 2) 2 2 == 1
/-- SECTION_COUNT. -/
def imgCount (b : List Byte) : Nat := fieldAt b 12 2
/-- KEY_SLOTS: the ML-DSA-87 slot and the ECDSA slot. -/
def imgSlots (b : List Byte) : Nat × Nat := (fieldAt b 15 1, fieldAt b 14 1)
/-- SVN. -/
def imgSvn (b : List Byte) : Nat := fieldAt b 16 4
/-- TARGET. -/
def imgTarget (b : List Byte) : Nat := fieldAt b 20 2
/-- APPLY_TIDE. -/
def imgTide (b : List Byte) : Nat := fieldAt b 24 8
/-- The signed region (R99). -/
def imgSigned (b : List Byte) : List Byte := b.take (b.length - sigLen)

/-- A directory entry (Table 3.2). -/
structure DirEnt where
  type : Nat
  version : Nat
  mask : Nat
  rsv : Nat
  off : Nat
  len : Nat
  digest : List Byte
  deriving DecidableEq, Repr

/-- Directory entry k. -/
def dirEnt (b : List Byte) (k : Nat) : DirEnt :=
  let e := slice b (128 + 64 * k) 64
  { type := fieldAt e 0 2, version := fieldAt e 2 2, mask := fieldAt e 4 1, rsv := fieldAt e 5 3, off := fieldAt e 8 4,
    len := fieldAt e 12 4, digest := slice e 16 48 }

/-- The directory, in order. -/
def dirOf (b : List Byte) : List DirEnt := (List.range (imgCount b)).map (dirEnt b)

/-- The bytes of a section. -/
def DirEnt.bytes (e : DirEnt) (b : List Byte) : List Byte := slice b e.off e.len

/-- The sections of an image, by type. -/
def sectsOf (b : List Byte) : Tab (List Byte) :=
  (dirOf b).foldl (fun m e => Tab.put e.type (e.bytes b) m) []

/-- The sections that stand after an image: a partial image's over those in force (R128), a full image's alone. -/
def sectsAfter (s : State) (b : List Byte) : Tab (List Byte) :=
  if imgPartial b then (sectsOf b).foldl (fun m x => Tab.put x.1 x.2 m) s.img.sections else sectsOf b

/-- The bytes of a section in a table of sections. -/
def sect (m : Tab (List Byte)) (type : Nat) : List Byte := Tab.getD [] type m

/-- The changed stalls of an image (R130): a mask. -/
def imgChanges (b : List Byte) : Nat := (dirOf b).foldl (fun m e => m ||| e.mask) 0

/-! ### Reading the sections -/

/-- FALLOW_DIES, FALLOW_PORTS and GLOBAL_CHIP (Table 3.5). -/
def secFallowDies (m : Tab (List Byte)) : Nat := fieldAt (sect m 1) 0 8
/-- FALLOW_PORTS. -/
def secFallowPorts (m : Tab (List Byte)) : Nat := fieldAt (sect m 1) 8 4
/-- GLOBAL_CHIP. -/
def secGlobalChip (m : Tab (List Byte)) : Nat := fieldAt (sect m 1) 12 2
/-- The STALLS entry of stall n (Table 3.6). -/
def secStall (m : Tab (List Byte)) (n : Nat) : List Byte := slice (sect m 2) (64 * n) 64
/-- CTRL of a stall's entry. -/
def secCtrl (m : Tab (List Byte)) (n : Nat) : Nat := fieldAt (secStall m n) 0 1
/-- Stall n is assigned. -/
def secAssigned (m : Tab (List Byte)) (n : Nat) : Bool := (secCtrl m n).testBit 0
/-- The extents of SHARES (Table 3.7). -/
def secExtents (m : Tab (List Byte)) : List Extent :=
  let b := sect m 3
  (List.range (min 144 (fieldAt b 0 8))).map fun i =>
    { base := fieldAt b (8 + 16 * i) 6, size := fieldAt b (16 + 16 * i) 8, owner := fieldAt b (14 + 16 * i) 1 }
/-- CD_OWNER of a compute die (Table 3.8). -/
def secCdOwner (m : Tab (List Byte)) (d : Nat) : Nat := bitsOf (fieldAt (sect m 4) 0 8) (4 * d + 3) (4 * d)
/-- ENC_OWNER of an encoder. -/
def secEncOwner (m : Tab (List Byte)) (e : Nat) : Nat := bitsOf (fieldAt (sect m 4) 8 4) (4 * e + 3) (4 * e)
/-- RS_OWNER of a media die. -/
def secRsOwner (m : Tab (List Byte)) (d : Nat) : Nat := bitsOf (fieldAt (sect m 4) 12 1) (4 * d + 3) (4 * d)
/-- The 8-byte value k of a section. -/
def secWord (m : Tab (List Byte)) (type k : Nat) : Word := word (fieldAt (sect m type) (8 * k) 8)
/-- GRN_POOL_p, GRN_RSV_k and GRN_ARENA_a of the GRANARY section (R243). -/
def secPool (m : Tab (List Byte)) (p : Nat) : Word := secWord m 5 p
/-- GRN_RSV value k = 8 × requester + class. -/
def secRsv (m : Tab (List Byte)) (k : Nat) : Word := secWord m 5 (32 + k)
/-- GRN_ARENA value. -/
def secArena (m : Tab (List Byte)) (a : Nat) : Word := secWord m 5 (1056 + a)
/-- A stall's SFU_PROGRAMS block (R367); empty for none. -/
def secSfu (m : Tab (List Byte)) (n : Nat) : List Byte :=
  let b := sect m 8
  slice b (fieldAt b (8 * n) 4) (fieldAt b (8 * n + 4) 4)
/-- A stall's NUMERIC entry (Table 3.9). -/
def secNumeric (m : Tab (List Byte)) (n : Nat) : Nat := fieldAt (sect m 9) (8 * n) 8
/-- Byte k of the LINKS entry of a port, and its fields (R118). -/
def secPort (m : Tab (List Byte)) (p off len : Nat) : Nat := fieldAt (sect m 10) (16 * p + off) len

/-- The registers of the TIDE section in the order of its values (R115). -/
def tideRegs : List (Reg × Nat) :=
  [(.tidCtrl, 0), (.tidPeriod, 0), (.tidBayCfg, 0)] ++ ((List.range 16).map fun b => (Reg.tidBayStart, b)) ++
  ((List.range 16).flatMap fun b => [(Reg.tidBayOwnLo, b), (Reg.tidBayOwnHi, b)]) ++ [(.tidRefPlan, 0)] ++
  ((List.range 8).map fun n => (Reg.tidDl, n))

/-- The registers of the GRANARY section in the order of its values (R243). -/
def granaryRegs : List (Reg × Nat) :=
  ((List.range 32).map fun p => (Reg.grnPool, p)) ++ ((List.range 1024).map fun k => (Reg.grnRsv, k)) ++
  ((List.range 32).map fun a => (Reg.grnArena, a))

/-- The registers that a table of sections fills, with their values (Table 3.4). -/
def imageRegs (m : Tab (List Byte)) : List (Reg × Nat × Nat × Word) :=
  ((List.range 8).flatMap fun n =>
    [(Reg.stlCtrl, 0, n, word (secCtrl m n)), (Reg.stlEntry, 0, n, word (fieldAt (secStall m n) 8 8)),
     (Reg.stlFbEntry, 0, n, word (fieldAt (secStall m n) 16 8))]) ++
  (granaryRegs.zipIdx.map fun (r, k) => (r.1, 0, r.2, secWord m 5 k)) ++
  [(Reg.clkSetpointCd, 0, 0, secWord m 6 0), (Reg.clkSetpointMd, 0, 0, secWord m 6 1)] ++
  (tideRegs.zipIdx.map fun (r, k) => (r.1, 0, r.2, secWord m 7 k)) ++
  ((List.range 32).map fun p =>
    (Reg.dklCfg, p % 4, p / 4,
      word (secPort m p 0 1 + secPort m p 1 1 * 2 ^ 8 + secPort m p 2 2 * 2 ^ 16 + secPort m p 4 1 * 2 ^ 32 +
        secPort m p 5 1 * 2 ^ 40 + secPort m p 6 2 * 2 ^ 48)))

/-- What a table of sections fills that no register holds. -/
def planOf (m : Tab (List Byte)) (target : Nat) : Plan :=
  { fallowDies := secFallowDies m, fallowPorts := secFallowPorts m, globalChip := secGlobalChip m, target := target
    extents := secExtents m, cdOwner := word (fieldAt (sect m 4) 0 8), encOwner := fieldAt (sect m 4) 8 4
    rsOwner := fieldAt (sect m 4) 12 1
    windows := (List.range 8).map fun n => fieldAt (secStall m n) 2 2
    seeds := (List.range 8).map fun n => fieldAt (secStall m n) 24 8
    numeric := (List.range 8).map (secNumeric m)
    sfu := (List.range 8).map (secSfu m)
    safety := sect m 11, security := sect m 12 }

/-! ### Field checks (step 9 of Table 3.10) -/

/-- The first offset of a list whose condition does not hold. -/
def firstBad (l : List (Nat × Bool)) : Option Nat := (l.find? (fun x => !x.2)).map (·.1)

/-- The checks of a section of a stated length. -/
def ofLength (b : List Byte) (len : Nat) (l : List (Nat × Bool)) : Option Nat :=
  if b.length = len then firstBad l else some 0

/-- STRUCTURE (Table 3.5). -/
def structureField (b : List Byte) : Option Nat :=
  ofLength b 64 [(0, decide (fieldAt b 0 8 < 2 ^ 40)), (12, decide (fieldAt b 12 2 < 4096)), (14, allZero (slice b 14 50))]

/-- One STALLS entry (Table 3.6, R108). -/
def stallEntryField (base : Nat) (e : List Byte) : List (Nat × Bool) :=
  let ctrl := fieldAt e 0 1
  let on := ctrl.testBit 0
  let win := fieldAt e 2 2
  [(base, decide (ctrl < 16) && (on || ctrl == 0)), (base + 1, allZero (slice e 1 1)),
   (base + 2, if on then decide (4 ≤ win) && decide (win ≤ 500) else win == 0), (base + 4, allZero (slice e 4 4)),
   (base + 8, allZero (slice e 14 2) && (on || allZero (slice e 8 8))),
   (base + 16, allZero (slice e 22 2) && (ctrl.testBit 3 || allZero (slice e 16 8))),
   (base + 24, on || allZero (slice e 24 8)), (base + 32, allZero (slice e 32 32))]

/-- STALLS. -/
def stallsField (b : List Byte) : Option Nat :=
  ofLength b 512 ((List.range 8).flatMap fun n => stallEntryField (64 * n) (slice b (64 * n) 64))

/-- SHARES: the count, the owner codes, and at most 16 extents of one owner. -/
def sharesField (b : List Byte) : Option Nat :=
  let n := fieldAt b 0 8
  if b.length < 8 ∨ 144 < n ∨ b.length ≠ 8 + 16 * n then some 0
  else
    let owners := (List.range n).map fun i => fieldAt b (14 + 16 * i) 1
    firstBad ((List.range n).flatMap fun i =>
      [(14 + 16 * i, decide (owners.getD i 9 ≤ 8) && decide ((owners.take (i + 1)).count (owners.getD i 9) ≤ 16)),
       (15 + 16 * i, allZero (slice b (15 + 16 * i) 1))])

/-- An owner code of R112. -/
def ownerCodeOk (shared : Bool) (o : Nat) : Bool := decide (o ≤ 7) || o == 0xF || (shared && o == 8)

/-- ENGINES (Table 3.8, R112). -/
def enginesField (b : List Byte) : Option Nat :=
  ofLength b 32
    (((List.range 16).map fun d => (d / 2, ownerCodeOk false (bitsOf (fieldAt b 0 8) (4 * d + 3) (4 * d)))) ++
     ((List.range 8).map fun e => (8 + e / 2, ownerCodeOk false (bitsOf (fieldAt b 8 4) (4 * e + 3) (4 * e)))) ++
     ((List.range 2).map fun d => (12, ownerCodeOk true (bitsOf (fieldAt b 12 1) (4 * d + 3) (4 * d)))) ++
     [(13, allZero (slice b 13 19))])

/-- A list of register values: every reserved bit 0, every RO field the value it reads (R115). -/
def regValuesField (b : List Byte) (rs : List (Reg × Nat)) : Option Nat :=
  ofLength b (8 * rs.length) (rs.zipIdx.map fun (r, k) =>
    let v := word (fieldAt b (8 * k) 8)
    (8 * k, decide (v &&& ~~~r.1.fields = 0) && (!r.1.roIndex r.2 || decide (v = r.1.info.reset))))

/-- NUMERIC (Table 3.9, R117), with the modes of the stalls. -/
def numericField (m : Tab (List Byte)) (b : List Byte) : Option Nat :=
  ofLength b 64 ((List.range 8).map fun n =>
    (8 * n, decide (fieldAt b (8 * n) 8 < 8) && (!(fieldAt b (8 * n) 8).testBit 1 || (secCtrl m n).testBit 1)))

/-- LINKS: reserved bits and codes (R118). -/
def linksField (b : List Byte) : Option Nat :=
  ofLength b 512 ((List.range 32).flatMap fun p =>
    let at_ := fun off len => fieldAt b (16 * p + off) len
    [(16 * p, decide (at_ 0 1 ≤ 3)), (16 * p + 1, ownerCodeOk false (at_ 1 1)), (16 * p + 2, decide (at_ 2 2 < 4096)),
     (16 * p + 4, decide (at_ 4 1 < 32)), (16 * p + 5, decide (at_ 5 1 < 2)), (16 * p + 8, allZero (slice b (16 * p + 8) 8))])

/-- SAFETY (Table 17.8, R690). -/
def safetyField (b : List Byte) : Option Nat :=
  let f := fun off len => fieldAt b off len
  ofLength b 64
    [(0, f 0 1 == 1), (1, f 1 1 == 0), (2, decide (50 ≤ f 2 2) && decide (f 2 2 ≤ 1000)),
     (4, decide (3 * f 2 2 ≤ f 4 2) && decide (f 4 2 ≤ 5000)), (6, decide (20 ≤ f 6 2) && decide (f 6 2 + 1 ≤ f 4 2)),
     (8, decide (100 ≤ f 8 2) && decide (f 8 2 ≤ 60000)), (10, decide (60 ≤ f 10 2) && decide (f 10 2 ≤ 1440)),
     (12, decide (f 12 1 ≤ 15)), (13, decide (1 ≤ f 13 1) && decide (f 13 1 ≤ 24)), (14, decide (f 14 4 ≤ 99900)),
     (22, allZero (slice b 22 38))]

/-- The transport key KT (R705). -/
def keyKT : List Byte := Config.kdf Config.dus (String.toList "KT" |>.map fun c => BitVec.ofNat 8 c.toNat) [] 32

/-- The link master key that a SECURITY section unwraps (R714): empty for none, and in OPEN, where KT cannot be used
(Table 18.8). -/
def lmkOf (s : State) (b : List Byte) : List Byte :=
  if allZero (slice b 8 40) || rfield s .secStatus 61 60 == 2 then [] else (Config.keyUnwrap keyKT (slice b 8 40)).getD []

/-- SECURITY (Table 18.3, R707, R715) of an image with its KEY_SLOTS. -/
def securityField (s : State) (slots : Nat × Nat) (b : List Byte) : Option Nat :=
  let rev := fieldAt b 2 1
  let ml := s.fuse.mldsaRev ||| rev % 16
  let ec := s.fuse.ecdsaRev ||| rev / 16
  ofLength b 64
    [(0, fieldAt b 0 1 == 1), (1, decide (fieldAt b 1 1 < 2)),
     (2, !(rev % 16).testBit slots.1 && !(rev / 16).testBit slots.2 &&
        ((List.range 4).any fun k => s.fuse.mldsaProg.testBit k && !ml.testBit k) &&
        ((List.range 4).any fun k => s.fuse.ecdsaProg.testBit k && !ec.testBit k)),
     (3, decide (fieldAt b 3 1 < 4)), (4, allZero (slice b 4 4)),
     (8, allZero (slice b 8 40) || rfield s .secStatus 61 60 == 2 || (Config.keyUnwrap keyKT (slice b 8 40)).isSome),
     (48, allZero (slice b 48 16))]

/-! ### SFU_PROGRAMS (R367, R368) -/

/-- The bytes of a segment table: its header and its records (R361). -/
def segBytes (h : List Byte) : Nat := 32 + fieldAt h 4 2 * (if fieldAt h 1 1 = 2 then 12 else 8)

/-- A difference of two finite values is a power of two. -/
def pow2Value (v : Fp) : Bool :=
  match v with
  | .fin n m _ => !n && m != 0 && 2 ^ m.log2 == m
  | _ => false

/-- A segment table meets Table 9.3 and R362. -/
def segTableOk (h : List Byte) : Bool :=
  let segs := fieldAt h 4 2
  let emin := toSigned 16 (fieldAt h 6 2)
  let unit := (fieldAt h 3 1 + 1) * 2 ^ fieldAt h 2 1
  decide (fieldAt h 0 1 ≤ 1) && decide (1 ≤ fieldAt h 1 1) && decide (fieldAt h 1 1 ≤ 2) && decide (fieldAt h 3 1 ≤ 1) &&
  decide (1 ≤ segs) && decide (segs ≤ 4096) && decide (fieldAt h 24 1 ≤ 1) && allZero (slice h 25 7) &&
  (if fieldAt h 0 1 = 0 then 2 ^ segs.log2 == segs && pow2Value (Fp.sub (f32 (fieldAt h 12 4)) (f32 (fieldAt h 8 4)))
   else decide (fieldAt h 2 1 ≤ 10) && decide (-126 ≤ emin) && decide (emin ≤ 127) && segs % unit == 0)

/-- The valid OP codes of Table 9.5. -/
def sfuOps : List Nat := [1, 2, 3, 4, 5, 6, 7, 8, 9, 10, 11, 12, 0x3F]

/-- A step of a block with nt tables: its OP, its table, its reserved bits, the codes of a SPECIAL (Tables 9.4-9.6). -/
def sfuStepOk (nt w : Nat) : Bool :=
  sfuOps.contains (bitsOf w 63 58) && bitsOf w 49 48 == 0 && bitsOf w 39 32 == 0 &&
  (bitsOf w 63 58 != 1 || decide (bitsOf w 47 42 < nt)) &&
  (bitsOf w 63 58 != 12 || (List.range 4).all fun k => decide (bitsOf w (8 * k + 7) (8 * k) ≤ 8))

/-- A block of a stall whose set leaves `room` bytes for user tables passes R368. -/
def sfuBlockOk (b : List Byte) (room : Nat) : Bool :=
  let (nf, ns, nt) := sfuCounts b
  let headEnd := 16 + 8 * nf + 8 * ns + 4 * nt
  decide (b.length ≤ 65536) && decide (headEnd ≤ b.length) && decide (nf ≤ 64) && decide (ns ≤ 512) && decide (nt ≤ 64) &&
  allZero (slice b 6 10) &&
  ((List.range nf).all fun i =>
    let (fn, first, count) := sfuEntry b i
    decide (fn ≤ 63) && ((List.range i).all fun j => (sfuEntry b j).1 != fn) && decide (1 ≤ count) && decide (count ≤ 32) &&
    decide (first + count ≤ ns) && allZero (slice b (20 + 8 * i) 4) &&
    ((List.range count).all fun k => (bitsOf (sfuStep b (first + k)) 63 58 == 0x3F) == (k + 1 == count))) &&
  ((List.range ns).all fun k => sfuStepOk nt (sfuStep b k)) &&
  ((List.range nt).all fun k =>
    sfuTableOff b k % 64 == 0 && decide (headEnd ≤ sfuTableOff b k) &&
    decide (sfuTableOff b k + segBytes (sfuTable b k) ≤ b.length) && segTableOk (sfuTable b k)) &&
  decide (((List.range nt).map fun k => segBytes (sfuTable b k)).sum ≤ room)

/-- The user table memory that a stall's set leaves (R353). -/
def sfuRoom (m : Tab (List Byte)) (n : Nat) : Nat := if (secNumeric m n).testBit 0 then 32768 else 65536

/-- The tables of a stall's block fit its set (R368, R378). -/
def sfuFits (m : Tab (List Byte)) (n : Nat) : Bool := (secSfu m n).isEmpty || sfuBlockOk (secSfu m n) (sfuRoom m n)

/-- SFU_PROGRAMS. -/
def sfuField (m : Tab (List Byte)) (b : List Byte) : Option Nat :=
  if b.length < 64 then some 0
  else
    firstBad ((List.range 8).map fun n =>
      let off := fieldAt b (8 * n) 4
      let len := fieldAt b (8 * n + 4) 4
      (8 * n, len == 0 || (off % 64 == 0 && decide (64 ≤ off) && decide (off + len ≤ b.length) && sfuFits m n)))

/-- The field check of one section of an image whose standing sections are m. -/
def sectionField (s : State) (m : Tab (List Byte)) (slots : Nat × Nat) (e : DirEnt) (b : List Byte) : Option Nat :=
  match e.type with
  | 1 => structureField b
  | 2 => stallsField b
  | 3 => sharesField b
  | 4 => enginesField b
  | 5 => regValuesField b granaryRegs
  | 6 => regValuesField b [(.clkSetpointCd, 0), (.clkSetpointMd, 0)]
  | 7 => regValuesField b tideRegs
  | 8 => sfuField m b
  | 9 =>
    match numericField m b with
    | some o => some o
    | none => firstBad ((List.range 8).map fun n => (8 * n, sfuFits m n))
  | 10 => linksField b
  | 11 => safetyField b
  | 12 => securityField s slots b
  | _ => none

/-! ### Overlap and ownership (steps 10 and 11) -/

/-- Two spans share a byte. -/
def spansMeet (a n b k : Nat) : Bool := decide (a < b + k) && decide (b < a + n)

/-- An extent lies as R110 asks. -/
def extentOk (e : Extent) : Bool :=
  if isHbm e.base then
    e.base % 2 ^ 28 == 0 && e.size % 2 ^ 28 == 0 && decide (e.base + e.size ≤ (e.base / hbmSize + 1) * hbmSize)
  else
    match unitOf e.base with
    | .loft d => e.base % 2 ^ 20 == 0 && e.size % 2 ^ 20 == 0 && decide (e.base + e.size ≤ loftBase + (d + 1) * loftSize)
    | _ => false

/-- The first extent that breaches R110. -/
def overlapBad (xs : List Extent) : Option Nat :=
  firstBad (xs.zipIdx.map fun (e, i) =>
    (8 + 16 * i, extentOk e && (xs.take i).all fun f => !spansMeet e.base e.size f.base f.size))

/-- The window index of the die or stack that an extent lies in. -/
def extentDie (e : Extent) : Nat :=
  match unitOf e.base with
  | .hbm n => 16 + n
  | .loft d => 34 + d
  | _ => 38

/-- A span lies in one extent of an owner. -/
def spanIn (xs : List Extent) (owner a len : Nat) : Bool :=
  xs.any fun e => e.owner == owner && decide (e.base ≤ a) && decide (a + len ≤ e.base + e.size)

/-- An entry point of a stall lies where R109 asks. -/
def entryOk (m : Tab (List Byte)) (n a : Nat) : Bool := a % 64 == 0 && spanIn (secExtents m) n a 64

/-- R107 and R113 on STRUCTURE, STALLS, SHARES and ENGINES: by section type and offset. -/
def ownershipChecks (m : Tab (List Byte)) : List (Nat × Nat × Bool) :=
  let fd := secFallowDies m
  let xs := secExtents m
  let ok := fun o => decide (8 ≤ o) || secAssigned m o
  [(1, 0, !fd.testBit 38 && !fd.testBit 39 && !fd.testBit 32 && !fd.testBit 33)] ++
  ((List.range 8).flatMap fun n =>
    [(2, 64 * n + 8, !secAssigned m n || entryOk m n (fieldAt (secStall m n) 8 8)),
     (2, 64 * n + 16, !(secCtrl m n).testBit 3 || entryOk m n (fieldAt (secStall m n) 16 8))]) ++
  (xs.zipIdx.map fun (e, i) => (3, 8 + 16 * i, ok e.owner && !fd.testBit (extentDie e))) ++
  ((List.range 16).map fun d =>
    (4, d / 2, ok (secCdOwner m d) && (secCdOwner m d == 0xF || !fd.testBit d))) ++
  ((List.range 8).map fun e =>
    (4, 8 + e / 2, ok (secEncOwner m e) && (secEncOwner m e == 0xF || !fd.testBit (36 + e / 4)))) ++
  ((List.range 2).map fun d =>
    (4, 12, ok (secRsOwner m d) && (secRsOwner m d == 0xF || !fd.testBit (36 + d)))) ++
  ((List.range 16).map fun d =>
    (6, 0, secCdOwner m d == 0xF || (List.range 16).all fun e =>
      secCdOwner m e != secCdOwner m d || cdCode (secWord m 6 0) e == cdCode (secWord m 6 0) d))

/-- The span of a pool or arena value. -/
def poolSpan (w : Word) : Nat × Nat := (bf w 39 0 * 256, bf w 59 40 * classSize (bf w 63 61))

/-- A pool or arena value is absent, or aligned and inside one extent of an owner (R244). -/
def poolOk (xs : List Extent) (owner : Nat) (w : Word) : Bool :=
  bf w 59 40 == 0 || ((poolSpan w).1 % classSize (bf w 63 61) == 0 && spanIn xs owner (poolSpan w).1 (poolSpan w).2)

/-- A reserve value of a class is absent, or names a pool of its class and a range inside it (R244). -/
def rsvOk (m : Tab (List Byte)) (cls : Nat) (w : Word) : Bool :=
  bf w 19 0 == 0 ||
    (let pool := secPool m (bf w 52 48)
     bf pool 59 40 != 0 && bf pool 63 61 == cls && bf w 39 20 != 0 && decide (bf w 39 20 + bf w 19 0 ≤ bf pool 59 40 + 1) &&
     !(cls == 7 && bf w 40 40 == 1))

/-- The reserves that are present: value number, pool, first index and count. -/
def rsvList (m : Tab (List Byte)) : List (Nat × Nat × Nat × Nat) :=
  (List.range 1024).filterMap fun k =>
    let w := secRsv m k
    if bf w 19 0 = 0 then none else some (k, bf w 52 48, bf w 39 20, bf w 19 0)

/-- An image takes from a stall the extent that holds one of its arenas (R275). -/
def arenaTaken (old new : Tab (List Byte)) (a : Nat) : Bool :=
  bf (secArena old a) 59 40 != 0 && (secExtents old).any fun e =>
    spanIn [e] (a / 4) (poolSpan (secArena old a)).1 (poolSpan (secArena old a)).2 && !(secExtents new).contains e

/-- R114 and R244 on GRANARY, R116 on SFU_PROGRAMS. `taken` names the arenas that R275 judges instead. -/
def granaryChecks (m : Tab (List Byte)) (taken : Nat → Bool) : List (Nat × Nat × Bool) :=
  let xs := secExtents m
  let rs := rsvList m
  ((List.range 32).map fun p => (5, 8 * p, poolOk xs 8 (secPool m p))) ++
  ((List.range 1024).map fun k => (5, 256 + 8 * k, rsvOk m (k % 8) (secRsv m k))) ++
  (rs.zipIdx.map fun ((k, p, f, n), i) =>
    (5, 256 + 8 * k, (rs.take i).all fun (_, p', f', n') => p' != p || !spansMeet f n f' n')) ++
  ((List.range 32).map fun a => (5, 8448 + 8 * a, taken a || poolOk xs (a / 4) (secArena m a))) ++
  ((List.range 8).map fun n => (8, 8 * n, (secSfu m n).isEmpty || secAssigned m n))

/-! ### Clock values (step 12) -/

/-- The value of a bay start in the TIDE section. -/
def secBayStart (m : Tab (List Byte)) (b : Nat) : Nat := bf (secWord m 7 (3 + b)) 23 0

/-- The register checks of the CLOCKS and TIDE values (R115): those of a write of each. -/
def clockChecks (m : Tab (List Byte)) : List (Nat × Nat × Bool) :=
  [(6, 0, (List.range 16).all fun d => decide (cdCode (secWord m 6 0) d ≤ 6)), (6, 8, mdSetpointOk (secWord m 6 1)),
   (7, 8, periodOk (secWord m 7 1)), (7, 16, baysOk (bf (secWord m 7 2) 3 0 + 1) (secBayStart m))] ++
  ((List.range 16).flatMap fun b =>
    [(7, 152 + 16 * b, ownOk 16 (secWord m 7 (19 + 2 * b))), (7, 160 + 16 * b, ownOk 13 (secWord m 7 (20 + 2 * b)))]) ++
  [(7, 408, refPlanOk (secWord m 7 51))]

/-! ### The link plan (step 13) -/

/-- What Table 14.1 says of a port: the roles it may have, and the position of its far end where it names one. -/
def portPlan (size : Nat) (circuit : Bool) (c p : Nat) : List Nat × Option Nat :=
  match size, circuit with
  | 2, false => if p < 15 then ([1, 0], some (c ^^^ (p + 1))) else if p = 15 then ([2, 0], some (c ^^^ 15)) else ([3, 0], none)
  | 1, false =>
    if p < 14 then ([1, 0], some (c ^^^ (p / 2 + 1))) else if p = 14 then ([2, 0], some (c ^^^ 1))
    else if p = 15 then ([2, 0], some (c ^^^ 2)) else ([3, 0], none)
  | 2, true => if p < 16 then ([0], none) else if p < 31 then ([1, 0], some (c ^^^ (p - 15))) else ([2, 3, 0], none)
  | 1, true =>
    if p < 16 then ([0], none) else if p < 30 then ([1, 0], some (c ^^^ ((p - 16) / 2 + 1))) else ([2, 3, 0], none)
  | _, _ => if p < 16 then ([0], none) else ([3, 0], none)

/-- Port p of a plan meets R118, R557, R558, R715 and R753. -/
def portOk (s : State) (m : Tab (List Byte)) (target p : Nat) : Bool :=
  let size := bitsOf target 5 4
  let c := bitsOf target 3 0
  let circuit := (List.range 16).any fun k => secPort m (16 + k) 0 1 == 1
  let (roles, pos) := portPlan size circuit c p
  let role := secPort m p 0 1
  let far := secPort m p 2 2
  let own := secPort m p 1 1
  let fallowPort := (secFallowPorts m).testBit p
  roles.contains role && (!fallowPort || role == 0) && (!(secFallowDies m).testBit (28 + p % 4) || fallowPort) &&
  (role == 0 ||
    (secPort m p 4 1 == p &&
     (circuit || size == 0 || 16 ≤ p || (far / 16 == secGlobalChip m / 16 && some (far % 16) == pos)) &&
     (!circuit || role != 1 ||
       (far != secGlobalChip m && (List.range 32).all fun q =>
         secPort m q 0 1 != 1 || ((portPlan size circuit c q).2 == pos) == (secPort m q 2 2 == far))) &&
     (if role == 1 then own == 0xF || (decide (own < 8) && secAssigned m own) else own == 0xF))) &&
  (if p < 16 || role == 0 then secPort m p 6 2 == 0 else secPort m p 6 2 != 0) &&
  (secPort m p 5 1 == 0 || (!allZero (slice (sect m 12) 8 40) && rfield s .secStatus 61 60 != 2)) &&
  (fieldAt (sect m 12) 1 1 % 2 == 0 || role != 3 || secPort m p 5 1 == 1)

/-- The link plan: the first port that breaches it. -/
def linkBad (s : State) (m : Tab (List Byte)) (target : Nat) : Option Nat :=
  firstBad ((List.range 32).map fun p => (16 * p, portOk s m target p))

/-! ### What a partial image may touch (R130, R275) -/

/-- Bits hi:lo of two words differ only in 4-bit codes that lie, in both, in the allowed set. -/
def codesMove (ok : Nat → Bool) (n : Nat) (a b : Nat) : Bool :=
  (List.range n).all fun k =>
    let x := bitsOf a (4 * k + 3) (4 * k)
    let y := bitsOf b (4 * k + 3) (4 * k)
    x == y || (ok x && ok y)

/-- Every owner code of what lies on the die or stack of a window index is in a set. -/
def dieOwners (ok : Nat → Bool) (m : Tab (List Byte)) (i : Nat) : Bool :=
  if i < 16 then ok (secCdOwner m i)
  else if 28 ≤ i ∧ i < 32 then (List.range 8).all fun l => ok (secPort m (4 * l + (i - 28)) 1 1)
  else if i = 36 ∨ i = 37 then
    ok (secRsOwner m (i - 36)) && (List.range 4).all fun e => ok (secEncOwner m (4 * (i - 36) + e))
  else (secExtents m).all fun e => extentDie e != i || ok e.owner

/-- The fallow bit of a die may change so: owned by no stall before and after; one that is re-admitted may go to a changed
stall in the same image (R130, R143). -/
def fallowMoveOk (free : Nat → Bool) (old new : Tab (List Byte)) (i : Nat) : Bool :=
  let none_ := fun n => n == 0xF
  dieOwners none_ old i && dieOwners (if (secFallowDies old).testBit i then free else none_) new i

/-- The checks of R130 between the sections in force and those of a partial image: by section type and offset. -/
def disturbChecks (old new : Tab (List Byte)) (mask : Nat) : List (Nat × Nat × Bool) :=
  let ch := fun n => decide (n < 8) && mask.testBit n
  let free := fun n => n == 0xF || ch n
  let xo := secExtents old
  let xn := secExtents new
  [(1, 12, secGlobalChip old == secGlobalChip new)] ++
  ((List.range 40).map fun i =>
    (1, 0, (secFallowDies old).testBit i == (secFallowDies new).testBit i || fallowMoveOk free old new i)) ++
  ((List.range 32).map fun p =>
    (1, 8, (secFallowPorts old).testBit p == (secFallowPorts new).testBit p ||
      (secPort old p 1 1 == 0xF && secPort new p 1 1 == 0xF))) ++
  ((List.range 8).map fun n => (2, 64 * n, ch n || secStall old n == secStall new n)) ++
  (xn.zipIdx.map fun (e, i) => (3, 8 + 16 * i, xo.contains e || ch e.owner)) ++
  [(3, 0, xo.all fun e => xn.contains e || ch e.owner),
   (4, 0, codesMove free 16 (fieldAt (sect old 4) 0 8) (fieldAt (sect new 4) 0 8)),
   (4, 8, codesMove free 8 (fieldAt (sect old 4) 8 4) (fieldAt (sect new 4) 8 4)),
   (4, 12, codesMove free 2 (fieldAt (sect old 4) 12 1) (fieldAt (sect new 4) 12 1))] ++
  ((List.range 32).map fun p => (5, 8 * p, secPool old p == secPool new p)) ++
  ((List.range 1024).map fun k => (5, 256 + 8 * k, ch (k / 128) || secRsv old k == secRsv new k)) ++
  ((List.range 32).map fun a => (5, 8448 + 8 * a, ch (a / 4) || secArena old a == secArena new a)) ++
  ((List.range 32).map fun a =>
    (5, 8448 + 8 * a, !arenaTaken old new a || bf (secArena new a) 59 40 == 0)) ++
  ((List.range 16).map fun d =>
    (6, 0, cdCode (secWord old 6 0) d == cdCode (secWord new 6 0) d || (free (secCdOwner old d) && free (secCdOwner new d)))) ++
  ((List.range 2).map fun d =>
    (6, 8, bf (secWord old 6 1) (4 * d + 3) (4 * d) == bf (secWord new 6 1) (4 * d + 3) (4 * d) ||
      [old, new].all fun m => free (secRsOwner m d) && (List.range 4).all fun e => free (secEncOwner m (4 * d + e)))) ++
  (tideRegs.zipIdx.map fun (r, k) =>
    (7, 8 * k, match r.1 with
      | .tidDl => ch r.2 || secWord old 7 k == secWord new 7 k
      | .tidBayOwnLo => codesMove free 16 (secWord old 7 k).toNat (secWord new 7 k).toNat
      | .tidBayOwnHi => codesMove free 13 (secWord old 7 k).toNat (secWord new 7 k).toNat
      | _ => secWord old 7 k == secWord new 7 k)) ++
  ((List.range 8).map fun n => (8, 8 * n, ch n || secSfu old n == secSfu new n)) ++
  ((List.range 8).map fun n => (9, 8 * n, ch n || secNumeric old n == secNumeric new n))

/-! ### Release and clearing (R133, R136, R271) -/

/-- The parts of a span that another span does not cover. -/
def cutSpan (a b : Nat × Nat) : List (Nat × Nat) :=
  if !spansMeet a.1 a.2 b.1 b.2 then [a]
  else
    [(a.1, b.1 - a.1), (b.1 + b.2, a.1 + a.2 - (b.1 + b.2))].filter fun x => x.2 != 0

/-- The parts of spans that no span of a second list covers. -/
def cutSpans (as bs : List (Nat × Nat)) : List (Nat × Nat) := bs.foldl (fun l b => l.flatMap fun a => cutSpan a b) as

/-- The Loft spans of an owner. -/
def loftSpans (m : Tab (List Byte)) (owner : Nat) : List (Nat × Nat) :=
  ((secExtents m).filter fun e => e.owner == owner && !isHbm e.base).map fun e => (e.base, e.size)

/-- The pool index ranges of a stall's reserves, as spans of memory. -/
def reserveSpans (m : Tab (List Byte)) (n : Nat) : List (Nat × Nat) :=
  ((rsvList m).filter fun r => r.1 / 128 == n).map fun (_, p, f, k) =>
    let w := secPool m p
    (bf w 39 0 * 256 + (f - 1) * classSize (bf w 63 61), k * classSize (bf w 63 61))

/-- The Loft that owners give up from one table of sections to the next: another owner's, or nobody's, afterwards. -/
def loftReleased (old new : Tab (List Byte)) : List (Nat × Nat) :=
  (List.range 9).flatMap fun o => cutSpans (loftSpans old o) (loftSpans new o)

/-- The pool ranges that leave a stall's reserves (R271). -/
def poolReleased (old new : Tab (List Byte)) : List (Nat × Nat) :=
  (List.range 8).flatMap fun n => cutSpans (reserveSpans old n) (reserveSpans new n)

/-- The compute dies that a stall gives up. -/
def diesReleased (old new : Tab (List Byte)) : List Nat :=
  (List.range 16).filter fun d => secCdOwner old d != 0xF && secCdOwner old d != secCdOwner new d

/-- The bytes of spans that lie in a range. -/
def bytesIn (l : List (Nat × Nat)) (lo hi : Nat) : Nat := (l.map fun a => min hi (a.1 + a.2) - max lo a.1).sum

/-- A partial image releases no more than R133 allows. -/
def limitOk (old new : Tab (List Byte)) : Bool :=
  let loft := loftReleased old new ++ poolReleased old new
  ((List.range 2).all fun d => decide (bytesIn loft (loftBase + d * loftSize) (loftBase + (d + 1) * loftSize) ≤ 96 * 2 ^ 20)) &&
  decide ((diesReleased old new).length ≤ 2) &&
  ((List.range 12).all fun n => decide (bytesIn (poolReleased old new) (n * hbmSize) ((n + 1) * hbmSize) ≤ 12 * 2 ^ 20))

/-- A span is written with zero. -/
def clearSpan (s : State) (a : Nat × Nat) : State :=
  { s with
    mem := if isHbm a.1 then memPuts a.1 (zeros a.2) s.mem else Tab.delRange a.1 (a.1 + a.2) s.mem
    upsets := s.upsets.filter fun u => !spansMeet (8 * u.1) 8 a.1 a.2 }

/-- The tile SRAM of a compute die. -/
def sramSpan (d : Nat) : Nat × Nat := (sramBase + d * sramStride, 8 * tileSize)

/-! ### The checks in order (Table 3.10) -/

/-- A slot of a scheme holds a key that is not revoked (R102). -/
def slotUsable (prog rev slot : Nat) : Bool := decide (slot < 4) && prog.testBit slot && !rev.testBit slot

/-- A signed region and its signature block verify under the slots (R102): the ML-DSA-87 and the ECDSA part. -/
def mldsaOk (s : State) (slot : Nat) (msg block : List Byte) : Bool :=
  slotUsable s.fuse.mldsaProg s.fuse.mldsaRev slot &&
    Config.mldsaVerify (Tab.getD [] slot s.fuse.mldsaKeys) msg (slice block 0 4627)
/-- The ECDSA P-384 part. -/
def ecdsaOk (s : State) (slot : Nat) (msg block : List Byte) : Bool :=
  slotUsable s.fuse.ecdsaProg s.fuse.ecdsaRev slot &&
    Config.ecdsaVerify (Tab.getD [] slot s.fuse.ecdsaKeys) msg (slice block 4640 96)

/-- The index of a section type in the directory. -/
def sectIndex (b : List Byte) (type : Nat) : Nat := ((dirOf b).findIdx? fun e => e.type == type).getD 0xFF

/-- The first failing check of a list by section type and offset, as a rejection. -/
def rejectBy (b : List Byte) (code : Nat) (l : List (Nat × Nat × Bool)) : Option Reject :=
  (l.find? (fun x => !x.2.2)).map fun x => (code, sectIndex b x.1, x.2.1)

/-- A rejection that names no section. -/
def rejectIf (bad : Bool) (code : Nat) (off : Nat := 0) : Option Reject := if bad then some (code, 0xFF, off) else none

/-- Reserved bits of the header and the shape of the directory (step 7: R101, R104). -/
def directoryBad (b : List Byte) : Option Reject :=
  let n := imgCount b
  let es := dirOf b
  let signed := b.length - sigLen
  let full := !imgPartial b
  let head := firstBad
    [(6, decide (fieldAt b 6 2 < 8)), (20, decide (imgTarget b < 128)), (22, allZero (slice b 22 2)), (88, allZero (slice b 88 40)),
     (12, decide (1 ≤ n) && decide (n ≤ 64) && decide (128 + 64 * n ≤ signed)),
     (24, !full || imgTide b == 0), (32, !full || allZero (slice b 32 48))]
  match head with
  | some o => some (0x07, 0xFF, o)
  | none =>
    match es.zipIdx.find? fun (e, i) =>
        !(e.off % 64 == 0 && decide (128 + 64 * n ≤ e.off) && decide (e.off + e.len ≤ signed) && e.version == 1 && e.rsv == 0 &&
          decide (1 ≤ e.type) && decide (e.type ≤ 12) && (!full || e.mask == 0) &&
          (es.take i).all fun f => f.type != e.type && !spansMeet e.off e.len f.off f.len) with
    | some (_, i) => some (0x07, i, 0)
    | none =>
      rejectIf (full && !([1, 2, 3, 4, 5, 6, 7, 9, 10, 11, 12].all fun t => es.any fun e => e.type == t)) 0x07 12

/-- Steps 1 to 9 of Table 3.10. -/
def checkForm (s : State) (b : List Byte) (m : Tab (List Byte)) : Option Reject :=
  let len := imgLen b
  let block := b.drop (b.length - sigLen)
  let (ml, ec) := imgSlots b
  let active := imgSvn s.img.active
  let es := (dirOf b).zipIdx
  rejectIf (decide (4194304 < len) || decide (len < sigLen + 128) || (len - sigLen) % 64 != 0) 0x01 8 <|>
  rejectIf (fieldAt b 0 4 != 0x4E524142 || fieldAt b 4 1 != 1) 0x02 <|>
  rejectIf (!mldsaOk s ml (imgSigned b) block) 0x03 <|>
  rejectIf (!ecdsaOk s ec (imgSigned b) block) 0x04 <|>
  rejectIf (decide (imgSvn b < s.fuse.svnFloor) || (imgPartial b && decide (imgSvn b < active))) 0x05 16 <|>
  rejectIf (imgTarget b % 128 != s.fuse.straps % 64 + 64 * (s.fuse.grade % 2)) 0x06 20 <|>
  directoryBad b <|>
  ((es.find? fun (e, _) => Config.sha384 (e.bytes b) != e.digest).map fun (_, i) => (0x08, i, 0)) <|>
  (es.findSome? fun (e, i) => (sectionField s m (ml, ec) e (e.bytes b)).map fun o => (0x09, i, o))

/-- Steps 10 to 14, on the sections that stand after the image. -/
def checkPlan (s : State) (b : List Byte) (m : Tab (List Byte)) : Option Reject :=
  ((overlapBad (secExtents m)).map fun o => (0x0A, sectIndex b 3, o)) <|>
  rejectBy b 0x0B (ownershipChecks m ++ granaryChecks m fun a => imgPartial b && arenaTaken s.img.sections m a) <|>
  rejectBy b 0x0C (clockChecks m) <|>
  ((linkBad s m (imgTarget b)).map fun o => (0x0D, sectIndex b 10, o)) <|>
  (if crc32 (slice (sect m 11) 0 60) = fieldAt (sect m 11) 60 4 then none else some (0x0E, sectIndex b 11, 60))

/-- The sections that a partial image may not hold (Table 3.4). -/
def classBad (b : List Byte) : Option Reject :=
  (((dirOf b).zipIdx.find? fun (e, _) => decide (10 ≤ e.type)).map fun (_, i) => (0x11, i, 0))

/-- Steps 15 to 19 of a partial image. -/
def checkPartial (s : State) (b : List Byte) (m : Tab (List Byte)) : Option Reject :=
  let at_ := imgTide b
  rejectIf (slice b 32 48 != s.img.digest) 0x10 32 <|> classBad b <|>
  rejectBy b 0x12 (disturbChecks s.img.sections m (imgChanges b)) <|>
  rejectIf (!limitOk s.img.sections m) 0x13 <|>
  rejectIf (at_ != 0 && (decide (at_ ≤ tideNo s) || (at_ == tideNo s + 1 && s.tide.sampled))) 0x14 24

/-- A full image against the sealed one (step 16, R135), and against failed dies at boot (R742). -/
def checkFull (s : State) (b : List Byte) (m : Tab (List Byte)) : Option Reject :=
  if s.img.isSealed then
    ([11, 12].find? fun t => sect m t != sect s.img.sections t).map fun t => (0x11, sectIndex b t, 0)
  else
    let bad := (rget s .pwrRstFailDies).toNat
    rejectIf ((List.range 40).any fun i => bad.testBit i && !(secFallowDies m).testBit i) 0x16

/-- The image introduces an extent whose key must be drawn (R708). -/
def drawsKeys (s : State) (m : Tab (List Byte)) : Bool :=
  (secExtents m).any fun e => isHbm e.base && !(s.img.inForce && s.plan.extents.contains e)

/-- The whole check of an image (R121, R717): none where it is accepted. A partial image that no image in force underlies
fails its digest comparison. -/
def checkImage (s : State) (b : List Byte) : Option Reject :=
  let m := sectsAfter s b
  checkForm s b m <|>
  (if imgPartial b && !s.img.inForce then some (0x10, 0xFF, 32)
   else
     checkPlan s b m <|> (if imgPartial b then checkPartial s b m else checkFull s b m) <|>
     rejectIf (bitAt (rget s .secStatus) 58 && drawsKeys s m) 0x18)

end Sys2Proof.Machine
end

