-- ==== Sys2Proof/Machine/Image.lean ====
section
/-! DEFINITION. The life of an image (chapter 3): staging, the check, the boot load and the seal, a partial image at its
sampling point and tick, and a full image at a fold reset. -/

namespace Sys2Proof.Machine

/-- The staging store is held (R622). -/
def stagingHeld (s : State) : Bool := s.img.checking.isSome || s.img.pending.isSome || s.img.waiting.isSome

/-! ### Staging and the start of a check -/

/-- STAGING_WRITE (R622): bytes of PF BAR2 go to the staging store; while it is held, or beyond it, the write has no effect
and is an access error. -/
def stagingWrite (q : Requester) (off : Nat) (bytes : List Byte) (s : State) : State :=
  if stagingHeld s then logAccess s .sec 0x02 off (reqCode q)
  else if 4194304 < off + bytes.length then logAccess s .sec 0x01 off (reqCode q)
  else { s with img := { s.img with
    staging := bytes.zipIdx.foldl (fun m (b, i) => if b = 0#8 then Tab.del (off + i) m else Tab.put (off + i) b m) s.img.staging } }

/-- STAGING_WRITE (R622). -/
def execStagingWrite (q : Requester) (off : Nat) (bytes : List Byte) (t : Nat) (s : State) :
    Host.Outcome State Fault Refusal :=
  whenEnabled t (fun s => reachable s q && decide (q = .pf)) (stagingWrite q off bytes) s

/-- The device accepts images at all: not in a reset, not halted, its security tests passed, not RETIRED (R713, R742, R749,
R720, R737). -/
def acceptsImages (s : State) : Bool :=
  phase s != 0 && phase s != 1 && phase s != 8 && !bitAt (rget s .secStatus) 59 && !s.pwr.fuseBad && s.fuse.lifecycle != 3

/-- The effect of START: a check begins, or is refused with BUSY (R120, R139). -/
def startCheck (q : Requester) (s : State) : State :=
  if !acceptsImages s then logAccess s .sec 0x02 (regAddr .secImgCtrl 0 0) (reqCode q)
  else if s.img.checking.isSome || s.img.pending.isSome then reportImage s (0x15, 0xFF, 0)
  else
    let s := { s with img := { s.img with checking := some s.now } }
    if phase s = 2 then setPhase s 3 else s

/-- The effect of a write of SEC_IMG_CTRL whose START is set: only the physical function's (R728). -/
def writeStart (q : Requester) (s : State) : State :=
  if q = .pf then startCheck q s else logAccess s .sec 0x04 (regAddr .secImgCtrl 0 0) (reqCode q)

/-! ### What an image fills -/

/-- Register values of an image are written. -/
def writeRegs (s : State) (l : List (Reg × Nat × Nat × Word)) : State :=
  l.foldl (fun s x => rputX s x.1 x.2.1 x.2.2.1 x.2.2.2) s

/-- Every register that a table of sections fills is written. -/
def writeImageRegs (s : State) (m : Tab (List Byte)) : State := writeRegs s (imageRegs m)

/-- The key epochs of HBM extents (R132, R708): an extent that the old list does not hold, with base, size and owner, has
a key of its own, under which nothing has been written; a dropped extent's bytes are gone with its key. -/
def rekey (s : State) (old new : List Extent) : State :=
  let changed := (old.filter fun e => isHbm e.base && !new.contains e) ++ new.filter fun e => isHbm e.base && !old.contains e
  let top := s.epochs.foldl (fun t x => max t x.2) 0 + 1
  { s with
    mem := changed.foldl (fun m e => Tab.delRange e.base (e.base + e.size) m) s.mem
    upsets := s.upsets.filter fun u => !changed.any fun e => spansMeet (8 * u.1) 8 e.base e.size
    epochs := (new.filter fun e => isHbm e.base && !old.contains e).foldl (fun m e => Tab.put e.base top m) s.epochs }

/-- The measurement of stall n (Table 18.5, index 16 + n). -/
def stallMeasure (m : Tab (List Byte)) (n : Nat) : List Byte :=
  let b := sect m 3
  let exts := (List.range (min 144 (fieldAt b 0 8))).flatMap fun i =>
    if fieldAt b (14 + 16 * i) 1 = n then slice b (8 + 16 * i) 16 else []
  Config.sha384 (secStall m n ++ slice (sect m 9) (8 * n) 8 ++ exts ++ sect m 4 ++ secSfu m n)

/-- The measurements of the stalls of a mask. -/
def measureStalls (s : State) (m : Tab (List Byte)) (mask : Nat) : State :=
  { s with sec := { s.sec with meas := (List.range 8).foldl (fun x n =>
      if mask.testBit n then Tab.put (16 + n) (stallMeasure m n) x else x) s.sec.meas } }

/-- Dies and ports that a fallow mask newly leaves: their passes are used up (R755). -/
def usePasses (s : State) (oldDies newDies oldPorts newPorts : Nat) : State :=
  let used := fun (x : Bool × Nat × Nat) =>
    if x.1 then oldPorts.testBit x.2.1 && !newPorts.testBit x.2.1 else oldDies.testBit x.2.1 && !newDies.testBit x.2.1
  let s := { s with pwr := { s.pwr with passes := s.pwr.passes.filter fun x => !used x } }
  let s := rmod s .pwrRstTestDies (fun w => w &&& ~~~ word (oldDies - (oldDies &&& newDies)))
  rmod s .pwrRstTestPorts (fun w => w &&& ~~~ word (oldPorts - (oldPorts &&& newPorts)))

/-- The multiplier of a re-admitted die takes the stored set-point (R55); where the voltage rise it needs has failed, at
most the highest applied multiplier of its quadrant (R836). -/
def readmitClocks (s : State) (oldDies newDies : Nat) : State :=
  (List.range 16).foldl (fun s d =>
    if oldDies.testBit d && !newDies.testBit d then
      let want := cdCode (rget s .clkSetpointCd) d
      let others := (List.range 4).filterMap fun i =>
        let e := d / 4 * 4 + i
        if e = d ∨ oldDies.testBit e then none else some (cdCode (rget s .clkAppliedCd) e)
      let carried := ((List.range 7).filter fun m => decide (vidOf m ≤ s.pwr.vidWas.getD (d / 4) 66)).foldl max 0
      let top := if others.isEmpty then carried else others.foldl max 0
      rsetField s .clkAppliedCd (4 * d + 3) (4 * d) (if s.tide.heldDomains.contains d then min want top else want)
    else s) s

/-- A table of sections comes into force: the plan, the extent keys, the digest and the active store. -/
def takeSections (s : State) (b : List Byte) (m : Tab (List Byte)) : State :=
  let p := planOf m (imgTarget b)
  let s := rekey s (if s.img.inForce || s.img.isSealed then s.plan.extents else []) p.extents
  let s := usePasses s s.plan.fallowDies p.fallowDies s.plan.fallowPorts p.fallowPorts
  let s := readmitClocks s s.plan.fallowDies p.fallowDies
  let digest := Config.sha384 (imgSigned b)
  let s := { s with
    plan := p
    img := { s.img with active := b, sections := m, digest := digest, inForce := true } }
  rsetField s .secKeyslot 31 16 (fieldAt b 14 2)

/-! ### Boot load and seal (R124-R126, Table 19.4) -/

/-- REVOKE takes effect at a boot seal (R707). -/
def blowRevokes (s : State) : State :=
  let rev := fieldAt s.plan.security 2 1
  { s with fuse := { s.fuse with mldsaRev := s.fuse.mldsaRev ||| rev % 16, ecdsaRev := s.fuse.ecdsaRev ||| rev / 16 } }

/-- ADVANCE_SVN raises the fused floor to the sealed image's SVN (R103). -/
def advanceSvn (s : State) : State :=
  if imgAdvance s.img.active && !imgPartial s.img.active then
    { s with fuse := { s.fuse with svnFloor := max s.fuse.svnFloor (imgSvn s.img.active) } }
  else s

/-- Every tick-applied field and the refresh band are sampled for a first tick (R744). -/
def sampleFirst (s : State) : State :=
  let s := sampleFields s
  { s with tide := { s.tide with hot := s.tide.hotSeen, hotSeen := false } }

/-- Measurements 3 to 5 and those of the stalls (Table 18.5). -/
def measureImage (s : State) : State :=
  let put := fun k v (x : Tab (List Byte)) => Tab.put k v x
  let s := { s with sec := { s.sec with
    meas := put 3 s.img.digest (put 4 (Config.sha384 s.plan.safety) (put 5 (Config.sha384 s.plan.security) s.sec.meas)) } }
  measureStalls s s.img.sections 0xFF

/-- Sealing at boot (R126): RWS registers become read-only, the floor and the revocations take effect, the tick-applied
fields are sampled, the measurements are fixed, and the chip awaits its first tick. -/
def sealBoot (s : State) : State :=
  let s := advanceSvn (blowRevokes { s with img := { s.img with isSealed := true } })
  let s := setPhase (measureImage (sampleFirst s)) 4
  { s with pwr := { s.pwr with readyAt := some s.now, rampEnd := 0 }
           clk := { s.clk with ramp := true, rampAt := s.now } }

/-- A full image accepted at boot: applied, and sealed at once unless SEAL_ON_CMD is set (R125, R714). -/
def applyBoot (s : State) (b : List Byte) : State :=
  let m := sectsOf b
  let s := takeSections (writeImageRegs s m) b m
  let s := { s with sec := { s.sec with lmk := lmkOf s (sect m 12) } }
  if imgSealOnCmd b then s else sealBoot s

/-- An image introduces an HBM extent, for which a key is generated when its check ends (R708). -/
def needsKeys (s : State) (b : List Byte) : Bool :=
  let old := if s.img.inForce || s.img.isSealed then s.plan.extents else []
  (planOf (sectsAfter s b) (imgTarget b)).extents.any fun e => isHbm e.base && !old.contains e

/-- The check ends (R121): rejection, or acceptance at boot, as pending or as waiting. -/
def checkEnd (s : State) : State :=
  let b := stagedImage s
  let s := { s with img := { s.img with checking := none } }
  match checkImage s b <|> rejectIf (s.sec.badSince.isSome && needsKeys s b) 0x18 with
  | some r => rejectImage s r
  | none =>
    let s := reportImage s (0, 0xFF, 0)
    if imgPartial b then
      { s with img := { s.img with pending := some b, applyTide := imgTide b, changes := imgChanges b, applying := false } }
    else if s.img.isSealed then { s with img := { s.img with waiting := some b } }
    else applyBoot s b

/-- IMAGE_CHECK_END (R121); a fold reset discards the check before it can end (R137). -/
def execImageCheckEnd (t : Nat) (s : State) : Host.Outcome State Fault Refusal :=
  whenEnabled t (fun s => s.img.checking.isSome && (s.pwr.fold.isNone || s.pwr.foldRun)) checkEnd s

/-- The effect of a write of SEC_IMG_CTRL whose SEAL is set: it seals an accepted image that waits for it, else it is an
access error (R125). -/
def writeSeal (q : Requester) (s : State) : State :=
  if s.img.inForce && !s.img.isSealed && s.img.checking.isNone then sealBoot s
  else logAccess s .sec 0x02 (regAddr .secImgCtrl 0 0) (reqCode q)

/-- The write of SEC_IMG_CTRL. -/
def writeSecImgCtrl (q : Requester) (v : Word) (s : State) : State :=
  guardedWrite s q .secImgCtrl 0 0 v (fun _ => true) fun s =>
    let s := if bitAt v 0 then writeStart q s else s
    if bitAt v 1 then writeSeal q s else s

/-- START (R120): SEC_IMG_CTRL.START is written. -/
def execStartC (q : Requester) (t : Nat) (s : State) : Host.Outcome State Fault Refusal :=
  whenEnabled t (fun s => reachable s q) (writeSecImgCtrl q 1) s

/-- SEAL (R126): SEC_IMG_CTRL.SEAL is written. -/
def execSealC (q : Requester) (t : Nat) (s : State) : Host.Outcome State Fault Refusal :=
  whenEnabled t (fun s => reachable s q) (writeSecImgCtrl q 2) s

/-! ### A partial image at its tick (R128-R133, R137-R143) -/

/-- The dies and ports that a table of sections re-admits all hold a valid pass (R131, R756). -/
def readmitted (s : State) (m : Tab (List Byte)) : Bool :=
  let dies := (rget s .pwrRstTestDies).toNat
  let ports := (rget s .pwrRstTestPorts).toNat
  ((List.range 40).all fun i => !(s.plan.fallowDies.testBit i && !(secFallowDies m).testBit i) || dies.testBit i) &&
  ((List.range 32).all fun p => !(s.plan.fallowPorts.testBit p && !(secFallowPorts m).testBit p) || ports.testBit p)

/-- The section type that fills a register (Table 3.4). -/
def regSection (r : Reg) : Nat :=
  match r with
  | .stlCtrl | .stlEntry | .stlFbEntry => 2
  | .grnPool | .grnRsv | .grnArena => 5
  | .clkSetpointCd | .clkSetpointMd => 6
  | .dklCfg => 10
  | _ => 7

/-- The registers that the sections of an image itself fill, with their values among the sections m that stand after it: a
partial image leaves the registers of a section that it does not hold (R105, R128). -/
def ownRegs (b : List Byte) (m : Tab (List Byte)) : List (Reg × Nat × Nat × Word) :=
  (imageRegs m).filter fun x => ((dirOf b).map (·.type)).contains (regSection x.1)

/-- The registers that the image fills and that were written in this tide: each overwritten write is an access error of
the requester that made it (R138). -/
def logOverwritten (s : State) (b : List Byte) (m : Tab (List Byte)) : State :=
  (ownRegs b m).foldl (fun s (r, d, i, _) =>
    match Tab.find (r.addr d i) s.img.writtenNow with
    | some who => logAccess s .sec 0x02 (regAddr r d i) who
    | none => s) s

/-- The sampling point with a pending image whose tick comes (R128, R131): its register values are written, or the whole
image is rejected. -/
def sampleImage (s : State) : State :=
  match s.img.pending with
  | none => s
  | some b =>
    if s.img.applyTide ≠ 0 ∧ s.img.applyTide ≠ tideNo s + 1 then s
    else
      let m := sectsAfter s b
      if readmitted s m then
        let s := writeRegs (logOverwritten s b m) (ownRegs b m)
        { s with img := { s.img with applying := true } }
      else
        reportImage { s with img := { s.img with pending := none, changes := 0, applyTide := 0 } } (0x16, 0xFF, 0)

/-- What the applying image releases is written with zero (R133). -/
def clearReleased (s : State) : State :=
  match s.img.pending with
  | some b =>
    if s.img.applying && !s.tide.cleared then
      let m := sectsAfter s b
      let spans := loftReleased s.img.sections m ++ poolReleased s.img.sections m ++
        (diesReleased s.img.sections m).map sramSpan
      let s := spans.foldl clearSpan s
      { s with tide := { s.tide with cleared := true } }
    else s
  | none => s

/-- RELEASE_CLEAR (R133): from the sampling point + 4,000 ns to the tick. -/
def execReleaseClear (t : Nat) (s : State) : Host.Outcome State Fault Refusal :=
  whenEnabled t (fun s => inFence s && s.img.applying && !s.tide.cleared && decide (samplingPoint s + ns 4000 ≤ s.now))
    clearReleased s

/-- The applying tick (R128, R132, R271): on its edge the image becomes the active one. -/
def applyPending (s : State) : State :=
  if !s.img.applying then s
  else
    match s.img.pending with
    | none => s
    | some b =>
      let s := clearReleased s
      let m := sectsAfter s b
      let mask := s.img.changes
      let s := takeSections s b m
      let s := (List.range 8).foldl (fun s n => if mask.testBit n then grnRevise s n else s) s
      let s := measureStalls { s with sec := { s.sec with meas := Tab.put 3 s.img.digest s.sec.meas } } m mask
      { s with img := { s.img with pending := none, applying := false, changes := 0, applyTide := 0 } }

/-! ### A full image at a fold reset (R134-R136, R750, R763) -/

/-- A waiting full image makes every recorded die and stack fallow (R750). -/
def setsAside (m : Tab (List Byte)) (bad : Nat) : Bool :=
  (List.range 40).all fun i => !bad.testBit i || (secFallowDies m).testBit i

/-- The fold reset applies a full image: what passes between owners without a change of key is cleared, the registers are
written, and the image is sealed (R134, R136). -/
def applyFull (s : State) (b : List Byte) : State :=
  let m := sectsOf b
  let old := s.img.sections
  let dies := (List.range 16).filter fun d => secCdOwner old d != secCdOwner m d
  let s := (loftReleased old m ++ poolReleased old m ++ dies.map sramSpan).foldl clearSpan s
  let s := takeSections (writeImageRegs s m) b m
  let s := (List.range 8).foldl grnRevise s
  let s := advanceSvn { s with img := { s.img with waiting := none, isSealed := true } }
  let s := { s with sec := { s.sec with meas := Tab.put 3 s.img.digest s.sec.meas } }
  measureStalls s m 0xFF

end Sys2Proof.Machine
end

