-- ==== Sys2Proof/Machine/Reset.lean ====
section
/-! DEFINITION. Power-on, cold and fold resets, alignment, and the self-tests of fallow dies and ports (chapter 19). -/

namespace Sys2Proof.Machine

/-! ### Power-on reset (R737, R738) -/

/-- Every port is cut, with its paths untested (R671). -/
def cutAll (s : State) : State :=
  (List.range 32).foldl (fun s p => modBwPort (cutOff s p) p fun b => { b with tested := false }) s

/-- The registers of a list, at their present values; every other register at its reset value. -/
def keepRegs (s : State) (rs : List Reg) : State :=
  { s with regs := s.regs.filter fun c => match Reg.decode c.1 with | some (r, _, _) => rs.contains r | none => false }

/-- The package enters power-on reset: all but the fuses and Breakwater's channel P starts from nothing (R737, Table 18.9).
Key epochs only ever rise, so that no byte of HBM is taken for what it held before. -/
def powerOff (s : State) : State :=
  let s := if s.pwr.thermtrip then drivePin s "THERMTRIP_N" true else s
  let s := keepRegs (cutAll s) bwrRegs
  { State.reset with
    now := s.now, free := s.free, pending := s.pending, regs := s.regs, nextId := s.nextId, nextUid := s.nextUid, out := s.out
    epochs := s.epochs, bw := s.bw, fuse := s.fuse
    pwr := { Power.reset with pwrok := s.pwr.pwrok, seqFault := s.pwr.seqFault } }

/-- BWR_ registers at a package power-on: their reset values, but for the lock-out that channel P holds (R685, R692). -/
def packageOnBwr (s : State) : State :=
  let locked := inLockout s && s.bw.sfOn
  let cause := rfield s .bwrStatus 31 24
  let s := rclear s bwrRegs
  if locked then rsetField (rsetField s .bwrStatus 63 63 1) .bwrStatus 31 24 cause else s

/-- PKG_PWROK_RISE (R737): the fuses are sensed and checked, and a cold reset starts 1 ms later. -/
def execPkgPwrokRise (t : Nat) (s : State) : Host.Outcome State Fault Refusal :=
  whenEnabled t (fun s => !s.pwr.pwrok) (fun s =>
    let s := packageOnBwr s
    { s with pwr := { s.pwr with
        pwrok := true, inReset := true, coldDue := !s.pwr.seqFault, coldCause := 1, c0 := s.now + ms 1
        fuseBad := !s.fuse.sound } }) s

/-- PKG_PWROK_FALL (R737, R738): power-on reset; an order breach ends. -/
def execPkgPwrokFall (t : Nat) (s : State) : Host.Outcome State Fault Refusal :=
  whenEnabled t (fun s => s.pwr.pwrok) (fun s =>
    let breach := s.pwr.seqFault
    let s := powerOff { s with pwr := { s.pwr with pwrok := false, seqFault := false } }
    if breach then drivePin s "SEQ_FAULT_N" true else s) s

/-- SEQ_FAULT (R738): a rail of a step after the first enters its window too early; the device stays in power-on reset. -/
def execSeqFault (rail : Nat) (t : Nat) (s : State) : Host.Outcome State Fault Refusal :=
  whenEnabled t (fun s => s.pwr.inReset && !s.pwr.seqFault && decide (1 ≤ rail) && decide (rail ≤ 10))
    (fun s => drivePin { s with pwr := { s.pwr with seqFault := true, coldDue := false } } "SEQ_FAULT_N" false) s

/-- VAUX_FAULT (R738): power-on reset, until PKG_PWROK has fallen and risen. -/
def execVauxFault (t : Nat) (s : State) : Host.Outcome State Fault Refusal :=
  whenEnabled t (fun s => s.pwr.pwrok) powerOff s

/-! ### The test of a fallow target, and its end by a reset (R754, R755, R762) -/

/-- The bit of a target in PWR_RST_TEST_DIES or PWR_RST_TEST_PORTS. -/
def setPass (s : State) (port : Bool) (i : Nat) (on : Bool) : State :=
  rmod s (if port then .pwrRstTestPorts else .pwrRstTestDies) fun w => setBit w i on

/-- A test's result is shown (PWR_RST_TEST_LAST). -/
def testResult (s : State) (port : Bool) (i result block : Nat) : State :=
  let s := { s with pwr := { s.pwr with test := none } }
  rput s .pwrRstTestLast (word (result * 2 ^ 61 + block % 256 * 2 ^ 48 + port.toNat * 2 ^ 47 + i * 2 ^ 40 + tideNo s % 2 ^ 40))

/-- A running test is abandoned (R762). -/
def abandonTest (s : State) : State :=
  match s.pwr.test with
  | some (port, i, _) => testResult s port i 3 0
  | none => s

/-- What a target's self-test leaves in its memory: zero in SRAM and Loft, nothing known under any key in HBM (R751). -/
def testedMemory (s : State) (port : Bool) (i : Nat) : State :=
  let span : Nat × Nat :=
    if port then (0, 0)
    else if i < 16 then (sramBase + i * sramStride, sramBase + (i + 1) * sramStride)
    else if i < 28 then ((i - 16) * hbmSize, (i - 15) * hbmSize)
    else if 34 ≤ i ∧ i < 36 then (loftBase + (i - 34) * loftSize, loftBase + (i - 33) * loftSize)
    else (0, 0)
  { s with mem := Tab.delRange span.1 span.2 s.mem
           upsets := s.upsets.filter fun u => !(decide (span.1 ≤ 8 * u.1) && decide (8 * u.1 < span.2)) }

/-- The target of a PWR_RST_TEST_CMD word: KIND and INDEX. -/
def testTarget (v : Word) : Bool × Nat := (bitAt v 6, bf v 5 0)

/-- The target is fallow. -/
def targetFallow (s : State) (x : Bool × Nat) : Bool := if x.1 then portFallow s x.2 else fallow s x.2

/-- TEST may start (R754). -/
def testOk (s : State) (v : Word) : Bool :=
  let x := testTarget v
  decide (x.2 < (if x.1 then 32 else 40)) && targetFallow s x && s.pwr.test.isNone && (phase s == 5 || phase s == 7)

/-- POWER_DOWN: the target loses its pass; a test of it is abandoned (R755). -/
def powerDown (v : Word) (s : State) : State :=
  let x := testTarget v
  let s := match s.pwr.test with
    | some (port, i, _) => if port == x.1 && i == x.2 then abandonTest s else s
    | none => s
  setPass { s with pwr := { s.pwr with passes := s.pwr.passes.filter fun y => !(y.1 == x.1 && y.2.1 == x.2) } } x.1 x.2 false

/-- The write of PWR_RST_TEST_CMD (R754, R757). While a test runs, PWR_RST_TEST_LAST shows BUSY and the target. -/
def writeTestCmd (q : Requester) (v : Word) (s : State) : State :=
  let op := bf v 63 56
  guardedWrite s q .pwrRstTestCmd 0 0 v (fun s => (op == 1 && testOk s v) || op == 2) fun s =>
    if op = 1 then
      let x := testTarget v
      rput { s with pwr := { s.pwr with test := some (x.1, x.2, s.now) } } .pwrRstTestLast
        (word (2 ^ 63 + x.1.toNat * 2 ^ 47 + x.2 * 2 ^ 40))
    else powerDown v s

/-- TEST (R754). -/
def execTest (q : Requester) (v : Word) (t : Nat) (s : State) : Host.Outcome State Fault Refusal :=
  whenEnabled t (fun s => reachable s q && bf v 63 56 == 1) (writeTestCmd q v) s

/-- POWER_DOWN (R755). -/
def execPowerDown (q : Requester) (v : Word) (t : Nat) (s : State) : Host.Outcome State Fault Refusal :=
  whenEnabled t (fun s => reachable s q && bf v 63 56 == 2) (writeTestCmd q v) s

/-- SELF_TEST_DONE (R751, R755): the test ends, with the failing block, or 0 where it passed. -/
def execSelfTestDone (block : Nat) (t : Nat) (s : State) : Host.Outcome State Fault Refusal :=
  whenEnabled t (fun s => s.pwr.test.isSome) (fun s =>
    match s.pwr.test with
    | none => s
    | some (port, i, _) =>
      let s := testedMemory s port i
      if block = 0 then
        let s := testResult s port i 1 0
        setPass { s with pwr := { s.pwr with passes := s.pwr.passes.filter (fun y => !(y.1 == port && y.2.1 == i)) ++
          [(port, i, s.now)] } } port i true
      else testResult s port i 2 block) s

/-- TEST_PASS_EXPIRE (R755): a pass is 60 s old; targets 0-39 are dies and stacks, 40-71 the ports. -/
def execTestPassExpire (target : Nat) (t : Nat) (s : State) : Host.Outcome State Fault Refusal :=
  let port := decide (40 ≤ target)
  let i := if port then target - 40 else target
  whenEnabled t (fun s => decide (target < 72) &&
      s.pwr.passes.any fun y => y.1 == port && y.2.1 == i && decide (y.2.2 + ms 60000 ≤ s.now))
    (fun s => setPass { s with pwr := { s.pwr with
      passes := s.pwr.passes.filter fun y => !(y.1 == port && y.2.1 == i) } } port i false) s

/-! ### Cold reset (R740-R742, Table 19.3) -/

/-- The registers that a cold reset keeps, whole or in part (R53, R692, R728, R784, R794). -/
def coldKept : List Reg :=
  bwrRegs ++ [.clkAlignStatus, .hltAcc, .hltEcc, .secStatus, .logStatus, .pwrRstTestLast]

/-- The parts of the kept registers that a cold reset clears: ALIGNED and FAIL of CLK_ALIGN_STATUS, CORRECTED of HLT_ECC,
all of SEC_STATUS but TAMPER_COUNT and the debug state, which the latch gives (R723); the test that was abandoned shows in
PWR_RST_TEST_LAST, which is otherwise cleared (R757, R762). -/
def coldParts (s : State) (tested : Bool) (debug : Nat) : State :=
  let s := rmod s .clkAlignStatus fun w => setBf w 15 0 0
  let s := (List.range 8).foldl (fun s k => rmod s .hltEcc (fun w => setBf w 63 32 0) 0 k) s
  let s := rmod s .secStatus fun w => setBf (setBf w 63 48 0) 61 60 debug
  if tested then s else rput s .pwrRstTestLast 0

/-- A cold reset starts (time 0 of Table 19.3). A cold reset in a debug state other than LOCKED is a tamper reset (R725),
unless a tamper reset brought it about. -/
def coldStart (s : State) (cause : Nat) : State :=
  let tamper := rfield s .secStatus 61 60 != 0 && cause != 4
  let s := if tamper then rbump s .secStatus 47 32 else s
  let tested := s.pwr.test.isSome
  let debug := s.sec.latch
  let s := cutAll (abandonTest (discardImages s true))
  let s := coldParts (keepRegs s coldKept) tested debug
  let s := rsetField (setPhase s 1) .pwrRstStatus 55 48 (if tamper then 4 else cause)
  { State.reset with
    now := s.now, free := s.free, pending := s.pending, regs := s.regs, log := s.log, nextId := s.nextId, nextUid := s.nextUid
    out := s.out, epochs := s.epochs, fuse := s.fuse, health := { s.health with loftAt := 0, tileAt := 0, scrubbed := false }
    clk := { Clock.reset with
      refBad := s.clk.refBad, lnkBad := s.clk.lnkBad, safeBad := s.clk.safeBad, refGoodFrom := s.clk.refGoodFrom
      monStopped := s.clk.monStopped, telStopped := s.clk.telStopped, told := s.clk.told }
    tide := { Tide.reset with tick := s.now }
    host := { HostIf.reset with perst := s.host.perst, trained := s.host.trained }
    pwr := { Power.reset with
      pwrok := s.pwr.pwrok, inReset := false, c0 := s.now, thermtrip := s.pwr.thermtrip, fuseBad := s.pwr.fuseBad
      gated := List.range 16 }
    bw := { s.bw with ports := s.bw.ports.map fun x => (x.1, { BwPort.clear with passed := x.2.passed, holdTill := x.2.holdTill }) }
    sec := { Sec.reset with badSince := s.sec.badSince, seededAt := s.now } }

/-- COLD_RESET (R739): the cold reset that is due at C0, or COLD_RST_N held low for 1 µs. -/
def execColdReset (t : Nat) (s : State) : Host.Outcome State Fault Refusal :=
  whenEnabled t (fun s => if s.pwr.coldDue then decide (s.pwr.c0 ≤ s.now) else !s.pwr.inReset)
    (fun s => coldStart s (if s.pwr.coldDue then s.pwr.coldCause else 2)) s

/-- SUPPLY_FAULT (R738, R818, R838): a rail other than VAUX and SF_VDD leaves its window. -/
def execSupplyFault (rail : Nat) (t : Nat) (s : State) : Host.Outcome State Fault Refusal :=
  whenEnabled t (fun s => !s.pwr.inReset && decide (1 ≤ rail) && decide (rail ≤ 10)) (fun s => coldStart s 5) s

/-- The write of PWR_RST_CTRL (R739, R757): FOLD with key 0 by the physical function or BC8, COLD with key 0xC3C3 by the
physical function. -/
def writePwrRst (q : Requester) (v : Word) (s : State) : State :=
  let op := bf v 63 56
  if q = .bc8 ∧ op = 2 then logAccess s .pwr 0x04 (regAddr .pwrRstCtrl 0 0) (reqCode q)
  else
    guardedWrite s q .pwrRstCtrl 0 0 v
      (fun _ => (op == 1 && bf v 15 0 == 0) || (op == 2 && bf v 15 0 == 0xC3C3)) fun s =>
      if op = 1 then triggerFold s .requested else coldStart s 3

/-- COLD (R739). -/
def execCold (q : Requester) (v : Word) (t : Nat) (s : State) : Host.Outcome State Fault Refusal :=
  whenEnabled t (fun s => reachable s q && bf v 63 56 == 2) (writePwrRst q v) s

/-- FOLD (R739, R746). -/
def execFold (q : Requester) (v : Word) (t : Nat) (s : State) : Host.Outcome State Fault Refusal :=
  whenEnabled t (fun s => reachable s q && bf v 63 56 == 1) (writePwrRst q v) s

/-- A mask of die and stack numbers. -/
def maskOfList (l : List Nat) : Nat := l.foldl (fun m i => if m.testBit i then m else m + 2 ^ i) 0

/-- Measurement 2 (Table 18.5): the fuse state, raw. -/
def fuseMeasure (s : State) : List Byte :=
  leBytes 1 s.fuse.lifecycle ++ leBytes 4 s.fuse.svnFloor ++
    leBytes 2 (s.fuse.mldsaProg + 16 * s.fuse.mldsaRev + 256 * s.fuse.ecdsaProg + 4096 * s.fuse.ecdsaRev) ++ leBytes 1 s.fuse.grade

/-- The end of a cold reset (R713, R741, R742): the failing dies are recorded; the device waits for an image, or is halted
where a die that may never be fallow has failed. -/
def coldReady (failDies : List Nat) (secOk : Bool) (s : State) : State :=
  let bad := maskOfList (failDies.filter (· < 40))
  let debug := rfield s .secStatus 61 60
  let retired := s.pwr.fuseBad || s.fuse.lifecycle == 3
  let s := rput s .pwrRstFailDies (word bad)
  let s := if secOk then s else rsetField s .secStatus 59 59 1
  let s := setPhase s (if bad.testBit 38 || bad.testBit 39 || bad.testBit 32 || bad.testBit 33 then 8 else 2)
  { s with
    sec := { s.sec with
      deviceId := secOk && debug != 2 && !retired
      meas := [(1, Config.romDigest), (2, fuseMeasure s), (6, leBytes 1 debug)] }
    host := { s.host with up := !s.host.perst } }

/-- COLD_RESET_READY (R741, R742): `secOk` tells whether the security self-tests passed (R713); they wait for an entropy
source that has passed its start-up test (R733). -/
def execColdResetReady (failDies : List Nat) (secOk : Bool) (t : Nat) (s : State) : Host.Outcome State Fault Refusal :=
  whenEnabled t (fun s => phase s == 1 && !s.pwr.inReset && s.pwr.aligned && s.sec.badSince.isNone) (coldReady failDies secOk) s

/-! ### Alignment (R482, R483) -/

/-- The mask of the domains that lock once their PLLs and sources run: all but those that have stopped (Table 1.10). -/
def lockingDomains (s : State) : Nat :=
  maskOfList ((List.range 60).filter fun n => !(n == 57 && s.clk.monStopped) && !(n == 58 && s.clk.telStopped))

/-- A reset that has come to its alignment. -/
def aligning (s : State) : Bool := (phase s == 1 && !s.pwr.inReset) || s.pwr.foldRun

/-- ALIGN_START (R482, R761, R827): every running PLL has locked; the reset waits for REFCLK and for the dies to cool. -/
def execAlignStart (t : Nat) (s : State) : Host.Outcome State Fault Refusal :=
  whenEnabled t (fun s => aligning s && !s.clk.refBad && !s.pwr.tripWait && s.pwr.alignAt.isNone && !s.pwr.aligned &&
      decide (s.pwr.alignTries < 4)) (fun s =>
    let s := rmod s .clkLockStatus fun w => w ||| word (lockingDomains s)
    { rmod s .clkAlignStatus (fun w => setBit w 0 false) with pwr := { s.pwr with alignAt := some (beatUp s.now) } }) s

/-- ALIGN_CHECK_END (R482, R483): the attempt passes, or the lowest failing domain is `bad`; the fourth failure halts a cold
reset and fails the fold reset's check. -/
def execAlignCheckEnd (bad : Option Nat) (t : Nat) (s : State) : Host.Outcome State Fault Refusal :=
  whenEnabled t (fun s => due (s.pwr.alignAt.map (· + beats 1040)) s.now) (fun s =>
    let s := { s with pwr := { s.pwr with alignAt := none } }
    match bad with
    | none =>
      let s := rmod s .clkAlignStatus fun w => setBit (setBit w 0 true) 1 false
      { rbump s .clkAlignStatus 31 16 with pwr := { s.pwr with aligned := true } }
    | some n =>
      let s := rmod s .clkAlignStatus fun w => setBf (setBit w 1 true) 15 8 n
      let tries := s.pwr.alignTries + 1
      let s := { s with pwr := { s.pwr with alignTries := tries } }
      if tries < 4 then s
      else
        let s := logRaw s none 7 .clk 0x01 1 0
        if s.pwr.foldRun then { s with pwr := { s.pwr with badCheck := some 1 } } else setPhase s 8) s

/-! ### Fold reset (R746-R750, Table 19.5) -/

/-- The logic reset of Table 19.5: engines, queues, tallies, parks, work lists and sessions return to their reset state;
the stores and tables of R174, the endpoint and the registers that their chapters keep stay. -/
def logicReset (s : State) : State :=
  let loss := match s.pwr.fold with | some (_, .chipLoss) => true | _ => false
  let foldPass := match s.img.waiting with | some b => readmitted s (sectsOf b) | none => false
  let s := cutAll (abandonTest (discardImages s loss))
  let s := rclear s [.hauBytes, .mtxTileBusy, .vecUnitBusy, .sfuBusy, .sfuEcc, .dklErr, .dklFec, .topCable, .grnStatus,
    .thrRound, .fryArrive, .fryReturn, .medRsStatus, .medRsBusy, .medEncStatus, .medEncBytes, .medEncCapped, .medErr,
    .pwrRstTestDies, .pwrRstTestPorts]
  let s := rsetField (rmod s .bcnStwCtrl fun w => setBit w 1 false) .hltInject 63 62 0
  let s := rmod s .clkAlignStatus fun w => setBit w 0 false
  { s with
    tide := { Tide.reset with
      t0 := s.tide.t0, k := s.tide.k, tick := s.tide.tick, hotSeen := s.tide.hotSeen }
    ctxs := s.ctxs.map fun x => (x.1, if x.1 = 16 then { Ctx.clear with uid := x.2.uid } else x.2)
    stalls := s.stalls.map fun x => (x.1, { x.2 with queue := [], urgentReq := none, stepsThisTide := 0 })
    cmds := [], tiles := State.reset.tiles, sigs := [], tallies := [], parks := [], bank := [], heldKill := [], notices := []
    grReqs := [], grWrites := [], grDefer := [], grLast := []
    host := { s.host with
      reads := s.host.reads.map fun r => { r with orphan := true }
      queue := s.host.queue.filter (·.urgent) }
    ports := s.ports.map fun x => (x.1, { Port.clear with
      session := x.2.session, nonce := x.2.nonce, since := s.now, light := x.2.light, losAt := x.2.losAt })
    health := { s.health with loftAt := 0, tileAt := 0, scrubbed := false }
    pwr := { s.pwr with
      foldRun := true, foldPass := foldPass, alignTries := 0, alignAt := none, aligned := false, readyAt := none, passes := [] } }

/-- FOLD_RESET (R746, R747): from 20 µs after the trigger. -/
def execFoldReset (t : Nat) (s : State) : Host.Outcome State Fault Refusal :=
  whenEnabled t (fun s => !s.pwr.foldRun && due (s.pwr.fold.map (·.1 + us 20)) s.now) logicReset s

/-- The current side of a slot lies in Loft or tile SRAM (R174). -/
def sideVolatile (s : State) (p : PubSlot) : Bool :=
  let h := p.handle p.side
  h != 0 && !isHbm (keySpan s (keyOf h)).1

/-- R174: slots whose current side lies in Loft or tile SRAM are invalid. -/
def dropVolatile (s : State) : State :=
  { s with pub := s.pub.map fun x => if sideVolatile s x.2 then (x.1, { x.2 with invalid := true }) else x }

/-- R174: the entries and the OUTCOME events of the steps that a chip loss ended; an echo run's entry stays (R175, R627). -/
def reportLost (s : State) : State :=
  let s := s.pwr.lost.foldl (fun s x =>
    let n := stallNo x.c
    let s := if x.req.echo then s
      else setCmt s n (x.req.step % 64) (cmtWord (tideNo s) 0 x.variant x.attempt false x.req.urgent false 3 x.req.step) 0
    postOutcome s x.c { x.req with tag := 0 } x.attempt x.variant 3 0) s
  { s with pwr := { s.pwr with lost := [] } }

/-- R174: every held transfer of each committed step that drains is issued again, in commit order (R769, R771). -/
def reissueHeld (s : State) : State :=
  let s := (List.range 8).foldl (fun s n =>
    let ds := (stallOf s n).drains
    let s := modStall s n fun st => { st with drains := st.drains.map fun d => { d with left := (d.held.map heldWrites).sum } }
    ds.foldl (fun s d =>
      d.held.foldl (fun s h => issueHeld s (2 * n + d.req.urgent.toNat) (some (n, d.req.step)) h) s) s) s
  hostFlush s

/-- The first check marked Halted that fails (Table 19.6), by its row: what the state shows, or what the command says. -/
def haltedRow (s : State) (fail : Option Nat) : Option Nat :=
  let said := match fail with | some r => if 2 ≤ r ∧ r ≤ 6 then some r else none | none => none
  match s.pwr.badCheck with
  | some r => some r
  | none =>
    if s.img.inForce && Config.sha384 (imgSigned s.img.active) != s.img.digest then some 2
    else if !(s.pub.all fun x => x.2.sound) || !(s.cmt.all fun x => x.2.sound) then some 3
    else if !grnSound s then some 5
    else said

/-- What every end of a fold reset shows in PWR_RST_STATUS: FOLD_COUNT, FOLD_US, FAILED_CHECK and PHASE; and the FOLD_DONE
event (Table 16.6). -/
def foldEnds (s : State) (row phase result : Nat) : State :=
  let f := match s.pwr.fold with | some (f, _) => f | none => s.now
  let s := rbump s .pwrRstStatus 47 32
  let s := rsetField s .pwrRstStatus 31 16 (min ((s.now - f) / us 1) 0xFFFF)
  let s := setPhase (rsetField s .pwrRstStatus 15 8 row) phase
  postPf { s with pwr := { s.pwr with fold := none, foldRun := false, badCheck := none } } 0x13 result 0 3

/-- A check marked Halted has failed (R749, R127): no image is in force until a cold reset. -/
def foldHalted (row : Nat) (s : State) : State :=
  let s := if row = 1 then s else logRaw s none 7 .pwr 0x02 row 0
  let s := if row = 2 then reportImage s (0x08, 0xFF, 0) else s
  let s := if row = 6 then rsetField s .secStatus 59 59 1 else s
  foldEnds { s with img := { s.img with inForce := false }, pwr := { s.pwr with lost := [] } } row 8 2

/-- The waiting full image that a requested fold reset applies, or rejects (R134, R750, R763). -/
def foldImage (bad : Nat) (s : State) : State :=
  match s.pwr.fold, s.img.waiting with
  | some (_, .requested), some b =>
    if s.pwr.foldPass && setsAside (sectsOf b) bad then applyFull s b
    else reportImage { s with img := { s.img with waiting := none } } (0x16, 0xFF, 0)
  | _, _ => s

/-- The checks have passed, or only dies and stacks have failed theirs (R750): the row that failed is `row`, the recorded
ones are `bad`. -/
def foldPassed (row bad : Nat) (s : State) : State :=
  let s := grnRebuild (dropVolatile s)
  let s := foldImage bad s
  let left := maskOfList ((List.range 40).filter fun i => bad.testBit i && !fallow s i)
  let s := rput s .pwrRstFailDies (word left)
  let s := reissueHeld (reportLost s)
  let s := { s with sec := { s.sec with seededAt := s.now } }
  if left ≠ 0 then foldEnds { s with img := { s.img with inForce := false } } row 7 2
  else if !s.img.isSealed then foldEnds s 0 2 2
  else
    let s := sampleFirst { s with img := { s.img with inForce := true } }
    foldEnds { s with clk := { s.clk with ramp := true, rampAt := s.now }
                      pwr := { s.pwr with readyAt := some s.now, rampEnd := 0 } } 0 4 1

/-- FOLD_DONE (R747, R749, R750): the checks have run; `fail` is the row of Table 19.6 that the tests report, with 16 × the
window index of the die or stack for rows 7 and 8. -/
def execFoldDone (fail : Option Nat) (t : Nat) (s : State) : Host.Outcome State Fault Refusal :=
  whenEnabled t (fun s => s.pwr.foldRun && (s.pwr.aligned || s.pwr.badCheck == some 1) && !s.sec.waitEntropy && !s.pwr.tripWait)
    (fun s =>
      match haltedRow s fail with
      | some r => foldHalted r s
      | none =>
        match fail with
        | some r => if (r % 16 = 7 ∨ r % 16 = 8) ∧ r / 16 < 40 ∧ !fallow s (r / 16) then foldPassed (r % 16) (2 ^ (r / 16)) s
                    else foldPassed 0 0 s
        | none => foldPassed 0 0 s) s

/-- TRIP_WAIT_END (R827): every die reads below 95 °C. -/
def execTripWaitEnd (t : Nat) (s : State) : Host.Outcome State Fault Refusal :=
  whenEnabled t (fun s => s.pwr.tripWait)
    (fun s => rsetField { s with pwr := { s.pwr with tripWait := false } } .pwrStatus 61 61 0) s

end Sys2Proof.Machine
end

