-- ==== Sys2Proof/Machine/Security.lean ====
section
/-! DEFINITION. The security controller (chapter 18): the entropy source, SPDM over the management path, the state-changing
requests and their tokens, and the tamper reset. -/

namespace Sys2Proof.Machine

/-! ### The management path (R644, R718). Response codes are those of SPDM 1.3 (PRESUMED, log entry 37). -/

/-- A management answer leaves. -/
def answer (s : State) (code : Nat) (bytes : List Byte) : State := { s with out := Out.mgmt code bytes :: s.out }
/-- ERROR with a reason: 0x03 Busy, 0x05 for every other case. -/
def answerError (s : State) (reason : Nat) : State := answer s 0x7F (leBytes 1 reason)
/-- VENDOR_DEFINED_RESPONSE. -/
def answerVendor (s : State) (bytes : List Byte) : State := answer s 0x7E bytes

/-- The management path works: from the end of power-on reset, while domain 58 runs (R644, Table 1.10). -/
def mgmtUp (s : State) : Bool := !s.pwr.inReset && !s.clk.telStopped

/-- A part that behaves as RETIRED (R720, R737). -/
def retired (s : State) : Bool := s.pwr.fuseBad || s.fuse.lifecycle == 3

/-- LIFECYCLE as requests meet it. -/
def lifecycle (s : State) : Nat := if s.pwr.fuseBad then 3 else s.fuse.lifecycle

/-! ### Random values (R716, R717) -/

/-- The secure session opens; its keys come from the exchange (R734). -/
def openSession (msg : List Byte) (s : State) : State :=
  let (r, s) := draw s
  answer { s with sec := { s.sec with session := true } } 0x64 (Config.spdmAnswer 0x64 msg [leBytes 32 r])

/-- A nonce is drawn, live for 60 s (Table 18.6). -/
def giveNonce (s : State) : State :=
  let (r, s) := draw s
  let n := leBytes 16 r
  answerVendor { s with sec := { s.sec with nonces := (s.now, n) :: s.sec.nonces } } n

/-- One held request proceeds. -/
def serveHeld (s : State) (r : Bool × List Byte) : State :=
  if r.1 then (if s.sec.session then giveNonce s else answerError s 0x05)
  else if s.sec.session then answerError s 0x03 else openSession r.2 s

/-- ENTROPY_TEST_FAIL (R717): a continuous test fails; the DRBG stops. -/
def execEntropyTestFail (adaptive : Bool) (t : Nat) (s : State) : Host.Outcome State Fault Refusal :=
  whenEnabled t (fun s => !s.pwr.inReset) (fun s =>
    let s := if adaptive then rbump s .secEntropy 15 0 else rbump s .secEntropy 31 16
    { rsetField s .secStatus 58 58 1 with sec := { s.sec with badSince := some (s.sec.badSince.getD s.now) } }) s

/-- ENTROPY_STARTUP_PASS (R717): a fresh start-up test passes; the DRBG reseeds and every held request proceeds. -/
def execEntropyStartupPass (t : Nat) (s : State) : Host.Outcome State Fault Refusal :=
  whenEnabled t (fun s => s.sec.badSince.isSome) (fun s =>
    let held := s.sec.held
    held.foldl serveHeld
      { s with sec := { s.sec with badSince := none, waitEntropy := false, seededAt := s.now, held := [] } }) s

/-- ENTROPY_RECOVERY_TIMEOUT (R717): 100 ms have passed without a pass: chip loss, whose fold reset waits for one. -/
def execEntropyRecoveryTimeout (t : Nat) (s : State) : Host.Outcome State Fault Refusal :=
  whenEnabled t (fun s => !s.sec.waitEntropy && due (s.sec.badSince.map (· + ms 100)) s.now)
    (fun s => lossUnlisted { s with sec := { s.sec with waitEntropy := true } } .sec (regAddr .secEntropy 0 0)) s

/-- DRBG_RESEED (R716). -/
def execDrbgReseed (t : Nat) (s : State) : Host.Outcome State Fault Refusal :=
  whenEnabled t (fun s => !s.pwr.inReset && s.sec.badSince.isNone)
    (fun s => { s with sec := { s.sec with seededAt := s.now } }) s

/-! ### Tamper reset (R725, Table 18.9) -/

/-- A tamper reset: the keys are cleared, every uncommitted step fails, and a cold reset follows 10 µs later. -/
def tamperReset (s : State) (cause : Nat) : State :=
  let s := (List.range 16).foldl (fun s c => stepFail s .sec c cause) s
  let s := rbump s .secStatus 47 32
  { s with
    mem := s.mem.filter fun c => !isHbm c.1
    sec := { s.sec with lmk := [], deviceId := false, session := false, nonces := [], held := [] }
    pwr := { s.pwr with
      coldDue := true, coldCause := 4, c0 := if s.pwr.coldDue then s.pwr.c0 else s.now + us 10 } }

/-- SUPPLY_GLITCH (R725). -/
def execSupplyGlitch (t : Nat) (s : State) : Host.Outcome State Fault Refusal :=
  whenEnabled t (fun s => !s.pwr.inReset) (fun s => tamperReset s 0x68) s

/-! ### SPDM (R718, R719, R734) -/

/-- GET_MEASUREMENTS (R719): a snapshot of Table 18.5, Busy during a fold reset; an ERROR while DeviceID is not derived. -/
def execGetMeasurements (nonce : List Byte) (t : Nat) (s : State) : Host.Outcome State Fault Refusal :=
  whenEnabled t mgmtUp (fun s =>
    if s.pwr.fold.isSome then answerError s 0x03
    else if !s.sec.deviceId then answerError s 0x05
    else answer s 0x60 (Config.spdmAnswer 0x60 nonce (s.sec.meas.map fun m => leBytes 1 m.1 ++ m.2))) s

/-- KEY_EXCHANGE (R734). -/
def execKeyExchange (msg : List Byte) (t : Nat) (s : State) : Host.Outcome State Fault Refusal :=
  whenEnabled t mgmtUp (fun s =>
    if !s.sec.deviceId || retired s then answerError s 0x05
    else if s.sec.session then answerError s 0x03
    else if s.sec.badSince.isSome then { s with sec := { s.sec with held := s.sec.held ++ [(false, msg)] } }
    else openSession msg s) s

/-- SPDM_SESSION_END (Table 18.2): the session's keys are destroyed. -/
def execSpdmSessionEnd (t : Nat) (s : State) : Host.Outcome State Fault Refusal :=
  whenEnabled t (fun s => mgmtUp s && s.sec.session)
    (fun s => answer { s with sec := { s.sec with session := false } } 0x6C []) s

/-! ### State-changing requests (Table 18.6) -/

/-- A request in a session and in one of the lifecycles; elsewhere it is answered with ERROR. -/
def inSession (cycles : List Nat) (eff : State → State) (s : State) : State :=
  if s.sec.session && cycles.contains (lifecycle s) then eff s else answerError s 0x05

/-- PROGRAM_SLOT (R706): byte 0 the scheme (0 ML-DSA-87, 1 ECDSA P-384), byte 1 the slot, then the public key (DESIGN
CHOICE, log entry 37); a slot whose words fail their complement check is revoked at once. -/
def programSlot (msg : List Byte) (sound : Bool) (s : State) : State :=
  let scheme := fieldAt msg 0 1
  let n := fieldAt msg 1 1
  let key := msg.drop 2
  let prog := if scheme = 0 then s.fuse.mldsaProg else s.fuse.ecdsaProg
  if 1 < scheme ∨ n = 0 ∨ 4 ≤ n ∨ prog.testBit n ∨ key.length ≠ (if scheme = 0 then 2592 else 97) then answerError s 0x05
  else
    let rev := if sound then 0 else 2 ^ n
    let f := s.fuse
    let f :=
      if scheme = 0 then
        { f with mldsaProg := f.mldsaProg ||| 2 ^ n, mldsaRev := f.mldsaRev ||| rev, mldsaKeys := Tab.put n key f.mldsaKeys }
      else
        { f with ecdsaProg := f.ecdsaProg ||| 2 ^ n, ecdsaRev := f.ecdsaRev ||| rev, ecdsaKeys := Tab.put n key f.ecdsaKeys }
    answerVendor { s with fuse := f } []

/-- PROGRAM_SLOT (R706). -/
def execProgramSlot (msg : List Byte) (sound : Bool) (t : Nat) (s : State) : Host.Outcome State Fault Refusal :=
  whenEnabled t mgmtUp (inSession [1] (programSlot msg sound)) s

/-- EXPORT_KT (R705, R720): KT is returned inside the session, but not in OPEN, where it cannot be used (Table 18.8). -/
def execExportKt (_msg : List Byte) (t : Nat) (s : State) : Host.Outcome State Fault Refusal :=
  whenEnabled t mgmtUp (inSession [1] fun s =>
    if rfield s .secStatus 61 60 = 2 then answerError s 0x05 else answerVendor s keyKT) s

/-- SET_PRODUCTION (R720): slot 1 of both schemes programmed. -/
def execSetProduction (_msg : List Byte) (t : Nat) (s : State) : Host.Outcome State Fault Refusal :=
  whenEnabled t mgmtUp (inSession [1] fun s =>
    if s.fuse.mldsaProg.testBit 1 && s.fuse.ecdsaProg.testBit 1 then
      answerVendor { s with fuse := { s.fuse with lifecycle := 2 } } []
    else answerError s 0x05) s

/-- GET_NONCE (R720): it waits for the entropy source (R717). -/
def execGetNonce (msg : List Byte) (t : Nat) (s : State) : Host.Outcome State Fault Refusal :=
  whenEnabled t mgmtUp (inSession [0, 1, 2] fun s =>
    if s.sec.badSince.isSome then { s with sec := { s.sec with held := s.sec.held ++ [(true, msg)] } } else giveNonce s) s

/-- A token is valid for an OP (R721): both signatures, the serial, a live nonce, reserved bytes 0; slot 0 of both schemes
for OPEN and RETIRE; and the policy of the image in force for a debug state. -/
def tokenValid (s : State) (b : List Byte) (op : Nat) : Bool :=
  let signed := b.take 64
  let block := b.drop 64
  let ml := fieldAt b 7 1
  let ec := fieldAt b 6 1
  let policy := fieldAt s.plan.security 3 1
  b.length == 64 + sigLen && fieldAt b 0 4 == 0x54424B44 && fieldAt b 4 1 == op && fieldAt b 5 1 == 0 && allZero (slice b 32 32) &&
    mldsaOk s ml signed block && ecdsaOk s ec signed block && fieldAt b 8 8 == s.fuse.serial &&
    (s.sec.nonces.any fun n => n.2 == slice b 16 16 && decide (s.now ≤ n.1 + ms 60000)) &&
    (op == 1 || (ml == 0 && ec == 0)) && (op == 3 || !s.img.inForce || policy.testBit (op - 1))

/-- DEBUG_ENTER (R723): the latch records the state, and a tamper reset follows. -/
def execDebugEnter (msg : List Byte) (t : Nat) (s : State) : Host.Outcome State Fault Refusal :=
  whenEnabled t mgmtUp (inSession [1, 2] fun s =>
    let op := fieldAt msg 4 1
    if (op = 1 ∨ op = 2) ∧ tokenValid s msg op = true then
      let s := tamperReset (answerVendor s []) 0x69
      { s with sec := { s.sec with latch := op } }
    else answerError s 0x05) s

/-- RETIRE (R720): the kill fuse is blown, and a tamper reset follows. -/
def execRetire (msg : List Byte) (t : Nat) (s : State) : Host.Outcome State Fault Refusal :=
  whenEnabled t mgmtUp (inSession [1, 2] fun s =>
    if tokenValid s msg 3 = true then
      tamperReset { answerVendor s [] with fuse := { s.fuse with lifecycle := 3 } } 0x69
    else answerError s 0x05) s

end Sys2Proof.Machine
end

