-- ==== Sys2Proof/Machine/Health.lean ====
section
/-! DEFINITION. Scrubbing, the Weathering monitors, the management sensors, and fault injection (chapter 20). -/

namespace Sys2Proof.Machine

/-! ### Scrubbing (R768, R796) -/

/-- The spans that the scrub of this fence covers: 16 MiB of each Loft die and 2 MiB of each tile of a die that is not
fallow. -/
def scrubSpans (s : State) : List (Nat × Nat) :=
  let loft := ((List.range 2).filter fun l => !fallow s (34 + l)).map fun l =>
    (loftBase + l * loftSize + s.health.loftAt * 0x1000000, 0x1000000)
  let tiles := ((List.range 16).filter fun d => !fallow s d).flatMap fun d => (List.range 8).map fun t =>
    (sramBase + d * sramStride + t * tileSize + s.health.tileAt * 0x200000, 0x200000)
  loft ++ tiles

/-- One upset word that the scrub meets: corrected and written back, or an uncorrectable error. -/
def scrubWord (s : State) (u : Nat × Nat) : State :=
  if u.2 = 2 then countUncorrected s .hlt (8 * u.1)
  else countCorrection { s with upsets := Tab.del u.1 s.upsets } (8 * u.1)

/-- FENCE_SCRUB (R768): from T - 3,500 ns to T - 1,000 ns. -/
def execFenceScrub (t : Nat) (s : State) : Host.Outcome State Fault Refusal :=
  whenEnabled t (fun s => inFence s && !s.health.scrubbed && decide (s.tide.expected ≤ s.now + ns 3500) &&
      decide (s.now + ns 1000 ≤ s.tide.expected)) (fun s =>
    let spans := scrubSpans s
    let met := s.upsets.filter fun u => spans.any fun p => decide (p.1 ≤ 8 * u.1) && decide (8 * u.1 < p.1 + p.2)
    let s := { s with health := { s.health with
      loftAt := (s.health.loftAt + 1) % 16, tileAt := (s.health.tileAt + 1) % 3, scrubbed := true } }
    met.foldl scrubWord s) s

/-! ### Weathering (R782-R785, Table 20.6) -/

/-- Accumulator k. -/
def acc (s : State) (k : Nat) : Nat := (rget s .hltAcc k).toNat

/-- The accumulator raised, wrapping as its 64 bits do. -/
def addAcc (s : State) (k n : Nat) : State := rput s .hltAcc (word (acc s k + n)) k

/-- AF × 10 min in units of 1/64 h, rounded to the nearest, for a temperature in tenths of a degree Celsius (monitor 40). -/
def stressUnits (tj : Nat) : Nat :=
  let x : Int := fixOne * 162460 / 7163 - fixOne * 162460 / ((2 * tj + 5463 : Nat) : Int)
  match expVal x with
  | .fin _ m e =>
    let k := e.natAbs
    if 0 ≤ e then (m * 2 ^ k * 128 + 6) / 12 else (m * 128 + 6 * 2 ^ k) / (12 * 2 ^ k)
  | _ => 0

/-- WEAR of monitor n: what the hub measures for the dies (0-39) and the lasers (42-45), and the accumulators' share for the
others. -/
def wearOf (s : State) (wear : List Nat) (n : Nat) : Nat :=
  let w :=
    if n = 40 then 10000 * acc s 1 / 4485120
    else if n = 41 then 10000 * acc s 2 / 20000
    else if 46 ≤ n then 10000 * acc s (n - 43) / 1024
    else wear.getD n 0
  min w 65535

/-- EOL_HOURS (R783). -/
def eolOf (s : State) (n w : Nat) : Nat :=
  let (h0, w0) := match s.health.snaps with | x :: _ => (x.1, x.2.getD n 0) | [] => (0, 0)
  if 10000 ≤ w then 0
  else if w ≤ w0 then 0xFFFFFFFF
  else min ((10000 - w) * (acc s 0 - h0) / (w - w0)) 0xFFFFFFFE

/-- A monitor's new WEAR is shown, and its first crossings are logged (R785). -/
def showWear (s : State) (n w : Nat) : State :=
  let s := rput s .hltWear (word (w * 2 ^ 48 + eolOf s n w)) n
  let cross := fun (s : State) => logRaw s none 6 .hlt 0x01 w n
  let s := if 8000 ≤ w ∧ n ∉ s.health.over8 then
      cross { s with health := { s.health with over8 := n :: s.health.over8 } } else s
  if 10000 ≤ w ∧ n ∉ s.health.over10 then cross { s with health := { s.health with over10 := n :: s.health.over10 } } else s

/-- WEATHERING_EVAL (R782): one evaluation, every 10 minutes: the WEAR that the hub measures (by monitor number), the hottest
die's temperature in tenths of a degree, whether a swing of 40 °C has ended, and the newly errored rows of each stack. -/
def execWeatheringEval (wear : List Nat) (tj : Nat) (swing : Bool) (rows : List Nat) (t : Nat) (s : State) :
    Host.Outcome State Fault Refusal :=
  whenEnabled t (fun s => !s.pwr.inReset && !s.clk.telStopped) (fun s =>
    let evals := s.health.evals + 1
    let s := { s with health := { s.health with evals := evals } }
    let s := if evals % 6 = 0 then addAcc s 0 1 else s
    let s := addAcc (addAcc s 1 (stressUnits tj)) 2 swing.toNat
    let s := (List.range 12).foldl (fun s n => rbump (addAcc s (n + 3) (rows.getD n 0)) .hltHbm 39 24 n (rows.getD n 0)) s
    (List.range 58).foldl (fun s n => showWear s n (wearOf s wear n)) s) s

/-- WEAR_SNAPSHOT (R783): every 24 powered hours; the oldest of 31 goes. -/
def execWearSnapshot (t : Nat) (s : State) : Host.Outcome State Fault Refusal :=
  whenEnabled t (fun s => !s.pwr.inReset &&
      decide ((match s.health.snaps.getLast? with | some x => x.1 | none => 0) + 24 ≤ acc s 0)) (fun s =>
    let snaps := s.health.snaps ++ [(acc s 0, (List.range 58).map fun n => rfield s .hltWear 63 48 n)]
    { s with health := { s.health with snaps := snaps.drop (snaps.length - 30) } }) s

/-! ### Management sensors (R786, Table 20.7) -/

/-- A measured quantity that the state does not fix: a fresh free value. -/
def measure (s : State) : Nat × State := (Config.freeValue s.free, { s with free := s.free + 1 })

/-- The value of a sensor; none for an ID that Table 20.7 does not list. -/
def sensorValue (s : State) (id : Nat) : Option (Nat × State) :=
  if 0x0100 ≤ id ∧ id ≤ 0x012A then some (measure s)
  else if (0x0140 ≤ id ∧ id < 0x014C) ∨ (0x0150 ≤ id ∧ id < 0x015C) then some (measure s)
  else if id = 0x0160 then some (tideNo s % 2 ^ 32, s)
  else if 0x0168 ≤ id ∧ id < 0x0170 then some ((stallOf s (id - 0x0168)).overruns, s)
  else if 0x0180 ≤ id ∧ id < 0x01BA then some (rfield s .hltWear 31 0 (id - 0x0180), s)
  else if id = 0x0200 then some ((inLockout s).toNat, s)
  else if id = 0x0201 then some (rfield s .hltLoss 63 48, s)
  else if id = 0x0202 then some (s.pwr.fold.isSome.toNat, s)
  else if id = 0x0203 then some ((degraded s).toNat, s)
  else none

/-- SENSOR_READ (R786): the reading leaves on the management path, with the sensor's ID; a sensor that does not exist is
answered without a value (PRESUMED codes, log entry 37). -/
def execSensorRead (id : Nat) (t : Nat) (s : State) : Host.Outcome State Fault Refusal :=
  whenEnabled t mgmtUp (fun s =>
    match sensorValue s id with
    | some (v, s) => answer s 0x11 (leBytes 2 id ++ leBytes 8 v)
    | none => answer s 0x11 (leBytes 2 id)) s

/-! ### Squall and fault injection (R787, R792, R793) -/

/-- The debug state lets Squall and HLT_INJECT act (R787, Table 18.8). -/
def squallOpen (s : State) : Bool := rfield s .secStatus 61 60 != 0

/-- An injection may be armed (R793). -/
def injectOk (s : State) (v : Word) : Bool :=
  let op := bf v 63 62
  let a := bf v 47 0
  squallOpen s &&
    (op == 0 || (op == 3 && (portOf s (bf v 52 48)).st == 4) ||
      ((op == 1 || op == 2) && a % 8 == 0 &&
        (match unitOf a with
         | .tile d _ => !fallow s d
         | .loft d => !fallow s (34 + d)
         | .hbm n => !fallow s (16 + n)
         | _ => false)))

/-- The write of HLT_INJECT. -/
def writeInject (q : Requester) (v : Word) (s : State) : State :=
  guardedWrite s q .hltInject 0 0 v (fun s => injectOk s v) (storeReg .hltInject 0 0 v)

/-- INJECT_SINGLE_BIT (R793). -/
def execInjectSingleBit (q : Requester) (v : Word) (t : Nat) (s : State) : Host.Outcome State Fault Refusal :=
  whenEnabled t (fun s => reachable s q && bf v 63 62 == 1) (writeInject q v) s
/-- INJECT_DOUBLE_BIT (R793). -/
def execInjectDoubleBit (q : Requester) (v : Word) (t : Nat) (s : State) : Host.Outcome State Fault Refusal :=
  whenEnabled t (fun s => reachable s q && bf v 63 62 == 2) (writeInject q v) s
/-- INJECT_FLIT_CRC (R793). -/
def execInjectFlitCrc (q : Requester) (v : Word) (t : Nat) (s : State) : Host.Outcome State Fault Refusal :=
  whenEnabled t (fun s => reachable s q && bf v 63 62 == 3) (writeInject q v) s

/-- The write of SQL_SEED: the shift register is loaded, with 1 for 0 (R792). -/
def writeSqlSeed (q : Requester) (v : Word) (s : State) : State :=
  guardedWrite s q .sqlSeed 0 0 v squallOpen fun s =>
    { storeReg .sqlSeed 0 0 v s with lfsr := if v = 0 then 1 else v.toNat }

/-- SQL_SEED_LOAD (R792). -/
def execSqlSeedLoad (q : Requester) (v : Word) (t : Nat) (s : State) : Host.Outcome State Fault Refusal :=
  whenEnabled t (fun s => reachable s q) (writeSqlSeed q v) s

end Sys2Proof.Machine
end

