-- ==== Sys2Proof/Machine/HostOps.lean ====
section
/-! DEFINITION. The host interface beside its doorbells for steps and verdicts (chapter 16): NOTIFY, rings and MSI-X, the
completions of host reads, resets from the host side, bus mastering, credits and the link. -/

namespace Sys2Proof.Machine

/-! ### NOTIFY (R640) -/

/-- NOTIFY: a stall's is held until its commit point; BC8's is written at once. -/
def notifyTake (c : Nat) (m : Cmd) (b : List Byte) (s : State) : State :=
  if !(allZero (slice b 1 7) && allZero (slice b 16 48)) then violation s .hif m.addr
  else
    let v := word (fieldAt b 8 8)
    if c = 16 then
      postEvent (finishCmd s m.id s.now) 8 (eventBytes s 0x06 0 0 0 0 0 0 0 false 0 v.toNat) 2
    else if (fnOf s (stallNo c)).bme = false then stepFail s .hif c 0x63
    else if m.null then finishCmd s m.id s.now
    else
      let x := ctxOf s c
      let h : Held := { fn := stallNo c, req := x.req, attempt := x.attempt, variant := variantNow x, cmd := m.id, src := 0, len := 0
                        dst := 0, note := some v }
      let s := modCtx s c fun y => { y with held := y.held ++ [h] }
      markUnfixed (modCmd s m.id fun y => { y with st := .held }) m.id

/-- NOTIFY (R640). -/
def execNotifyC (c : Nat) (t : Nat) (s : State) : Host.Outcome State Fault Refusal :=
  whenEnabled t (fun s => decide (c < 17) && (ctxOf s c).cen.isNone)
    (fun s => takeCmd s .hif c 11 0 2 64 mailOpValid (notifyTake c)) s

/-! ### Rings and interrupts -/

/-- A ring configuration passes its check (HIF_EVT_CFG.SIZE_LOG2). -/
def evtCfgOk (v : Word) : Bool := !bitAt v 0 || (decide (6 ≤ bf v 12 8) && decide (bf v 12 8 ≤ 16))

/-- The write of a ring configuration (R623): setting ENABLE sets TAIL and HEAD to 0. -/
def writeEvtCfg (q : Requester) (f : Nat) (v : Word) (s : State) : State :=
  guardedWrite s q .hifEvtCfg 0 f v (fun _ => evtCfgOk v) (fun s =>
    let was := bitAt (rget s .hifEvtCfg f) 0
    let s := storeReg .hifEvtCfg 0 f v s
    if !was && bitAt (rget s .hifEvtCfg f) 0 then rput s .hifEvtPtr 0 f else s)

/-- EVT_CFG_WRITE (R623). -/
def execEvtCfgWrite (q : Requester) (f : Nat) (v : Word) (t : Nat) (s : State) : Host.Outcome State Fault Refusal :=
  whenEnabled t (fun s => reachable s q && decide (f < 9)) (writeEvtCfg q f v) s

/-- The new HEAD frees entries; an OVERFLOW event takes the first free one (R623, R624, R643). -/
def eventHead (s : State) (fn : Nat) (v : Word) : State :=
  if (fnOf s fn).bme = false then rbump s .hifFnStat 63 48 fn
  else
    let s := rsetField s .hifEvtPtr 48 32 (bf v 16 0) fn
    if bitAt (rget s .hifEvtCfg fn) 0 then hostFlush (ringOverflow s fn) else s

/-- EVT_HEAD_DB (R623). -/
def execEvtHeadDb (fn : Nat) (v : Word) (t : Nat) (s : State) : Host.Outcome State Fault Refusal :=
  whenEnabled t (fun s => reachable s .pf && decide (fn < 9)) (fun s => eventHead s fn v) s

/-- MSIX_HOLDOFF (R626): the holdoff of a vector with an unsignalled event has ended. -/
def execMsixHoldoff (fn vec : Nat) (t : Nat) (s : State) : Host.Outcome State Fault Refusal :=
  whenEnabled t (fun s =>
      let f := fnOf s fn
      f.unsignalled.contains vec && !f.masked.contains vec &&
        decide (((Tab.find vec f.sentAt).map (· + us (rfield s .hifEvtCfg 23 16 fn))).getD 0 ≤ s.now))
    (fun s => hostFlush (signalVec s fn vec)) s

/-! ### Host reads (R639, R648, R649, R789) -/

/-- HIF_DMA_LAST records an event: KIND 0 late, 1 timeout, 2 abort, 3 poison. -/
def dmaLast (s : State) (fn tag kind : Nat) : State :=
  rput s .hifDmaLast (word (2 ^ 63 + fn % 16 * 2 ^ 32 + kind * 2 ^ 30 + tag % 2 ^ 14))

/-- The outstanding read of a function's tag. -/
def hostReadOf (s : State) (fn tag : Nat) : Option HostRd := s.host.reads.find? fun r => r.fn == fn && r.tag == tag

/-- A read replaced, or removed. -/
def setRead (s : State) (r : HostRd) (new : Option HostRd) : State :=
  { s with host := { s.host with reads := s.host.reads.filter (fun y => !(y.fn == r.fn && y.tag == r.tag)) ++ new.toList } }

/-- Bytes of a read land: its attempt's memory takes them, unless the attempt has ended (R649); the last ones end the read
and one part of its command. -/
def landRead (s : State) (r : HostRd) (bytes : List Byte) : State :=
  let b := bytes.take r.len
  let s := if r.orphan then s else writeMem s r.dst b
  if b.length < r.len then
    setRead s r (some { r with dst := r.dst + b.length, len := r.len - b.length, delayed := none })
  else
    let s := setRead s r none
    if r.orphan then s else cmdPart s r.cmd

/-- A read that fails ends its step; BC8 has none, and its command is dropped (R639). -/
def readFails (s : State) (r : HostRd) (cause : Nat) : State :=
  if r.orphan then s
  else if r.c = 16 then { s with cmds := s.cmds.filter (·.id ≠ r.cmd) }
  else stepFail s .hif r.c cause

/-- A completion that no waiting read expects: it is dropped, counted, recorded, logged and reported (R648). -/
def lateCompletion (s : State) (fn tag : Nat) : State :=
  let s := dmaLast (rbump s .hifDmaErr 63 48) fn tag 0
  let s := logNote s .hif (regAddr .hifDmaErr 0 0)
  { s with out := Out.aer fn tag :: s.out }

/-- A completion arrives (R639, R789). -/
def readArrives (s : State) (fn tag : Nat) (res : CplStatus) (bytes : List Byte) : State :=
  match hostReadOf s fn tag with
  | none => lateCompletion s fn tag
  | some r =>
    if r.timedOut.isSome || r.delayed.isSome then lateCompletion s fn tag
    else
      match res with
      | .abort => readFails (setRead (dmaLast (rbump s .hifDmaErr 31 16) fn tag 2) r none) r 0x61
      | .poison => readFails (setRead (dmaLast (rbump s .hifDmaErr 15 0) fn tag 3) r none) r 0x62
      | .ok =>
        if r.c < 16 && squallOn s 6 (stallNo r.c) then
          let (v, s) := squall s
          let d := s.now + beats (v % (rfield s .sqlPace 15 0 + 1))
          setRead (rbump s .sqlStat 63 32) r (some { r with delayed := some (d, bytes) })
        else landRead s r bytes

/-- READ_COMPLETION (R639). -/
def execReadCompletion (fn tag : Nat) (res : CplStatus) (bytes : List Byte) (t : Nat) (s : State) :
    Host.Outcome State Fault Refusal :=
  whenEnabled t (fun s => s.host.up) (fun s => readArrives s fn tag res bytes) s

/-- HOST_DELAYED_LANDING (R789): the delay of a completion has passed. -/
def execHostDelayedLanding (fn tag : Nat) (t : Nat) (s : State) : Host.Outcome State Fault Refusal :=
  whenEnabled t (fun s => match hostReadOf s fn tag with
      | some r => due (r.delayed.map (·.1)) s.now
      | none => false)
    (fun s => match hostReadOf s fn tag with
      | some r => (match r.delayed with | some d => landRead s r d.2 | none => s)
      | none => s) s

/-- COMPLETION_TIMEOUT (R639, R648, R649): the tag stays out of use for 500 ms. -/
def execCompletionTimeout (fn tag : Nat) (t : Nat) (s : State) : Host.Outcome State Fault Refusal :=
  whenEnabled t (fun s => match hostReadOf s fn tag with
      | some r => r.timedOut.isNone && r.delayed.isNone
      | none => false)
    (fun s => match hostReadOf s fn tag with
      | some r =>
        let s := dmaLast (rbump s .hifDmaErr 47 32) fn tag 1
        readFails (setRead s r (some { r with timedOut := some s.now, orphan := true })) r 0x60
      | none => s) s

/-! ### Resets from the host side (R641, R642, R652) -/

/-- What waits to leave for a function is dropped. -/
def dropHostWrites (s : State) (fn : Nat) : State :=
  { s with host := { s.host with queue := s.host.queue.filter (·.fn ≠ fn) } }

/-- A context is killed by a reset of its function: an uncommitted step fails, a committed one only stops. -/
def vfKill (s : State) (c : Nat) : State :=
  if (ctxOf s c).committed then endAttempt s c else stepFail s .hif c 0x65

/-- FUNCTION_LEVEL_RESET (R641) of virtual function fn; its Bus Master Enable returns to 0 with the rest of its
configuration (PRESUMED: the PCIe specification, log entry 21). That of the physical function is a host reset (R642). -/
def flr (fn : Nat) (s : State) : State :=
  let s := vfKill (vfKill s (2 * fn)) (2 * fn + 1)
  let s := modStall s fn fun st => { st with queue := [], urgentReq := none, drains := [] }
  let s := dropHostWrites s fn
  let s := rput (rput (rput s .hifEvtCfg 0 fn) .hifEvtBase 0 fn) .hifCensusBase 0 fn
  modFn s fn fun _ => Fn.clear

/-- FUNCTION_LEVEL_RESET (R641). -/
def execFunctionLevelReset (fn : Nat) (t : Nat) (s : State) : Host.Outcome State Fault Refusal :=
  whenEnabled t (fun s => s.host.up && decide (fn < 8)) (flr fn) s

/-- The host side returns to its reset state: rings, census areas, MSI-X, configuration, queues and host reads; the
registers but the counters of HIF_LINK and HIF_DMA_ERR (R642, R646). -/
def clearHostSide (s : State) : State :=
  let dmaErr := rget s .hifDmaErr
  let down := rfield s .hifLink 31 16
  let s := rclear s Reg.blockHif
  let s := rsetField (rput s .hifDmaErr dmaErr) .hifLink 31 16 down
  { s with
    stalls := s.stalls.map fun st => (st.1, { st.2 with drains := [] })
    host := { s.host with fns := [], reads := [], queue := [], posted := [] } }

/-- A host reset (R642). The link of a hot reset, a link down or a lost lock trains again at once; PERST_N holds the endpoint
in reset until it rises (R739). DESIGN CHOICE, log entry 22. -/
def hostReset (kind : HostResetKind) (s : State) : State :=
  let s := rbump s .hifLink 31 16
  let s := clearHostSide s
  let s := if kind = .perst then { s with host := { s.host with perst := true, up := false } } else s
  let s := if kind = .lockLoss then
      rmod (rmod s .clkLockLost (fun w => setBit w 47 true)) .clkLockStatus (fun w => setBit w 47 false)
    else s
  let s := { s with ctxs := s.ctxs.map fun x => (x.1, { x.2 with held := [] }) }
  triggerFold s .hostReset

/-- HOST_RESET (R642). -/
def execHostReset (kind : HostResetKind) (t : Nat) (s : State) : Host.Outcome State Fault Refusal :=
  whenEnabled t (fun s => !s.pwr.inReset && !s.host.perst) (hostReset kind) s

/-! ### Bus mastering, credits, the link -/

/-- BUS_MASTER_ENABLE (R643): the writes that waited leave when it returns. -/
def execBusMasterEnable (fn : Nat) (on : Bool) (t : Nat) (s : State) : Host.Outcome State Fault Refusal :=
  whenEnabled t (fun s => s.host.up && decide (fn < 9))
    (fun s => hostFlush (modFn s fn fun f => { f with bme := on })) s

/-- POSTED_CREDIT_RETURN (R629): credits for n posted writes. -/
def execPostedCreditReturn (n : Nat) (t : Nat) (s : State) : Host.Outcome State Fault Refusal :=
  whenEnabled t (fun s => s.host.up)
    (fun s => hostFlush { s with host := { s.host with credits := s.host.credits + n } }) s

/-- PERST_N_RELEASE (R739): the endpoint leaves reset and its link trains to a speed and width (HIF_LINK); during a cold
reset the endpoint answers nothing before PHASE 2 (R741). -/
def execPerstNRelease (speed width : Nat) (flit : Bool) (t : Nat) (s : State) : Host.Outcome State Fault Refusal :=
  whenEnabled t (fun s => !s.pwr.inReset && s.host.perst)
    (fun s => { s with host := { s.host with
      perst := false, up := phase s != 1, trained := speed % 16 + width % 64 * 16 + flit.toNat * 2 ^ 10, credits := 0 } }) s

end Sys2Proof.Machine
end

