-- ==== Sys2Proof/Machine/Media.lean ====
section
/-! DEFINITION. Media dies (chapter 15): the Resample engines, computed pixel by pixel, and the AV1 encoders with their
stream tables. The AV1 bitstream, its rate control and its reconstruction are those of the standard that the manual names:
Config.av1 gives them. -/

namespace Sys2Proof.Machine

/-! ### Media cycles (R585) -/

/-- The multiplier of media die m in force. -/
def mdMult (s : State) (m : Nat) : Nat := 8 + rfield s .clkAppliedMd (4 * m + 3) (4 * m)
/-- A number of media cycles as a span of time. -/
def mdCycles (s : State) (m n : Nat) : Nat := cdiv (n * 10000) (mdMult s m)
/-- The latency of Table 1.4 to an address, in media cycles. -/
def mdLat (s : State) (m a : Nat) : Nat :=
  match placeOf a with
  | some p => cdiv (readLatency (.md m) p * mdMult s m) 10000
  | none => 0
/-- The bay-scheduled resources of a media die's paths to addresses. -/
def mdRes (m : Nat) (as : List Nat) : List Nat :=
  as.flatMap fun a => match placeOf a with | some p => pathRes (.md m) p ++ pathRes p (.md m) | none => []

/-! ### Resample (R588-R591) -/

/-- A Resample descriptor (Table 15.1). -/
structure RsDesc where
  warp : Bool
  scale : Bool
  csc : Bool
  inFmt : Nat
  outFmt : Nat
  cubic : Bool
  linear : Bool
  full : Bool
  mvShift : Nat
  inW : Nat
  inH : Nat
  outW : Nat
  outH : Nat
  rowFirst : Nat
  rowCount : Nat
  inRow0 : Nat
  inRows : Nat
  mvScale : Nat
  inStride : Nat
  inp : Nat
  mv : Nat
  mvStride : Nat
  outStride : Nat
  outY : Nat
  outC : Nat
  outCStride : Nat
  deriving DecidableEq, Repr

/-- The Resample descriptor of 128 bytes. -/
def rsDesc (b : List Byte) : RsDesc :=
  let st := fieldAt b 1 1
  let fl := fieldAt b 5 1
  { warp := st.testBit 0, scale := st.testBit 1, csc := st.testBit 2, inFmt := fieldAt b 2 1, outFmt := fieldAt b 3 1
    cubic := fieldAt b 4 1 == 1, linear := fl.testBit 0, full := fl.testBit 1, mvShift := fieldAt b 6 1
    inW := fieldAt b 8 2, inH := fieldAt b 10 2, outW := fieldAt b 12 2, outH := fieldAt b 14 2, rowFirst := fieldAt b 16 2
    rowCount := fieldAt b 18 2, inRow0 := fieldAt b 20 2, inRows := fieldAt b 22 2, mvScale := fieldAt b 24 4
    inStride := fieldAt b 28 4, inp := fieldAt b 32 8, mv := fieldAt b 40 8, mvStride := fieldAt b 48 4
    outStride := fieldAt b 52 4, outY := fieldAt b 56 8, outC := fieldAt b 64 8, outCStride := fieldAt b 72 4 }

/-- The bytes of an input pixel. -/
def RsDesc.bpp (d : RsDesc) : Nat := if d.inFmt = 1 then 8 else 4
/-- The input bytes. -/
def RsDesc.inBytes (d : RsDesc) : Nat := d.inRows * d.inW * d.bpp
/-- The motion rows that cover the input rows present, of IN_W >> MV_SHIFT samples, each an fp16 pair. -/
def RsDesc.mvRows (d : RsDesc) : Nat := (d.inRow0 + d.inRows - 1) / 2 ^ d.mvShift + 1 - d.inRow0 / 2 ^ d.mvShift
def RsDesc.mvCols (d : RsDesc) : Nat := cdiv d.inW (2 ^ d.mvShift)
def RsDesc.mvBytes (d : RsDesc) : Nat := if d.warp then d.mvRows * d.mvCols * 4 else 0
/-- The bytes of an output sample. -/
def RsDesc.outB (d : RsDesc) : Nat := if d.outFmt = 0x10 then 1 else 2

/-- The form of a Resample descriptor (R588, R842). -/
def rsForm (d : RsDesc) (b : List Byte) : Bool :=
  let dim := fun v => decide (16 ≤ v) && decide (v ≤ 4096)
  let ratio := fun i o => decide (i ≤ 4 * o) && decide (o ≤ 4 * i)
  fieldAt b 0 1 == 1 && decide (1 ≤ fieldAt b 1 1) && decide (fieldAt b 1 1 ≤ 7) && decide (1 ≤ d.inFmt) && decide (d.inFmt ≤ 3) &&
    (d.outFmt == 1 || d.outFmt == 0x10 || d.outFmt == 0x11) && decide (fieldAt b 4 1 ≤ 1) && decide (fieldAt b 5 1 ≤ 3) &&
    decide (d.mvShift ≤ 1) && fieldAt b 7 1 == 0 && dim d.inW && dim d.inH && dim d.outW && dim d.outH &&
    decide (1 ≤ d.rowCount) && decide (d.rowCount ≤ 256) && decide (1 ≤ d.inRows) && decide (d.inRows ≤ d.inH) &&
    (if d.scale then ratio d.inW d.outW && ratio d.inH d.outH else d.inW == d.outW && d.inH == d.outH) &&
    (d.csc == (d.outFmt != 1)) && (!d.csc || (d.rowFirst % 2 == 0 && d.rowCount % 2 == 0)) &&
    decide (d.inBytes + d.mvBytes ≤ 2097152) && unused0 d.warp d.mv && unused0 d.warp d.mvStride && unused0 d.csc d.outC &&
    unused0 d.csc d.outCStride && allZero (slice b 76 52)

/-- The fused multiply-add of R589: rounded once. -/
def fma32 (a b c : Fp) : Fp := rne32 (Fp.add (Fp.mul a b) c)
/-- lerp (R589): fma(f, b − a, a) rounded once. -/
def lerp (f a b : Fp) : Fp := rne32 (Fp.add (Fp.mul f (Fp.sub b a)) a)
/-- A quotient of naturals rounded to fp32. -/
def ratio32 (a b : Nat) : Fp := if a = 0 then Fp.zero else rne32 (divVal (Fp.ofInt a) (Fp.ofInt b))
/-- A natural number as a value. -/
def natFp (n : Nat) : Fp := Fp.ofInt (n : Int)
/-- A NaN becomes +0. -/
def noNan (v : Fp) : Fp := if v.isNan then Fp.zero else v

/-- The value clamped to a range of naturals. -/
def clampFp (lo hi : Nat) (v : Fp) : Fp :=
  let v := noNan v
  if Fp.lt v (natFp lo) then natFp lo else if Fp.lt (natFp hi) v then natFp hi else v

/-- The floor of a finite value. -/
def floorFp : Fp → Int
  | .fin n m e => Fp.mantAt n m e 0
  | _ => 0

/-- A position split into its floor and its fraction. -/
def splitPos (v : Fp) : Int × Fp :=
  match v with
  | .fin n m e =>
    let f := if 0 ≤ e then Fp.mantAt n m e 0 else Fp.mantAt n m e e / (2 ^ (-e).toNat : Nat)
    (f, Fp.sub v (Fp.ofInt f))
  | _ => (floorFp v, Fp.zero)

/-- The rows present, clamped to the image (R589): first and last. -/
def RsDesc.lo (d : RsDesc) : Nat := min d.inRow0 (d.inH - 1)
def RsDesc.hi (d : RsDesc) : Nat := min (d.inRow0 + d.inRows - 1) (d.inH - 1)

/-- A sample position clamped to the image and then to the rows present. -/
def RsDesc.cx (d : RsDesc) (x : Int) : Nat := min x.toNat (d.inW - 1)
def RsDesc.cy (d : RsDesc) (y : Int) : Nat := max d.lo (min y.toNat d.hi)

/-- Stage 1: a pixel of the input as R, G, B, A. A 10-bit pixel holds R in its lowest bits. -/
def rsFetch (s : State) (d : RsDesc) (x y : Nat) : List Fp :=
  let b := readMem s (d.inp + (y - d.inRow0) * d.inStride + x * d.bpp) d.bpp
  let v := leNat b
  match d.inFmt with
  | 1 => (List.range 4).map fun k => noNan (fmtVal 0x02 (fieldAt b (2 * k) 2))
  | 2 => (List.range 4).map fun k => ratio32 (fieldAt b k 1) 255
  | _ => ((List.range 3).map fun k => ratio32 (bitsOf v (10 * k + 9) (10 * k)) 1023) ++ [ratio32 (bitsOf v 31 30) 3]

/-- Bilinear sampling of a picture at a clamped position: two lerps in x, then one in y. -/
def bilinear (pix : Nat → Nat → List Fp) (d : RsDesc) (u v : Fp) : List Fp :=
  let (x, fx) := splitPos u
  let (y, fy) := splitPos v
  let at_ := fun (i j : Int) => pix (d.cx i) (d.cy j)
  let top := List.zipWith (lerp fx) (at_ x y) (at_ (x + 1) y)
  let bot := List.zipWith (lerp fx) (at_ x (y + 1)) (at_ (x + 1) (y + 1))
  List.zipWith (lerp fy) top bot

/-- The four Catmull-Rom weights of a fraction, each rounded to fp32. -/
def catmull (f : Fp) : List Fp :=
  let f2 := Fp.mul f f
  let f3 := Fp.mul f2 f
  let half := fun (k : Int) (v : Fp) => Fp.scale (-1) (Fp.mul (Fp.ofInt k) v)
  let sum := fun (l : List Fp) => rne32 (l.foldl Fp.add Fp.zero)
  [sum [half (-1) f3, f2, half (-1) f], sum [half 3 f3, half (-5) f2, Fp.one], sum [half (-3) f3, half 4 f2, half 1 f],
   sum [half 1 f3, half (-1) f2]]

/-- Taps added in ascending order, one fma each. -/
def tapSum (ws : List Fp) (ps : List (List Fp)) : List Fp :=
  (List.range 4).map fun k =>
    (List.zip ws ps).foldl (fun acc p => fma32 p.1 (p.2.getD k Fp.zero) acc) Fp.zero

/-- Catmull-Rom sampling across rows and then down columns. -/
def bicubic (pix : Nat → Nat → List Fp) (d : RsDesc) (u v : Fp) : List Fp :=
  let (x, fx) := splitPos u
  let (y, fy) := splitPos v
  let row := fun (j : Int) => tapSum (catmull fx) ((List.range 4).map fun (i : Nat) => pix (d.cx (x - 1 + (i : Int))) (d.cy j))
  tapSum (catmull fy) ((List.range 4).map fun (j : Nat) => row (y - 1 + (j : Int)))

/-- Stage 2: a pixel of the warped picture. -/
def rsWarp (s : State) (d : RsDesc) (x y : Nat) : List Fp :=
  if !d.warp then rsFetch s d x y
  else
    let b := readMem s (d.mv + (y / 2 ^ d.mvShift - d.inRow0 / 2 ^ d.mvShift) * d.mvStride + x / 2 ^ d.mvShift * 4) 4
    let k := Fp.scale d.mvShift (f32 d.mvScale)
    let mx := mul32 (noNan (fmtVal 0x02 (fieldAt b 0 2))) k
    let my := mul32 (noNan (fmtVal 0x02 (fieldAt b 2 2))) k
    bilinear (rsFetch s d) d (clampFp 0 (d.inW - 1) (rne32 (Fp.sub (natFp x) mx)))
      (clampFp d.lo d.hi (clampFp 0 (d.inH - 1) (rne32 (Fp.sub (natFp y) my))))

/-- The source coordinate of SCALE. -/
def rsCoord (inN outN x : Nat) : Fp :=
  let half := Fp.scale (-1) Fp.one
  fma32 (Fp.add (natFp x) half) (ratio32 inN outN) half.neg

/-- Stage 3: an output pixel before CSC. -/
def rsPixel (s : State) (d : RsDesc) (x y : Nat) : List Fp :=
  if !d.scale then rsWarp s d (d.cx x) (d.cy y)
  else
    let u := clampFp 0 (d.inW - 1) (rsCoord d.inW d.outW x)
    let v := clampFp d.lo d.hi (clampFp 0 (d.inH - 1) (rsCoord d.inH d.outH y))
    if d.cubic then bicubic (rsWarp s d) d u v else bilinear (rsWarp s d) d u v

/-- The BT.709 transfer of a value of [0, 1], correctly rounded. -/
def oetf709 (v : Fp) : Fp :=
  match v with
  | .fin _ m e =>
    if m = 0 then Fp.zero
    else
      let x := fixOf v
      if x * 1000 < 18 * fixOne then rne32 (Fp.scale (-1) (Fp.mul (Fp.ofInt 9) v))
      else rne32 (fixVal ((1099 * fixOf (expVal (fixLn m e * 45 / 100)) - 99 * fixOne) / 1000))
  | _ => Fp.zero

/-- A decimal constant, as its fp32 value. -/
def decFp (num den : Nat) : Fp := ratio32 num den

/-- Stage 4: Y′, Cb and Cr of an output pixel. -/
def rsYcc (s : State) (d : RsDesc) (x y : Nat) : Fp × Fp × Fp :=
  let px := (rsPixel s d x y).map fun v =>
    let c := clampFp 0 1 v
    if d.linear then oetf709 c else c
  let r := px.getD 0 Fp.zero
  let g := px.getD 1 Fp.zero
  let b := px.getD 2 Fp.zero
  let yy := fma32 (decFp 722 10000) b (fma32 (decFp 7152 10000) g (mul32 (decFp 2126 10000) r))
  (yy, mul32 (rne32 (Fp.sub b yy)) (decFp 10000 18556), mul32 (rne32 (Fp.sub r yy)) (decFp 10000 15748))

/-- The chroma sample (i, j): the 3 × 2 window weighted 1, 2, 1, divided by 8, added in row then column order. -/
def rsChroma (s : State) (d : RsDesc) (i j : Nat) : Fp × Fp :=
  let taps := (List.range 2).flatMap fun dy => (List.range 3).map fun dx =>
    (if dx = 1 then 2 else 1, rsYcc s d (min (2 * i + dx - 1) (d.outW - 1)) (min (2 * j + dy) (d.outH - 1)))
  let sum := fun (pick : Fp × Fp × Fp → Fp) =>
    Fp.scale (-3) (taps.foldl (fun acc t => add32 acc (Fp.mul (Fp.ofInt t.1) (pick t.2))) Fp.zero)
  (sum (·.2.1), sum (·.2.2))

/-- Stage 5: a sample quantised to n bits, to nearest even, and clamped. -/
def quantise (n : Nat) (mul add : Nat) (shift : Nat) (v : Fp) : Nat :=
  let w := Fp.scale shift (add32 (mul32 (natFp mul) v) (natFp add))
  match roundTo rneShift 64 (some 0) w with
  | .fin neg m e => if neg then 0 else min (Fp.mantAt false m e 0).toNat (2 ^ n - 1)
  | .inf neg => if neg then 0 else 2 ^ n - 1
  | .nan => 0

/-- The bytes of an 8-bit or 10-bit sample (R590). -/
def sampleBytes (d : RsDesc) (v : Nat) : List Byte := if d.outFmt = 0x10 then leBytes 1 v else leBytes 2 (64 * v)

/-- The bits of a Y′CbCr sample. -/
def RsDesc.bits (d : RsDesc) : Nat := if d.outFmt = 0x10 then 8 else 10
/-- A luma sample and a chroma sample quantised. -/
def quantY (d : RsDesc) (v : Fp) : List Byte :=
  let n := d.bits
  sampleBytes d (if d.full then quantise n (2 ^ n - 1) 0 0 v else quantise n 219 16 (n - 8) v)
def quantC (d : RsDesc) (v : Fp) : List Byte :=
  let n := d.bits
  sampleBytes d (if d.full then quantise n (2 ^ n - 1) (2 ^ (n - 1)) 0 v else quantise n 224 128 (n - 8) v)

/-- The rows that a Resample command writes: address and bytes. -/
def rsRows (s : State) (d : RsDesc) : List (Nat × List Byte) :=
  if d.csc then
    ((List.range d.rowCount).map fun k => (d.outY + k * d.outStride,
      (List.range d.outW).flatMap fun x => quantY d (rsYcc s d x (d.rowFirst + k)).1)) ++
    ((List.range (d.rowCount / 2)).map fun k => (d.outC + k * d.outCStride,
      (List.range (cdiv d.outW 2)).flatMap fun i =>
        let c := rsChroma s d i (d.rowFirst / 2 + k)
        quantC d c.1 ++ quantC d c.2))
  else
    (List.range d.rowCount).map fun k => (d.outY + k * d.outStride,
      (List.range d.outW).flatMap fun x => (rsPixel s d x (d.rowFirst + k)).flatMap fun v => leBytes 2 (toFmt 0x02 false v))

/-- The spans of those rows. -/
def rsWrites (d : RsDesc) : List (Nat × Nat) :=
  if d.csc then
    ((List.range d.rowCount).map fun k => (d.outY + k * d.outStride, d.outW * d.outB)) ++
    ((List.range (d.rowCount / 2)).map fun k => (d.outC + k * d.outCStride, 2 * cdiv d.outW 2 * d.outB))
  else (List.range d.rowCount).map fun k => (d.outY + k * d.outStride, 8 * d.outW)

/-- The spans that a Resample command reads. -/
def rsReads (d : RsDesc) : List (Nat × Nat) :=
  ((List.range d.inRows).map fun k => (d.inp + k * d.inStride, d.inW * d.bpp)) ++
    (if d.warp then (List.range d.mvRows).map fun k => (d.mv + k * d.mvStride, 4 * d.mvCols) else [])

/-- The cycles of a Resample command (R591). -/
def rsCycles (s : State) (m : Nat) (d : RsDesc) : Nat :=
  64 + cdiv (d.inBytes + d.mvBytes) 512 + mdLat s m d.inp + d.rowCount * (cdiv d.outW (if d.cubic then 2 else 4) + 16) +
    mdLat s m d.outY

/-- PROCESS. -/
def rsTake (c e : Nat) (m : Cmd) (b : List Byte) (s : State) : State :=
  let d := rsDesc b
  if m.len ≠ 128 ∨ rsForm d b = false then violation s .med m.addr
  else
    withSpans s .med c (rsReads d) (rsWrites d) fun s =>
      gated s .med c (mdRes e [d.inp, d.outY]) d.inp fun s =>
        let n := rsCycles s e d
        let from_ := max (afterBlackout s d.inp s.now) (afterBlackout s d.outY s.now)
        let rows := if m.null then [] else rsRows s d
        let s := rows.foldl (fun s w => writeMem s w.1 w.2) s
        finishCmd (rbump s .medRsBusy 63 0 0 n e) m.id (from_ + mdCycles s e n)

/-- PROCESS (R588). -/
def execProcess (c e : Nat) (t : Nat) (s : State) : Host.Outcome State Fault Refusal :=
  whenEnabled t (fun s => decide (c < 16) && decide (e < 2) && engineIdle s 7 e)
    (fun s => takeCmd s .med c 7 e 1 128 (fun o => o == 1) (rsTake c e)) s

/-! ### Encoders (R594-R605) -/

/-- An encoder descriptor (Table 15.4), and the configuration as a stream table holds it. -/
structure EncDesc where
  op : Nat
  forceKey : Bool
  pair : Bool
  markGolden : Bool
  invalidate : Nat
  slot : Nat
  rowFirst : Nat
  rowCount : Nat
  out : Nat
  outOff : Nat
  src : Nat
  hint : Nat
  patch_ : Nat
  deriving DecidableEq, Repr

/-- The encoder descriptor of 128 bytes. -/
def encDesc (b : List Byte) : EncDesc :=
  let fl := fieldAt b 1 1
  { op := fieldAt b 0 1, forceKey := fl.testBit 0, pair := fl.testBit 1, markGolden := fl.testBit 2
    invalidate := fieldAt b 2 1, slot := fieldAt b 3 1, rowFirst := fieldAt b 4 2, rowCount := fieldAt b 6 2
    out := fieldAt b 8 8, outOff := fieldAt b 16 4, src := fieldAt b 24 8, hint := fieldAt b 32 8, patch_ := fieldAt b 40 8 }

/-- A stream's configuration: bytes 64-111 of the CONFIGURE descriptor. -/
structure EncCfg where
  width : Nat
  height : Nat
  depth : Nat
  rcMode : Nat
  colsLog2 : Nat
  rowsLog2 : Nat
  fpsNum : Nat
  fpsDen : Nat
  bitrate : Nat
  peak : Nat
  bufMs : Nat
  baseQ : Nat
  nref : Nat
  keyInt : Nat
  goldenInt : Nat
  maxTg : Nat
  flags2 : Nat
  deriving DecidableEq, Repr

/-- The configuration that 48 bytes hold. FPS_NUM and FPS_DEN take 4 bytes each, as their offsets leave. -/
def encCfg (b : List Byte) : EncCfg :=
  { width := fieldAt b 0 2, height := fieldAt b 2 2, depth := fieldAt b 4 1, rcMode := fieldAt b 5 1
    colsLog2 := fieldAt b 6 1, rowsLog2 := fieldAt b 7 1, fpsNum := fieldAt b 8 4, fpsDen := fieldAt b 12 4
    bitrate := fieldAt b 16 4, peak := fieldAt b 20 4, bufMs := fieldAt b 24 2, baseQ := fieldAt b 26 1
    nref := fieldAt b 27 1, keyInt := fieldAt b 28 2, goldenInt := fieldAt b 30 2, maxTg := fieldAt b 32 4
    flags2 := fieldAt b 36 1 }

/-- The ranges of a configuration (Table 15.4). -/
def cfgOk (b : List Byte) : Bool :=
  let c := encCfg b
  decide (64 ≤ c.width) && decide (c.width ≤ 4096) && c.width % 8 == 0 && decide (64 ≤ c.height) && decide (c.height ≤ 2304) &&
    c.height % 8 == 0 && (c.depth == 8 || c.depth == 10) && decide (c.rcMode ≤ 2) && decide (c.colsLog2 ≤ 3) &&
    decide (c.rowsLog2 ≤ 4) && decide (1 ≤ c.fpsDen) && decide (c.fpsDen ≤ c.fpsNum) && decide (c.fpsNum ≤ 240 * c.fpsDen) &&
    decide (100000 ≤ c.bitrate) && decide (c.bitrate ≤ 200000000) &&
    (if c.rcMode = 2 then decide (c.bitrate ≤ c.peak) else c.peak == 0) && decide (10 ≤ c.bufMs) && decide (c.bufMs ≤ 2000) &&
    decide (1 ≤ c.nref) && decide (c.nref ≤ 2) && c.maxTg % 64 == 0 && decide (4096 ≤ c.maxTg) && decide (c.maxTg ≤ 4194240) &&
    decide (c.flags2 ≤ 1) && allZero (b.drop 37)

/-- Superblock rows and columns. -/
def EncCfg.sbRows (c : EncCfg) : Nat := cdiv c.height 64
def EncCfg.sbCols (c : EncCfg) : Nat := cdiv c.width 64
/-- B: the bytes of a superblock row buffer (R601). -/
def EncCfg.rowBytes (c : EncCfg) : Nat := 96 * c.width * (if c.depth = 8 then 1 else 2)
/-- The superblock rows of a tile row under uniform spacing. -/
def EncCfg.tileRows (c : EncCfg) : Nat := cdiv c.sbRows (2 ^ c.rowsLog2)
/-- The rows make up whole tile rows. -/
def EncCfg.wholeTiles (c : EncCfg) (first count : Nat) : Bool :=
  let t := max 1 c.tileRows
  first % t == 0 && decide (first + count ≤ c.sbRows) && ((first + count) % t == 0 || first + count == c.sbRows) && decide (1 ≤ count)

/-- The form of an encoder descriptor (R597, R598, R842). -/
def encForm (d : EncDesc) (b : List Byte) : Bool :=
  decide (fieldAt b 1 1 ≤ 7) && decide (d.invalidate ≤ 3) && decide (d.slot < 64) && fieldAt b 20 4 == 0 && allZero (slice b 48 16) &&
    (if d.op = 1 then
       fieldAt b 1 1 == 0 && d.invalidate == 0 && allZero (slice b 4 44) && cfgOk (slice b 64 64)
     else allZero (slice b 64 64) && d.outOff % 64 == 0)

/-- MED_ERR of a media die records the first event. -/
def medErr (s : State) (e c cause : Nat) : State := ddErr s .medErr (e / 4) c cause

/-- A step ends with a cause of Table 15.6. -/
def encFail (s : State) (e c cause : Nat) : State := stepFail (medErr s e c cause) .med c cause

/-- The slot is staged by the running attempt of the stall's other context (R600). -/
def slotBusy (s : State) (c slot : Nat) : Bool :=
  let o := if c % 2 = 0 then c + 1 else c - 1
  let x := ctxOf s o
  x.st == .running && !x.committed && x.staged.contains slot

/-- The address of the stream table that a command reads (R594): the staged one where this attempt has staged the slot, the
current one otherwise; none where there is none. -/
def streamAddr (s : State) (c slot : Nat) : Option Nat :=
  let p := pubOf s (stallNo c) slot
  let side := if (ctxOf s c).staged.contains slot then !p.side else p.side
  if p.handle side = 0 ∨ p.stream side = false then none else some (keySpan s (keyOf (p.handle side))).1

/-- The staged side of a slot gets a stream table: a buffer of the 4 KiB class for requester 16 × stall + 8, unless this
attempt has staged the slot (R156, R594); then the table is written. -/
def stageStream (s : State) (c slot : Nat) (table : State → State × List Byte) : State :=
  let n := stallNo c
  let p := pubOf s n slot
  let put := fun (s : State) (key : Nat) =>
    let (s, b) := table s
    if (ctxOf s c).st != .running then s else writeMem s (keySpan s key).1 b
  if p.kv then stepFail s .med c 0x2B
  else if (ctxOf s c).staged.contains slot then put s (keyOf (p.handle (!p.side)))
  else
    match allocBuf s (16 * n + 8) c (ctxOf s c).uid 8 2 with
    | none => allocFail s c (16 * n + 8) 2 0x28
    | some (key, s) =>
      let s := freeHandle s (p.handle (!p.side))
      let q := p.withSide (!p.side) (handleOf s key)
      let s := setPub s n slot (if p.side then { q with st0 := true } else { q with st1 := true })
      put (modCtx s c fun x => { x with staged := x.staged ++ [slot] }) key

/-- The fresh stream table of CONFIGURE (R599). -/
def freshTable (cfg : List Byte) : List Byte := [1#8, 5#8] ++ zeros 14 ++ cfg.take 48 ++ zeros 4032

/-- An entry of a stream table (Table 15.3). -/
structure RefEntry where
  role : Nat
  hint : Nat
  valid : Nat
  rows : List Nat
  deriving DecidableEq, Repr

/-- Entry i of a table; a row handle is read with its complement. -/
def refEntry (t : List Byte) (i : Nat) : RefEntry :=
  let o := 256 + 528 * i
  { role := fieldAt t o 1, hint := fieldAt t (o + 1) 1, valid := fieldAt t (o + 2) 2
    rows := (List.range 64).map fun r => fieldAt t (o + 16 + 8 * r) 8 }

/-- An entry's bytes; a freed entry is 0. -/
def RefEntry.bytes (e : RefEntry) : List Byte :=
  if e.role = 0 then zeros 528
  else leBytes 1 e.role ++ leBytes 1 e.hint ++ leBytes 2 e.valid ++ zeros 12 ++ e.rows.flatMap (leBytes 8)

/-- A handle with its complement as 8 bytes; nothing for the null handle. -/
def handle64 (h : Nat) : Nat := if h = 0 then 0 else h + onesComp 32 h * 2 ^ 32

/-- What an ENCODE knows of its frame: the table, whether the frame starts here, is a key frame and abandons another, and
its entries. -/
structure Frame where
  starts : Bool
  key : Bool
  abandoned : Bool
  mark : Bool
  frame : Nat
  entries : List RefEntry
  cur : Nat
  deriving DecidableEq, Repr

/-- The frame of a group (R596): the byte 255 of the rate-control state keeps MARK_GOLDEN and KEY of a frame in progress. -/
def frameOf (t : List Byte) (d : EncDesc) (cfg : EncCfg) : Frame :=
  let fl := fieldAt t 1 1
  let inFrame := fl.testBit 1
  let frame := fieldAt t 8 8
  let es := (List.range 3).map (refEntry t)
  let keep := fieldAt t 255 1
  if inFrame && !(d.rowFirst == 0 && d.forceKey) then
    { starts := false, key := keep.testBit 1, abandoned := keep.testBit 2, mark := keep.testBit 0, frame := frame, entries := es
      cur := ((List.range 3).find? fun i => (es.getD i ⟨0, 0, 0, []⟩).role.testBit 2).getD 0 }
  else
    let clear := fun (e : RefEntry) =>
      let r := (e.role % 4) &&& (3 - d.invalidate % 4)
      { e with role := r }
    let es := es.map clear
    let key := fl.testBit 2 || d.forceKey || (cfg.keyInt != 0 && frame % cfg.keyInt == 0) || es.all (·.role == 0)
    let es := if key then es.map fun e => { e with role := 0 } else es
    let cur := ((List.range 3).find? fun i => (es.getD i ⟨0, 0, 0, []⟩).role == 0).getD 2
    let new : RefEntry := { role := 4, hint := frame % 128, valid := 0, rows := List.replicate 64 0 }
    { starts := true, key := key, abandoned := inFrame, mark := d.markGolden, frame := frame, entries := es.set cur new, cur := cur }

/-- Roles at frame completion (R596). -/
def completeRoles (f : Frame) (cfg : EncCfg) : List RefEntry :=
  let golden := f.key || (cfg.nref == 2 && (f.mark || (cfg.goldenInt != 0 && f.frame % cfg.goldenInt == 0)))
  f.entries.zipIdx.map fun p =>
    if p.2 = f.cur then { p.1 with role := 1 + 2 * golden.toNat }
    else { p.1 with role := (p.1.role &&& 2) &&& (if golden then 0 else 2) }

/-- The reference entries that a group reads: LAST, and GOLDEN with NREF 2, none in a key frame. -/
def Frame.refs (f : Frame) (cfg : EncCfg) : List RefEntry :=
  if f.key then []
  else f.entries.filter fun e => e.role.testBit 0 || (cfg.nref == 2 && e.role.testBit 1)

/-- The reference window (R602): first row and number of rows. -/
def refWindow (cfg : EncCfg) (first count : Nat) : Nat × Nat :=
  let lo := first - 1
  (lo, min (cfg.sbRows - 1) (first + count) + 1 - lo)

/-- Motion hint blocks of a group. -/
def hintBlocks (cfg : EncCfg) (count : Nat) : Nat := cdiv cfg.width 16 * 4 * count

/-- λ. -/
def lambda (first : Nat) : Nat := if first = 0 then 0 else 1

/-- The intake bytes of a group (R605), and its work-store demand (R602). -/
def encIntake (cfg : EncCfg) (d : EncDesc) : Nat :=
  cfg.rowBytes * (d.rowCount + cfg.nref * (refWindow cfg d.rowFirst d.rowCount).2 + lambda d.rowFirst) +
    (if d.hint = 0 then 0 else 4 * hintBlocks cfg d.rowCount)
def encDemand (cfg : EncCfg) (d : EncDesc) : Nat := encIntake cfg d + cfg.rowBytes * d.rowCount + cfg.maxTg

/-- The cycles of an ENCODE (R605). -/
def encCycles (s : State) (e : Nat) (cfg : EncCfg) (d : EncDesc) (first last : Bool) : Nat :=
  let cols := if d.pair then cdiv cfg.sbCols 2 else cfg.sbCols
  let lat := cdiv (ns 200 * mdMult s (e / 4)) 10000
  256 + (if first then 2048 else 0) + cdiv (encIntake cfg d) 512 + lat + d.rowCount * (256 + cols * 4096) +
    (if last then 512 * cfg.sbCols else 0) + (if d.pair then 1024 * d.rowCount else 0) +
    cdiv (cfg.rowBytes * (d.rowCount + lambda d.rowFirst) + cfg.maxTg) 512 + lat

/-- The smallest class that holds a number of bytes. -/
def classFor (n : Nat) : Nat := ((List.range 8).find? fun k => decide (n ≤ classSize k)).getD 7

/-- Row buffers for the rows of a group, in order, with their contents; none where an allocation fails. -/
def allocRows (c r k : Nat) : List (Nat × List Byte) → State → List (Nat × Nat) → Option (State × List (Nat × Nat))
  | [], s, acc => some (s, acc)
  | (row, b) :: rest, s, acc =>
    match allocBuf s r c (ctxOf s c).uid 8 k with
    | none => none
    | some (key, s) =>
      allocRows c r k rest (writeMem s (keySpan s key).1 b) (acc ++ [(row, handle64 (handleOf s key))])

/-- Goes on with the first addresses of row buffers, each checked as a handle (R247). -/
def withRows (src : Src) (n len : Nat) : List Nat → List Nat → State → (List Nat → State → State) → State
  | [], acc, s, k => k acc s
  | h :: rest, acc, s, k => withHandle s src n h 0 len fun a s => withRows src n len rest (acc ++ [a]) s k

/-- The result header of a group (R604). -/
def encHeader (f : Frame) (d : EncDesc) (obu baseQ : Nat) (last capped : Bool) : List Byte :=
  leBytes 8 f.frame ++ leBytes 2 d.rowFirst ++ leBytes 2 d.rowCount ++ leBytes 4 obu ++ leBytes 1 baseQ ++
    leBytes 1 (f.key.toNat + 2 * last.toNat + 4 * capped.toNat + 8 * f.abandoned.toNat) ++ zeros 46

/-- The stream table after a group. -/
def tableAfter (t : List Byte) (f : Frame) (cfg : EncCfg) (done : Nat) (rate : List Byte) : List Byte :=
  let last := done == cfg.sbRows
  let es := if last then completeRoles f cfg else f.entries
  let keep := if last then 0 else f.mark.toNat + 2 * f.key.toNat + 4 * f.abandoned.toNat
  [1#8] ++ leBytes 1 (1 + (if last then 0 else 2)) ++ leBytes 2 (if last then 0 else done) ++ zeros 4 ++
    leBytes 8 (f.frame + last.toNat) ++ slice t 16 48 ++ ((rate ++ zeros 191).take 191) ++ leBytes 1 keep ++
    (es.flatMap RefEntry.bytes) ++ zeros (4096 - 256 - 3 * 528)

/-- The group's work once every check has passed: its bitstream, its rows, its table. -/
def encWork (c e : Nat) (m : Cmd) (b t : List Byte) (d : EncDesc) (cfg : EncCfg) (outA : Nat) (ins : List (List Byte))
    (s : State) : State :=
  let n := stallNo c
  let f := frameOf t d cfg
  let done := d.rowFirst + d.rowCount
  let last := done == cfg.sbRows
  let obu := (Config.av1 b t ins 0).take cfg.maxTg
  let q2 := Config.av1 b t ins 2
  let baseQ := if cfg.rcMode = 0 then cfg.baseQ else fieldAt q2 0 1
  let capped := fieldAt q2 1 1 % 2 == 1
  let fit := fun (x : List Byte) => (x ++ zeros (cfg.rowBytes - x.length)).take cfg.rowBytes
  let rows := (if d.rowFirst = 0 then [] else [(d.rowFirst - 1, fit (Config.av1 b t ins 2000))]) ++
    (List.range d.rowCount).map fun k => (d.rowFirst + k, fit (Config.av1 b t ins (3 + k)))
  let cyc_ := encCycles s e cfg d f.starts last
  let at_ := afterBlackout s outA s.now + mdCycles s (e / 4) cyc_
  if m.null then finishCmd s m.id at_
  else
    let s := stageStream s c d.slot fun s =>
      match allocRows c (16 * n + 8) (classFor cfg.rowBytes) rows s [] with
      | none => (allocFail s c (16 * n + 8) (classFor cfg.rowBytes) 0x28, [])
      | some (s, hs) =>
        let cur := f.entries.getD f.cur ⟨0, 0, 0, []⟩
        let cur := { cur with valid := done, rows := hs.foldl (fun l h => l.set h.1 h.2) cur.rows }
        (s, tableAfter t { f with entries := f.entries.set f.cur cur } cfg done (Config.av1 b t ins 1))
    if (ctxOf s c).st != .running then s
    else
      let s := engineWrite s .med c outA (encHeader f d obu.length baseQ last capped ++ obu ++ zeros (cfg.maxTg - obu.length))
      let s := if d.patch_ = 0 then s else engineWrite s .med c d.patch_ (leBytes 4 (64 + 64 * cdiv obu.length 64))
      let s := rbump s .medEncBytes 63 0 (e % 4) obu.length (e / 4)
      let s := if capped then rbump s .medEncCapped 31 0 (e % 4) 1 (e / 4) else s
      let s := rsetField s .medEncStatus 39 32 baseQ (e % 4) (e / 4)
      finishCmd s m.id at_

/-- ENCODE: its checks in the order of R598 and R600, then its work. -/
def encTake (c e : Nat) (m : Cmd) (b : List Byte) (s : State) : State :=
  let d := encDesc b
  let n := stallNo c
  let p := pubOf s n d.slot
  let partner := !d.pair || (e % 2 == 0 && bitsOf s.plan.encOwner (4 * (e + 1) + 3) (4 * (e + 1)) == n)
  if m.len ≠ 128 ∨ encForm d b = false ∨ partner = false then violation s .med m.addr
  else if !p.sound then mismatch s .med d.slot
  else if p.invalid && !(ctxOf s c).staged.contains d.slot then stepFail s .med c 0x0A
  else
    match streamAddr s c d.slot with
    | none => encFail s e c 0x58
    | some a =>
      withBytes s .med a 4096 fun t s =>
        let cfg := encCfg (slice t 16 48)
        let inFrame := fieldAt t 1 1 / 2 % 2 == 1
        let order := if inFrame then d.rowFirst == fieldAt t 2 2 || (d.rowFirst == 0 && d.forceKey) else d.rowFirst == 0
        if fieldAt t 0 1 ≠ 1 ∨ fieldAt t 1 1 % 2 = 0 then encFail s e c 0x58
        else if !order then encFail s e c 0x59
        else if slotBusy s c d.slot then encFail s e c 0x5A
        else if 33554432 < encDemand cfg d then encFail s e c 0x5B
        else if !cfg.wholeTiles d.rowFirst d.rowCount || (d.pair && cfg.colsLog2 == 0) then violation s .med m.addr
        else
          let f := frameOf t d cfg
          let (lo, w) := refWindow cfg d.rowFirst d.rowCount
          let hbytes := 4 * hintBlocks cfg d.rowCount
          let patchOk := d.patch_ == 0 || inOwnTile s n d.patch_ 4 || inHeldBuf s (ctxOf s c).uid d.patch_ 4
          if !patchOk then violation s .med d.patch_
          else
            withHandle s .med n d.out d.outOff (64 + cfg.maxTg) fun outA s =>
              if !isHbm outA || !mayWrite s c outA (64 + cfg.maxTg) then violation s .med outA
              else
                withUse s .med c d.src (8 * d.rowCount) fun sb s =>
                  let srcs := (chunks 8 sb).map leNat
                  withSpans s .med c ((srcs.map fun a => (a, cfg.rowBytes)) ++ (if d.hint = 0 then [] else [(d.hint, hbytes)])) []
                    fun s =>
                      let rh := (f.refs cfg).flatMap fun r => (r.rows.drop lo).take w
                      let cur := f.entries.getD f.cur ⟨0, 0, 0, []⟩
                      let prev := if d.rowFirst = 0 then [] else [cur.rows.getD (d.rowFirst - 1) 0]
                      withRows .med n cfg.rowBytes (rh ++ prev) [] s fun ras s =>
                        gated s .med c (mdRes (e / 4) (outA :: srcs)) outA fun s =>
                          let ins := (srcs.map fun a => readMem s a cfg.rowBytes) ++
                            [if d.hint = 0 then [] else readMem s d.hint hbytes] ++ ras.map fun a => readMem s a cfg.rowBytes
                          encWork c e m (b.take 128) t d cfg outA ins s

/-- CONFIGURE (R599). -/
def cfgTake (c e : Nat) (m : Cmd) (b : List Byte) (s : State) : State :=
  let d := encDesc b
  if m.len ≠ 128 ∨ encForm d b = false then violation s .med m.addr
  else if !(pubOf s (stallNo c) d.slot).sound then mismatch s .med d.slot
  else if slotBusy s c d.slot then encFail s e c 0x5A
  else if m.null then finishCmd s m.id s.now
  else
    let s := stageStream s c d.slot fun s => (s, freshTable (slice b 64 48))
    if (ctxOf s c).st != .running then s else finishCmd s m.id s.now

/-- An encoder OP of the class. -/
def encOpValid (o : Nat) : Bool := decide (1 ≤ o) && decide (o ≤ 2)

/-- The descriptor of a command has PAIR. -/
def cmdPairs (s : State) (m : Cmd) : Bool := fieldAt (readMem s (m.addr + 1) 1) 0 1 / 2 % 2 == 1 && leNat (readMem s m.addr 1) == 2

/-- Encoder e runs nothing, alone or as the second of a pair, and no PAIR command that stands before its queue's head on
the encoder below it waits for it; a PAIR command waits for both queues (R609). -/
def encIdle (s : State) (c e : Nat) : Bool :=
  let running := fun (m : Cmd) => m.st == .running || (m.st == .finished && decide (s.now < m.doneAt))
  let head := headCmd s c 8 e
  let busy := fun (k : Nat) => s.cmds.any fun m => m.cls == 8 && running m && (m.inst == k || (k % 2 == 1 && m.inst + 1 == k && cmdPairs s m))
  match head with
  | none => false
  | some h =>
    !busy e && (e % 2 == 0 || s.cmds.all fun m => !(m.cls == 8 && m.inst + 1 == e && m.st == .queued && decide (m.id < h.id) && cmdPairs s m)) &&
      (!cmdPairs s h || (!busy (e + 1) &&
        s.cmds.all fun m => !(m.cls == 8 && m.inst == e + 1 && m.st == .queued && decide (m.id < h.id))))

/-- CONFIGURE (R599). -/
def execConfigure (c e : Nat) (t : Nat) (s : State) : Host.Outcome State Fault Refusal :=
  whenEnabled t (fun s => decide (c < 16) && decide (e < 8) && encIdle s c e)
    (fun s => takeCmd s .med c 8 e 1 128 encOpValid (cfgTake c e)) s

/-- ENCODE (R600). -/
def execEncode (c e : Nat) (t : Nat) (s : State) : Host.Outcome State Fault Refusal :=
  whenEnabled t (fun s => decide (c < 16) && decide (e < 8) && encIdle s c e)
    (fun s => takeCmd s .med c 8 e 2 128 encOpValid (encTake c e)) s

end Sys2Proof.Machine
end

