-- ==== Sys2Proof/Machine/Messages.lean ====
section
/-! DEFINITION. What a port's receiver does with kill notices, LANDED reports and VC3 units (R523, R525, R528, R529, R562),
and the end of a LINK_DELAY (R788). -/

namespace Sys2Proof.Machine

/-- KILL_MSG (R523). -/
def execKillMsg (p : Nat) (t : Nat) (s : State) : Host.Outcome State Fault Refusal :=
  onMessage 4 p (fun b s => noticeArrive s (msgCtx b) (b.drop 16)) t s

/-- The running remote copy of a context that a COPY_ID names. -/
def copyCmd (s : State) (c id : Nat) : Option Cmd :=
  s.cmds.find? fun m => m.c == c && m.cls == 0 && m.id % 2 ^ 32 == id && m.st == .running && m.uid == (ctxOf s c).uid

/-- One part of a remote copy is done. -/
def copyPart (s : State) (c id : Nat) : State :=
  match copyCmd s c id with
  | some m => cmdPart s m.id
  | none => s

/-- LANDED_MSG (R525): the writes that one unit carried have landed on the far chip. A report whose attempt no longer runs
finds no copy. -/
def execLandedMsg (p : Nat) (t : Nat) (s : State) : Host.Outcome State Fault Refusal :=
  onMessage 6 p (fun m s =>
    let c := msgCtx m
    let b := m.drop 16
    if noticeNames (ctxOf s c) b then copyPart s c (fieldAt b 4 4) else s) t s

/-! ### VC3 units -/

/-- The context that a VC3 unit names. -/
def unitCtx (b : List Byte) : Nat := 2 * (fieldAt b 1 1 % 8) + fieldAt b 1 1 / 8 % 2

/-- The attempt that a VC3 unit names runs. -/
def unitRuns (s : State) (b : List Byte) : Bool :=
  let x := ctxOf s (unitCtx b)
  x.st == .running && x.req.step == fieldAt b 2 2 % 4096 && x.attempt % 4 == fieldAt b 1 1 / 16 % 4

/-- The form of a VC3 unit (Table 13.7); a unit that breaks it is taken as a protection violation, as R562 takes one that
reaches outside its attempt. DESIGN CHOICE, log entry 35. -/
def unitForm (b : List Byte) : Bool :=
  let len := fieldAt b 16 4
  let write := fieldAt b 0 1 == 1
  (write || fieldAt b 0 1 == 2) && fieldAt b 1 1 / 128 == 0 && decide (fieldAt b 2 2 < 4096) && len % 64 == 0 &&
    decide (64 ≤ len) && decide (len ≤ 4096) && decide (fieldAt b 8 8 < 2 ^ 48) && decide (fieldAt b 20 8 < 2 ^ 48) &&
    allZero (slice b 28 2) && (if write then fieldAt b 20 8 == 0 else fieldAt b 1 1 / 64 % 2 == 0)

/-- What comes of a VC3 unit that has left its buffer by the bay schedule: it acts now, waits, or cannot. -/
inductive UnitFate where
  | mismatch
  | stale
  | breach
  | hold
  | miss
  | go
  deriving DecidableEq, Repr

/-- The checks of a VC3 unit on arrival (R528, R562), and the holds of its access (R74). -/
def unitFate (s : State) (p : Nat) (b : List Byte) : UnitFate :=
  let c := unitCtx b
  let a := fieldAt b 8 8
  let len := fieldAt b 16 4
  if fieldAt b 30 2 ≠ crc16 (slice b 0 30 ++ b.drop 32) then .mismatch
  else if unitForm b && !unitRuns s b then .stale
  else if !unitForm b || ownerOfPort s p != stallNo c then .breach
  else if !(if fieldAt b 0 1 = 1 then mayWrite s c a len else mayRead s c a len) then .breach
  else
    match gate s (stallNo c) (ddRes (ddOfPort p) [a]) with
    | .go => .go
    | .hold => .hold
    | .miss => .miss

/-- Acts on a unit by its fate; `drop` takes it out of its place. -/
def withFate (s : State) (p : Nat) (b : List Byte) (drop go : State → State) : State :=
  match unitFate s p b with
  | .hold => s
  | .mismatch => mismatch (drop s) .dkl (fieldAt b 8 8)
  | .stale => rbump (drop s) .dklErr 7 0 (p / 4) 1 (p % 4)
  | .breach => violation (drop s) .dkl (fieldAt b 8 8)
  | .miss => stepFail (drop s) .dkl (unitCtx b) 0x02 (fieldAt b 8 8)
  | .go => go (drop s)

/-- The far end's answer has landed: the request counts it, and the next waiting request goes out where it is complete. -/
def replyLanded (s : State) (p c : Nat) (b : List Byte) : State :=
  let id := fieldAt b 4 4
  let a := fieldAt b 8 8
  let len := fieldAt b 16 4
  match (portOf s p).asked.find? (fun r => r.1 == id && decide (r.2.1 ≤ a) && decide (a < r.2.1 + r.2.2.1)) with
  | none => s
  | some r =>
    let left := r.2.2.2 - len
    if left ≠ 0 then
      modPort s p fun x => { x with asked := x.asked.map fun y => if y == r then (r.1, r.2.1, r.2.2.1, left) else y }
    else
      let s := copyPart (modPort s p fun x => { x with asked := x.asked.erase r }) c id
      match (portOf s p).readQ with
      | u :: rest => sendReadReq (modPort s p fun x => { x with readQ := rest }) p u
      | [] => s

/-- A WRITE unit lands: its bytes are written; an answer counts for its request, any other is reported with LANDED (R525),
for each unit, since nothing in a unit tells the last one of its copy. DEDUCED, log entry 34. -/
def landWrite (p : Nat) (b : List Byte) (s : State) : State :=
  let c := unitCtx b
  let s := writeMem s (fieldAt b 8 8) (b.drop 32)
  if fieldAt b 1 1 / 64 % 2 = 1 then replyLanded s p c b
  else
    match peerPos s p with
    | none => s
    | some pos =>
      sendMessage s c 6 pos (slice b 2 2 ++ leBytes 1 (fieldAt b 1 1 / 16 % 4) ++ zeros 1 ++ slice b 4 4 ++ zeros 8) 0

/-- WRITE_UNIT (R528): the first VC3 unit, where it is no READ_REQ. -/
def execWriteUnit (p : Nat) (t : Nat) (s : State) : Host.Outcome State Fault Refusal :=
  whenEnabled t (fun s => decide (p < 32) && (match headUnit s p 3 with | some b => fieldAt b 0 1 != 2 | none => false)) (fun s =>
    match headUnit s p 3 with
    | some b => withFate s p b (fun s => dropUnit s p 3) (landWrite p b)
    | none => s) s

/-- The answer to a READ_REQ: a REPLY WRITE unit to the reply address on the same port (R529). -/
def answerRead (p : Nat) (b : List Byte) (s : State) : State :=
  let c := unitCtx b
  let x := ctxOf s c
  withBytes s .dkl (fieldAt b 8 8) (fieldAt b 16 4) fun bytes s =>
    sendUnit s p 3
      { bytes := vc3Unit 1 (stallNo c) (c % 2) x.attempt true x.req.step (fieldAt b 4 4) (fieldAt b 20 8) (fieldAt b 16 4) 0 bytes
        started := false, safety := false, reply := true, c := c, uid := x.uid, cmd := 0 }

/-- The first READ_REQ of a port: of its table, or the head of VC3 that a LINK_DELAY kept out of the table. -/
def firstRead (s : State) (p : Nat) : Option (List Byte × Bool) :=
  match (portOf s p).reads with
  | b :: _ => some (b, true)
  | [] =>
    match headUnit s p 3 with
    | some b => if fieldAt b 0 1 = 2 then some (b, false) else none
    | none => none

/-- READ_REQ (R529): the oldest request is answered. -/
def execReadReq (p : Nat) (t : Nat) (s : State) : Host.Outcome State Fault Refusal :=
  whenEnabled t (fun s => decide (p < 32) && (firstRead s p).isSome) (fun s =>
    match firstRead s p with
    | some (b, tab) =>
      withFate s p b (fun s => if tab then modPort s p fun x => { x with reads := x.reads.tail } else dropUnit s p 3) (answerRead p b)
    | none => s) s

/-- DELAYED_DELIVERY (R788): the first unit of a channel that LINK_DELAY holds reaches its delay; it is classified when its
own command takes it (R798). -/
def execDelayedDelivery (p vc : Nat) (t : Nat) (s : State) : Host.Outcome State Fault Refusal :=
  let first := fun (s : State) => (Tab.getD RxChan.clear vc (portOf s p).rx).units.find? fun u => u.due.isSome
  whenEnabled t (fun s => decide (p < 32) && decide (vc < 4) &&
      (match first s with | some u => due u.due s.now | none => false)) (fun s =>
    match first s with
    | none => s
    | some u =>
      modPort s p fun x =>
        let r := Tab.getD RxChan.clear vc x.rx
        { x with rx := Tab.put vc { r with units := r.units.map fun v => if v == u then { v with due := none } else v } x.rx }) s

end Sys2Proof.Machine
end

