-- ==== Sys2Proof/Machine/Power.lean ====
section
/-! DEFINITION. Compute voltage, power gates and the thermal trips (chapter 22). -/

namespace Sys2Proof.Machine

/-! ### Compute voltage (R820-R824) -/

/-- VOLTAGE_RISE_CHECK (R823, R484): at T - 1,000 ns. `late` names the quadrants whose rail has not reached a raised code,
`unlocked` the domains whose standby PLL failed its check (compute domains 0-15, media domains 40 and 41). What they hold
back stays pending and is logged as SETPOINT_SLEW. -/
def execVoltageRiseCheck (late unlocked : List Nat) (t : Nat) (s : State) : Host.Outcome State Fault Refusal :=
  whenEnabled t (fun s => inFence s && !s.tide.checked && decide (s.tide.expected ≤ s.now + ns 1000)) (fun s =>
    let rising := fun q => decide (quadVid s q (rget s .clkAppliedCd) s.plan.fallowDies < rfield s .pwrVid 6 0 q)
    let held := ((List.range 16).filter fun d => late.contains (d / 4) && rising (d / 4)) ++
      unlocked.filter fun n => decide (n < 16) || n == 40 || n == 41
    let s := { s with tide := { s.tide with checked := true, heldDomains := held } }
    if held.isEmpty then s else logRaw s none 6 .clk 0x03 0 0) s

/-- VID_FALL (R824): from 20 ns after the tick, a quadrant's code falls to what the new multipliers need. -/
def execVidFall (quad : Nat) (t : Nat) (s : State) : Host.Outcome State Fault Refusal :=
  whenEnabled t (fun s => decide (quad < 4) && s.tide.running && !s.tide.sampled && decide (s.tide.tick + ns 20 ≤ s.now) &&
      decide (s.now ≤ s.tide.tick + us 20) && decide (rfield s .pwrVid 22 16 quad < rfield s .pwrVid 6 0 quad))
    (fun s => rsetField s .pwrVid 6 0 (rfield s .pwrVid 22 16 quad) quad) s

/-- The voltage moves of a sampling point (R820, R821, R823, R836): each quadrant's required code for the coming tick, with
the multipliers that the tick will apply and the dies that it will re-admit; a rise starts. -/
def sampleVid (s : State) (nextFallow : Nat) : State :=
  let next := (List.range 16).foldl (fun w d =>
      if s.plan.fallowDies.testBit d then setBf w (4 * d + 3) (4 * d) (cdCode s.clk.sampledCd d) else w)
    (slewCd [] s s.clk.sampledCd (rget s .clkAppliedCd))
  let s := { s with pwr := { s.pwr with vidWas := (List.range 4).map fun q => rfield s .pwrVid 6 0 q } }
  (List.range 4).foldl (fun s q =>
    let target := quadVid s q next nextFallow
    let now := quadVid s q (rget s .clkAppliedCd) s.plan.fallowDies
    let s := rsetField s .pwrVid 22 16 target q
    rsetField s .pwrVid 6 0 (max (rfield s .pwrVid 6 0 q) (max now target)) q) s

/-! ### Package power (R826) -/

/-- The mean power of the tide that a tick ends, as the rail monitors give it. -/
def tidePower (power : Nat) (s : State) : State :=
  let w := min power 65535
  let limit := if s.fuse.grade % 2 = 0 then 1500 else 1200
  let s := rsetField (rsetField s .pwrStatus 15 0 w) .pwrStatus 62 62 (decide (limit < power)).toNat
  rsetField s .pwrPeak 15 0 (max (rfield s .pwrPeak 15 0) w)

/-! ### Thermal trips (R827, R828, R835) -/

/-- THERMAL_TRIP (R827): a die has read its trip temperature for 100 µs; SF has no such trip. -/
def execThermalTrip (d : Nat) (t : Nat) (s : State) : Host.Outcome State Fault Refusal :=
  whenEnabled t (fun s => decide (d < 39) && !fallow s d && !s.pwr.inReset && phase s != 1) (fun s =>
    let s := cancelChange (rmod s .pwrTrip fun w => setBit w d true)
    let s := rsetField { s with pwr := { s.pwr with tripWait := true } } .pwrStatus 61 61 1
    lossUnlisted s .pwr (regAddr .pwrTrip 0 0)) s

/-- THERMTRIP (R828): the always-on sensors drive THERMTRIP_N low, and every laser driver stops. -/
def execThermtrip (d : Nat) (t : Nat) (s : State) : Host.Outcome State Fault Refusal :=
  whenEnabled t (fun s => decide (d < 40) && s.pwr.pwrok && !s.pwr.thermtrip) (fun s =>
    let s := (List.range 32).foldl cutOff s
    drivePin { s with pwr := { s.pwr with thermtrip := true } } "THERMTRIP_N" false) s

/-! ### Power gates (R752, R754, R837) -/

/-- A compute die is to be powered: in service, under test, or holding a pass. -/
def wantsPower (s : State) (d : Nat) : Bool :=
  !fallow s d || (s.pwr.passes.any fun y => !y.1 && y.2.1 == d) ||
    (match s.pwr.test with | some (port, i, _) => !port && i == d | none => false)

/-- A gate ramp of 200 µs that starts now touches no span between a sampling point and its tick + 20 µs. -/
def rampFits (s : State) : Bool :=
  !s.tide.running || (!s.tide.sampled && decide (s.tide.tick + us 20 ≤ s.now) && decide (s.now + us 200 ≤ samplingPoint s))

/-- POWER_GATE_RAMP (R837): the gate of a compute die opens or closes; its domain's lock follows, which is no lock loss
(R54). -/
def execPowerGateRamp (d : Nat) (up : Bool) (t : Nat) (s : State) : Host.Outcome State Fault Refusal :=
  whenEnabled t (fun s => decide (d < 16) && wantsPower s d == up && s.pwr.gated.contains d != up &&
      decide (Tab.getD 0 (d / 4) s.pwr.gateRamps ≤ s.now) && rampFits s && !s.pwr.inReset) (fun s =>
    let s := rmod s .clkLockStatus fun w => setBit w d up
    { s with pwr := { s.pwr with
      gated := if up then d :: s.pwr.gated else s.pwr.gated.filter (· ≠ d)
      gateRamps := Tab.put (d / 4) (s.now + us 200) s.pwr.gateRamps } }) s

end Sys2Proof.Machine
end

