-- ==== Sys2Proof/Machine/Ticks.lean ====
section
/-! DEFINITION. The sampling point and the ticks (chapter 2), and the steward's start (R216, R218). -/

namespace Sys2Proof.Machine

/-! ### BC8 (R216-R218) -/

/-- BC8 starts at BCN_STW_ENTRY with a clear context; the first 256 words must lie in one steward extent (R188, R216). -/
def startSteward (s : State) : State :=
  let a := rfield s .bcnStwEntry 47 0
  let s := rmod s .bcnStwCtrl fun w => setBit (setBit w 1 true) 2 false
  let s := modCtx s 16 fun _ => { Ctx.clear with st := .running, startT := s.now, bcn := { Bcn.clear with ready := beatUp s.now } }
  if !inExtentOf s 8 a 16384 then violation s .bcn a
  else withBytes s .bcn a 16384 fun bytes s => modBcn s 16 fun b => { b with words := loadWords bytes 0 [] }

/-- The write of BCN_STW_CTRL (R218, R219): GO set after sealing starts BC8; during a fold reset it waits for the first
tick. -/
def writeStwCtrl (q : Requester) (v : Word) (s : State) : State :=
  guardedWrite s q .bcnStwCtrl 0 0 v (fun s => !bitAt v 0 || s.img.isSealed) fun s =>
    let s := storeReg .bcnStwCtrl 0 0 v s
    if bitAt v 0 && s.pwr.fold.isNone then startSteward s else s

/-- STEWARD_GO (R218). -/
def execStewardGo (q : Requester) (v : Word) (t : Nat) (s : State) : Host.Outcome State Fault Refusal :=
  whenEnabled t (fun s => reachable s q && bitAt v 0) (writeStwCtrl q v) s

/-! ### The sampling point (R66-R68, R84, R776) -/

/-- An overrun of a further context of a stall whose entry is written. -/
def overrunMore (s : State) (c : Nat) : State :=
  stopAttempt (sendNotice (writeOutcome s c 2 0x01) c 0 0x01) c (some 0x01) none

/-- The uncommitted steps of a stall end with OVERRUN, with one Strandline entry for the stall (R84, R96). -/
def overrunStall (s : State) (n : Nat) : State :=
  match [2 * n, 2 * n + 1].filter fun c => uncommitted s c with
  | [] => s
  | c :: more =>
    let s := more.foldl overrunMore (stepFail s .tid c 0x01)
    let s := rbump (rmod s .tidMiss fun w => setBit w n true) .tidMissCount (8 * n + 7) (8 * n)
    modStall s n fun st => { st with overruns := st.overruns + 1 }

/-- The attempts that have committed and not ended stop (R77). -/
def endCommitted (s : State) (c : Nat) : State :=
  let x := ctxOf s c
  if x.committed && x.st == .running then endAttempt s c else s

/-- Every unit in a channel's receive buffer is taken out and acted upon. -/
def flushChan (s : State) (p vc : Nat) (act : List Byte → State → State) : State :=
  (Tab.getD RxChan.clear vc (portOf s p).rx).units.foldl (fun s u => act u.bytes (dropUnit s p vc)) s

/-- What a port holds is discarded: records, returns and VC3 units as stale, requests with their attempts (R450, R776,
R798). -/
def flushPort (s : State) (p : Nat) : State :=
  let rec_ := fun b s => recArrive s (ddOfPort p) b
  let s := flushChan (flushChan s p 1 rec_) p 2 rec_
  let s := flushChan s p 3 fun b s =>
    if fieldAt b 30 2 ≠ crc16 (slice b 0 30 ++ b.drop 32) then mismatch s .dkl (fieldAt b 8 8)
    else rbump s .dklErr 7 0 (p / 4) 1 (p % 4)
  modPort s p fun x => { x with reads := [], asked := [], readQ := [] }

/-- Parks, next banks and held kill notices are emptied (R292, R397, R523). -/
def flushHeld (s : State) : State :=
  let s := s.bank.foldl (fun s x => winStale s (x.1 / 64) 1) (emptyParks s)
  { s with bank := [], heldKill := [] }

/-- The fallow dies from the coming tick on. -/
def nextFallow (s : State) : Nat :=
  match s.img.applying, s.img.pending with
  | true, some b => secFallowDies (sectsAfter s b)
  | _, _ => s.plan.fallowDies

/-- The sampling point. -/
def samplePoint (s : State) : State :=
  let s := (List.range 8).foldl overrunStall s
  let s := (List.range 16).foldl endCommitted s
  let s := { s with tide := { s.tide with sampled := true, checked := false, heldDomains := [] } }
  let s := flushHeld ((List.range 32).foldl flushPort s)
  let s := sampleFields (sampleImage s)
  sampleVid s (nextFallow s)

/-- SAMPLING_POINT (R66, R84): 20,000 ns before the expected tick. -/
def execSamplingPoint (t : Nat) (s : State) : Host.Outcome State Fault Refusal :=
  whenEnabled t (fun s => s.tide.running && !s.tide.sampled && s.pwr.fold.isNone && decide (samplingPoint s ≤ s.now)) samplePoint s

/-! ### Ticks (R58, R62-R64, R68) -/

/-- An injection whose target is fallow is disarmed (R800). -/
def disarmFallow (s : State) : State :=
  let v := rget s .hltInject
  let gone :=
    match bf v 63 62 with
    | 0 => false
    | 3 => portFallow s (bf v 52 48)
    | _ =>
      match unitOf (bf v 47 0) with
      | .tile d _ => fallow s d
      | .loft d => fallow s (34 + d)
      | .hbm n => fallow s (16 + n)
      | _ => false
  if gone then logAccess (rsetField s .hltInject 63 62 0) .hlt 0x03 (bf v 47 0) (reqCode .pf) else s

/-- What a pending image brings about on the applying tick's edge: it becomes the active one, and newly fallow ports go OFF
(R128, R752). -/
def tickImage (s : State) : State :=
  let before := s
  let s := applyPending s
  let s := (List.range 32).foldl (fun s p => if portFallow s p && !portFallow before p then cutOff s p else s) s
  disarmFallow s

/-- Per-tide counts that restart at a tick: tag failures of a port (R537), the fence's scrub (R768). -/
def tickCounts (s : State) : State :=
  { s with
    ports := s.ports.map fun x => (x.1, { x.2 with authFails := 0 })
    health := { s.health with scrubbed := false } }

/-- The tick that closes a tide. -/
def closeTide (tk : Nat) (fly : Bool) (power : Nat) (s : State) : State :=
  tickCounts (tidePower power (tickCore (tickImage s) tk fly false))

/-- TIDE_TICK (R58, R62, R68): the tide closes at its expected instant, or at an accepted edge; `power` is its mean package
power in watts. A fold reset stops the timer with its logic reset, so a tick that is due before that still falls, and it
keeps the multipliers of a cancelled change (R52, R98). -/
def execTideTick (power : Nat) (t : Nat) (s : State) : Host.Outcome State Fault Refusal :=
  whenEnabled t (fun s => s.tide.sampled && due (tickDue s) s.now)
    (fun s => closeTide ((tickDue s).getD s.now) false power s) s

/-- A flywheel tick is counted and logged (R64). -/
def countFlywheel (s : State) : State := logRaw (rbump s .tidExtStatus 31 16) none 6 .tid 0x04 0 0

/-- FLYWHEEL_TICK (R64). -/
def execFlywheelTick (power : Nat) (t : Nat) (s : State) : Host.Outcome State Fault Refusal :=
  whenEnabled t (fun s => s.tide.sampled && due (flyDue s) s.now)
    (fun s => closeTide ((flyDue s).getD s.now) true power (countFlywheel s)) s

/-- The first tick after a seal or a fold reset: the timer, in external mode from capture, starts; the chip is in service;
after a fold reset BC8 starts again where GO is 1 (R744, R218). -/
def firstTick (s : State) : State :=
  let fly := (firstTickDue s).isNone
  let tk := ((firstTickDue s).orElse fun _ => firstFlyDue s).getD s.now
  let s := if fly then countFlywheel s else s
  let s := { s with tide := { s.tide with capture := bitAt s.tide.sCtrl 0 } }
  let s := tickCounts (setPhase (tickCore s tk fly true) 5)
  let s := { s with pwr := { s.pwr with readyAt := none } }
  if bitAt (rget s .bcnStwCtrl) 0 && !bitAt (rget s .bcnStwCtrl) 1 && rfield s .pwrRstStatus 47 32 != 0 then startSteward s else s

/-- FIRST_TICK (R744). -/
def execFirstTick (t : Nat) (s : State) : Host.Outcome State Fault Refusal :=
  whenEnabled t (fun s => phase s == 4 && s.pwr.fold.isNone && (due (firstTickDue s) s.now || due (firstFlyDue s) s.now)) firstTick s

end Sys2Proof.Machine
end

