-- ==== Sys2Proof/Machine/Views.lean ====
section
/-! DEFINITION. What a register read shows (Table 0.2): the stored value, or the quantity that the state holds elsewhere.
Each view follows the field table of its register. -/

namespace Sys2Proof.Machine

/-- A bit as a number at a place. -/
def bitv (b : Bool) (i : Nat) : Nat := b.toNat * 2 ^ i

/-- A mask of the numbers below n with a property. -/
def maskWhere (n : Nat) (f : Nat → Bool) : Nat := ((List.range n).map fun i => bitv (f i) i).sum

/-! ### Tide, stalls, Beacons -/

/-- TID_NOW: 0 while the timer is stopped. -/
def viewTidNow (s : State) : Nat :=
  if s.tide.running then min (sinceTick s) (2 ^ 27 - 1) + s.tide.bay * 2 ^ 32 + bitv (inFence s) 36 else 0

/-- The context holds on its COMMIT word. -/
def committing (s : State) (c : Nat) : Bool :=
  runningCtx s c && (cfield (lwControl (wordAt (ctxOf s c).bcn))).cop == 0x08 && (wordHold s c).1 == 5

/-- PRIMARY_ST and URGENT_ST. A context between two attempts shows 2: its killed attempt is over and no other runs.
DESIGN CHOICE, log entry 13. -/
def viewCtxSt (s : State) (c : Nat) : Nat :=
  match (ctxOf s c).st with
  | .idle => 0
  | .running => if committing s c then 3 else 1
  | .killing => 2
  | .between => 2
  | .suspended => 4
  | .held => 5

/-- STL_STATE_s. -/
def viewStlState (s : State) (n : Nat) : Nat :=
  let p := ctxOf s (2 * n)
  let u := ctxOf s (2 * n + 1)
  let shown := fun (x : Ctx) => if x.st == .idle then (0, 0) else (x.req.step % 4096, x.attempt % 4)
  (shown p).1 + (shown u).1 * 2 ^ 12 + (shown p).2 * 2 ^ 24 + (shown u).2 * 2 ^ 26 + viewCtxSt s (2 * n) * 2 ^ 28 +
    viewCtxSt s (2 * n + 1) * 2 ^ 31 + (stallOf s n).stepsThisTide % 128 * 2 ^ 34

/-- The code of BCN_STATUS.HOLD: what holds the word whose issue is due. -/
def viewHold (s : State) (c : Nat) : Nat :=
  let b := (ctxOf s c).bcn
  if runningCtx s c && b.iss.isNone && decide (b.ready ≤ s.now) then (wordHold s c).1 else 0

/-- BCN_STATUS_b. -/
def viewBcnStatus (s : State) (b : Nat) : Nat :=
  let half := fun c => let x := (ctxOf s c).bcn; (x.pc % 2048, x.loops.length % 16, viewHold s c)
  let p := half (2 * b)
  let u := if b = 8 then (0, 0, 0) else half (2 * b + 1)
  p.1 + u.1 * 2 ^ 16 + p.2.1 * 2 ^ 34 + u.2.1 * 2 ^ 38 + p.2.2 * 2 ^ 42 + u.2.2 * 2 ^ 45

/-! ### Granary, Haul, tallies -/

/-- The allocated pages of an arena. -/
def arenaHeld (s : State) (a : Nat) : Nat :=
  let lo := bufKey true a 0
  (s.bufs.filter fun b => b.2.alloc && decide (lo ≤ b.1) && decide (b.1 < lo + 2 ^ 20)).length

/-- Commands that wait at an engine, of every context. -/
def waiting (s : State) (cls inst : Nat) : Nat :=
  (s.cmds.filter fun m => m.cls == cls && m.inst == inst && m.st == .queued && decide (m.arrive ≤ s.now)).length

/-- The command that an engine runs. -/
def runningCmd (s : State) (cls inst : Nat) : Option Cmd :=
  s.cmds.find? fun m => m.cls == cls && m.inst == inst && m.st == .running

/-- HAU_STATUS_m. -/
def viewHau (s : State) (m : Nat) : Nat :=
  let run := match runningCmd s 0 m with | some x => if x.c = 16 then 3 else 1 + x.c % 2 | none => 0
  waiting s 0 m % 256 + run * 2 ^ 14 + cdOwner s (m / 2) * 2 ^ 16

/-- TAL_PARK_s. -/
def viewPark (s : State) (n : Nat) : Nat :=
  (parkOf s (2 * n)).adds.length % 256 + (parkOf s (2 * n + 1)).adds.length % 256 * 2 ^ 8

/-! ### Tiles, vector units, SFUs -/

/-- SOURCE, STEP and NULL of a unit: the direct command or the piece that it runs. -/
def unitShows (s : State) (cls u : Nat) : Nat × Nat × Bool :=
  let of := fun (m : Cmd) => (workSource m, (ctxOf s m.c).req.step, m.null)
  if s.now < busyTill s cls u then Tab.getD (0, 0, false) (busyKey cls u) s.tiles.last
  else
    match runningCmd s cls u with
    | some m => of m
    | none =>
      match (unitPieces s cls u).find? fun p => decide (p.at_ ≤ s.now) with
      | some p => (match s.cmds.find? (·.id == p.cmd) with | some m => of m | none => (0, 0, false))
      | none => (0, 0, false)

/-- MTX_TILE_STATUS_t and VEC_UNIT_STATUS_v of unit i of compute die d. -/
def viewUnit (s : State) (cls d i : Nat) : Nat :=
  let x := unitShows s cls (8 * d + i)
  let owner := if s.img.inForce then cdOwner s d else 0
  waiting s cls (8 * d + i) % 32 + owner * 2 ^ 13 + bitv x.2.2 17 + x.1 * 2 ^ 18 + x.2.1 % 4096 * 2 ^ 24

/-- Commands in a common work list (R321). -/
def listLen (s : State) (c cls : Nat) : Nat :=
  ((listCmds s c cls).filter fun m => m.st == .queued || (m.st == .running && decide (m.next < m.total))).length

/-- MTX_WL_s. -/
def viewWl (s : State) (n : Nat) : Nat :=
  Tab.getD 0 (2 * n + 1) s.tiles.deal % 256 * 2 ^ 16 + Tab.getD 0 (2 * n) s.tiles.deal % 256 * 2 ^ 24 +
    listLen s (2 * n) 2 % 256 * 2 ^ 32 + listLen s (2 * n + 1) 2 % 256 * 2 ^ 40 + listLen s (2 * n) 1 % 256 * 2 ^ 48 +
    listLen s (2 * n + 1) 1 % 256 * 2 ^ 56

/-- SFU_STATUS_u of compute die d: what R369 has loaded. -/
def viewSfu (s : State) (d : Nat) : Nat :=
  let n := cdOwner s d
  if 8 ≤ n then 0xF0
  else
    let blk := sfuBlock s n
    let bytes := ((List.range (sfuCounts blk).2.2).map fun k => segBytes (sfuTable blk k)).sum
    1 + n * 2 ^ 4 + bitv ((s.plan.numeric.getD n 0).testBit 0) 8 + bitv (bitAt (rget s .stlCtrl n) 2) 9 +
      (if blk.isEmpty then 0 else cdiv bytes 64 % 65536 * 2 ^ 16 + crc16 blk * 2 ^ 32)

/-! ### Census -/

/-- The banks of WIN_CENSUS_s that hold something. -/
def viewBanks (s : State) (n : Nat) : Nat :=
  let holds := fun c k => (Tab.find (32 * c + k) s.bank).isSome
  bitv (holds (2 * n) 16) 0 + bitv (holds (2 * n + 1) 16) 1 + maskWhere 16 (holds (2 * n)) * 2 ^ 16 +
    maskWhere 16 (holds (2 * n + 1)) * 2 ^ 32

/-! ### Ports and topology -/

/-- The level of a port as Breakwater reports it: OFF without SF or LNKCLK, PROBE for a FAILED port that stands at full
power (Table 13.2). -/
def shownLevel (s : State) (p : Nat) : Nat :=
  let l := (bwPortOf s p).level
  if !s.bw.sfOn || s.clk.lnkBad then 0 else if (portOf s p).st = 8 ∧ l = 2 then 1 else l

/-- DKL_STATE of a port. BRAKED shows a transmitter that Breakwater holds dark; RX_LOS a port beyond OFF whose receiver sees
no light. -/
def viewDkl (s : State) (p : Nat) : Nat :=
  let x := portOf s p
  let dark := s.bw.sfOn && (shownLevel s p == 0 || shownLevel s p == 3)
  x.st % 16 + x.cause % 16 * 2 ^ 4 + bitv (x.light.isNone && x.st != 0) 9 + bitv dark 10 +
    bitv (portEnc s p && !x.far.isEmpty) 11 + min (x.txExt - x.oldest) 4095 * 2 ^ 12 + x.oldest % 4096 * 2 ^ 24 +
    x.rxExt % 4096 * 2 ^ 36 + x.consReplay % 16 * 2 ^ 48 + x.consRetrain % 16 * 2 ^ 52

/-- DKL_FAR_ID of a port. -/
def viewFarId (s : State) (p : Nat) : Nat :=
  let r := (portOf s p).far
  fieldAt r 8 2 % 4096 * 2 ^ 20 + fieldAt r 10 1 % 32 * 2 ^ 40 + fieldAt r 14 1 % 2 * 2 ^ 45 + fieldAt r 11 1 % 4 * 2 ^ 46 +
    fieldAt r 12 2 * 2 ^ 48

/-- KIND of the board (R554): one chip, wired, or circuit where a port from 16 on is a peer port. DEDUCED, log entry 13. -/
def boardKind (s : State) : Nat :=
  if boardChips s = 1 then 0
  else if (List.range 16).any fun p => portRole s (16 + p) == 1 then 2 else 1

/-- TOP_BOARD. -/
def viewBoard (s : State) : Nat :=
  bitsOf s.plan.target 3 0 + bitsOf s.plan.target 5 4 * 2 ^ 4 + boardKind s * 2 ^ 8 + s.plan.globalChip % 4096 * 2 ^ 32

/-- TOP_READY. -/
def viewReady (s : State) : Nat :=
  let late := fun p => portRole s p != 0 && !portUp s p
  maskWhere 32 late + bitv (s.img.inForce && (List.range 32).all fun p => !late p) 63

/-- TOP_MEMBER_d: chip and peer ports of a position. -/
def viewMember (s : State) (d : Nat) : Nat :=
  if !s.img.inForce || decide (boardChips s ≤ d) then 0
  else
    let ports := (List.range 32).filter fun p => peerPos s p == some d
    let act := fun p => (portOf s p).st == 4
    let chip := if d = chipOnBoard s then s.plan.globalChip
      else match ports.head? with | some p => portCfg s p 27 16 | none => 0
    let a := match ports.head? with | some p => p + bitv (act p) 11 + 2 ^ 13 | none => 0
    let b := match ports.tail.head? with | some p => p * 2 ^ 5 + 2 ^ 10 + bitv (act p) 12 | none => 0
    a + b + chip % 4096 * 2 ^ 32 + 2 ^ 63

/-- TOP_CABLE_p (R572): 0 for a port that is not in HOLD. -/
def viewCable (s : State) (p : Nat) : Nat :=
  let x := portOf s p
  if x.st ≠ 7 then 0
  else
    let r := x.heard
    let is := fun q chip port => portRole s q != 0 && portCfg s q 27 16 == chip && portCfg s q 36 32 == port
    let found := (List.range 32).find? fun q => is q (fieldAt r 8 2) (fieldAt r 10 1)
    let tail := match found with
      | some q =>
        let y := portOf s q
        let swap := y.st == 7 && fieldAt y.heard 8 2 == portCfg s p 27 16 && fieldAt y.heard 10 1 == portCfg s p 36 32
        bitv swap 32 + 2 ^ 33 + q * 2 ^ 34
      | none => 0
    fieldAt r 12 2 * 2 ^ 16 + tail + fieldAt r 10 1 % 32 * 2 ^ 39 + fieldAt r 8 2 % 4096 * 2 ^ 44 + x.cause % 16 * 2 ^ 56 + 2 ^ 63

/-! ### Media -/

/-- MED_RS_STATUS of media die d. -/
def viewRs (s : State) (d : Nat) : Nat :=
  let run := runningCmd s 7 d
  run.isSome.toNat + bitsOf s.plan.rsOwner (4 * d + 3) (4 * d) * 2 ^ 4 +
    (match run with | some m => stallNo m.c % 8 * 2 ^ 8 | none => 0) + waiting s 7 d % 32 * 2 ^ 11

/-- A command of the even encoder of a pair serves both encoders (R609): its descriptor's PAIR flag. -/
def isPair (s : State) (m : Cmd) : Bool :=
  decide (m.inst % 2 = 0) && (leNat ((if m.desc.isEmpty then readMem s m.addr 64 else m.desc).drop 1) / 2 % 2 == 1)

/-- MED_ENC_STATUS but for LAST_Q, of encoder e: a PAIR command counts in both queues of its pair. -/
def viewEnc (s : State) (e : Nat) : Nat :=
  let mine := fun (m : Cmd) => m.cls == 8 && (m.inst == e || (e % 2 == 1 && m.inst + 1 == e && isPair s m))
  let depth := (s.cmds.filter fun m => mine m && m.st == .queued && decide (m.arrive ≤ s.now)).length
  let run := s.cmds.find? fun m => mine m && m.st == .running
  bitsOf s.plan.encOwner (4 * e + 3) (4 * e) * 2 ^ 4 + depth % 64 * 2 ^ 8 +
    (match run with
     | some m => 2 ^ 16 + bitv (isPair s m) 17 + fieldAt m.desc 3 1 % 64 * 2 ^ 18
     | none => 0)

/-! ### Breakwater -/

/-- HELD_BY: the first reason that holds a port below FULL, in the order of log entry 13 (DESIGN CHOICE). -/
def heldBy (s : State) (p : Nat) : Nat :=
  if 2 ≤ shownLevel s p then 0
  else if !lightMask s p || portRole s p == 0 then 1
  else if s.clk.lnkBad then 10
  else if inLockout s then 9
  else if !interlockClosed s (p % 4) then 2
  else if bitAt (rget s .bwrIntlk) (4 * (p % 4) + 2) then 3
  else if bitAt (rget s .bwrIntlk) (4 * (p % 4) + 3) then 7
  else if (bwPortOf s p).holdTill.isSome then 6
  else if overdue s p then 8
  else if (bwPortOf s p).held ≠ 0 then (bwPortOf s p).held
  else if (portOf s p).light.isNone then 4
  else 0

/-- BWR_PORT_p but for its counters. -/
def viewBwPort (s : State) (p : Nat) : Nat :=
  let b := bwPortOf s p
  let age := match b.passed with | some t => min ((s.now - t) / minutes 1) 4095 | none => 0
  age * 2 ^ 32 + bitv ((portOf s p).st == 4 && decide (s.now ≤ b.permitAt + permitExpect s)) 57 + heldBy s p % 16 * 2 ^ 58 +
    shownLevel s p % 4 * 2 ^ 62

/-- DEGRADED and DEGRADED_LEFT_MIN of BWR_STATUS. -/
def viewDegraded (s : State) : Nat :=
  if degraded s then
    2 ^ 62 + min (cdiv ((s.bw.degradedAt.getD s.now) + degradedLimit s - s.now) (minutes 1)) 65535 * 2 ^ 32
  else 0

/-- The contact bits of BWR_INTLK. -/
def viewContacts (s : State) : Nat :=
  ((List.range 4).map fun e =>
    bitv (Tab.find (2 * e) s.bw.closed).isSome (4 * e) + bitv (Tab.find (2 * e + 1) s.bw.closed).isSome (4 * e + 1)).sum

/-- BWR_H_STATUS of edge die e. -/
def viewH (s : State) (e : Nat) : Nat :=
  ((List.range 8).map fun l => shownLevel s (4 * l + e) % 4 * 4 ^ l).sum + bitv (channelBad s .h e) 62 + bitv (inLockout s) 63

/-! ### The log -/

/-- The bytes of an entry but for its CRC, and with it (Table 20.4, R781). -/
def LogEntry.bytes (e : LogEntry) : List Byte :=
  let tag := match e.stall with | some n => if n < 8 then 2 ^ 48 + n * 2 ^ 45 else 0 | none => 0
  let body :=
    leBytes 8 (e.tide % 2 ^ 37 * 2 ^ 27 + e.since % 2 ^ 27) ++
    leBytes 8 (e.step % 4096 * 2 ^ 52 + e.attempt % 4 * 2 ^ 50 + e.ctx % 2 * 2 ^ 49 + tag + e.cls % 8 * 2 ^ 42 +
      e.source % 256 * 2 ^ 32 + e.code % 256 * 2 ^ 24 + e.seq % 2 ^ 24) ++
    leBytes 8 e.data0 ++ leBytes 6 e.data1
  body ++ leBytes 2 (crc16 body)

/-- Entry i of a ring of `size` that has had `count` entries written, newest first in the list. -/
def ringEntry (l : List LogEntry) (count size i : Nat) : Option LogEntry :=
  if count ≤ i then none else l[(count - 1 - i) % size]?

/-- A word of an entry as a requester sees it: a virtual function sees the entries of its own stall (R794). -/
def entryWord (q : Requester) (e : Option LogEntry) (w : Nat) : Nat :=
  match e with
  | none => 0
  | some e =>
    let seen := match q with | .vf n => e.stall == some n.val | _ => true
    if seen then fieldAt e.bytes (8 * w) 8 else 0

/-- Domain n runs: it stops only with a fallow die that is neither under test nor holding a pass; a compute die's runs
behind its power gate (R54, R754, R755, R837). -/
def domainRuns (s : State) (n : Nat) : Bool :=
  if n < 16 then s.pwr.gated.contains n else wantsPower s (dieOfDomain n)

/-! ### The value of a register -/

/-- The value of a register that no field of `regs` holds, or that holds only a part of it. -/
def computed (s : State) (q : Requester) (r : Reg) (d i : Nat) : Word :=
  let old := rgetX s r d i
  match r with
  | .clkLockStatus => old &&& word (maskWhere 60 (domainRuns s))
  | .tidNow => word (viewTidNow s)
  | .stlState => word (viewStlState s i)
  | .stlSide => word (maskWhere 64 fun j => (pubOf s i j).side)
  | .stlValid => word (maskWhere 64 (slotValid s i))
  | .stlPub => let p := pubOf s (i / 64) (i % 64); word (p.h0 + p.h1 * 2 ^ 32)
  | .stlCmt => (cmtOf s (i / 64) (i % 64)).w
  | .stlCmtMask => (cmtOf s (i / 64) (i % 64)).mask
  | .bcnStatus => word (viewBcnStatus s i)
  | .grnHeld => old ||| word (heldCount s (i / 8) (i % 8))
  | .grnArenaHeld => word (arenaHeld s i)
  | .hauStatus => word (viewHau s i)
  | .talValue => let v := tallyOf s i; word (v.value + v.comp * 2 ^ 32)
  | .talPark => word (viewPark s i)
  | .mtxTileStatus => word (viewUnit s 1 d i)
  | .vecUnitStatus => word (viewUnit s 2 d i)
  | .mtxWl => word (viewWl s i)
  | .sfuStatus => word (viewSfu s d)
  | .winCensus => old ||| word (viewBanks s i)
  | .dklState => word (viewDkl s (4 * i + d))
  | .dklFarSerial => word (fieldAt (portOf s (4 * i + d)).far 0 8)
  | .dklFarId => word (viewFarId s (4 * i + d))
  | .dklSession => let x := portOf s (4 * i + d); word (x.session + fieldAt x.far 16 4 * 2 ^ 32)
  | .topBoard => word (viewBoard s)
  | .topReady => word (viewReady s)
  | .topMember => word (viewMember s i)
  | .topCable => word (viewCable s i)
  | .medRsStatus => word (viewRs s d)
  | .medEncStatus => (old &&& maskOf 39 32) ||| word (viewEnc s (4 * d + i))
  | .hifLink => (old &&& maskOf 31 16) ||| word (if s.host.up then s.host.trained % 2 ^ 11 + 2 ^ 11 else 0)
  | .hifFnStat => old ||| word (if i < 8 then (stallOf s i).queue.length % 32 else 0)
  | .bwrStatus => old ||| word (viewDegraded s)
  | .bwrIntlk => old ||| word (viewContacts s)
  | .bwrResetStatus =>
    setBf old 31 0 (match s.bw.lastArm with | some t => min ((s.now - t) / ms 1) (2 ^ 32 - 1) | none => 0)
  | .bwrPort => old ||| word (viewBwPort s i)
  | .bwrHStatus => word (viewH s d)
  | .secImgStatus =>
    old ||| word (bitv s.img.waiting.isSome 60 + bitv s.img.pending.isSome 61 + bitv s.img.checking.isSome 62 +
      bitv s.img.isSealed 63)
  | .secStatus => setBf (setBf old 31 0 s.fuse.svnFloor) 63 62 (lifecycle s)
  | .secKeyslot =>
    setBf old 15 0 (s.fuse.mldsaProg % 16 + s.fuse.mldsaRev % 16 * 2 ^ 4 + s.fuse.ecdsaProg % 16 * 2 ^ 8 + s.fuse.ecdsaRev % 16 * 2 ^ 12)
  | .secXts => word s.plan.extents.length
  | .pwrStatus => setBit (setBit old 61 s.pwr.tripWait) 63 (s.fuse.grade == 1)
  | .hltInject => if squallOpen s then old else 0
  | .sqlCtrl => if squallOpen s then old else 0
  | .sqlSeed => if squallOpen s then old else 0
  | .sqlLink => if squallOpen s then old else 0
  | .sqlPace => if squallOpen s then old else 0
  | .sqlStat => if squallOpen s then old else 0
  | .logStatus =>
    old ||| word (s.log.seq % 2 ^ 24 + bitv (decide (8192 < s.log.seq)) 24 + s.log.pinCount % 256 * 2 ^ 40)
  | .logEntry => word (entryWord q (ringEntry s.log.entries s.log.seq 8192 (i / 4)) (i % 4))
  | .logPin => word (entryWord q (ringEntry s.log.pins s.log.pinCount 16 (i / 4)) (i % 4))
  | _ => old

/-- What a read of a register shows: its fields, but 0 from reserved bits and write-only fields (R9, Table 0.2). -/
def viewReg (s : State) (q : Requester) (r : Reg) (d i : Nat) : Word :=
  computed s q r d i &&& (r.fields &&& ~~~r.info.wo)

end Sys2Proof.Machine
end

