-- ==== Sys2Proof/Machine/RegAccess.lean ====
section
/-! DEFINITION. Reads and writes of registers by address and by name (R10, R25, R620, R621), the reads that clear, and the
LD and ST of a Beacon at their landing, which for BC8 reach registers too (R217). -/

namespace Sys2Proof.Machine

/-! ### The block of an address that names no register (R620) -/

/-- The offset ranges of the blocks, by window class, as the blocks' own rules give them. -/
def blockRanges : List (Win × Nat × Nat × Src) :=
  [(.ct, 0x10000, 0x10047, .clk), (.ct, 0x20000, 0x20517, .tid), (.ct, 0x30000, 0x33FFF, .stl), (.ct, 0x40000, 0x4020F, .bcn),
   (.ct, 0x50000, 0x550FF, .grn), (.ct, 0x60000, 0x601FF, .hau), (.ct, 0x70000, 0x780FF, .tal), (.ct, 0x80000, 0x800FF, .mtx),
   (.ct, 0x90000, 0x900FF, .win), (.ct, 0xA0000, 0xA01FF, .top), (.ct, 0xB0000, 0xB04FF, .hif), (.ct, 0xC0000, 0xC002F, .sec),
   (.ct, 0xD0000, 0xD01FF, .pwr), (.ct, 0xE0000, 0xE06FF, .hlt), (.ct, 0xF0000, 0xF0007, .log), (.ct, 0x100000, 0x1000FF, .sql),
   (.ct, 0x200000, 0x23FFFF, .log), (.ct, 0x240000, 0x2401FF, .log), (.cd, 0x10000, 0x1007F, .mtx), (.cd, 0x20000, 0x2007F, .vec),
   (.cd, 0x30000, 0x3003F, .sfu), (.dd, 0x10000, 0x101FF, .thr), (.dd, 0x20000, 0x201FF, .fry), (.dd, 0x30000, 0x301FF, .gln),
   (.ed, 0x10000, 0x101FF, .dkl), (.ed, 0x40000, 0x40007, .bwr), (.md, 0x10000, 0x1000F, .med), (.md, 0x20000, 0x200FF, .med),
   (.md, 0x30000, 0x30007, .med), (.sf, 0x10000, 0x101FF, .bwr)]

/-- The block whose offset range holds an address of the register region; HIF for one in no block's range. -/
def rangeSrc (off : Nat) : Src :=
  match winOf (off / 0x1000000) with
  | none => .hif
  | some (w, _) =>
    match blockRanges.find? fun r => r.1 == w && decide (r.2.1 ≤ off % 0x1000000) && decide (off % 0x1000000 ≤ r.2.2.1) with
    | some r => r.2.2.2
    | none => .hif

/-- The forty windows of the register region. -/
def inRegion (a : Nat) : Bool := decide (regBase ≤ a) && decide (a < regBase + 0x28000000)

/-! ### Reads -/

/-- The values that a read of the register takes match their stored complements (R178, R278). -/
def viewSound (s : State) (r : Reg) (i : Nat) : Bool :=
  match r with
  | .stlSide => (List.range 64).all fun j => (pubOf s i j).sound
  | .stlValid => (List.range 64).all fun j => (pubOf s i j).sound
  | .stlPub => (pubOf s (i / 64) (i % 64)).sound
  | .stlCmt => (cmtOf s (i / 64) (i % 64)).sound
  | .stlCmtMask => (cmtOf s (i / 64) (i % 64)).sound
  | .talValue => (tallyOf s i).sound
  | _ => true

/-- RC fields are cleared after their value has been returned (Table 0.2); SQL_STAT reads 0 in LOCKED and keeps what it
holds (R787). -/
def clearOnRead (s : State) (r : Reg) (d i : Nat) : State :=
  if r.info.rc = 0 ∨ (r = .sqlStat ∧ squallOpen s = false) then s else rmod s r (fun w => w &&& ~~~r.info.rc) d i

/-- The read of a register: 0 from a fallow window (R25); an access error where the requester may not read it (R621); chip
loss where a complement does not match; else its fields. RAIL_MV is a measured value. -/
def readRegister (q : Requester) (r : Reg) (d i : Nat) (s : State) : Word × State :=
  if fallow s (r.info.win.dies.1 + d) then (0, s)
  else if !mayReadReg s q r d i then (0, logAccess s r.src 0x04 (regAddr r d i) (reqCode q))
  else if !viewSound s r i then (viewReg s q r d i, mismatch s r.src (regAddr r d i))
  else if r = .pwrVid then
    let (mv, s') := measure s
    (setBf (viewReg s q r d i) 47 32 mv, s')
  else (viewReg s q r d i, clearOnRead s r d i)

/-- A read by address and size (R620). -/
def readAddress (q : Requester) (a size : Nat) (s : State) : Word × State :=
  if size ≠ 8 ∨ a % 8 ≠ 0 ∨ inRegion a = false then (0, logAccess s .hif 0x06 a (reqCode q))
  else
    let off := a - regBase
    match Reg.decode off with
    | some (r, d, i) => readRegister q r d i s
    | none =>
      if fallow s (off / 0x1000000) then (0, s) else (0, logAccess s (rangeSrc off) 0x06 a (reqCode q))

/-- The data of a read leaves for its requester. -/
def returnRead (q : Requester) (x : Word × State) : State := { x.2 with out := Out.readData q x.1 :: x.2.out }

/-- REGISTER_READ (R620). -/
def execRegisterRead (q : Requester) (addr size : Nat) (t : Nat) (s : State) : Host.Outcome State Fault Refusal :=
  whenEnabled t (fun s => reachable s q) (fun s => returnRead q (readAddress q addr size s)) s

/-- The read of a named register: the common meaning of the reads that clear. -/
def readNamed (q : Requester) (r : Reg) (d i : Nat) (t : Nat) (s : State) : Host.Outcome State Fault Refusal :=
  whenEnabled t (fun s => reachable s q && decide (i < r.info.count) && decide (d < r.info.win.dies.2))
    (fun s => returnRead q (readRegister q r d i s)) s

/-- TID_MISS_COUNT_READ (R61). -/
def execTidMissCountRead (q : Requester) (t : Nat) (s : State) : Host.Outcome State Fault Refusal :=
  readNamed q .tidMissCount 0 0 t s
/-- TID_EXT_STATUS_READ (R61). -/
def execTidExtStatusRead (q : Requester) (t : Nat) (s : State) : Host.Outcome State Fault Refusal :=
  readNamed q .tidExtStatus 0 0 t s
/-- BCN_HOLDS_READ (R219). -/
def execBcnHoldsRead (q : Requester) (i : Nat) (t : Nat) (s : State) : Host.Outcome State Fault Refusal :=
  readNamed q .bcnHolds 0 i t s
/-- GRN_HELD_READ (R270). -/
def execGrnHeldRead (q : Requester) (i : Nat) (t : Nat) (s : State) : Host.Outcome State Fault Refusal :=
  readNamed q .grnHeld 0 i t s
/-- HAU_BYTES_READ (R270). -/
def execHauBytesRead (q : Requester) (i : Nat) (t : Nat) (s : State) : Host.Outcome State Fault Refusal :=
  readNamed q .hauBytes 0 i t s
/-- TAL_DROP_READ (R297). -/
def execTalDropRead (q : Requester) (i : Nat) (t : Nat) (s : State) : Host.Outcome State Fault Refusal :=
  readNamed q .talDrop 0 i t s
/-- MTX_TILE_BUSY_READ (R337). -/
def execMtxTileBusyRead (q : Requester) (d i : Nat) (t : Nat) (s : State) : Host.Outcome State Fault Refusal :=
  readNamed q .mtxTileBusy d i t s
/-- VEC_UNIT_BUSY_READ (R337). -/
def execVecUnitBusyRead (q : Requester) (d i : Nat) (t : Nat) (s : State) : Host.Outcome State Fault Refusal :=
  readNamed q .vecUnitBusy d i t s
/-- MTX_LOOSE_READ (R469). -/
def execMtxLooseRead (q : Requester) (i : Nat) (t : Nat) (s : State) : Host.Outcome State Fault Refusal :=
  readNamed q .mtxLoose 0 i t s
/-- SFU_BUSY_READ (R374). -/
def execSfuBusyRead (q : Requester) (d i : Nat) (t : Nat) (s : State) : Host.Outcome State Fault Refusal :=
  readNamed q .sfuBusy d i t s
/-- SFU_ECC_READ (R374). -/
def execSfuEccRead (q : Requester) (d i : Nat) (t : Nat) (s : State) : Host.Outcome State Fault Refusal :=
  readNamed q .sfuEcc d i t s
/-- WIN_VERDICT_READ (R409). -/
def execWinVerdictRead (q : Requester) (i : Nat) (t : Nat) (s : State) : Host.Outcome State Fault Refusal :=
  readNamed q .winVerdict 0 i t s
/-- WIN_DROPS_READ (R409). -/
def execWinDropsRead (q : Requester) (i : Nat) (t : Nat) (s : State) : Host.Outcome State Fault Refusal :=
  readNamed q .winDrops 0 i t s
/-- WIN_CENSUS_READ (R409). -/
def execWinCensusRead (q : Requester) (i : Nat) (t : Nat) (s : State) : Host.Outcome State Fault Refusal :=
  readNamed q .winCensus 0 i t s
/-- FRY_DROP_READ (R454). -/
def execFryDropRead (q : Requester) (d i : Nat) (t : Nat) (s : State) : Host.Outcome State Fault Refusal :=
  readNamed q .fryDrop d i t s
/-- GLN_DONE_READ (R454). -/
def execGlnDoneRead (q : Requester) (d i : Nat) (t : Nat) (s : State) : Host.Outcome State Fault Refusal :=
  readNamed q .glnDone d i t s
/-- DKL_ERR_READ (R544). -/
def execDklErrRead (q : Requester) (d i : Nat) (t : Nat) (s : State) : Host.Outcome State Fault Refusal :=
  readNamed q .dklErr d i t s
/-- DKL_FEC_READ (R544). -/
def execDklFecRead (q : Requester) (d i : Nat) (t : Nat) (s : State) : Host.Outcome State Fault Refusal :=
  readNamed q .dklFec d i t s
/-- MED_RS_BUSY_READ (R610). -/
def execMedRsBusyRead (q : Requester) (d : Nat) (t : Nat) (s : State) : Host.Outcome State Fault Refusal :=
  readNamed q .medRsBusy d 0 t s
/-- MED_ENC_BYTES_READ (R610). -/
def execMedEncBytesRead (q : Requester) (d i : Nat) (t : Nat) (s : State) : Host.Outcome State Fault Refusal :=
  readNamed q .medEncBytes d i t s
/-- MED_ENC_CAPPED_READ (R610). -/
def execMedEncCappedRead (q : Requester) (d i : Nat) (t : Nat) (s : State) : Host.Outcome State Fault Refusal :=
  readNamed q .medEncCapped d i t s
/-- HIF_FN_STAT_READ (R646). -/
def execHifFnStatRead (q : Requester) (i : Nat) (t : Nat) (s : State) : Host.Outcome State Fault Refusal :=
  readNamed q .hifFnStat 0 i t s
/-- HIF_DMA_ERR_READ (R646). -/
def execHifDmaErrRead (q : Requester) (t : Nat) (s : State) : Host.Outcome State Fault Refusal :=
  readNamed q .hifDmaErr 0 0 t s
/-- HLT_ECC_READ (R794). -/
def execHltEccRead (q : Requester) (i : Nat) (t : Nat) (s : State) : Host.Outcome State Fault Refusal :=
  readNamed q .hltEcc 0 i t s
/-- HLT_HBM_READ (R794). -/
def execHltHbmRead (q : Requester) (i : Nat) (t : Nat) (s : State) : Host.Outcome State Fault Refusal :=
  readNamed q .hltHbm 0 i t s
/-- LOG_STATUS_READ (R794). -/
def execLogStatusRead (q : Requester) (t : Nat) (s : State) : Host.Outcome State Fault Refusal :=
  readNamed q .logStatus 0 0 t s
/-- SQL_STAT_READ (R794). -/
def execSqlStatRead (q : Requester) (t : Nat) (s : State) : Host.Outcome State Fault Refusal :=
  readNamed q .sqlStat 0 0 t s
/-- SEC_ENTROPY_READ (R728). -/
def execSecEntropyRead (q : Requester) (t : Nat) (s : State) : Host.Outcome State Fault Refusal :=
  readNamed q .secEntropy 0 0 t s
/-- PWR_PEAK_READ (R834). -/
def execPwrPeakRead (q : Requester) (t : Nat) (s : State) : Host.Outcome State Fault Refusal :=
  readNamed q .pwrPeak 0 0 t s
/-! ### Writes -/

/-- A write that no check of its own restricts. -/
def plainWrite (q : Requester) (r : Reg) (d i : Nat) (v : Word) (check : State → Bool) (s : State) : State :=
  guardedWrite s q r d i v check (storeReg r d i v)

/-- The write of STL_KILL (Table of STL_KILL). -/
def writeKill (q : Requester) (v : Word) (s : State) : State :=
  guardedWrite s q .stlKill 0 0 v (fun _ => true) fun s => killMask q (bf v 15 8) 1 (killMask q (bf v 7 0) 0 s)

/-- The write of a register, by what it is: a register with a behaviour of its own has that behaviour; the Squall controls
take a write outside LOCKED only (R787); a CONFIRM sees the pins at their pulled levels, SAFE_PERMIT low and both stop
lines high. -/
def writeRegister (q : Requester) (r : Reg) (d i : Nat) (v : Word) (s : State) : State :=
  match r with
  | .clkSetpointCd => writeClkCd q v s
  | .clkSetpointMd => writeClkMd q v s
  | .tidPeriod => writeTidPeriod q v s
  | .tidBayCfg => writeTidBayCfg q v s
  | .tidBayStart => writeTidBayStart q i v s
  | .tidBayOwnLo => writeTidBayOwn q i false v s
  | .tidBayOwnHi => writeTidBayOwn q i true v s
  | .tidRefPlan => writeTidRefPlan q v s
  | .stlKill => writeKill q v s
  | .bcnStwCtrl => writeStwCtrl q v s
  | .dklCtrl => writeDklCtrl q (4 * i + d) v s
  | .hifEvtCfg => writeEvtCfg q i v s
  | .bwrCmd => writeBwrCmd q v false true true s
  | .secImgCtrl => writeSecImgCtrl q v s
  | .pwrRstCtrl => writePwrRst q v s
  | .pwrRstTestCmd => writeTestCmd q v s
  | .hltInject => writeInject q v s
  | .sqlSeed => writeSqlSeed q v s
  | .sqlCtrl => plainWrite q .sqlCtrl d i v squallOpen s
  | .sqlLink => plainWrite q .sqlLink d i v squallOpen s
  | .sqlPace => plainWrite q .sqlPace d i v squallOpen s
  | r => plainWrite q r d i v (fun _ => true) s

/-- A write by address (R620): an address that names no register is an access error. -/
def writeAddress (q : Requester) (a : Nat) (v : Word) (s : State) : State :=
  if a % 8 ≠ 0 ∨ inRegion a = false then logAccess s .hif 0x06 a (reqCode q)
  else
    let off := a - regBase
    match Reg.decode off with
    | some (r, d, i) => writeRegister q r d i v s
    | none => logAccess s (rangeSrc off) (if fallow s (off / 0x1000000) then 0x03 else 0x06) a (reqCode q)

/-- REGISTER_WRITE (R10). -/
def execRegisterWrite (q : Requester) (addr : Nat) (v : Word) (t : Nat) (s : State) : Host.Outcome State Fault Refusal :=
  whenEnabled t (fun s => reachable s q) (writeAddress q addr v) s

/-! ### LD and ST (R201, R217, R235) -/

/-- The 8 bytes that an LD reads. -/
def ldRead (c : Nat) (s : State) (a : Nat) : Word × State :=
  if c = 16 ∧ unitOf a = .regs then readAddress .bc8 a 8 s
  else (word (leNat (readMem s a 8)), withBytes s .bcn a 8 fun _ s => s)

/-- The 8 bytes that an ST writes. -/
def stWrite (c : Nat) (s : State) (a : Nat) (v : Word) : State :=
  if c = 16 ∧ unitOf a = .regs then writeAddress .bc8 a v s else writeMem s a (leBytes 8 v.toNat)

/-- LD_DATA_USABLE (R201). -/
def execLdDataUsable (c : Nat) (t : Nat) (s : State) : Host.Outcome State Fault Refusal :=
  whenEnabled t (fun s => (ctxOf s c).bcn.lds.any fun p => decide (p.at_ ≤ s.now)) (fun s => ldUsable (ldRead c) s c) s

/-- ST_LANDS (R201). -/
def execStLands (c : Nat) (t : Nat) (s : State) : Host.Outcome State Fault Refusal :=
  whenEnabled t (fun s => match (ctxOf s c).bcn.sts with | p :: _ => decide (p.at_ ≤ s.now) | [] => false)
    (fun s => stLand (stWrite c) s c) s

end Sys2Proof.Machine
end

