-- ==== Sys2Proof/Machine/Scalar.lean ====
section
/-! DEFINITION. The scalar operations of a Beacon word, one command each (Table 5.7, R193, R194, R201). -/

namespace Sys2Proof.Machine

/-- NOP (Table 5.7): the field does nothing. -/
def execNopC (c : Nat) (f : Fld) (t : Nat) (s : State) : Host.Outcome State Fault Refusal :=
  whenEnabled t (fun _ => true) (scalarCmd 0x00 c f (fun _ _ s => s) (fun _ _ s => s)) s

/-- ADD (R193). -/
def execAdd (c : Nat) (f : Fld) (t : Nat) (s : State) : Host.Outcome State Fault Refusal :=
  whenEnabled t (fun _ => true) (aluCmd 0x01 c f) s

/-- ADDI (R193). -/
def execAddi (c : Nat) (f : Fld) (t : Nat) (s : State) : Host.Outcome State Fault Refusal :=
  whenEnabled t (fun _ => true) (aluCmd 0x21 c f) s

/-- SUB (R193). -/
def execSub (c : Nat) (f : Fld) (t : Nat) (s : State) : Host.Outcome State Fault Refusal :=
  whenEnabled t (fun _ => true) (aluCmd 0x02 c f) s

/-- SUBI (R193). -/
def execSubi (c : Nat) (f : Fld) (t : Nat) (s : State) : Host.Outcome State Fault Refusal :=
  whenEnabled t (fun _ => true) (aluCmd 0x22 c f) s

/-- AND (R193). -/
def execAndC (c : Nat) (f : Fld) (t : Nat) (s : State) : Host.Outcome State Fault Refusal :=
  whenEnabled t (fun _ => true) (aluCmd 0x05 c f) s

/-- ANDI (R193). -/
def execAndi (c : Nat) (f : Fld) (t : Nat) (s : State) : Host.Outcome State Fault Refusal :=
  whenEnabled t (fun _ => true) (aluCmd 0x25 c f) s

/-- OR (R193). -/
def execOrC (c : Nat) (f : Fld) (t : Nat) (s : State) : Host.Outcome State Fault Refusal :=
  whenEnabled t (fun _ => true) (aluCmd 0x06 c f) s

/-- ORI (R193). -/
def execOri (c : Nat) (f : Fld) (t : Nat) (s : State) : Host.Outcome State Fault Refusal :=
  whenEnabled t (fun _ => true) (aluCmd 0x26 c f) s

/-- XOR (R193). -/
def execXorC (c : Nat) (f : Fld) (t : Nat) (s : State) : Host.Outcome State Fault Refusal :=
  whenEnabled t (fun _ => true) (aluCmd 0x07 c f) s

/-- XORI (R193). -/
def execXori (c : Nat) (f : Fld) (t : Nat) (s : State) : Host.Outcome State Fault Refusal :=
  whenEnabled t (fun _ => true) (aluCmd 0x27 c f) s

/-- SHL (R193). -/
def execShl (c : Nat) (f : Fld) (t : Nat) (s : State) : Host.Outcome State Fault Refusal :=
  whenEnabled t (fun _ => true) (aluCmd 0x08 c f) s

/-- SHLI (R193). -/
def execShli (c : Nat) (f : Fld) (t : Nat) (s : State) : Host.Outcome State Fault Refusal :=
  whenEnabled t (fun _ => true) (aluCmd 0x28 c f) s

/-- SHR (R193). -/
def execShr (c : Nat) (f : Fld) (t : Nat) (s : State) : Host.Outcome State Fault Refusal :=
  whenEnabled t (fun _ => true) (aluCmd 0x09 c f) s

/-- SHRI (R193). -/
def execShri (c : Nat) (f : Fld) (t : Nat) (s : State) : Host.Outcome State Fault Refusal :=
  whenEnabled t (fun _ => true) (aluCmd 0x29 c f) s

/-- SAR (R193). -/
def execSar (c : Nat) (f : Fld) (t : Nat) (s : State) : Host.Outcome State Fault Refusal :=
  whenEnabled t (fun _ => true) (aluCmd 0x0a c f) s

/-- SARI (R193). -/
def execSari (c : Nat) (f : Fld) (t : Nat) (s : State) : Host.Outcome State Fault Refusal :=
  whenEnabled t (fun _ => true) (aluCmd 0x2a c f) s

/-- MIN (R193). -/
def execMinC (c : Nat) (f : Fld) (t : Nat) (s : State) : Host.Outcome State Fault Refusal :=
  whenEnabled t (fun _ => true) (aluCmd 0x0b c f) s

/-- MINI (R193). -/
def execMini (c : Nat) (f : Fld) (t : Nat) (s : State) : Host.Outcome State Fault Refusal :=
  whenEnabled t (fun _ => true) (aluCmd 0x2b c f) s

/-- MAX (R193). -/
def execMaxC (c : Nat) (f : Fld) (t : Nat) (s : State) : Host.Outcome State Fault Refusal :=
  whenEnabled t (fun _ => true) (aluCmd 0x0c c f) s

/-- MAXI (R193). -/
def execMaxi (c : Nat) (f : Fld) (t : Nat) (s : State) : Host.Outcome State Fault Refusal :=
  whenEnabled t (fun _ => true) (aluCmd 0x2c c f) s

/-- MINU (R193). -/
def execMinu (c : Nat) (f : Fld) (t : Nat) (s : State) : Host.Outcome State Fault Refusal :=
  whenEnabled t (fun _ => true) (aluCmd 0x0d c f) s

/-- MINUI (R193). -/
def execMinui (c : Nat) (f : Fld) (t : Nat) (s : State) : Host.Outcome State Fault Refusal :=
  whenEnabled t (fun _ => true) (aluCmd 0x2d c f) s

/-- MAXU (R193). -/
def execMaxu (c : Nat) (f : Fld) (t : Nat) (s : State) : Host.Outcome State Fault Refusal :=
  whenEnabled t (fun _ => true) (aluCmd 0x0e c f) s

/-- MAXUI (R193). -/
def execMaxui (c : Nat) (f : Fld) (t : Nat) (s : State) : Host.Outcome State Fault Refusal :=
  whenEnabled t (fun _ => true) (aluCmd 0x2e c f) s

/-- MUL (R193): the low 64 bits. -/
def execMul (c : Nat) (f : Fld) (t : Nat) (s : State) : Host.Outcome State Fault Refusal :=
  whenEnabled t (fun _ => true) (mulCmd 0x03 c f) s

/-- MULI (R193). -/
def execMuli (c : Nat) (f : Fld) (t : Nat) (s : State) : Host.Outcome State Fault Refusal :=
  whenEnabled t (fun _ => true) (mulCmd 0x23 c f) s

/-- MULHU (R193): the high 64 bits of the unsigned product. -/
def execMulhu (c : Nat) (f : Fld) (t : Nat) (s : State) : Host.Outcome State Fault Refusal :=
  whenEnabled t (fun _ => true) (mulCmd 0x04 c f) s

/-- MULHUI (R193). -/
def execMulhui (c : Nat) (f : Fld) (t : Nat) (s : State) : Host.Outcome State Fault Refusal :=
  whenEnabled t (fun _ => true) (mulCmd 0x24 c f) s

/-- CLZ (R193). -/
def execClz (c : Nat) (f : Fld) (t : Nat) (s : State) : Host.Outcome State Fault Refusal :=
  whenEnabled t (fun _ => true) (scalarCmd 0x0F c f (fun i fd s => putSc s c fd.dst (clz (scGet i.sc fd.srca))) (fun _ _ s => s)) s

/-- CMPEQ (R193). -/
def execCmpeq (c : Nat) (f : Fld) (t : Nat) (s : State) : Host.Outcome State Fault Refusal :=
  whenEnabled t (fun _ => true) (cmpCmd 0x10 c f) s

/-- CMPEQI (R193). -/
def execCmpeqi (c : Nat) (f : Fld) (t : Nat) (s : State) : Host.Outcome State Fault Refusal :=
  whenEnabled t (fun _ => true) (cmpCmd 0x30 c f) s

/-- CMPNE (R193). -/
def execCmpne (c : Nat) (f : Fld) (t : Nat) (s : State) : Host.Outcome State Fault Refusal :=
  whenEnabled t (fun _ => true) (cmpCmd 0x11 c f) s

/-- CMPNEI (R193). -/
def execCmpnei (c : Nat) (f : Fld) (t : Nat) (s : State) : Host.Outcome State Fault Refusal :=
  whenEnabled t (fun _ => true) (cmpCmd 0x31 c f) s

/-- CMPLT (R193). -/
def execCmplt (c : Nat) (f : Fld) (t : Nat) (s : State) : Host.Outcome State Fault Refusal :=
  whenEnabled t (fun _ => true) (cmpCmd 0x12 c f) s

/-- CMPLTI (R193). -/
def execCmplti (c : Nat) (f : Fld) (t : Nat) (s : State) : Host.Outcome State Fault Refusal :=
  whenEnabled t (fun _ => true) (cmpCmd 0x32 c f) s

/-- CMPLTU (R193). -/
def execCmpltu (c : Nat) (f : Fld) (t : Nat) (s : State) : Host.Outcome State Fault Refusal :=
  whenEnabled t (fun _ => true) (cmpCmd 0x13 c f) s

/-- CMPLTUI (R193). -/
def execCmpltui (c : Nat) (f : Fld) (t : Nat) (s : State) : Host.Outcome State Fault Refusal :=
  whenEnabled t (fun _ => true) (cmpCmd 0x33 c f) s

/-- CMPGE (R193). -/
def execCmpge (c : Nat) (f : Fld) (t : Nat) (s : State) : Host.Outcome State Fault Refusal :=
  whenEnabled t (fun _ => true) (cmpCmd 0x14 c f) s

/-- CMPGEI (R193). -/
def execCmpgei (c : Nat) (f : Fld) (t : Nat) (s : State) : Host.Outcome State Fault Refusal :=
  whenEnabled t (fun _ => true) (cmpCmd 0x34 c f) s

/-- CMPGEU (R193). -/
def execCmpgeu (c : Nat) (f : Fld) (t : Nat) (s : State) : Host.Outcome State Fault Refusal :=
  whenEnabled t (fun _ => true) (cmpCmd 0x15 c f) s

/-- CMPGEUI (R193). -/
def execCmpgeui (c : Nat) (f : Fld) (t : Nat) (s : State) : Host.Outcome State Fault Refusal :=
  whenEnabled t (fun _ => true) (cmpCmd 0x35 c f) s

/-- PAND (R193). -/
def execPand (c : Nat) (f : Fld) (t : Nat) (s : State) : Host.Outcome State Fault Refusal :=
  whenEnabled t (fun _ => true) (pdCmd 0x16 c f) s

/-- POR (R193). -/
def execPor (c : Nat) (f : Fld) (t : Nat) (s : State) : Host.Outcome State Fault Refusal :=
  whenEnabled t (fun _ => true) (pdCmd 0x17 c f) s

/-- PXOR (R193). -/
def execPxor (c : Nat) (f : Fld) (t : Nat) (s : State) : Host.Outcome State Fault Refusal :=
  whenEnabled t (fun _ => true) (pdCmd 0x18 c f) s

/-- PANDN (R193). -/
def execPandn (c : Nat) (f : Fld) (t : Nat) (s : State) : Host.Outcome State Fault Refusal :=
  whenEnabled t (fun _ => true) (pdCmd 0x19 c f) s

/-- SEL (R193): PD[PSEL] chooses between a and b. -/
def execSel (c : Nat) (f : Fld) (t : Nat) (s : State) : Host.Outcome State Fault Refusal :=
  whenEnabled t (fun _ => true)
    (scalarCmd 0x1A c f
      (fun i fd s => putSc s c fd.dst (if pdGet i.pd fd.psel then scGet i.sc fd.srca else scGet i.sc fd.srcb))
      (fun _ _ s => s)) s

/-- MFS (R193): the special register of number SRCA (Table 5.8). -/
def execMfs (c : Nat) (f : Fld) (t : Nat) (s : State) : Host.Outcome State Fault Refusal :=
  whenEnabled t (fun _ => true)
    (scalarCmd 0x1B c f (fun i fd s => putSc s c fd.dst (mfsValue s c i.at_ i.lcs i.loops fd.srca)) (fun _ _ s => s)) s

/-- MOVHI (R193): the immediate's low half above a's low half. -/
def execMovhi (c : Nat) (f : Fld) (t : Nat) (s : State) : Host.Outcome State Fault Refusal :=
  whenEnabled t (fun _ => true)
    (scalarCmd 0x38 c f
      (fun i fd s => putSc s c fd.dst (word (bf fd.imm 31 0 * 2 ^ 32 + bf (scGet i.sc fd.srca) 31 0)))
      (fun _ _ s => s)) s

/-- LD (R194): the load issues. -/
def execLd (c : Nat) (f : Fld) (t : Nat) (s : State) : Host.Outcome State Fault Refusal :=
  whenEnabled t (fun _ => true) (ldCmd c f) s

/-- ST (R194): the store issues. -/
def execSt (c : Nat) (f : Fld) (t : Nat) (s : State) : Host.Outcome State Fault Refusal :=
  whenEnabled t (fun _ => true) (stCmd c f) s

/-- MUL_RESULT_READY (R193): the result of a multiply becomes usable 3 cycles after its word issued. -/
def execMulResultReady (c : Nat) (t : Nat) (s : State) : Host.Outcome State Fault Refusal :=
  whenEnabled t (fun s => (ctxOf s c).bcn.muls.any fun p => decide (p.at_ ≤ s.now)) (fun s => mulReady s c) s

/-- SLOT_POST (R204): issue slot `slot` of the word. -/
def execSlotPost (c slot : Nat) (t : Nat) (s : State) : Host.Outcome State Fault Refusal :=
  whenEnabled t (fun _ => true) (slotCmd c slot) s

end Sys2Proof.Machine
end

