-- ==== Sys2Proof/Machine/Dispatch.lean ====
section
/-! DEFINITION. One arm per command of the table. -/

namespace Sys2Proof.Machine

/-- The meaning of a command on everything but the queue. -/
def exec (i : Instr) (s : State) : Host.Outcome State Fault Refusal :=
  match i with
  | .registerWrite q addr v t => Sys2Proof.Machine.execRegisterWrite q addr v t s
  | .stagingWrite q off bytes t => Sys2Proof.Machine.execStagingWrite q off bytes t s
  | .clkSetpointCdWrite q v t => Sys2Proof.Machine.execClkSetpointCdWrite q v t s
  | .clkSetpointMdWrite q v t => Sys2Proof.Machine.execClkSetpointMdWrite q v t s
  | .tidPeriodWrite q v t => Sys2Proof.Machine.execTidPeriodWrite q v t s
  | .tidBayStartWrite q b v t => Sys2Proof.Machine.execTidBayStartWrite q b v t s
  | .tidBayOwnWrite q b high v t => Sys2Proof.Machine.execTidBayOwnWrite q b high v t s
  | .tidRefPlanWrite q v t => Sys2Proof.Machine.execTidRefPlanWrite q v t s
  | .evtCfgWrite q f v t => Sys2Proof.Machine.execEvtCfgWrite q f v t s
  | .tidMissCountRead q t => Sys2Proof.Machine.execTidMissCountRead q t s
  | .tidExtStatusRead q t => Sys2Proof.Machine.execTidExtStatusRead q t s
  | .bcnHoldsRead q n t => Sys2Proof.Machine.execBcnHoldsRead q n t s
  | .grnHeldRead q n t => Sys2Proof.Machine.execGrnHeldRead q n t s
  | .hauBytesRead q n t => Sys2Proof.Machine.execHauBytesRead q n t s
  | .talDropRead q n t => Sys2Proof.Machine.execTalDropRead q n t s
  | .mtxTileBusyRead q d n t => Sys2Proof.Machine.execMtxTileBusyRead q d n t s
  | .vecUnitBusyRead q d n t => Sys2Proof.Machine.execVecUnitBusyRead q d n t s
  | .mtxLooseRead q n t => Sys2Proof.Machine.execMtxLooseRead q n t s
  | .sfuBusyRead q d n t => Sys2Proof.Machine.execSfuBusyRead q d n t s
  | .sfuEccRead q d n t => Sys2Proof.Machine.execSfuEccRead q d n t s
  | .winVerdictRead q n t => Sys2Proof.Machine.execWinVerdictRead q n t s
  | .winDropsRead q n t => Sys2Proof.Machine.execWinDropsRead q n t s
  | .winCensusRead q n t => Sys2Proof.Machine.execWinCensusRead q n t s
  | .fryDropRead q d n t => Sys2Proof.Machine.execFryDropRead q d n t s
  | .glnDoneRead q d n t => Sys2Proof.Machine.execGlnDoneRead q d n t s
  | .dklErrRead q d n t => Sys2Proof.Machine.execDklErrRead q d n t s
  | .dklFecRead q d n t => Sys2Proof.Machine.execDklFecRead q d n t s
  | .medRsBusyRead q d t => Sys2Proof.Machine.execMedRsBusyRead q d t s
  | .medEncBytesRead q d n t => Sys2Proof.Machine.execMedEncBytesRead q d n t s
  | .medEncCappedRead q d n t => Sys2Proof.Machine.execMedEncCappedRead q d n t s
  | .hifFnStatRead q n t => Sys2Proof.Machine.execHifFnStatRead q n t s
  | .hifDmaErrRead q t => Sys2Proof.Machine.execHifDmaErrRead q t s
  | .hltEccRead q n t => Sys2Proof.Machine.execHltEccRead q n t s
  | .hltHbmRead q n t => Sys2Proof.Machine.execHltHbmRead q n t s
  | .logStatusRead q t => Sys2Proof.Machine.execLogStatusRead q t s
  | .sqlStatRead q t => Sys2Proof.Machine.execSqlStatRead q t s
  | .secEntropyRead q t => Sys2Proof.Machine.execSecEntropyRead q t s
  | .pwrPeakRead q t => Sys2Proof.Machine.execPwrPeakRead q t s
  | .clockInputLost input t => Sys2Proof.Machine.execClockInputLost input t s
  | .toleranceWindow ref lnk safe t => Sys2Proof.Machine.execToleranceWindow ref lnk safe t s
  | .pllLockLost dom t => Sys2Proof.Machine.execPllLockLost dom t s
  | .edgeRxLockLost e t => Sys2Proof.Machine.execEdgeRxLockLost e t s
  | .monitorClockStop t => Sys2Proof.Machine.execMonitorClockStop t s
  | .telemetryClockStop t => Sys2Proof.Machine.execTelemetryClockStop t s
  | .refclkStable t => Sys2Proof.Machine.execRefclkStable t s
  | .rampStage bad t => Sys2Proof.Machine.execRampStage bad t s
  | .tideTick power t => Sys2Proof.Machine.execTideTick power t s
  | .tideInEdge t => Sys2Proof.Machine.execTideInEdge t s
  | .flywheelTick power t => Sys2Proof.Machine.execFlywheelTick power t s
  | .tideOutEnd t => Sys2Proof.Machine.execTideOutEnd t s
  | .firstTick t => Sys2Proof.Machine.execFirstTick t s
  | .samplingPoint t => Sys2Proof.Machine.execSamplingPoint t s
  | .releaseClear t => Sys2Proof.Machine.execReleaseClear t s
  | .killComplete c t => Sys2Proof.Machine.execKillComplete c t s
  | .engineStopTimeout c t => Sys2Proof.Machine.execEngineStopTimeout c t s
  | .voltageRiseCheck late unlocked t => Sys2Proof.Machine.execVoltageRiseCheck late unlocked t s
  | .vidFall quad t => Sys2Proof.Machine.execVidFall quad t s
  | .bayStart b t => Sys2Proof.Machine.execBayStart b t s
  | .refreshSlot j t => Sys2Proof.Machine.execRefreshSlot j t s
  | .blackoutEnd j t => Sys2Proof.Machine.execBlackoutEnd j t s
  | .deadlineKill c t => Sys2Proof.Machine.execDeadlineKill c t s
  | .stepDb fn bytes t => Sys2Proof.Machine.execStepDb fn bytes t s
  | .stepStart c t => Sys2Proof.Machine.execStepStart c t s
  | .attemptStart c t => Sys2Proof.Machine.execAttemptStart c t s
  | .primaryResume n t => Sys2Proof.Machine.execPrimaryResume n t s
  | .killPrimary q mask t => Sys2Proof.Machine.execKillPrimary q mask t s
  | .killUrgent q mask t => Sys2Proof.Machine.execKillUrgent q mask t s
  | .hostTransferDrained n t => Sys2Proof.Machine.execHostTransferDrained n t s
  | .slotPost c slot t => Sys2Proof.Machine.execSlotPost c slot t s
  | .commandComplete id t => Sys2Proof.Machine.execCommandComplete id t s
  | .tallySignal id t => Sys2Proof.Machine.execTallySignal id t s
  | .nopC c f t => Sys2Proof.Machine.execNopC c f t s
  | .add c f t => Sys2Proof.Machine.execAdd c f t s
  | .addi c f t => Sys2Proof.Machine.execAddi c f t s
  | .sub c f t => Sys2Proof.Machine.execSub c f t s
  | .subi c f t => Sys2Proof.Machine.execSubi c f t s
  | .mul c f t => Sys2Proof.Machine.execMul c f t s
  | .muli c f t => Sys2Proof.Machine.execMuli c f t s
  | .mulhu c f t => Sys2Proof.Machine.execMulhu c f t s
  | .mulhui c f t => Sys2Proof.Machine.execMulhui c f t s
  | .mulResultReady c t => Sys2Proof.Machine.execMulResultReady c t s
  | .andC c f t => Sys2Proof.Machine.execAndC c f t s
  | .andi c f t => Sys2Proof.Machine.execAndi c f t s
  | .orC c f t => Sys2Proof.Machine.execOrC c f t s
  | .ori c f t => Sys2Proof.Machine.execOri c f t s
  | .xorC c f t => Sys2Proof.Machine.execXorC c f t s
  | .xori c f t => Sys2Proof.Machine.execXori c f t s
  | .shl c f t => Sys2Proof.Machine.execShl c f t s
  | .shli c f t => Sys2Proof.Machine.execShli c f t s
  | .shr c f t => Sys2Proof.Machine.execShr c f t s
  | .shri c f t => Sys2Proof.Machine.execShri c f t s
  | .sar c f t => Sys2Proof.Machine.execSar c f t s
  | .sari c f t => Sys2Proof.Machine.execSari c f t s
  | .minC c f t => Sys2Proof.Machine.execMinC c f t s
  | .mini c f t => Sys2Proof.Machine.execMini c f t s
  | .maxC c f t => Sys2Proof.Machine.execMaxC c f t s
  | .maxi c f t => Sys2Proof.Machine.execMaxi c f t s
  | .minu c f t => Sys2Proof.Machine.execMinu c f t s
  | .minui c f t => Sys2Proof.Machine.execMinui c f t s
  | .maxu c f t => Sys2Proof.Machine.execMaxu c f t s
  | .maxui c f t => Sys2Proof.Machine.execMaxui c f t s
  | .clz c f t => Sys2Proof.Machine.execClz c f t s
  | .cmpeq c f t => Sys2Proof.Machine.execCmpeq c f t s
  | .cmpne c f t => Sys2Proof.Machine.execCmpne c f t s
  | .cmplt c f t => Sys2Proof.Machine.execCmplt c f t s
  | .cmpltu c f t => Sys2Proof.Machine.execCmpltu c f t s
  | .cmpge c f t => Sys2Proof.Machine.execCmpge c f t s
  | .cmpgeu c f t => Sys2Proof.Machine.execCmpgeu c f t s
  | .cmpeqi c f t => Sys2Proof.Machine.execCmpeqi c f t s
  | .cmpnei c f t => Sys2Proof.Machine.execCmpnei c f t s
  | .cmplti c f t => Sys2Proof.Machine.execCmplti c f t s
  | .cmpltui c f t => Sys2Proof.Machine.execCmpltui c f t s
  | .cmpgei c f t => Sys2Proof.Machine.execCmpgei c f t s
  | .cmpgeui c f t => Sys2Proof.Machine.execCmpgeui c f t s
  | .pand c f t => Sys2Proof.Machine.execPand c f t s
  | .por c f t => Sys2Proof.Machine.execPor c f t s
  | .pxor c f t => Sys2Proof.Machine.execPxor c f t s
  | .pandn c f t => Sys2Proof.Machine.execPandn c f t s
  | .sel c f t => Sys2Proof.Machine.execSel c f t s
  | .mfs c f t => Sys2Proof.Machine.execMfs c f t s
  | .ld c f t => Sys2Proof.Machine.execLd c f t s
  | .ldDataUsable c t => Sys2Proof.Machine.execLdDataUsable c t s
  | .st c f t => Sys2Proof.Machine.execSt c f t s
  | .stLands c t => Sys2Proof.Machine.execStLands c t s
  | .movhi c f t => Sys2Proof.Machine.execMovhi c f t s
  | .controlNop c t => Sys2Proof.Machine.execControlNop c t s
  | .br c t => Sys2Proof.Machine.execBr c t s
  | .jmpr c t => Sys2Proof.Machine.execJmpr c t s
  | .call c t => Sys2Proof.Machine.execCall c t s
  | .ret c t => Sys2Proof.Machine.execRet c t s
  | .loop c t => Sys2Proof.Machine.execLoop c t s
  | .loopBackEdge c t => Sys2Proof.Machine.execLoopBackEdge c t s
  | .fetch c t => Sys2Proof.Machine.execFetch c t s
  | .fetchComplete c t => Sys2Proof.Machine.execFetchComplete c t s
  | .drain c t => Sys2Proof.Machine.execDrain c t s
  | .commit c t => Sys2Proof.Machine.execCommit c t s
  | .endC c t => Sys2Proof.Machine.execEndC c t s
  | .waittick c t => Sys2Proof.Machine.execWaittick c t s
  | .stewardGo q v t => Sys2Proof.Machine.execStewardGo q v t s
  | .alloc c t => Sys2Proof.Machine.execAlloc c t s
  | .release c t => Sys2Proof.Machine.execRelease c t s
  | .stage c t => Sys2Proof.Machine.execStage c t s
  | .resolve c t => Sys2Proof.Machine.execResolve c t s
  | .kvStage c t => Sys2Proof.Machine.execKvStage c t s
  | .kvGrow c t => Sys2Proof.Machine.execKvGrow c t s
  | .kvTrim c t => Sys2Proof.Machine.execKvTrim c t s
  | .granaryServe n t => Sys2Proof.Machine.execGranaryServe n t s
  | .copy c m t => Sys2Proof.Machine.execCopy c m t s
  | .fill c m t => Sys2Proof.Machine.execFill c m t s
  | .copy2d c m t => Sys2Proof.Machine.execCopy2d c m t s
  | .toHost c m t => Sys2Proof.Machine.execToHost c m t s
  | .fromHost c m t => Sys2Proof.Machine.execFromHost c m t s
  | .stewardHaulResume m t => Sys2Proof.Machine.execStewardHaulResume m t s
  | .tallyAdd c t => Sys2Proof.Machine.execTallyAdd c t s
  | .tallyReset c t => Sys2Proof.Machine.execTallyReset c t s
  | .remoteAdd c t => Sys2Proof.Machine.execRemoteAdd c t s
  | .tallyRead c t => Sys2Proof.Machine.execTallyRead c t s
  | .remoteAddMsg p t => Sys2Proof.Machine.execRemoteAddMsg p t s
  | .gemm c unit piece t => Sys2Proof.Machine.execGemm c unit piece t s
  | .grouped c unit piece t => Sys2Proof.Machine.execGrouped c unit piece t s
  | .split c unit piece t => Sys2Proof.Machine.execSplit c unit piece t s
  | .combine c unit piece t => Sys2Proof.Machine.execCombine c unit piece t s
  | .worklistClaim c unit vector t => Sys2Proof.Machine.execWorklistClaim c unit vector t s
  | .looseAdd c n t => Sys2Proof.Machine.execLooseAdd c n t s
  | .program c unit piece t => Sys2Proof.Machine.execProgram c unit piece t s
  | .route c dd t => Sys2Proof.Machine.execRoute c dd t s
  | .histogram c dd t => Sys2Proof.Machine.execHistogram c dd t s
  | .scatter c dd t => Sys2Proof.Machine.execScatter c dd t s
  | .census c t => Sys2Proof.Machine.execCensus c t s
  | .censusMsg p t => Sys2Proof.Machine.execCensusMsg p t s
  | .censusTimeout c t => Sys2Proof.Machine.execCensusTimeout c t s
  | .verdictDb fn len bytes t => Sys2Proof.Machine.execVerdictDb fn len bytes t s
  | .answerWindowExpire c t => Sys2Proof.Machine.execAnswerWindowExpire c t s
  | .verdictMsg p t => Sys2Proof.Machine.execVerdictMsg p t s
  | .verdictLost c t => Sys2Proof.Machine.execVerdictLost c t s
  | .exchange c dd t => Sys2Proof.Machine.execExchange c dd t s
  | .returnC c dd t => Sys2Proof.Machine.execReturnC c dd t s
  | .dispatchRecordArrival p t => Sys2Proof.Machine.execDispatchRecordArrival p t s
  | .returnArrival p t => Sys2Proof.Machine.execReturnArrival p t s
  | .gleanerCombine c dd t => Sys2Proof.Machine.execGleanerCombine c dd t s
  | .placedMsg p t => Sys2Proof.Machine.execPlacedMsg p t s
  | .placedTimer c t => Sys2Proof.Machine.execPlacedTimer c t s
  | .landedMsg p t => Sys2Proof.Machine.execLandedMsg p t s
  | .killMsg p t => Sys2Proof.Machine.execKillMsg p t s
  | .writeUnit p t => Sys2Proof.Machine.execWriteUnit p t s
  | .readReq p t => Sys2Proof.Machine.execReadReq p t s
  | .process c m t => Sys2Proof.Machine.execProcess c m t s
  | .configure c e t => Sys2Proof.Machine.execConfigure c e t s
  | .encode c e t => Sys2Proof.Machine.execEncode c e t s
  | .notifyC c t => Sys2Proof.Machine.execNotifyC c t s
  | .evtHeadDb fn v t => Sys2Proof.Machine.execEvtHeadDb fn v t s
  | .msixHoldoff fn vec t => Sys2Proof.Machine.execMsixHoldoff fn vec t s
  | .readCompletion fn tag res bytes t => Sys2Proof.Machine.execReadCompletion fn tag res bytes t s
  | .completionTimeout fn tag t => Sys2Proof.Machine.execCompletionTimeout fn tag t s
  | .functionLevelReset fn t => Sys2Proof.Machine.execFunctionLevelReset fn t s
  | .hostReset kind t => Sys2Proof.Machine.execHostReset kind t s
  | .startC q t => Sys2Proof.Machine.execStartC q t s
  | .imageCheckEnd t => Sys2Proof.Machine.execImageCheckEnd t s
  | .sealC q t => Sys2Proof.Machine.execSealC q t s
  | .flitTx p t => Sys2Proof.Machine.execFlitTx p t s
  | .dataFlitRx p bytes t => Sys2Proof.Machine.execDataFlitRx p bytes t s
  | .idleFlitRx p bytes t => Sys2Proof.Machine.execIdleFlitRx p bytes t s
  | .ctrlFlitRx p bytes t => Sys2Proof.Machine.execCtrlFlitRx p bytes t s
  | .ackTimeout p t => Sys2Proof.Machine.execAckTimeout p t s
  | .portProbeStart p t => Sys2Proof.Machine.execPortProbeStart p t s
  | .rxQualify p t => Sys2Proof.Machine.execRxQualify p t s
  | .trainTimeout p t => Sys2Proof.Machine.execTrainTimeout p t s
  | .rxSilence p t => Sys2Proof.Machine.execRxSilence p t s
  | .codewordLockLost p t => Sys2Proof.Machine.execCodewordLockLost p t s
  | .prbsRx p t => Sys2Proof.Machine.execPrbsRx p t s
  | .retrainTimeout p t => Sys2Proof.Machine.execRetrainTimeout p t s
  | .retrain q p t => Sys2Proof.Machine.execRetrain q p t s
  | .reprobe q p t => Sys2Proof.Machine.execReprobe q p t s
  | .lossOfSignal p t => Sys2Proof.Machine.execLossOfSignal p t s
  | .signalReturn p relocked t => Sys2Proof.Machine.execSignalReturn p relocked t s
  | .losTimeout p t => Sys2Proof.Machine.execLosTimeout p t s
  | .fullPowerGrant p t => Sys2Proof.Machine.execFullPowerGrant p t s
  | .aprReduce p t => Sys2Proof.Machine.execAprReduce p t s
  | .interlockPulse e senseP senseH t => Sys2Proof.Machine.execInterlockPulse e senseP senseH t s
  | .interlockOpen e chan t => Sys2Proof.Machine.execInterlockOpen e chan t s
  | .overPower p chan t => Sys2Proof.Machine.execOverPower p chan t s
  | .channelDiscrepancy p t => Sys2Proof.Machine.execChannelDiscrepancy p t s
  | .channelSelfTestDone okP okH t => Sys2Proof.Machine.execChannelSelfTestDone okP okH t s
  | .channelFault chan e t => Sys2Proof.Machine.execChannelFault chan e t s
  | .romCrcCheck ok t => Sys2Proof.Machine.execRomCrcCheck ok t s
  | .brakeTestStart e t => Sys2Proof.Machine.execBrakeTestStart e t s
  | .brakeTestCheck e monP monH t => Sys2Proof.Machine.execBrakeTestCheck e monP monH t s
  | .permitSend p t => Sys2Proof.Machine.execPermitSend p t s
  | .permit p t => Sys2Proof.Machine.execPermit p t s
  | .shutdown p t => Sys2Proof.Machine.execShutdown p t s
  | .permitLoss p t => Sys2Proof.Machine.execPermitLoss p t s
  | .shutdownHoldEnd p t => Sys2Proof.Machine.execShutdownHoldEnd p t s
  | .degradedWarning t => Sys2Proof.Machine.execDegradedWarning t s
  | .degradedExpired t => Sys2Proof.Machine.execDegradedExpired t s
  | .externalStop line t => Sys2Proof.Machine.execExternalStop line t s
  | .lockoutEntry t => Sys2Proof.Machine.execLockoutEntry t s
  | .lockout q v t => Sys2Proof.Machine.execLockout q v t s
  | .arm q v t => Sys2Proof.Machine.execArm q v t s
  | .confirm q v permit stopP stopH t => Sys2Proof.Machine.execConfirm q v permit stopP stopH t s
  | .abortC q v t => Sys2Proof.Machine.execAbortC q v t s
  | .armTimeout t => Sys2Proof.Machine.execArmTimeout t s
  | .resetSelfTestDone okP okH t => Sys2Proof.Machine.execResetSelfTestDone okP okH t s
  | .sfPowerLoss t => Sys2Proof.Machine.execSfPowerLoss t s
  | .sfPowerOn withPkgOk t => Sys2Proof.Machine.execSfPowerOn withPkgOk t s
  | .entropyTestFail adaptive t => Sys2Proof.Machine.execEntropyTestFail adaptive t s
  | .entropyRecoveryTimeout t => Sys2Proof.Machine.execEntropyRecoveryTimeout t s
  | .drbgReseed t => Sys2Proof.Machine.execDrbgReseed t s
  | .supplyGlitch t => Sys2Proof.Machine.execSupplyGlitch t s
  | .getMeasurements nonce t => Sys2Proof.Machine.execGetMeasurements nonce t s
  | .keyExchange msg t => Sys2Proof.Machine.execKeyExchange msg t s
  | .programSlot msg sound t => Sys2Proof.Machine.execProgramSlot msg sound t s
  | .exportKt msg t => Sys2Proof.Machine.execExportKt msg t s
  | .setProduction msg t => Sys2Proof.Machine.execSetProduction msg t s
  | .getNonce msg t => Sys2Proof.Machine.execGetNonce msg t s
  | .debugEnter msg t => Sys2Proof.Machine.execDebugEnter msg t s
  | .retire msg t => Sys2Proof.Machine.execRetire msg t s
  | .sensorRead id t => Sys2Proof.Machine.execSensorRead id t s
  | .pkgPwrokRise t => Sys2Proof.Machine.execPkgPwrokRise t s
  | .pkgPwrokFall t => Sys2Proof.Machine.execPkgPwrokFall t s
  | .seqFault rail t => Sys2Proof.Machine.execSeqFault rail t s
  | .vauxFault t => Sys2Proof.Machine.execVauxFault t s
  | .supplyFault rail t => Sys2Proof.Machine.execSupplyFault rail t s
  | .coldReset t => Sys2Proof.Machine.execColdReset t s
  | .cold q v t => Sys2Proof.Machine.execCold q v t s
  | .coldResetReady failDies secOk t => Sys2Proof.Machine.execColdResetReady failDies secOk t s
  | .fold q v t => Sys2Proof.Machine.execFold q v t s
  | .foldReset t => Sys2Proof.Machine.execFoldReset t s
  | .alignStart t => Sys2Proof.Machine.execAlignStart t s
  | .alignCheckEnd bad t => Sys2Proof.Machine.execAlignCheckEnd bad t s
  | .foldDone fail t => Sys2Proof.Machine.execFoldDone fail t s
  | .test q v t => Sys2Proof.Machine.execTest q v t s
  | .powerDown q v t => Sys2Proof.Machine.execPowerDown q v t s
  | .selfTestDone block t => Sys2Proof.Machine.execSelfTestDone block t s
  | .testPassExpire target t => Sys2Proof.Machine.execTestPassExpire target t s
  | .powerGateRamp d up t => Sys2Proof.Machine.execPowerGateRamp d up t s
  | .fenceScrub t => Sys2Proof.Machine.execFenceScrub t s
  | .weatheringEval wear tj swing rows t => Sys2Proof.Machine.execWeatheringEval wear tj swing rows t s
  | .wearSnapshot t => Sys2Proof.Machine.execWearSnapshot t s
  | .injectSingleBit q v t => Sys2Proof.Machine.execInjectSingleBit q v t s
  | .injectDoubleBit q v t => Sys2Proof.Machine.execInjectDoubleBit q v t s
  | .injectFlitCrc q v t => Sys2Proof.Machine.execInjectFlitCrc q v t s
  | .sqlSeedLoad q v t => Sys2Proof.Machine.execSqlSeedLoad q v t s
  | .delayedDelivery p vc t => Sys2Proof.Machine.execDelayedDelivery p vc t s
  | .thermalTrip d t => Sys2Proof.Machine.execThermalTrip d t s
  | .thermtrip d t => Sys2Proof.Machine.execThermtrip d t s
  | .brakeTestOverdue p t => Sys2Proof.Machine.execBrakeTestOverdue p t s
  | .entropyStartupPass t => Sys2Proof.Machine.execEntropyStartupPass t s
  | .tripWaitEnd t => Sys2Proof.Machine.execTripWaitEnd t s
  | .hbmTemperatureReport n temp t => Sys2Proof.Machine.execHbmTemperatureReport n temp t s
  | .busMasterEnable fn on t => Sys2Proof.Machine.execBusMasterEnable fn on t s
  | .postedCreditReturn n t => Sys2Proof.Machine.execPostedCreditReturn n t s
  | .perstNRelease speed width flit t => Sys2Proof.Machine.execPerstNRelease speed width flit t s
  | .registerRead q addr size t => Sys2Proof.Machine.execRegisterRead q addr size t s
  | .spdmSessionEnd t => Sys2Proof.Machine.execSpdmSessionEnd t s
  | .receiverAdapted p t => Sys2Proof.Machine.execReceiverAdapted p t s
  | .hostDelayedLanding fn tag t => Sys2Proof.Machine.execHostDelayedLanding fn tag t s

end Sys2Proof.Machine
end

