-- ==== Sys2Proof/Safety.lean ====
section
/-! DEFINITION. What a safe run is, in the terms that the statements use: a state whose memory, registers and log are in the
form that the manual gives them. -/

namespace Sys2Proof.Machine

/-- The memory list is in its canonical form: addresses strictly rising, and no entry equal to what an unlisted address
reads as. -/
def State.memOk (s : State) : Prop := Memory.wf s.mem = true

/-- Every register has one home: the listed addresses rise strictly. -/
def State.regsOk (s : State) : Prop := s.regs.Pairwise fun a b => a.1 < b.1

/-- The Strandline log is as R777 to R780 say: the circle holds the last 8,192 entries written since power-on, each with its
number, and the pin area the last 16 of classes 4, 5 and 7. -/
def State.logOk (s : State) : Prop :=
  s.log.entries.length = min s.log.seq 8192 ∧
  (∀ i e, s.log.entries[i]? = some e → e.seq = (s.log.seq - 1 - i) % 2 ^ 24) ∧
  s.log.pins.length = min s.log.pinCount 16 ∧
  ∀ e ∈ s.log.pins, e.cls = 4 ∨ e.cls = 5 ∨ e.cls = 7

/-- Memory, registers and log are in their form. -/
def State.canon (s : State) : Prop := s.memOk ∧ s.regsOk ∧ s.logOk

/-- A step answers a next state. -/
def State.goesOn (s : State) : Bool := match step s with | .next _ => true | _ => false

/-- Every address reads the same in two states. -/
def State.sameMem (s s' : State) : Prop := ∀ a, readByte s' a = readByte s a

/-- A command answers a next state, and that state has a property. -/
def Answers (i : Instr) (s : State) (P : State → Prop) : Prop := ∃ s', exec i s = .next s' ∧ P s'

/-! ### Registers, as the statements name them -/

/-- A register whose write has no check and no effect of its own: what it holds is what R10 says a write leaves. -/
def Reg.plain (r : Reg) : Bool :=
  !([Reg.clkSetpointCd, .clkSetpointMd, .tidPeriod, .tidBayCfg, .tidBayStart, .tidBayOwnLo, .tidBayOwnHi, .tidRefPlan,
    .stlKill, .bcnStwCtrl, .dklCtrl, .hifEvtCfg, .bwrCmd, .secImgCtrl, .pwrRstCtrl, .pwrRstTestCmd, .hltInject, .sqlSeed,
    .sqlCtrl, .sqlLink, .sqlPace].contains r)

/-- Number d names a die of the register's window class and i an index of the register. -/
def Reg.inRange (r : Reg) (d i : Nat) : Prop := d < r.info.win.dies.2 ∧ i < r.info.count

/-- The requester may write the register there, the die is not fallow, some field may be written, and the value sets no
reserved bit (R10, R25). -/
def State.takesWrite (s : State) (q : Requester) (r : Reg) (d i : Nat) (v : Word) : Prop :=
  fallow s (r.info.win.dies.1 + d) = false ∧ mayWriteReg q r i = true ∧ r.hasWritable s i = true ∧ v &&& ~~~r.fields = 0

/-- The state that remembers that a requester wrote the register in this tide, which the register's fields do not show. -/
def State.noteWrite (s : State) (q : Requester) (r : Reg) (d i : Nat) : State :=
  { s with img := { s.img with writtenNow := Tab.put (r.addr d i) (reqCode q) s.img.writtenNow } }

/-- Bit b of a register after a write of v over old (R10, Table 0.2): an RW bit, or an RWS bit before sealing, takes the
written bit; a W1C bit written as 1 is cleared; every other bit stays. -/
def writtenBit (s : State) (r : Reg) (i : Nat) (old v : Word) (b : Nat) : Bool :=
  if r.roIndex i = false ∧ (bitAt r.info.rw b = true ∨ (s.img.isSealed = false ∧ bitAt r.info.rws b = true)) then
    bitAt v b && !(bitAt r.info.w1c b && bitAt v b)
  else bitAt old b && !(bitAt r.info.w1c b && bitAt v b)

/-- What a write of v leaves of the register it writes: its stored value by R10, everything else as it was. -/
def State.afterWrite (s : State) (q : Requester) (r : Reg) (d i : Nat) (v : Word) : State :=
  storeReg r d i v (s.noteWrite q r d i)

/-- What a write leaves that the register's own check rejects: an access error with code 0x02 (R10). -/
def State.rejectsWrite (s : State) (q : Requester) (r : Reg) (i : Nat) : State :=
  logAccess s r.src 0x02 (regAddr r 0 i) (reqCode q)

/-- Every register but one holds what it held. -/
def State.otherRegs (s s' : State) (r : Reg) (d i : Nat) : Prop :=
  ∀ r' d' i', r'.addr d' i' ≠ r.addr d i → rgetX s' r' d' i' = rgetX s r' d' i'

/-- The commands that read a register with fields that a read clears: the requester, the register, its die number and
index, and the moment. -/
def clearRead : Instr → Option (Requester × Reg × Nat × Nat × Nat)
  | .tidMissCountRead q t => some (q, .tidMissCount, 0, 0, t)
  | .tidExtStatusRead q t => some (q, .tidExtStatus, 0, 0, t)
  | .bcnHoldsRead q i t => some (q, .bcnHolds, 0, i, t)
  | .grnHeldRead q i t => some (q, .grnHeld, 0, i, t)
  | .hauBytesRead q i t => some (q, .hauBytes, 0, i, t)
  | .talDropRead q i t => some (q, .talDrop, 0, i, t)
  | .mtxTileBusyRead q d i t => some (q, .mtxTileBusy, d, i, t)
  | .vecUnitBusyRead q d i t => some (q, .vecUnitBusy, d, i, t)
  | .mtxLooseRead q i t => some (q, .mtxLoose, 0, i, t)
  | .sfuBusyRead q d i t => some (q, .sfuBusy, d, i, t)
  | .sfuEccRead q d i t => some (q, .sfuEcc, d, i, t)
  | .winVerdictRead q i t => some (q, .winVerdict, 0, i, t)
  | .winDropsRead q i t => some (q, .winDrops, 0, i, t)
  | .winCensusRead q i t => some (q, .winCensus, 0, i, t)
  | .fryDropRead q d i t => some (q, .fryDrop, d, i, t)
  | .glnDoneRead q d i t => some (q, .glnDone, d, i, t)
  | .dklErrRead q d i t => some (q, .dklErr, d, i, t)
  | .dklFecRead q d i t => some (q, .dklFec, d, i, t)
  | .medRsBusyRead q d t => some (q, .medRsBusy, d, 0, t)
  | .medEncBytesRead q d i t => some (q, .medEncBytes, d, i, t)
  | .medEncCappedRead q d i t => some (q, .medEncCapped, d, i, t)
  | .hifFnStatRead q i t => some (q, .hifFnStat, 0, i, t)
  | .hifDmaErrRead q t => some (q, .hifDmaErr, 0, 0, t)
  | .hltEccRead q i t => some (q, .hltEcc, 0, i, t)
  | .hltHbmRead q i t => some (q, .hltHbm, 0, i, t)
  | .logStatusRead q t => some (q, .logStatus, 0, 0, t)
  | .sqlStatRead q t => some (q, .sqlStat, 0, 0, t)
  | .secEntropyRead q t => some (q, .secEntropy, 0, 0, t)
  | .pwrPeakRead q t => some (q, .pwrPeak, 0, 0, t)
  | _ => none

/-! ### The fields of a long word, as the statements name them -/

/-- The word at a context's program counter. -/
def State.lw (s : State) (c : Nat) : LongWord := wordAt (ctxOf s c).bcn

/-- The state in which field k of a context's word counts as carried out. -/
def State.carried (s : State) (c k : Nat) : State :=
  modBcn s c fun b => { b with iss := b.iss.map fun i => { i with done := k :: i.done } }

/-- A field of an issued word is active: its predicate holds, and in Neap mode every open loop is in an active
iteration (R191). -/
def State.active (s : State) (c : Nat) (i : Issue) (pred : Nat) (neg : Bool) : Bool :=
  bodyActive s c i.lcs i.loops && predOn i.pd pred neg

/-- Scalar field f of context c's word in state u has the operation `sop`, and in this cycle the word issues or has issued,
with the registers that i holds and with this field still to be carried out. -/
def ScalarTurn (u : State) (c : Nat) (f : Fld) (sop : Nat) (i : Issue) : Prop :=
  (sfield (lwScalar (u.lw c) f)).sop = sop ∧ (ctxOf (tryIssue u c) c).bcn.iss = some i ∧ i.done.contains (fldNo f) = false

/-- The control field of context c's word has the operation `cop`, the word issues or has issued in this cycle, and every
other field of it has been carried out. -/
def ControlTurn (u : State) (c cop : Nat) (i : Issue) : Prop :=
  (cfield (lwControl (u.lw c))).cop = cop ∧ (ctxOf (tryIssue u c) c).bcn.iss = some i ∧ fieldsDone (u.lw c) i = true

/-- The scalar field in its turn, as decoded. -/
def State.fieldOf (v : State) (c : Nat) (f : Fld) : SField := sfield (lwScalar (v.lw c) f)

/-- The two-operand operations of Table 5.7 whose result is there in the next cycle: context, field, moment, code, whether the
second operand is the immediate, and the function. -/
def twoOperand : Instr → Option (Nat × Fld × Nat × Nat × Bool × (Word → Word → Word))
  | .add c f t => some (c, f, t, 0x01, false, fun a b => a + b)
  | .addi c f t => some (c, f, t, 0x21, true, fun a b => a + b)
  | .sub c f t => some (c, f, t, 0x02, false, fun a b => a - b)
  | .subi c f t => some (c, f, t, 0x22, true, fun a b => a - b)
  | .andC c f t => some (c, f, t, 0x05, false, fun a b => a &&& b)
  | .andi c f t => some (c, f, t, 0x25, true, fun a b => a &&& b)
  | .orC c f t => some (c, f, t, 0x06, false, fun a b => a ||| b)
  | .ori c f t => some (c, f, t, 0x26, true, fun a b => a ||| b)
  | .xorC c f t => some (c, f, t, 0x07, false, fun a b => a ^^^ b)
  | .xori c f t => some (c, f, t, 0x27, true, fun a b => a ^^^ b)
  | .shl c f t => some (c, f, t, 0x08, false, fun a b => a <<< (b.toNat % 64))
  | .shli c f t => some (c, f, t, 0x28, true, fun a b => a <<< (b.toNat % 64))
  | .shr c f t => some (c, f, t, 0x09, false, fun a b => a >>> (b.toNat % 64))
  | .shri c f t => some (c, f, t, 0x29, true, fun a b => a >>> (b.toNat % 64))
  | .sar c f t => some (c, f, t, 0x0A, false, fun a b => a.sshiftRight (b.toNat % 64))
  | .sari c f t => some (c, f, t, 0x2A, true, fun a b => a.sshiftRight (b.toNat % 64))
  | .minC c f t => some (c, f, t, 0x0B, false, fun a b => if a.toInt ≤ b.toInt then a else b)
  | .mini c f t => some (c, f, t, 0x2B, true, fun a b => if a.toInt ≤ b.toInt then a else b)
  | .maxC c f t => some (c, f, t, 0x0C, false, fun a b => if b.toInt ≤ a.toInt then a else b)
  | .maxi c f t => some (c, f, t, 0x2C, true, fun a b => if b.toInt ≤ a.toInt then a else b)
  | .minu c f t => some (c, f, t, 0x0D, false, fun a b => if a.toNat ≤ b.toNat then a else b)
  | .minui c f t => some (c, f, t, 0x2D, true, fun a b => if a.toNat ≤ b.toNat then a else b)
  | .maxu c f t => some (c, f, t, 0x0E, false, fun a b => if b.toNat ≤ a.toNat then a else b)
  | .maxui c f t => some (c, f, t, 0x2E, true, fun a b => if b.toNat ≤ a.toNat then a else b)
  | _ => none

/-- The multiplies, whose result is usable 3 cycles after issue. -/
def multiplyOp : Instr → Option (Nat × Fld × Nat × Nat × Bool × (Word → Word → Word))
  | .mul c f t => some (c, f, t, 0x03, false, fun a b => a * b)
  | .muli c f t => some (c, f, t, 0x23, true, fun a b => a * b)
  | .mulhu c f t => some (c, f, t, 0x04, false, fun a b => word (a.toNat * b.toNat / 2 ^ 64))
  | .mulhui c f t => some (c, f, t, 0x24, true, fun a b => word (a.toNat * b.toNat / 2 ^ 64))
  | _ => none

/-- The compares, which write a predicate. -/
def compareOp : Instr → Option (Nat × Fld × Nat × Nat × Bool × (Word → Word → Bool))
  | .cmpeq c f t => some (c, f, t, 0x10, false, fun a b => decide (a = b))
  | .cmpeqi c f t => some (c, f, t, 0x30, true, fun a b => decide (a = b))
  | .cmpne c f t => some (c, f, t, 0x11, false, fun a b => decide (a ≠ b))
  | .cmpnei c f t => some (c, f, t, 0x31, true, fun a b => decide (a ≠ b))
  | .cmplt c f t => some (c, f, t, 0x12, false, fun a b => decide (a.toInt < b.toInt))
  | .cmplti c f t => some (c, f, t, 0x32, true, fun a b => decide (a.toInt < b.toInt))
  | .cmpltu c f t => some (c, f, t, 0x13, false, fun a b => decide (a.toNat < b.toNat))
  | .cmpltui c f t => some (c, f, t, 0x33, true, fun a b => decide (a.toNat < b.toNat))
  | .cmpge c f t => some (c, f, t, 0x14, false, fun a b => decide (b.toInt ≤ a.toInt))
  | .cmpgei c f t => some (c, f, t, 0x34, true, fun a b => decide (b.toInt ≤ a.toInt))
  | .cmpgeu c f t => some (c, f, t, 0x15, false, fun a b => decide (b.toNat ≤ a.toNat))
  | .cmpgeui c f t => some (c, f, t, 0x35, true, fun a b => decide (b.toNat ≤ a.toNat))
  | _ => none

/-- The operations on predicates. -/
def predicateOp : Instr → Option (Nat × Fld × Nat × Nat × (Bool → Bool → Bool))
  | .pand c f t => some (c, f, t, 0x16, fun p q => p && q)
  | .por c f t => some (c, f, t, 0x17, fun p q => p || q)
  | .pxor c f t => some (c, f, t, 0x18, fun p q => p != q)
  | .pandn c f t => some (c, f, t, 0x19, fun p q => p && !q)
  | _ => none

/-- The other scalar operations whose inactive field does nothing in both modes, with their codes; LD is apart (R211). -/
def otherScalar : Instr → Option (Nat × Fld × Nat × Nat)
  | .nopC c f t => some (c, f, t, 0x00)
  | .clz c f t => some (c, f, t, 0x0F)
  | .sel c f t => some (c, f, t, 0x1A)
  | .mfs c f t => some (c, f, t, 0x1B)
  | .movhi c f t => some (c, f, t, 0x38)
  | .st c f t => some (c, f, t, 0x37)
  | _ => none

/-! ### Engine queues, as the statements name them -/

/-- The engine of a class and instance may take the command m of context c, with the operation `op` and the descriptor b: it is the
oldest of its queue and has reached it, in Flood mode no urgent command stands in front of it, its descriptor lies in what the
context may read and is as long as the format, and no word of memory is upset. -/
def Offered (u : State) (c cls inst op size : Nat) (m : Cmd) (b : List Byte) : Prop :=
  headCmd u c cls inst = some m ∧ (c < 16 → c % 2 = 0 → floodCtx u c = true → headCmd u (c + 1) cls inst = none) ∧
  mayRead u c m.addr m.len = true ∧ size ≤ m.len ∧ leNat (readMem u m.addr 1) = op ∧ readMem u m.addr m.len = b ∧ u.upsets = []

/-- The Granary's operations: the context, the code of Table 6.5 and the moment. -/
def granaryOp : Instr → Option (Nat × Nat × Nat)
  | .alloc c t => some (c, 1, t)
  | .release c t => some (c, 2, t)
  | .stage c t => some (c, 3, t)
  | .resolve c t => some (c, 4, t)
  | .kvStage c t => some (c, 5, t)
  | .kvGrow c t => some (c, 6, t)
  | .kvTrim c t => some (c, 7, t)
  | _ => none

/-- Nothing is armed to disturb the next write of memory (R793). -/
def State.undisturbed (s : State) : Prop := s.memOk ∧ s.upsets = [] ∧ bf (rget s .hltInject) 63 62 = 0

/-- Message b of a type is the first of VC0 at port p. -/
def MessageAt (u : State) (p type : Nat) (b : List Byte) : Prop :=
  p < 32 ∧ headUnit u p 0 = some b ∧ fieldAt b 0 1 = type

/-- Tile or vector unit k (class 1 or 2) has the running command m of its direct queues before it and is free for its next piece:
nothing waits on the work list of m's context, and its die is in service. -/
def Runs (u : State) (cls c k : Nat) (m : Cmd) : Prop :=
  k < 128 ∧ c < 16 ∧ listCmds u c cls = [] ∧ fallow u (k / 8) = false ∧ busyTill u cls k ≤ u.now ∧
  directWork u cls k = [m] ∧ m.st = .running ∧ m.c = c

/-- The command table after a piece of m, with `more` parts that the piece leaves outstanding, done at a moment (R319). -/
def pieceCounted (u : State) (m : Cmd) (more at_ : Nat) : List Cmd :=
  u.cmds.map fun x => if x.id = m.id then
    { x with next := x.next + 1, left := x.left + more - 1, doneAt := max x.doneAt at_, st := if x.left + more - 1 = 0 then .finished else x.st }
    else x

/-- Two lists of bytes at addresses do not meet; an empty one meets none. -/
def apartWrites (x y : Nat × List Byte) : Prop := x.2 = [] ∨ y.2 = [] ∨ x.1 + x.2.length ≤ y.1 ∨ y.1 + y.2.length ≤ x.1

/-- What applying a verdict leaves (R391, R392, R407, R408): the context's census has ended and its command with it, WIN_LAST shows the
fall-back and the source, a fall-back takes effect in an attempt of variant 0, and in VERDICT_OUT, where the stall may write it, each
expert has its capacity, B or its override, held at 20 bits. -/
def VerdictApplied (u s' : State) (c : Nat) (r : CensusRun) (fb : Bool) (cf : Nat) (ovr : List (Nat × Nat)) (source : Nat) : Prop :=
  let d := cenDesc r.desc
  let ka := if fb = true then d.kfb else d.k
  let cf' := if fb = true ∧ cf = 0 then d.fbCf else cf
  let b := baseCapacity cf' r.total ka d.e d.capMax
  let cap := fun e => if fb = true then b else match ovr.find? (·.1 == e) with
    | some o => if d.capMax = 0 then o.2 else min o.2 d.capMax
    | none => b
  (ctxOf s' c).cen = none ∧
  (fb = true → (ctxOf u c).variant = 0 → (ctxOf u c).verdictFb = none → (ctxOf s' c).verdictFb = some u.now) ∧
  (fb = false → (ctxOf s' c).verdictFb = (ctxOf u c).verdictFb) ∧
  bitAt (rget s' .winLast (c / 2)) 17 = fb ∧ bf (rget s' .winLast (c / 2)) 19 18 = source % 4 ∧
  s'.cmds = u.cmds.map (fun x => if x.id = r.cmd then { x with st := .finished, doneAt := u.now, left := 0, unfixed := true } else x) ∧
  ∀ e < d.e, leNat (readMem s' (d.out + 64 + 4 * e) 4) = min (cap e) (2 ^ 20 - 1)

/-- Every other chip of a mask has an ACTIVE port of this one. -/
def reachesAll (u : State) (mask : Nat) : Prop := ∀ pos < 16, mask.testBit pos = true → pos ≠ chipOnBoard u → activeTo u pos ≠ []

/-- The plan p that lies at an address may be used by context c and is well formed (R422, R423). -/
def PlanAt (u : State) (c a : Nat) (p : DPlan) : Prop :=
  mayUse u c a 256 = true ∧ dPlan (readMem u a 256) = p ∧ planForm u p (readMem u a 256) = true

/-- The state in which a record has left its port's receive buffer, with its credit. -/
def recTaken (u : State) (p vc : Nat) (x : RxUnit) : State :=
  freeCredits (modPort u p fun y =>
    let r := Tab.getD RxChan.clear vc y.rx
    { y with rx := Tab.put vc { r with units := r.units.erase x } y.rx }) p vc

/-- The command table in which a command has finished its work, to complete at a moment. -/
def finished (u : State) (id at_ : Nat) : List Cmd :=
  u.cmds.map fun x => if x.id = id then { x with st := .finished, doneAt := at_, left := 0 } else x

/-- Every write of a list may be made, no two of them meet, and none meets a span of another list. -/
def cleanWrites (u : State) (c : Nat) (ws : List (Nat × List Byte)) (spans : List (Nat × Nat)) : Prop :=
  (∀ w ∈ ws, mayWrite u c w.1 w.2.length = true) ∧ ws.Pairwise apartWrites ∧
  ∀ w ∈ ws, ∀ p ∈ spans, w.1 + w.2.length ≤ p.1 ∨ p.1 + p.2 ≤ w.1

/-- Exactly the writes of a list have been made: each is read back, and every other byte stays. -/
def wroteOnly (u s' : State) (ws : List (Nat × List Byte)) : Prop :=
  (∀ w ∈ ws, readMem s' w.1 w.2.length = w.2) ∧
  ∀ a, (∀ w ∈ ws, a < w.1 ∨ w.1 + w.2.length ≤ a) → readByte s' a = readByte u a

/-- A handle with its complement, as 8 bytes hold it, is sound for stall n up to a length (R247). -/
def handleFits (u : State) (n h off len : Nat) : Prop := checkHandle u n (h % 2 ^ 32) (h / 2 ^ 32) off len = .ok

/-- The first address of the buffer that a handle of 8 bytes names. -/
def handleAddr (u : State) (h : Nat) : Nat := (keySpan u (keyOf (h % 2 ^ 32))).1

/-- The state in which context c has a stream table staged for a slot, and the buffer of that table (R156, R594): the one it has, or a
fresh one that takes the place of the staged side's old one; none where the slot is a KV slot or the reserve is full. -/
def streamStaged (u : State) (c slot : Nat) : Option (State × Nat) :=
  let n := c / 2
  let p := pubOf u n slot
  if p.kv = true then none
  else if (ctxOf u c).staged.contains slot = true then some (u, keyOf (p.handle (!p.side)))
  else match allocBuf u (16 * n + 8) c (ctxOf u c).uid 8 2 with
    | none => none
    | some (key, v) =>
      let v := freeHandle v (p.handle (!p.side))
      let q := p.withSide (!p.side) (handleOf v key)
      some (modCtx (setPub v n slot (if p.side = true then { q with st0 := true } else { q with st1 := true })) c
        fun x => { x with staged := x.staged ++ [slot] }, key)

/-- What the start of a cold reset leaves (R739 to R741, Table 19.3, R725): PHASE reads 1, the cause is recorded, a cold reset in a
debug state other than LOCKED as a tamper reset, memory, tables and queues are empty, the registers that no chapter keeps are at their
reset values, and the fuses and the commands that wait stay. -/
def ColdStarted (u s' : State) (cause : Nat) : Prop :=
  phase s' = 1 ∧
  bf (rget s' .pwrRstStatus) 55 48 = (if bf (rget u .secStatus) 61 60 ≠ 0 ∧ cause ≠ 4 then 4 else cause) ∧
  s'.mem = [] ∧ s'.tallies = [] ∧ s'.ctxs = [] ∧ s'.stalls = [] ∧ s'.cmt = [] ∧ s'.pub = [] ∧ s'.cmds = [] ∧ s'.bufs = [] ∧
  s'.plan = State.reset.plan ∧ s'.img.inForce = false ∧ s'.img.isSealed = false ∧ s'.pwr.c0 = u.now ∧ s'.pwr.fold = none ∧
  s'.fuse = u.fuse ∧ s'.pending = u.pending ∧ s'.now = u.now ∧
  ∀ r d i, r ∉ coldKept → r ≠ .pwrRstStatus → r.inRange d i → rgetX s' r d i = r.info.reset

/-- No chip loss or fold reset is in progress, and one may begin (R746, R749, R759). -/
def State.mayFold (u : State) : Prop :=
  u.pwr.fold = none ∧ u.pwr.inReset = false ∧ u.pwr.coldDue = false ∧ phase u ≠ 1 ∧ phase u ≠ 8

/-! ### Ports and light, as the statements name them -/

/-- Only port p of the links has changed, and it is now x. -/
def onlyPort (u s' : State) (p : Nat) (x : Port) : Prop :=
  s' = { u with ports := s'.ports } ∧ portOf s' p = x ∧ ∀ o, o ≠ p → portOf s' o = portOf u o

/-- Port p has become FAILED with a cause (R541, R542): TOP_EVENT tells of it, and every uncommitted step with a unit on the port ends
with LINK_FAILED. -/
def PortFails (u s' : State) (p cause : Nat) : Prop :=
  (portOf s' p).st = 8 ∧ (portOf s' p).cause = cause ∧ bitAt (rget s' .topEvent) p = true ∧
  (∀ o, o ≠ p → portOf s' o = portOf u o) ∧
  ∀ o ∈ portOwners u p, o.2 ≠ 0 → (ctxOf u o.1).uid = o.2 → (ctxOf u o.1).st = .running → (ctxOf u o.1).committed = false →
    (ctxOf u o.1).cause = none → (ctxOf s' o.1).cause = some 0x50

/-- Port p has started a retrain (R538), or is FAILED where it is the fourth in succession with no advance (R539). Its session and its
unacknowledged flits stay. -/
def Retrains (u s' : State) (p : Nat) : Prop :=
  let x := portOf u p
  let y := portOf s' p
  y.retrain = true ∧ y.retrainAt = u.now ∧ y.consRetrain = x.consRetrain + 1 ∧ y.adapted = none ∧ y.qualified = false ∧
  y.session = x.session ∧ y.far = x.far ∧ y.txExt = x.txExt ∧ y.rxExt = x.rxExt ∧ y.replayBuf = x.replayBuf ∧
  (x.consRetrain < 3 → y.st = 6 ∧ s'.ctxs = u.ctxs ∧ s'.mem = u.mem ∧ s'.log = u.log ∧ ∀ o, o ≠ p → portOf s' o = portOf u o) ∧
  (3 ≤ x.consRetrain → PortFails u s' p 9)

/-- Port p is at level PROBE with no test in progress, its link in PROBE unless it is OFF or FAILED, and its session stays (R666). -/
def ReducedToProbe (u s' : State) (p : Nat) : Prop :=
  let x := portOf u p
  let y := portOf s' p
  (bwPortOf s' p).level = 1 ∧ (bwPortOf s' p).test = none ∧ y.st = (if x.st = 8 ∨ x.st = 0 then x.st else 1) ∧
  y.session = x.session ∧ y.far = x.far ∧ y.txExt = x.txExt ∧ y.rxExt = x.rxExt ∧ y.replayBuf = x.replayBuf ∧
  s'.mem = u.mem ∧ s'.ctxs = u.ctxs ∧ ∀ o, o ≠ p → portOf s' o = portOf u o ∧ bwPortOf s' o = bwPortOf u o

/-- Port p is cut to OFF, its link with it, and no test is in progress (R666). -/
def CutToOff (s' : State) (p : Nat) : Prop :=
  (bwPortOf s' p).level = 0 ∧ (bwPortOf s' p).test = none ∧ (portOf s' p).st = 0

/-- Every port of edge die e is cut to OFF, and no port of another edge die changes. -/
def DieCut (u s' : State) (e : Nat) : Prop :=
  ∀ p < 32, (p % 4 = e → CutToOff s' p) ∧ (p % 4 ≠ e → portOf s' p = portOf u p ∧ bwPortOf s' p = bwPortOf u p)

/-- A cause of lock-out has been decided (R686, time 0 of Table 17.7; R695): outside lock-out LOCKOUT, the cause and the next LOCK_ID are
written, the entry follows, and SHUTDOWN stands in VC0 of every ACTIVE port; an armed or running reset is refused with RESULT 2, and
in lock-out its new cause is recorded. -/
def LockoutDecided (u s' : State) (cause : Nat) : Prop :=
  let running := u.bw.armAt.isSome || u.bw.confirm.isSome
  inLockout s' = true ∧
  (running = true → s'.bw.armAt = none ∧ s'.bw.confirm = none ∧ rfield s' .bwrResetStatus 63 63 = 0 ∧
    rfield s' .bwrResetStatus 59 56 = 2) ∧
  (inLockout u = false →
    rfield s' .bwrStatus 31 24 = cause ∧ rfield s' .bwrStatus 15 0 = (rfield u .bwrStatus 15 0 + 1) % 65536 ∧
    s'.bw.entry = some (cause, u.now) ∧
    ∀ p < 32, (portOf u p).st = 4 → ∃ v ∈ (Tab.getD (TxChan.clear 0) 0 (portOf s' p).tx).units,
      v.safety = true ∧ fieldAt v.bytes 0 1 = 7 ∧ fieldAt v.bytes 16 1 = 2 ∧ fieldAt v.bytes 32 2 = cause) ∧
  (inLockout u = true →
    rfield s' .bwrStatus 31 24 = (if running = true then cause else rfield u .bwrStatus 31 24) ∧
    rfield s' .bwrStatus 15 0 = rfield u .bwrStatus 15 0 ∧ s'.bw.entry = u.bw.entry)

/-- A channel has become faulty for edge dies (R662, R681, R682): degraded mode counts from its first entry and SAFE_FAULT_N goes low
with it; where an edge die is left with no channel, lock-out is decided with cause BOTH_CHANNELS. -/
def ChannelFaulted (u s' : State) (c : Channel) (es : List Nat) : Prop :=
  let other : Channel := match c with | .p => .h | .h => .p
  (∀ e < 4, (channelBad s' c e = true ↔ e ∈ es ∨ channelBad u c e = true) ∧ channelBad s' other e = channelBad u other e) ∧
  ((∃ e < 4, channelBad s' .p e = true ∧ channelBad s' .h e = true) → LockoutDecided u s' 2) ∧
  ((∀ e < 4, ¬(channelBad s' .p e = true ∧ channelBad s' .h e = true)) →
    s'.bw.degradedAt = some (u.bw.degradedAt.getD u.now) ∧ inLockout s' = inLockout u ∧ s'.bw.entry = u.bw.entry ∧
    s'.ports = u.ports ∧ s'.out = if degraded u = true then u.out else Out.pin "SAFE_FAULT_N" false :: u.out)

/-- A tamper reset has begun (R725, Table 18.9): the keys are cleared, HBM holds nothing, every uncommitted step has ended with the
cause, and a cold reset is due 10 µs later. -/
def Tampered (u s' : State) (cause : Nat) : Prop :=
  s'.sec.lmk = [] ∧ s'.sec.deviceId = false ∧ s'.sec.session = false ∧ s'.sec.nonces = [] ∧ s'.sec.held = [] ∧
  (∀ x ∈ s'.mem, isHbm x.1 = false) ∧ s'.pwr.coldDue = true ∧ s'.pwr.coldCause = 4 ∧
  s'.pwr.c0 = (if u.pwr.coldDue = true then u.pwr.c0 else u.now + 10000000) ∧
  rfield s' .secStatus 47 32 = min (rfield u .secStatus 47 32 + 1) 65535 ∧
  ∀ c < 16, (ctxOf u c).committed = false → (ctxOf u c).st ≠ .idle → (ctxOf u c).cause = none →
    (ctxOf s' c).st = .killing ∧ (ctxOf s' c).cause = some cause

end Sys2Proof.Machine
end

