-- ==== Sys2Proof/Certificates/Slice0/Obligations.lean ====
section
/-! DEFINITION. The statements for the provers. In every one of them s is any state, t the command's moment and u = s.at t the
state at that moment; hypotheses speak of u and of the operands alone. -/

open Sys2Proof Sys2Proof.Machine

/-! ### The queue and the step -/

/-- A step takes the command at the front of the queue and runs exec on it with the queue's rest.

On an empty queue the block idles. This is the model's choice (log entry 2): the manual has no command for it. -/
def Obligations.StepRunsTheFrontCommand : Prop :=
  (∀ (i : Instr) (rest : List Instr) (s : State),
    step { s with pending := i :: rest } = exec i { s with pending := rest }) ∧
  (∀ s : State, s.pending = [] → step s = .next s)

/-- No command ever stops the block: from every state a step answers a next state, in which exactly the front command has
left the queue and time has not gone back. -/
def Obligations.EveryStepTakesOneCommand : Prop :=
  ∀ s : State, ∃ s', step s = .next s' ∧ s'.pending = s.pending.tail ∧ s.now ≤ s'.now

/-- What reset leaves: every register reads its reset value, memory, the log, the tables and the queues are empty, no context runs, and
the state has the form: a canonical memory, one home for each register, a log that agrees with its counters. The reset values that
the manual does not give are the model's choice (log entry 4). -/
def Obligations.ResetHasTheForm : Prop :=
  State.reset.canon ∧ (∀ r d i, r.inRange d i → rgetX State.reset r d i = r.info.reset) ∧ State.reset.mem = [] ∧
  State.reset.log.entries = [] ∧ State.reset.tallies = [] ∧ State.reset.cmds = [] ∧ State.reset.cmt = [] ∧
  (∀ c < 16, (ctxOf State.reset c).st = .idle) ∧ (∀ p < 32, (portOf State.reset p).st = 0 ∧ (bwPortOf State.reset p).level = 0) ∧
  (∀ n < 8, (stallOf State.reset n).queue = []) ∧ State.reset.pending = []

/-- Every step keeps the form: memory stays canonical (addresses strictly rising, no entry equal to what an unlisted address
reads as), every register keeps one home, and the Strandline log stays the circle that R777, R778 and R780 describe. -/
def Obligations.EveryStepKeepsTheForm : Prop := ∀ s s' : State, s.canon → step s = .next s' → s'.canon

/-! ### Registers -/

/-- No two registers share an address, and every address of a register decodes to it. -/
def Obligations.RegisterAddressesDecode : Prop :=
  ∀ (r : Reg) (d i : Nat), r.inRange d i → Reg.decode (r.addr d i) = some (r, d, i)

/-- A register write (R10) of a register with no check of its own: the written fields take their bits, every RO, RC and
reserved bit stays, nothing is logged, and no other register, byte or field changes. A write that sets a reserved bit does
the same after an access error with code 0x01. -/
def Obligations.RegisterWriteChangesWritableBitsOnly : Prop :=
  ∀ (s : State) (q : Requester) (r : Reg) (d i : Nat) (v : Word) (t : Nat),
    let u := s.at t
    let w := logAccess u r.src 0x01 (regAddr r d i) (reqCode q)
    r.plain = true → r.inRange d i → s.regsOk → reachable u q = true →
    (u.takesWrite q r d i v →
      Answers (.registerWrite q (regAddr r d i) v t) s fun s' =>
        (∀ b < 64, bitAt (rgetX s' r d i) b = writtenBit u r i (rgetX u r d i) v b) ∧
        u.otherRegs s' r d i ∧ s' = { u.noteWrite q r d i with regs := s'.regs }) ∧
    (fallow u (r.info.win.dies.1 + d) = false → mayWriteReg q r i = true → r.hasWritable u i = true → v &&& ~~~r.fields ≠ 0 →
      Answers (.registerWrite q (regAddr r d i) v t) s fun s' =>
        (∀ b < 64, bitAt (rgetX s' r d i) b = writtenBit u r i (rgetX w r d i) v b) ∧
        w.otherRegs s' r d i ∧ s' = { w.noteWrite q r d i with regs := s'.regs })

/-- The accesses that are refused: in a fallow die's window, at any aligned address, a read returns 0 and a write is logged and does
nothing (R25).

The writes that are refused, of any register: a fallow die's window (R25; the control and the safety die are never fallow,
R107), a requester that may not write it, a register with no writable field. Each is logged with its code and changes
nothing else.

What the log of an access error leaves (Table 20.5, R778, R779): the first 64 of a requester in a tide are entries of
class 2 with their source, code, address and requester; the others are counted as suppressed. Nothing but the log and that
counter changes. -/
def Obligations.RefusedAccessesOnlyLog : Prop :=
  (∀ (s : State) (q : Requester) (w off : Nat) (v : Word) (t : Nat),
    let u := s.at t
    let a := regBase + w * 0x1000000 + off
    w < 38 → off < 0x1000000 → off % 8 = 0 → fallow u w = true → reachable u q = true →
    exec (.registerRead q a 8 t) s = .next { u with out := Out.readData q 0 :: u.out } ∧
    ∃ src, exec (.registerWrite q a v t) s = .next (logAccess u src 0x03 a (reqCode q))) ∧
  (∀ (s : State) (q : Requester) (r : Reg) (d i : Nat) (v : Word) (t : Nat),
    let u := s.at t
    let a := regAddr r d i
    r.inRange d i → reachable u q = true →
    (r.info.win ≠ .ct → r.info.win ≠ .sf → fallow u (r.info.win.dies.1 + d) = true →
      exec (.registerWrite q a v t) s = .next (logAccess u r.src 0x03 a (reqCode q))) ∧
    (fallow u (r.info.win.dies.1 + d) = false → mayWriteReg q r i = false →
      exec (.registerWrite q a v t) s = .next (logAccess u r.src 0x04 a (reqCode q))) ∧
    (fallow u (r.info.win.dies.1 + d) = false → mayWriteReg q r i = true → r.hasWritable u i = false →
      exec (.registerWrite q a v t) s = .next (logAccess u r.src 0x01 a (reqCode q)))) ∧
  (∀ (u : State) (src : Src) (code a who : Nat), code < 256 → a < 2 ^ 64 → who < 2 ^ 48 →
    (Tab.getD 0 who u.log.access < 64 →
      ∃ e, (logAccess u src code a who).log.entries = (e :: u.log.entries).take 8192 ∧
        e.cls = 2 ∧ e.source = src.code ∧ e.code = code ∧ e.data0 = a ∧ e.data1 = who ∧ e.seq = u.log.seq % 2 ^ 24 ∧
        logAccess u src code a who = { u with log := (logAccess u src code a who).log } ∧
        (logAccess u src code a who).log.seq = u.log.seq + 1 ∧
        Tab.getD 0 who (logAccess u src code a who).log.access = Tab.getD 0 who u.log.access + 1) ∧
    (64 ≤ Tab.getD 0 who u.log.access → logAccess u src code a who = rbump u .logStatus 63 48))

/-- A register read by address: it returns what the register shows, and changes nothing else where the register has no field
that a read clears. An unaligned or short read, and a register that the requester may not read, return 0 and are
logged; a fallow die's window returns 0 (R25, R620, R621).

Reserved bits and write-only fields read 0 (R9, Table 0.2), whatever the requester and the state. -/
def Obligations.RegisterReadReturnsItsFields : Prop :=
  (∀ (s : State) (q : Requester) (r : Reg) (d i : Nat) (t : Nat),
    let u := s.at t
    let a := regAddr r d i
    r.inRange d i → reachable u q = true →
    (fallow u (r.info.win.dies.1 + d) = true →
      exec (.registerRead q a 8 t) s = .next { u with out := Out.readData q 0 :: u.out }) ∧
    (fallow u (r.info.win.dies.1 + d) = false → mayReadReg u q r d i = false →
      exec (.registerRead q a 8 t) s =
        .next { logAccess u r.src 0x04 a (reqCode q) with out := Out.readData q 0 :: u.out }) ∧
    (fallow u (r.info.win.dies.1 + d) = false → mayReadReg u q r d i = true → r ≠ .pwrVid → r.info.rc = 0 →
      viewSound u r i = true →
      exec (.registerRead q a 8 t) s = .next { u with out := Out.readData q (viewReg u q r d i) :: u.out }) ∧
    (∀ size, size ≠ 8 → exec (.registerRead q a size t) s =
        .next { logAccess u .hif 0x06 a (reqCode q) with out := Out.readData q 0 :: u.out })) ∧
  (∀ (s : State) (q : Requester) (r : Reg) (d i : Nat), viewReg s q r d i &&& (~~~r.fields ||| r.info.wo) = 0)

/-- The 29 clearing reads: the value goes out, the RC fields of the register are then 0, its other fields stay, and nothing
else changes (Table 0.2). In LOCKED, SQL_STAT reads 0 and keeps what it holds (R787). From a fallow die's window the read
returns 0 (R25), and where the requester may not read the register, 0 and an entry in the log (R621). -/
def Obligations.ClearingReadsReturnThenClear : Prop :=
  ∀ (s : State) (c : Instr) (q : Requester) (r : Reg) (d i t : Nat),
    let u := s.at t
    clearRead c = some (q, r, d, i, t) → r.inRange d i → s.regsOk → reachable u q = true →
    (fallow u (r.info.win.dies.1 + d) = false → mayReadReg u q r d i = true → (r = .sqlStat → squallOpen u = true) →
      Answers c s fun s' =>
        s'.out = Out.readData q (viewReg u q r d i) :: u.out ∧
        rgetX s' r d i = rgetX u r d i &&& ~~~r.info.rc ∧
        u.otherRegs s' r d i ∧ s' = { u with regs := s'.regs, out := s'.out }) ∧
    (fallow u (r.info.win.dies.1 + d) = false → mayReadReg u q r d i = true → r = .sqlStat → squallOpen u = false →
      exec c s = .next { u with out := Out.readData q 0 :: u.out }) ∧
    (fallow u (r.info.win.dies.1 + d) = true → exec c s = .next { u with out := Out.readData q 0 :: u.out }) ∧
    (fallow u (r.info.win.dies.1 + d) = false → mayReadReg u q r d i = false →
      exec c s = .next { logAccess u r.src 0x04 (regAddr r d i) (reqCode q) with out := Out.readData q 0 :: u.out })

/-- The register writes with a check of their own, which are commands too: a value that passes is stored (R10), one that does
not leaves everything as it was but for an access error with code 0x02 (R46, R57, R70, R72, R86).

Fault injection and the Squall seed (R787, R792, R793): outside LOCKED an injection whose word of memory exists, or
whose port is up, is armed in HLT_INJECT, and a seed loads the shift register, 0 as 1; in LOCKED, and for an address that
is not of a memory of a die in service, the write is rejected with code 0x02. -/
def Obligations.CheckedWritesStoreOrReject : Prop :=
  (∀ (s : State) (q : Requester) (v : Word) (b t : Nat),
    let u := s.at t
    let codesOk := (∀ d < 16, cdCode v d ≤ 6) ∧
      ∀ d < 16, ∀ e < 16, cdOwner u d = cdOwner u e → cdOwner u d ≠ 0xF → fallow u d = false → fallow u e = false →
        cdCode v d = cdCode v e
    let start := fun i => if i = b then bf v 23 0 else rfield u .tidBayStart 23 0 i
    let baysFit := ∀ i < rfield u .tidBayCfg 3 0, start i + 1000 ≤ start (i + 1)
    let ownersOk := fun n => ∀ i < n, ¬ (9 ≤ bf v (4 * i + 3) (4 * i) ∧ bf v (4 * i + 3) (4 * i) ≤ 14)
    let planOk := bf v 15 0 % 10 = 0 ∧ bf v 31 16 % 10 = 0 ∧ bf v 47 32 % 10 = 0 ∧ bf v 47 32 < bf v 15 0 ∧
      bf v 47 32 < bf v 31 16 ∧ bf v 31 16 ≤ bf v 15 0
    let ringOk := bitAt v 0 = true → 6 ≤ bf v 12 8 ∧ bf v 12 8 ≤ 16
    reachable u q = true →
    (u.takesWrite q .clkSetpointCd 0 0 v →
      (codesOk → exec (.clkSetpointCdWrite q v t) s = .next (u.afterWrite q .clkSetpointCd 0 0 v)) ∧
      (¬codesOk → exec (.clkSetpointCdWrite q v t) s = .next (u.rejectsWrite q .clkSetpointCd 0))) ∧
    (u.takesWrite q .clkSetpointMd 0 0 v →
      (bf v 3 0 ≤ 4 ∧ bf v 7 4 ≤ 4 → exec (.clkSetpointMdWrite q v t) s = .next (u.afterWrite q .clkSetpointMd 0 0 v)) ∧
      (¬(bf v 3 0 ≤ 4 ∧ bf v 7 4 ≤ 4) → exec (.clkSetpointMdWrite q v t) s = .next (u.rejectsWrite q .clkSetpointMd 0))) ∧
    (u.takesWrite q .tidPeriod 0 0 v →
      (1000000 ≤ bf v 26 0 ∧ bf v 26 0 ≤ 100000000 →
        exec (.tidPeriodWrite q v t) s = .next (u.afterWrite q .tidPeriod 0 0 v)) ∧
      (¬(1000000 ≤ bf v 26 0 ∧ bf v 26 0 ≤ 100000000) →
        exec (.tidPeriodWrite q v t) s = .next (u.rejectsWrite q .tidPeriod 0))) ∧
    (b < 16 → u.takesWrite q .tidBayStart 0 b v →
      (baysFit → exec (.tidBayStartWrite q b v t) s = .next (u.afterWrite q .tidBayStart 0 b v)) ∧
      (¬baysFit → exec (.tidBayStartWrite q b v t) s = .next (u.rejectsWrite q .tidBayStart b))) ∧
    (b < 16 → u.takesWrite q .tidBayOwnLo 0 b v →
      (ownersOk 16 → exec (.tidBayOwnWrite q b false v t) s = .next (u.afterWrite q .tidBayOwnLo 0 b v)) ∧
      (¬ownersOk 16 → exec (.tidBayOwnWrite q b false v t) s = .next (u.rejectsWrite q .tidBayOwnLo b))) ∧
    (b < 16 → u.takesWrite q .tidBayOwnHi 0 b v →
      (ownersOk 13 → exec (.tidBayOwnWrite q b true v t) s = .next (u.afterWrite q .tidBayOwnHi 0 b v)) ∧
      (¬ownersOk 13 → exec (.tidBayOwnWrite q b true v t) s = .next (u.rejectsWrite q .tidBayOwnHi b))) ∧
    (u.takesWrite q .tidRefPlan 0 0 v →
      (planOk → exec (.tidRefPlanWrite q v t) s = .next (u.afterWrite q .tidRefPlan 0 0 v)) ∧
      (¬planOk → exec (.tidRefPlanWrite q v t) s = .next (u.rejectsWrite q .tidRefPlan 0))) ∧
    (b < 9 → u.takesWrite q .hifEvtCfg 0 b v →
      (ringOk → exec (.evtCfgWrite q b v t) s = .next
        (if bitAt (rget u .hifEvtCfg b) 0 = false ∧ bitAt v 0 = true then
          rput (u.afterWrite q .hifEvtCfg 0 b v) .hifEvtPtr 0 b
        else u.afterWrite q .hifEvtCfg 0 b v)) ∧
      (¬ringOk → exec (.evtCfgWrite q b v t) s = .next (u.rejectsWrite q .hifEvtCfg b)))) ∧
  (∀ (s : State) (q : Requester) (v : Word) (t : Nat),
    let u := s.at t
    let a := bf v 47 0
    let cellOk := a % 8 = 0 ∧
      ((∃ d k, unitOf a = .tile d k ∧ fallow u d = false) ∨ (∃ d, unitOf a = .loft d ∧ fallow u (34 + d) = false) ∨
        ∃ n, unitOf a = .hbm n ∧ fallow u (16 + n) = false)
    reachable u q = true →
    (u.takesWrite q .hltInject 0 0 v →
      (bf v 63 62 = 1 →
        (squallOpen u = true ∧ cellOk → exec (.injectSingleBit q v t) s = .next (u.afterWrite q .hltInject 0 0 v)) ∧
        (¬(squallOpen u = true ∧ cellOk) → exec (.injectSingleBit q v t) s = .next (u.rejectsWrite q .hltInject 0))) ∧
      (bf v 63 62 = 2 →
        (squallOpen u = true ∧ cellOk → exec (.injectDoubleBit q v t) s = .next (u.afterWrite q .hltInject 0 0 v)) ∧
        (¬(squallOpen u = true ∧ cellOk) → exec (.injectDoubleBit q v t) s = .next (u.rejectsWrite q .hltInject 0))) ∧
      (bf v 63 62 = 3 →
        (squallOpen u = true ∧ (portOf u (bf v 52 48)).st = 4 →
          exec (.injectFlitCrc q v t) s = .next (u.afterWrite q .hltInject 0 0 v)) ∧
        (¬(squallOpen u = true ∧ (portOf u (bf v 52 48)).st = 4) →
          exec (.injectFlitCrc q v t) s = .next (u.rejectsWrite q .hltInject 0)))) ∧
    (u.takesWrite q .sqlSeed 0 0 v →
      (squallOpen u = true → exec (.sqlSeedLoad q v t) s =
        .next { u.afterWrite q .sqlSeed 0 0 v with lfsr := if v = 0 then 1 else v.toNat }) ∧
      (squallOpen u = false → exec (.sqlSeedLoad q v t) s = .next (u.rejectsWrite q .sqlSeed 0))))

/-! ### Clocks -/

/-- Table 1.10, row by row: a lost or wandering REFCLK, a domain of the determinism set out of lock, and a stopped monitor are
chip losses that cancel the multiplier change of the coming tick (R52); a lost LNKCLK fails every port and tells Breakwater
of Channel H, a lost SAFECLK of Channel P; the other domains show in CLK_LOCK_LOST only.

The tolerance windows of R49 and the unbroken millisecond of R56. With two inputs within 1,000 ppm of each other and of the
third no input is out; an unbroken span of REFCLK that a failure ended starts again at this window; and when 1 ms has
passed since it started, REFCLK counts as stable. With no two inputs in agreement there is no majority: a chip loss, and
Breakwater is told of both channels. -/
def Obligations.ClockEventsReactAsTable110 : Prop :=
  (∀ (s : State) (t : Nat),
    let u := s.at t
    let unlock := fun (w : State) (n : Nat) =>
      rmod (rmod w .clkLockLost (fun x => setBit x n true)) .clkLockStatus (fun x => setBit x n false)
    let lost := fun (w : State) (n : Nat) =>
      rmod (rmod w .clkRefStatus (fun x => setBit x (8 + n) true)) .clkRefStatus (fun x => setBit x n false)
    (monitorRuns u = true →
      exec (.clockInputLost .refclk t) s =
        .next (chipLoss (cancelChange { lost u 0 with clk := { u.clk with refBad := true, refGoodFrom := 0 } }) .clk 0x04 1 0) ∧
      exec (.clockInputLost .lnkclk t) s =
        .next (failAllPorts (tellBreakwater (cancelChange { lost u 1 with clk := { u.clk with lnkBad := true } }) 0x1E)) ∧
      exec (.clockInputLost .safeclk t) s =
        .next (tellBreakwater { lost u 2 with clk := { u.clk with safeBad := true } } 0x01)) ∧
    (∀ dom, inDetSet dom = true → fallow u (dieOfDomain dom) = false → bitAt (rget u .clkLockStatus) dom = true →
      exec (.pllLockLost dom t) s = .next (chipLoss (cancelChange (unlock u dom)) .clk 0x04 3 0)) ∧
    (∀ dom, inDetSet dom = false → silentDomain dom = true → fallow u (dieOfDomain dom) = false →
      bitAt (rget u .clkLockStatus) dom = true → exec (.pllLockLost dom t) s = .next (unlock u dom)) ∧
    (u.pwr.inReset = false → u.clk.monStopped = false →
      exec (.monitorClockStop t) s =
        .next (chipLoss (cancelChange { unlock u 57 with clk := { u.clk with monStopped := true } }) .clk 0x04 7 0)) ∧
    (u.pwr.inReset = false → u.clk.telStopped = false →
      exec (.telemetryClockStop t) s =
        .next (logNote { unlock u 58 with clk := { u.clk with telStopped := true } } .clk 0))) ∧
  (∀ (s : State) (ref lnk safe t : Nat),
    let u := s.at t
    let shown := fun (ok : Nat) =>
      rsetField (rsetField u .clkRefStatus 47 32 (ofSigned 16 (refDev ref lnk safe))) .clkRefStatus 2 0 ok
    let from_ := if u.clk.refBad = true ∧ u.clk.refGoodFrom = 0 then u.now else u.clk.refGoodFrom
    (monitorRuns u = true → ppmApart ref lnk = false → ppmApart ref safe = false → ppmApart lnk safe = false →
      exec (.toleranceWindow ref lnk safe t) s =
        .next { shown 7 with clk := { u.clk with
          refGoodFrom := from_, refBad := u.clk.refBad && decide (u.now < from_ + 1000000000), lnkBad := false,
          safeBad := false } }) ∧
    (monitorRuns u = true → ppmApart ref lnk = true → ppmApart ref safe = true → ppmApart lnk safe = true →
      ∃ w, exec (.toleranceWindow ref lnk safe t) s = .next (chipLoss (cancelChange w) .clk 0x04 2 0) ∧
        w.clk.refBad = true ∧ w.clk.told = u.clk.told ||| 0x1F ∧ w.mem = u.mem ∧ w.ctxs = u.ctxs ∧ w.log = u.log) ∧
    (u.clk.refBad = true → bitAt (rget u .clkRefStatus) 0 = true → u.clk.refGoodFrom + 1000000000 ≤ u.now →
      exec (.refclkStable t) s = .next { u with clk := { u.clk with refBad := false, refGoodFrom := 0 } }))

/-- A stage of the ramp after a fold reset (R52): at least 25 µs after the last, each compute code moves by at most 2 and each
media code by at most 4 toward the sampled set-point; a fallow die, and every die of the stall of a domain whose check
fails, keeps its code. Memory, contexts and the log stay. -/
def Obligations.RampStageIsBounded : Prop :=
  ∀ (s : State) (bad : List Nat) (t : Nat),
    let u := s.at t
    let held := fun d => bad.contains d = true ∨
      (cdOwner u d ≠ 0xF ∧ ∃ h ∈ bad, h < 16 ∧ cdOwner u h = cdOwner u d)
    let toward := fun step cur tgt => if cur < tgt then min tgt (cur + step) else max tgt (cur - step)
    s.regsOk → u.clk.ramp = true → u.clk.rampAt + 25000000 ≤ u.now →
    Answers (.rampStage bad t) s fun s' =>
      (∀ d < 16, (held d ∨ fallow u d = true) → cdCode (rget s' .clkAppliedCd) d = cdCode (rget u .clkAppliedCd) d) ∧
      (∀ d < 16, ¬held d → fallow u d = false → cdCode (rget s' .clkAppliedCd) d =
        toward 2 (cdCode (rget u .clkAppliedCd) d) (cdCode u.clk.sampledCd d)) ∧
      (∀ m < 2, rfield s' .clkAppliedMd (4 * m + 3) (4 * m) =
        if bad.contains (40 + m) = true then rfield u .clkAppliedMd (4 * m + 3) (4 * m)
        else toward 4 (rfield u .clkAppliedMd (4 * m + 3) (4 * m)) (bf u.clk.sampledMd (4 * m + 3) (4 * m))) ∧
      s'.clk.rampAt = u.now ∧ s'.mem = u.mem ∧ s'.ctxs = u.ctxs ∧ s'.log = u.log ∧ s'.tide = u.tide ∧ s'.out = u.out

/-! ### The tide -/

/-- Internal mode (R58): the next tick is due at t0 + ⌈k × P / 10⌉ × 10 ns, where t0 is the tick at which P took effect; it lies
on a beat edge where t0 does, at most 9 ns after its nominal instant. -/
def Obligations.InternalTicksFallOnBeatEdges : Prop :=
  ∀ (u : State) (tk : Nat) (first : Bool),
    let v := tickCore u tk false first
    let p := bf u.tide.sPeriod 26 0
    bitAt u.tide.sCtrl 0 = false →
    ((first = true ∨ p ≠ periodNs u ∨ bitAt (rget u .tidStatus) 32 = true) → v.tide.t0 = tk ∧ v.tide.k = 0) ∧
    ((first = false ∧ p = periodNs u ∧ bitAt (rget u .tidStatus) 32 = false) →
      v.tide.t0 = u.tide.t0 ∧ v.tide.k = u.tide.k + 1) ∧
    v.tide.expected = v.tide.t0 + ((v.tide.k + 1) * p + 9) / 10 * 10000 ∧
    (v.tide.t0 % 10000 = 0 → v.tide.expected % 10000 = 0) ∧
    v.tide.t0 + (v.tide.k + 1) * p * 1000 ≤ v.tide.expected ∧
    v.tide.expected ≤ v.tide.t0 + (v.tide.k + 1) * p * 1000 + 9000

/-- The tick that closes a tide, where no image is applied at it (R58, R60, R67, R68, R88): the tide number rises by one, what the
sampling point sampled takes effect, the hot band follows the temperatures of the tide that closes, bay 0 and slot 0
begin, and memory stays. A cancelled multiplier change leaves the applied codes (R52); else each moves at most 2.

The first tick after a seal or a fold reset puts the chip in service (R744): PHASE becomes 5 and the timer runs. After a boot
seal the tide number stays 0; after a fold reset it rises by one (R60), and BC8 starts where GO is 1 and it does not run
(R218). -/
def Obligations.TicksCloseTheTideAndStartTheTimer : Prop :=
  (∀ (s : State) (power t : Nat),
    let u := s.at t
    let closes := fun (tk : Nat) (s' : State) =>
      s'.tide.tick = tk ∧ s'.tide.running = true ∧ s'.tide.sampled = false ∧ s'.tide.bay = 0 ∧ s'.tide.slots = 0 ∧
      s'.tide.starts = u.tide.sStarts ∧ s'.tide.own = u.tide.sOwn ∧ s'.tide.dl = u.tide.sDl ∧
      s'.tide.refPlan = u.tide.sRef ∧ s'.tide.bays = bf u.tide.sBayCfg 3 0 + 1 ∧
      s'.tide.hot = u.tide.hotSeen ∧ s'.tide.hotSeen = false ∧
      rget s' .tidNumber = rget u .tidNumber + 1 ∧ periodNs s' = bf u.tide.sPeriod 26 0 ∧
      (u.clk.cancel = true → rget s' .clkAppliedCd = rget u .clkAppliedCd) ∧
      (∀ d < 16, cdCode (rget s' .clkAppliedCd) d ≤ cdCode (rget u .clkAppliedCd) d + 2 ∧
        cdCode (rget u .clkAppliedCd) d ≤ cdCode (rget s' .clkAppliedCd) d + 2) ∧
      s'.mem = u.mem
    s.regsOk → u.tide.sampled = true → u.img.applying = false →
    (∀ tk, tickDue u = some tk → tk ≤ u.now → Answers (.tideTick power t) s (closes tk)) ∧
    (∀ tk, flyDue u = some tk → tk ≤ u.now → Answers (.flywheelTick power t) s fun s' =>
      closes tk s' ∧ s'.tide.flyRun = u.tide.flyRun + 1 ∧
      rfield s' .tidExtStatus 31 16 = min (rfield u .tidExtStatus 31 16 + 1) 0xFFFF)) ∧
  (∀ (s : State) (t tk : Nat),
    let u := s.at t
    s.regsOk → phase u = 4 → u.pwr.fold = none →
    (firstTickDue u = some tk ∨ (firstTickDue u = none ∧ firstFlyDue u = some tk)) → tk ≤ u.now →
    ∃ w, phase w = 5 ∧ w.tide.running = true ∧ w.tide.tick = tk ∧ w.pwr.readyAt = none ∧ w.mem = u.mem ∧
      (tideNo w = if u.tide.k = 0 ∧ u.tide.tick = u.pwr.c0 ∧ tideNo u = 0 then 0 else (tideNo u + 1) % 2 ^ 64) ∧
      ((bitAt (rget u .bcnStwCtrl) 0 = false ∨ bitAt (rget u .bcnStwCtrl) 1 = true ∨ rfield u .pwrRstStatus 47 32 = 0) →
        exec (.firstTick t) s = .next w) ∧
      (bitAt (rget u .bcnStwCtrl) 0 = true → bitAt (rget u .bcnStwCtrl) 1 = false → rfield u .pwrRstStatus 47 32 ≠ 0 →
        exec (.firstTick t) s = .next (startSteward w)))

/-- The sampling point (R66, R67): it falls 20,000 ns before the expected tick, and from then on what the coming tick applies is
what the registers hold at it.

External edges (R62, R63): in a running tide of external mode that captures none, an edge more than 5,000 ns before the expected
instant is counted and ignored; the first one in the window closes the tide 20 ns after the beat edge that sees it; any
later one is ignored. TIDE_OUT falls 1,000 ns after it rose (R65). -/
def Obligations.SamplingAndEdgesComeInTheirWindow : Prop :=
  (∀ (s : State) (t : Nat),
    let u := s.at t
    u.tide.running = true → u.tide.sampled = false → u.pwr.fold = none → u.tide.expected - 20000000 ≤ u.now →
    Answers (.samplingPoint t) s fun s' =>
      s'.tide.sCtrl = rget s' .tidCtrl ∧ s'.tide.sPeriod = rget s' .tidPeriod ∧ s'.tide.sBayCfg = rget s' .tidBayCfg ∧
      s'.tide.sRef = rget s' .tidRefPlan ∧ s'.clk.sampledCd = rget s' .clkSetpointCd ∧
      s'.clk.sampledMd = rget s' .clkSetpointMd ∧ s'.clk.cancel = false ∧
      (∀ b < 16, s'.tide.sStarts.getD b 0 = rget s' .tidBayStart b) ∧ (∀ n < 8, s'.tide.sDl.getD n 0 = rget s' .tidDl n)) ∧
  (∀ (s : State) (t : Nat),
    let u := s.at t
    (u.pwr.inReset = false → u.tide.running = true → bitAt (rget u .tidStatus) 32 = true → u.tide.capture = false →
      (u.now + 5000000 < u.tide.expected → exec (.tideInEdge t) s = .next (rbump u .tidExtStatus 15 0)) ∧
      (u.tide.expected ≤ u.now + 5000000 → u.now ≤ u.tide.expected + 5000000 → u.tide.realign = false →
        (u.tide.edgeTick = none → exec (.tideInEdge t) s =
          .next { u with tide := { u.tide with edgeTick := some ((u.now + 9999) / 10000 * 10000 + 20000) } }) ∧
        (u.tide.edgeTick ≠ none → exec (.tideInEdge t) s = .next u)) ∧
      (u.tide.expected + 5000000 < u.now → exec (.tideInEdge t) s = .next u)) ∧
    (∀ r, u.tide.outSince = some r → r + 1000000 ≤ u.now → exec (.tideOutEnd t) s =
      .next { u with tide := { u.tide with outSince := none }, out := Out.pin "TIDE_OUT" false :: u.out }))

/-- Bays (R69, R71) and the refresh plan (R86 to R88): the next bay begins at its start where that lies before the sampling point;
slot j at the tick + j × S blacks out bank j mod 8 for BLACKOUT, after a blackout of that bank that still runs, and only
where the blackout ends by the expected tick; a report above the HOT_C in force makes the next tide hot. -/
def Obligations.BaysAndRefreshFollowTheirPlans : Prop :=
  ∀ (s : State) (j temp t : Nat),
    let u := s.at t
    let spacing := (if u.tide.hot = true then bf u.tide.refPlan 31 16 else bf u.tide.refPlan 15 0) * 1000
    let blackout := bf u.tide.refPlan 47 32 * 1000
    let slot := u.tide.tick + u.tide.slots * spacing
    (u.tide.running = true → u.tide.sampled = false → j = u.tide.bay + 1 → bayOccurs u j = true →
      bayStartAt u j ≤ u.now → exec (.bayStart j t) s = .next { u with tide := { u.tide with bay := j } }) ∧
    (u.tide.running = true → slot ≤ u.now → slot + blackout ≤ u.tide.expected →
      Answers (.refreshSlot u.tide.slots t) s fun s' =>
        s'.tide.slots = u.tide.slots + 1 ∧
        (∃ e, s'.tide.blackouts = u.tide.blackouts.filter (·.1 != u.tide.slots % 8) ++ [(u.tide.slots % 8, e)] ∧
          slot + blackout ≤ e ∧ ((∀ b ∈ u.tide.blackouts, b.1 ≠ u.tide.slots % 8) → e = slot + blackout)) ∧
        s' = { u with tide := { u.tide with slots := s'.tide.slots, blackouts := s'.tide.blackouts } }) ∧
    ((∃ b ∈ u.tide.blackouts, b.1 = j ∧ b.2 ≤ u.now) → exec (.blackoutEnd j t) s =
      .next { u with tide := { u.tide with blackouts := u.tide.blackouts.filter (·.1 != j) } }) ∧
    (u.pwr.inReset = false → j < 12 → fallow u (16 + j) = false → s.regsOk → temp < 256 →
      Answers (.hbmTemperatureReport j temp t) s fun s' =>
        rfield s' .hltHbm 7 0 j = temp ∧ rfield s' .hltHbm 15 8 j = max (rfield u .hltHbm 15 8 j) temp ∧
        s'.tide.hotSeen = (u.tide.hotSeen || decide
          ((if u.tide.running = true then bf u.tide.refPlan 55 48 else rfield u .tidRefPlan 55 48) < temp)) ∧
        s' = { u with regs := s'.regs, tide := { u.tide with hotSeen := s'.tide.hotSeen } })

/-- The deadline monitor (R79 to R81): at K the first attempt of a step that has not committed is killed and its fall-back attempt
follows 4,000 ns after K, with the next attempt number; no other context changes. A step that would need a fifth attempt in
one tide ends with cause 0x06 (R165). -/
def Obligations.DeadlineKillStartsTheFallback : Prop :=
  ∀ (s : State) (c t : Nat),
    let u := s.at t
    let x := ctxOf u c
    c < 16 → deadlineApplies u c = true → killTime u c ≤ u.now →
    (x.attempt < 3 →
      Answers (.deadlineKill c t) s fun s' =>
        (ctxOf s' c).st = .killing ∧ (ctxOf s' c).killT = u.now ∧ (ctxOf s' c).cause = none ∧
        (∃ n, (ctxOf s' c).next = some n ∧ n.at_ = killTime u c + 4000000 ∧ n.fallback = true ∧ n.number = x.attempt + 1) ∧
        (∀ d, d ≠ c → ctxOf s' d = ctxOf u d) ∧ s'.pub = u.pub ∧ s'.cmt = u.cmt ∧ s'.log = u.log) ∧
    (3 ≤ x.attempt → exec (.deadlineKill c t) s = .next (stepFail u .stl c 0x06))

/-! ### Steps and attempts -/

/-- Step failure is confined to its context (R13, R18, R161, R175): a committed step, an idle context and a step that has ended
are not touched. Another step's attempt stops and its entry is written with step failure and the cause, except for the causes
0x07 and 0x08 and for an echo run; a class-3 entry is logged; no other context, no publication slot and no other entry of
the commit table changes. -/
def Obligations.StepFailureIsConfined : Prop :=
  ∀ (u : State) (src : Src) (c cause a : Nat),
    let x := ctxOf u c
    let v := stepFail u src c cause a
    let key := 64 * (c / 2) + x.req.step % 64
    ((x.committed = true ∨ x.st = .idle ∨ x.cause.isSome = true) → v = u) ∧
    (x.committed = false → x.st ≠ .idle → x.cause = none →
      (ctxOf v c).st = .killing ∧ (ctxOf v c).cause = some cause ∧ (ctxOf v c).killT = u.now ∧
      (∀ d, d ≠ c → ctxOf v d = ctxOf u d) ∧ v.pub = u.pub ∧ v.stalls = u.stalls ∧
      (∃ e, v.log.entries = (e :: u.log.entries).take 8192 ∧ e.cls = 3 ∧ e.source = src.code ∧ e.code = cause % 256) ∧
      ((cause = 0x07 ∨ cause = 0x08 ∨ x.req.echo = true) → v.cmt = u.cmt) ∧
      (cause ≠ 0x07 → cause ≠ 0x08 → x.req.echo = false →
        (∃ e, Tab.find key v.cmt = some e ∧ bf e.w 28 26 = 2 ∧ bf e.w 47 40 = cause % 256 ∧
          bf e.w 11 0 = x.req.step % 4096 ∧ e.mask = 0 ∧ e.sound = true) ∧
        ∀ k, k ≠ key → Tab.find k v.cmt = Tab.find k u.cmt))

/-- A chip loss begins a fold reset (R14, R746): it is logged in class 4, every context of every stall is emptied, PHASE becomes 6,
and the fold reset's time 0 is now. During a fold reset no loss restarts it (R759), and a halted or powered-down chip has
nothing to fold. -/
def Obligations.ChipLossBeginsAFoldReset : Prop :=
  ∀ (u : State) (src : Src) (code d0 d1 : Nat),
    let v := chipLoss u src code d0 d1
    (u.pwr.fold = none → u.pwr.inReset = false → u.pwr.coldDue = false → phase u ≠ 1 → phase u ≠ 8 →
      v.pwr.fold = some (u.now, .chipLoss) ∧ phase v = 6 ∧ (∀ c < 16, (ctxOf v c).st = .idle) ∧
      ∃ e ∈ v.log.entries, e.cls = 4 ∧ e.source = src.code ∧ e.code = code % 256) ∧
    (u.pwr.fold.isSome = true → v.pwr.fold = u.pwr.fold ∧ v.ctxs = u.ctxs ∧ v.cmt = u.cmt ∧ v.mem = u.mem)

/-- The step doorbell (R628 to R630, R643): a well-formed request waits in its stall's queue of 16, an urgent one in its own place,
and QUEUED is posted; a request refused by Table 16.7 changes nothing but the count of refusals and posts its cause; without bus
mastering, or with another length than 64 bytes, the write is dropped and counted. -/
def Obligations.StepDoorbellQueuesOrRefuses : Prop :=
  ∀ (s : State) (fn : Nat) (bytes : List Byte) (t : Nat),
    let u := s.at t
    let r := reqOf bytes
    let st := stallOf u fn
    let tell := fun (w : State) (result cause : Nat) =>
      postEvent w fn (eventBytes w 0x01 r.urgent.toNat r.step r.tag result cause 0 0 false 0 0) 2
    let refused := fun cause => exec (.stepDb fn bytes t) s = .next (tell (rbump u .hifFnStat 31 16 fn) 2 cause)
    fn < 8 → u.host.up = true → u.pwr.inReset = false →
    (bytes.length ≠ 64 ∨ (fnOf u fn).bme = false → exec (.stepDb fn bytes t) s = .next (rbump u .hifFnStat 63 48 fn)) ∧
    (bytes.length = 64 → (fnOf u fn).bme = true →
      (reqForm bytes = false → refused 0x01) ∧
      (reqForm bytes = true → (u.img.inForce = false ∨ u.img.isSealed = false) → refused 0x02) ∧
      (reqForm bytes = true → u.img.inForce = true → u.img.isSealed = true →
        (u.pwr.fold.isSome = true → refused 0x03) ∧
        (u.pwr.fold = none → r.urgent = true → st.urgentReq.isSome = true → refused 0x04) ∧
        (u.pwr.fold = none → r.urgent = false → 16 ≤ st.queue.length → refused 0x04) ∧
        (u.pwr.fold = none → r.urgent = true → st.urgentReq = none →
          exec (.stepDb fn bytes t) s = .next (tell (modStall u fn fun x => { x with urgentReq := some r }) 1 0)) ∧
        (u.pwr.fold = none → r.urgent = false → st.queue.length < 16 →
          exec (.stepDb fn bytes t) s = .next (tell (modStall u fn fun x => { x with queue := x.queue ++ [r] }) 1 0))))

/-- A step that may start (R631) takes the oldest request of its queue; where a start check fails, in the order the manual gives,
the step ends at once with that cause and no attempt runs; else its context holds the request and its attempt starts, for an
urgent step in Neap mode 4,000 ns after the primary attempt it displaces was killed (R164). -/
def Obligations.StepStartChecksThenStarts : Prop :=
  ∀ (s : State) (n t : Nat) (r : StepReq) (rest : List StepReq),
    let u := s.at t
    let pulled := modStall u n fun x => { x with queue := rest }
    let pulledU := modStall u n fun x => { x with urgentReq := none }
    let count := fun (w : State) => modStall w n fun x => { x with stepsThisTide := x.stepsThisTide + 1 }
    let begun := fun (w : State) (c at_ : Nat) =>
      setCtx w c { Ctx.clear with
        st := .between, req := r, ranThisTide := true, lastStep := r.step
        next := some { at_ := at_, fallback := false, number := 0, first := true, notice := false, monitor := false } }
    n < 8 →
    (mayStart u (2 * n) = true → (stallOf u n).queue = r :: rest →
      (assigned u n = false → exec (.stepStart (2 * n) t) s = .next (failAtStart pulled (2 * n) r 0x0C)) ∧
      (assigned u n = true → 64 ≤ (stallOf u n).stepsThisTide →
        exec (.stepStart (2 * n) t) s = .next (failAtStart pulled (2 * n) r 0x03)) ∧
      (assigned u n = true → (stallOf u n).stepsThisTide < 64 → startCause pulled (2 * n) r ≠ 0 →
        exec (.stepStart (2 * n) t) s = .next (failAtStart (count pulled) (2 * n) r (startCause pulled (2 * n) r))) ∧
      (startCause pulled (2 * n) r = 0 → r.urgent = false →
        exec (.stepStart (2 * n) t) s = .next (begun (count pulled) (2 * n) u.now))) ∧
    (mayStart u (2 * n + 1) = true → (stallOf u n).urgentReq = some r → r.urgent = true →
      startCause pulledU (2 * n + 1) r = 0 → floodOf u n = false →
      (ctxOf u (2 * n)).st = .running → (ctxOf u (2 * n)).committed = false →
      Answers (.stepStart (2 * n + 1) t) s fun s' =>
        (ctxOf s' (2 * n)).st = .killing ∧ (ctxOf s' (2 * n)).after = .suspended ∧
        (∃ nx, (ctxOf s' (2 * n)).next = some nx ∧ nx.number = (ctxOf u (2 * n)).attempt + 1) ∧
        (ctxOf s' (2 * n + 1)).st = .between ∧ (ctxOf s' (2 * n + 1)).req = r ∧
        (∃ nx, (ctxOf s' (2 * n + 1)).next = some nx ∧ nx.at_ = u.now + 4000000) ∧
        ∀ d, d ≠ 2 * n → d ≠ 2 * n + 1 → ctxOf s' d = ctxOf u d)

/-- An attempt starts (R150, R154, R187, R188, R279), where nothing is parked for it and its program is readable: a fresh context with
the preset registers and no predicates, its tallies at 0, the first 256 words of its program in the word store, and its first word
due 1,000 ns after its start on a beat edge. A fifth attempt in one tide ends the step with cause 0x06 instead (R165). The resumed
primary step starts in the same way (R164). -/
def Obligations.AttemptStartsClean : Prop :=
  ∀ (s : State) (c t : Nat) (nx : NextAttempt),
    let u := s.at t
    let x := ctxOf u c
    let a := bf (if nx.fallback = true then rget u .stlFbEntry (c / 2) else rget u .stlEntry (c / 2)) 47 0
    let clean := fun (s' : State) =>
      (ctxOf s' c).st = .running ∧ (ctxOf s' c).attempt = nx.number ∧ (ctxOf s' c).committed = false ∧
      (ctxOf s' c).staged = [] ∧ (ctxOf s' c).uid = u.nextUid ∧
      (ctxOf s' c).bcn.pc = 0 ∧ (ctxOf s' c).bcn.pd = 0 ∧ (ctxOf s' c).bcn.ret = [] ∧ (ctxOf s' c).bcn.loops = [] ∧
      scGet (ctxOf s' c).bcn.sc 1 = x.req.arg ∧ scGet (ctxOf s' c).bcn.sc 2 = word x.req.step ∧
      scGet (ctxOf s' c).bcn.sc 3 = word nx.number ∧ scGet (ctxOf s' c).bcn.sc 4 = word nx.fallback.toNat ∧
      scGet (ctxOf s' c).bcn.sc 5 = word (x.req.urgent.toNat + 2 * x.req.echo.toNat + 4 * (floodCtx u c).toNat) ∧
      (ctxOf s' c).bcn.words = loadWords (readMem u a 16384) 0 [] ∧
      (ctxOf s' c).bcn.ready = (u.now + 9999) / 10000 * 10000 + 1000000 ∧
      (∀ i, 256 * c ≤ i → i < 256 * c + 256 → tallyOf s' i = Tally.zero) ∧
      (∀ i, i < 256 * c ∨ 256 * c + 256 ≤ i → tallyOf s' i = tallyOf u i) ∧
      (∀ d, d ≠ c → ctxOf s' d = ctxOf u d) ∧ s'.mem = u.mem
    let fit := x.next = some nx ∧ tideOpen u = true ∧ parkOf u c = { adds := [], lost := [] } ∧
      Tab.find c u.heldKill = none ∧ inExtentOf u (c / 2) a 16384 = true ∧ u.upsets = []
    c < 16 → fit →
    (x.st = .between → nx.at_ ≤ u.now →
      (nx.number < 4 → Answers (.attemptStart c t) s clean) ∧
      (4 ≤ nx.number → exec (.attemptStart c t) s = .next (stepFail u .stl c 0x06))) ∧
    (c % 2 = 0 → x.st = .suspended → (ctxOf u (c + 1)).st = .idle →
      (nx.number < 4 → Answers (.primaryResume (c / 2) t) s clean) ∧
      (4 ≤ nx.number → exec (.primaryResume (c / 2) t) s = .next (stepFail u .stl c 0x06)))

/-- STL_KILL (R162): each uncommitted step of a named context stops with cause 0x05 in this cycle, a virtual function's write names only
its own stall, and no other context changes.

The end of a kill (R162, R279): the context's tallies are 0, the attempt holds no buffer any more, and the context is idle where its
step has ended, else in the state that follows the kill. An engine that has not stopped 16,000 ns after the kill is a chip
loss. -/
def Obligations.KillsStopAndComplete : Prop :=
  (∀ (s : State) (q : Requester) (mask t : Nat),
    let u := s.at t
    let named := fun n => mask.testBit n = true ∧ ∀ k, q = .vf k → k.val = n
    let kills := fun (half : Nat) (s' : State) =>
      (∀ n < 8, named n → (ctxOf u (2 * n + half)).st ≠ .idle → (ctxOf u (2 * n + half)).committed = false →
        (ctxOf u (2 * n + half)).cause = none →
        (ctxOf s' (2 * n + half)).st = .killing ∧ (ctxOf s' (2 * n + half)).cause = some 0x05) ∧
      (∀ d, (∀ n < 8, named n → d ≠ 2 * n + half) → ctxOf s' d = ctxOf u d) ∧ s'.pub = u.pub
    reachable u q = true →
    Answers (.killPrimary q mask t) s (kills 0) ∧ Answers (.killUrgent q mask t) s (kills 1)) ∧
  (∀ (s : State) (c t : Nat),
    let u := s.at t
    let x := ctxOf u c
    c < 16 → x.st = .killing →
    (Answers (.killComplete c t) s fun s' =>
      (x.cause.isSome = true → (ctxOf s' c).st = .idle ∧ (ctxOf s' c).lastStep = x.req.step) ∧
      (x.cause = none → (ctxOf s' c).st = x.after) ∧
      (∀ i, 256 * c ≤ i → i < 256 * c + 256 → tallyOf s' i = Tally.zero) ∧
      (∀ i, i < 256 * c ∨ 256 * c + 256 ≤ i → tallyOf s' i = tallyOf u i) ∧
      (x.uid ≠ 0 → ∀ k, (bufOf s' k).alloc = true → (bufOf s' k).uid ≠ x.uid) ∧
      (∀ d, d ≠ c → ctxOf s' d = ctxOf u d) ∧ s'.mem = u.mem ∧ s'.cmt = u.cmt) ∧
    (x.killT + 16000000 ≤ u.now → exec (.engineStopTimeout c t) s = .next (chipLoss u .stl 0x05 c 0)))

/-- The commit point (R157 to R160, R175) of a step that is no echo run, where no word of memory is upset: the SIDE bits of exactly the
staged slots are inverted, the entry shows committed, the cause 0 and the step, with the mask of the staged slots and DRAINED
where no transfer is held; the step is committed, memory stays and no other context changes. An echo run flips nothing.

The last held write of the oldest draining step has left (R160): DRAINED is set in the step's entry where the entry is still that
committed step's, no other entry changes, and neither memory nor any context does. -/
def Obligations.CommitPublishesAndDrains : Prop :=
  (∀ (u : State) (c : Nat),
    let x := ctxOf u c
    let v := commitPoint u c
    let key := 64 * (c / 2) + x.req.step % 64
    c < 16 → u.upsets = [] → x.staged.Nodup → (∀ j ∈ x.staged, j < 64) →
    (ctxOf v c).committed = true ∧ (∀ d, d ≠ c → ctxOf v d = ctxOf u d) ∧ v.mem = u.mem ∧
    (x.req.echo = false →
      (∀ n < 8, ∀ j < 64, (pubOf v n j).side =
        if n = c / 2 ∧ j ∈ x.staged then !(pubOf u n j).side else (pubOf u n j).side) ∧
      (∃ e, Tab.find key v.cmt = some e ∧ bf e.w 28 26 = 1 ∧ bf e.w 47 40 = 0 ∧ bf e.w 11 0 = x.req.step % 4096 ∧
        (bitAt e.w 29 = true ↔ ∀ h ∈ x.held, h.note.isSome = true) ∧
        (∀ j < 64, bitAt e.mask j = true ↔ j ∈ x.staged) ∧ e.sound = true) ∧
      ∀ k, k ≠ key → Tab.find k v.cmt = Tab.find k u.cmt) ∧
    (x.req.echo = true → (∀ n < 8, ∀ j < 64, (pubOf v n j).side = (pubOf u n j).side) ∧
      (∃ e, Tab.find key v.cmt = some e ∧ bitAt e.w 31 = true ∧ e.mask = (cmtOf u (c / 2) (x.req.step % 64)).mask))) ∧
  (∀ (s : State) (n t : Nat) (d : Drain) (rest : List Drain),
    let u := s.at t
    let e := cmtOf u n (d.req.step % 64)
    n < 8 → (stallOf u n).drains = d :: rest → d.left = 0 →
    Answers (.hostTransferDrained n t) s fun s' =>
      (bf e.w 11 0 = d.req.step → bf e.w 28 26 = 1 →
        bitAt (cmtOf s' n (d.req.step % 64)).w 29 = true ∧ (cmtOf s' n (d.req.step % 64)).mask = e.mask ∧
        (∀ b < 64, b ≠ 29 → bitAt (cmtOf s' n (d.req.step % 64)).w b = bitAt e.w b) ∧
        ∀ k, k ≠ 64 * n + d.req.step % 64 → Tab.find k s'.cmt = Tab.find k u.cmt) ∧
      (¬(bf e.w 11 0 = d.req.step ∧ bf e.w 28 26 = 1) → s'.cmt = u.cmt) ∧
      s'.mem = u.mem ∧ s'.ctxs = u.ctxs)

/-! ### The Beacon processor -/

/-- The scalar registers and predicates (Table 5.1): a write to SC0 or PD0 is discarded, any other one is read back, and no other register,
predicate or context changes. -/
def Obligations.RegisterZeroIsHardWired : Prop :=
  ∀ (u : State) (c r p : Nat) (v : Word) (b : Bool),
    let b0 := (ctxOf u c).bcn
    let w := putSc u c r v
    let z := putPd u c p b
    b0.sc.Pairwise (fun x y => x.1 < y.1) → p < 16 →
    scGet (ctxOf w c).bcn.sc 0 = 0 ∧ (r ≠ 0 → scGet (ctxOf w c).bcn.sc r = v) ∧
    (∀ k, k ≠ r → scGet (ctxOf w c).bcn.sc k = scGet b0.sc k) ∧ (ctxOf w c).bcn.pd = b0.pd ∧
    (∀ d, d ≠ c → ctxOf w d = ctxOf u d) ∧ w = { u with ctxs := w.ctxs } ∧
    pdGet (ctxOf z c).bcn.pd 0 = true ∧ (p ≠ 0 → pdGet (ctxOf z c).bcn.pd p = b) ∧
    (∀ k < 16, k ≠ p → pdGet (ctxOf z c).bcn.pd k = pdGet b0.pd k) ∧ (ctxOf z c).bcn.sc = b0.sc ∧
    (∀ d, d ≠ c → ctxOf z d = ctxOf u d) ∧ z = { u with ctxs := z.ctxs }

/-- How a word issues (R192, R200, R205, R214, R215). Where its context may issue in this cycle, nothing holds the word, no condition of
Table 5.11 holds and every active field reaches what it may, the word issues: its registers, predicates and loop counters are taken as
they stand, and nothing else but the counters of BCN_HOLDS changes. A word that holds issues no field and is not checked, and one whose wait-equal has been passed ends the step
with cause 0x31; an exception of BC0 to BC7 is recorded and is a chip loss; one of BC8 stops BC8; a breach of reach is a protection violation. -/
def Obligations.WordsIssueWithTheirRegisters : Prop :=
  ∀ (u : State) (c : Nat),
    let b := (ctxOf u c).bcn
    let v := tryIssue u c
    let counted := (∀ d, d ≠ c → ctxOf v d = ctxOf u d) ∧
      v = { u with ctxs := v.ctxs, regs := v.regs, stalls := v.stalls } ∧
      (∀ r d i, r ≠ .bcnHolds → r.inRange d i → rgetX v r d i = rgetX u r d i) ∧
      ∀ n, stallOf v n = { stallOf u n with holdRest := (stallOf v n).holdRest }
    c < 17 → b.iss = none → mayIssue u c = true →
    (wordHold u c = (0, none) → wordExc u c = none → wordReach u c = none →
      (ctxOf v c).bcn = { b with hold := 0, iss := some { at_ := u.now, sc := b.sc, pd := b.pd, lcs := b.lcs, loops := b.loops, done := [] } } ∧
      counted) ∧
    (∀ h, h ≠ 0 → wordHold u c = (h, none) →
      (b.hold = h → v = u) ∧ (b.hold ≠ h → (ctxOf v c).bcn = { b with hold := h, holdAt := u.now } ∧ counted)) ∧
    (∀ h tal, wordHold u c = (h, some tal) →
      v = stepFail (talErr u 0x31 (ctxOf u c).req.step tal) .tal c 0x31 tal) ∧
    (∀ code field, wordHold u c = (0, none) → wordExc u c = some (code, field) → c ≠ 16 →
      v = chipLoss (recordExc u c code field) .bcn 0x06 b.pc code) ∧
    (∀ code field, wordHold u c = (0, none) → wordExc u c = some (code, field) → c = 16 →
      v = haltBc8 (logNote (recordExc u c code field) .bcn b.pc)) ∧
    (∀ a, wordHold u c = (0, none) → wordExc u c = none → wordReach u c = some a → v = violation u .bcn a)

/-- The two-operand operations of Table 5.7 (R193): an active field writes its function of SRCA and of SRCB, or of the immediate in the
immediate form, into DST; nothing else changes.

The multiplies (R193, Table 5.7): the product waits for its register, 3 cycles of 0.625 ns after issue; when its moment has come
the first one that is due is written, and only it.

The compares and the operations on predicates (R193): an active field writes the predicate that DST names; nothing else changes. -/
def Obligations.ScalarOperationsWriteTheirResult : Prop :=
  (∀ (s : State) (m : Instr) (c : Nat) (f : Fld) (t sop : Nat) (imm : Bool) (g : Word → Word → Word) (i : Issue),
    let u := s.at t
    let v := tryIssue u c
    let fd := v.fieldOf c f
    twoOperand m = some (c, f, t, sop, imm, g) → ScalarTurn u c f sop i → fd.sop = sop →
    v.active c i fd.pred fd.neg = true →
    exec m s = .next (putSc (v.carried c (fldNo f)) c fd.dst (g (scGet i.sc fd.srca) (if imm = true then fd.imm else scGet i.sc fd.srcb)))) ∧
  (∀ (s : State) (c t : Nat),
    let u := s.at t
    let v := tryIssue u c
    (∀ (m : Instr) (f : Fld) (sop : Nat) (imm : Bool) (g : Word → Word → Word) (i : Issue),
      multiplyOp m = some (c, f, t, sop, imm, g) → ScalarTurn u c f sop i → (v.fieldOf c f).sop = sop →
      v.active c i (v.fieldOf c f).pred (v.fieldOf c f).neg = true →
      exec m s = .next (modBcn (v.carried c (fldNo f)) c fun b => { b with muls := b.muls ++
        [{ reg := (v.fieldOf c f).dst,
           val := g (scGet i.sc (v.fieldOf c f).srca) (if imm = true then (v.fieldOf c f).imm else scGet i.sc (v.fieldOf c f).srcb),
           at_ := i.at_ + 1875, write := true }] })) ∧
    (∀ (p : PendReg) (pre post : List PendReg), (ctxOf u c).bcn.muls = pre ++ p :: post → (∀ q ∈ pre, u.now < q.at_) → p.at_ ≤ u.now →
      exec (.mulResultReady c t) s = .next (putSc (modBcn u c fun b => { b with muls := pre ++ post }) c p.reg p.val))) ∧
  (∀ (s : State) (m : Instr) (c : Nat) (f : Fld) (t sop : Nat) (i : Issue),
    let u := s.at t
    let v := tryIssue u c
    let fd := v.fieldOf c f
    ScalarTurn u c f sop i → fd.sop = sop → v.active c i fd.pred fd.neg = true → fd.dst < 16 →
    (∀ (imm : Bool) (g : Word → Word → Bool), compareOp m = some (c, f, t, sop, imm, g) →
      exec m s = .next (putPd (v.carried c (fldNo f)) c fd.dst
        (g (scGet i.sc fd.srca) (if imm = true then fd.imm else scGet i.sc fd.srcb)))) ∧
    (∀ g : Bool → Bool → Bool, predicateOp m = some (c, f, t, sop, g) → fd.srca < 16 → fd.srcb < 16 →
      exec m s = .next (putPd (v.carried c (fldNo f)) c fd.dst (g (pdGet i.pd fd.srca) (pdGet i.pd fd.srcb)))))

/-- NOP, CLZ, SEL, MFS and MOVHI (Tables 5.7 and 5.8): the number of leading zeros; the operand that PSEL selects; the special value that
SRCA names, where 0 to 7 are read as STEP, ATTEMPT, the variant, the flags, STALL, GLOBAL_CHIP, TIDE and CYCLE; the immediate's low half
above the source's. -/
def Obligations.OtherScalarOperationsWriteTheirResult : Prop :=
  ∀ (s : State) (c : Nat) (f : Fld) (t : Nat) (i : Issue),
    let u := s.at t
    let v := tryIssue u c
    let w := v.carried c (fldNo f)
    let x := ctxOf v c
    let fd := v.fieldOf c f
    let a := scGet i.sc fd.srca
    let special := fun k =>
      if k = 0 then word x.req.step else if k = 1 then word x.attempt
      else if k = 3 then word (x.req.urgent.toNat + 2 * x.req.echo.toNat + 4 * (floodCtx v c).toNat)
      else if k = 4 then word (c / 2) else if k = 5 then word v.plan.globalChip
      else if k = 6 then rget v .tidNumber else word ((i.at_ - x.startT) / 625)
    v.active c i fd.pred fd.neg = true →
    (ScalarTurn u c f 0x00 i → exec (.nopC c f t) s = .next w) ∧
    (ScalarTurn u c f 0x0F i →
      (a = 0 → exec (.clz c f t) s = .next (putSc w c fd.dst 64)) ∧
      (∀ k, k < 64 → 2 ^ k ≤ a.toNat → a.toNat < 2 ^ (k + 1) → exec (.clz c f t) s = .next (putSc w c fd.dst (word (63 - k))))) ∧
    (ScalarTurn u c f 0x1A i → exec (.sel c f t) s =
      .next (putSc w c fd.dst (if pdGet i.pd fd.psel = true then a else scGet i.sc fd.srcb))) ∧
    (ScalarTurn u c f 0x1B i → (fd.srca < 8 → fd.srca ≠ 2 → exec (.mfs c f t) s = .next (putSc w c fd.dst (special fd.srca))) ∧
      (fd.srca = 2 → x.verdictFb = none → exec (.mfs c f t) s = .next (putSc w c fd.dst (word x.variant))) ∧
      (∀ tv, fd.srca = 2 → x.verdictFb = some tv →
        exec (.mfs c f t) s = .next (putSc w c fd.dst (word (if tv + 2500 ≤ i.at_ then 2 else x.variant)))) ∧
      (fd.srca = 16 → ∃ m : Word, exec (.mfs c f t) s = .next (putSc w c fd.dst m) ∧
        ∀ l < 64, bitAt m l = (decide (l < 8) && i.loops.contains l && (floodLoops v c || iterActive (lcOf i.lcs l)))) ∧
      (8 ≤ fd.srca → fd.srca < 16 → exec (.mfs c f t) s =
        .next (putSc w c fd.dst (word (lcOf i.lcs (fd.srca - 8)).index)))) ∧
    (ScalarTurn u c f 0x38 i → exec (.movhi c f t) s =
      .next (putSc w c fd.dst (word (fd.imm.toNat % 2 ^ 32 * 2 ^ 32 + a.toNat % 2 ^ 32))))

/-- A scalar field that is not active does nothing but use its turn (R191, R196, R211), but for an LD in Neap mode, which holds its
destination for the load latency and writes nothing. -/
def Obligations.InactiveScalarFieldsDoNothing : Prop :=
  ∀ (s : State) (m : Instr) (c : Nat) (f : Fld) (t sop : Nat) (i : Issue),
    let u := s.at t
    let v := tryIssue u c
    let w := v.carried c (fldNo f)
    let fd := v.fieldOf c f
    ScalarTurn u c f sop i → v.active c i fd.pred fd.neg = false →
    (((∃ imm g, twoOperand m = some (c, f, t, sop, imm, g)) ∨ (∃ imm g, multiplyOp m = some (c, f, t, sop, imm, g)) ∨
      (∃ imm g, compareOp m = some (c, f, t, sop, imm, g)) ∨ (∃ g, predicateOp m = some (c, f, t, sop, g)) ∨
      otherScalar m = some (c, f, t, sop)) → exec m s = .next w) ∧
    (sop = 0x36 → floodLoops v c = true → exec (.ld c f t) s = .next w) ∧
    (sop = 0x36 → floodLoops v c = false → Answers (.ld c f t) s fun s' =>
      ∃ p, (ctxOf s' c).bcn.lds = (ctxOf v c).bcn.lds ++ [p] ∧ p.reg = fd.dst ∧ p.write = false ∧
        (ctxOf s' c).bcn.sc = (ctxOf v c).bcn.sc ∧ s'.mem = v.mem ∧ ∀ d, d ≠ c → ctxOf s' d = ctxOf v d)

/-- LD and ST (R194, R201, R202): the access takes its context's rotation slot and waits for its bay and its bank; the data of an LD is
usable, and an ST lands, after the latency of Table 5.10; where no bay of the tide takes the access, the step ends with
cause 0x02.

Data comes and stores land (R6, R201, R235): the first due LD of a context puts the 8 bytes at its address, least significant first,
into its register; its oldest ST, when due, writes the 8 bytes of its value there and changes no other byte. Nothing is injected, and
BC8's register accesses are apart (R217). -/
def Obligations.LoadsAndStoresReachMemory : Prop :=
  (∀ (s : State) (c : Nat) (f : Fld) (t : Nat) (i : Issue),
    let u := s.at t
    let v := tryIssue u c
    let w := v.carried c (fldNo f)
    let fd := v.fieldOf c f
    let a := (scGet i.sc fd.srca + fd.imm).toNat
    let ldLatency := match unitOf a with | .tile _ _ => 112 | .loft _ => 128 | _ => 352
    let stLatency := match unitOf a with | .tile _ _ => 112 | .loft _ => 128 | _ => 672
    v.active c i fd.pred fd.neg = true →
    (ScalarTurn u c f 0x36 i → (∀ x, crossAt w c a i.at_ = some x →
        exec (.ld c f t) s = .next (modBcn w c fun b => { b with lds := b.lds ++
          [{ reg := fd.dst, val := word a, at_ := x + ldLatency * 625, write := true }] })) ∧
      (crossAt w c a i.at_ = none → exec (.ld c f t) s = .next (stepFail w .bcn c 0x02 a))) ∧
    (ScalarTurn u c f 0x37 i → (∀ x, crossAt w c a i.at_ = some x →
        exec (.st c f t) s = .next (modBcn w c fun b => { b with sts := b.sts ++
          [{ addr := a, val := scGet i.sc fd.dst, cross := x, at_ := x + stLatency * 625 }] })) ∧
      (crossAt w c a i.at_ = none → exec (.st c f t) s = .next (stepFail w .bcn c 0x02 a)))) ∧
  (∀ (s : State) (c t : Nat),
    let u := s.at t
    (∀ (p : PendReg) (pre post : List PendReg), (ctxOf u c).bcn.lds = pre ++ p :: post → (∀ q ∈ pre, u.now < q.at_) → p.at_ ≤ u.now →
      u.upsets = [] → (c = 16 → unitOf p.val.toNat ≠ .regs) →
      exec (.ldDataUsable c t) s =
        let w := modBcn u c fun b => { b with lds := pre ++ post }
        .next (if p.write = true then putSc w c p.reg (word (leNat (readMem u p.val.toNat 8))) else w)) ∧
    (∀ (p : PendSt) (rest : List PendSt), (ctxOf u c).bcn.sts = p :: rest → p.at_ ≤ u.now → u.memOk →
      (c = 16 → unitOf p.addr ≠ .regs) → bf (rget u .hltInject) 63 62 = 0 →
      Answers (.stLands c t) s fun s' =>
        leNat (readMem s' p.addr 8) = p.val.toNat ∧
        (∀ a, a < p.addr ∨ p.addr + 8 ≤ a → readByte s' a = readByte u a) ∧
        (ctxOf s' c).bcn.sts = rest ∧ (ctxOf s' c).bcn.sc = (ctxOf u c).bcn.sc ∧
        (∀ d, d ≠ c → ctxOf s' d = ctxOf u d) ∧ s'.regs = u.regs ∧ s'.log = u.log))

/-- The control operations (R196 to R199, Table 5.9): once every other field of its word has been carried out, an active BR, JMPR, CALL or RET
that takes no back-edge goes to its target 4 cycles after the word's issue; every other word, and an inactive one, goes to the next
index one cycle after; the loops that end at the word end. DRAIN and WAITTICK act by holding the word.

What the end of a word leaves (R192, Table 5.10): the next index, no word in its issue cycle, and the moment from which the next may
issue; the registers, the word store, memory and every other context stay. -/
def Obligations.ControlOperationsGoOn : Prop :=
  (∀ (s : State) (c t cop : Nat) (i : Issue),
    let u := s.at t
    let v := tryIssue u c
    let b := (ctxOf v c).bcn
    let f := cfield (lwControl (u.lw c))
    let e := endwStep (floodLoops v c) b.pc b.loops b.lcs
    let on := v.active c i f.pred f.neg
    let next := fun (w : State) => Host.Outcome.next (retire w c e.1 e.2.1 (b.pc + 1) 1)
    ControlTurn u c cop i → e.2.2 = none →
    (cop = 0x00 → exec (.controlNop c t) s = next v) ∧
    (cop = 0x07 → exec (.drain c t) s = next v) ∧
    (cop = 0x0A → exec (.waittick c t) s = next v) ∧
    (cop = 0x01 → exec (.br c t) s = if on = true then .next (retire v c e.1 e.2.1 f.target 4) else next v) ∧
    (cop = 0x02 → exec (.jmpr c t) s =
      if on = true then .next (retire v c e.1 e.2.1 (scGet i.sc f.jreg).toNat 4) else next v) ∧
    (cop = 0x03 → exec (.call c t) s =
      if on = true then .next (retire (modBcn v c fun x => { x with ret := (x.pc + 1) :: x.ret }) c e.1 e.2.1 f.target 4)
      else next v) ∧
    (cop = 0x04 → exec (.ret c t) s =
      if on = true then .next (retire (modBcn v c fun x => { x with ret := x.ret.tail }) c e.1 e.2.1 (b.ret.headD 0) 4)
      else next v) ∧
    (cop = 0x06 → on = false → exec (.fetch c t) s = next v) ∧
    (cop = 0x08 → on = false → exec (.commit c t) s = next v) ∧
    (cop = 0x09 → on = false → exec (.endC c t) s = next v)) ∧
  (∀ (v : State) (c next delay : Nat) (loops : List Nat) (lcs : Tab LoopCtr) (i : Issue),
    let w := retire v c loops lcs next delay
    (ctxOf v c).bcn.iss = some i →
    (ctxOf w c).bcn = { (ctxOf v c).bcn with pc := next, iss := none, ready := i.at_ + delay * 625, loops := loops, lcs := lcs } ∧
    (∀ d, d ≠ c → ctxOf w d = ctxOf v d) ∧ w = { v with ctxs := w.ctxs })

/-- LOOP and its back-edge (R199, R208 to R210). An active trip count above BOUND ends the step with cause 0x21, whatever the mode. In Neap
mode a loop runs BOUND iterations; in Flood mode an inactive LOOP and a trip count of 0 go on after ENDW. An ENDW word goes back to
the loop's first word while iterations are left. -/
def Obligations.LoopsRunTheirBound : Prop :=
  ∀ (s : State) (c t : Nat) (i : Issue),
    let u := s.at t
    let v := tryIssue u c
    let b := (ctxOf v c).bcn
    let f := cfield (lwControl (u.lw c))
    let trip := (scGet i.sc f.tripReg).toNat
    let on := v.active c i f.pred f.neg
    let opened := fun (n : Nat) => retire v c (f.lc :: b.loops)
      (Tab.put f.lc { index := 0, trip := n, bound := f.bound, endw := f.endw, start := b.pc + 1, off := !on } b.lcs) (b.pc + 1) 1
    (ControlTurn u c 0x05 i → c < 16 →
      (on = true → f.bound < trip → exec (.loop c t) s = .next (stepFail v .bcn c 0x21)) ∧
      (on = true → trip ≤ f.bound → floodLoops v c = false → exec (.loop c t) s = .next (opened trip)) ∧
      (on = false → floodLoops v c = false → exec (.loop c t) s = .next (opened 0)) ∧
      (on = true → trip ≤ f.bound → floodLoops v c = true → trip ≠ 0 → exec (.loop c t) s = .next (opened trip)) ∧
      (floodLoops v c = true → (on = false ∨ trip = 0) → exec (.loop c t) s = .next (retire v c b.loops b.lcs (f.endw + 1) 4))) ∧
    (∀ (k : Nat) (ks : List Nat) (l : LoopCtr), b.iss = some i → fieldsDone (u.lw c) i = true → b.loops = k :: ks →
      Tab.find k b.lcs = some l → l.endw = b.pc → l.index + 1 < (if floodLoops v c = true then l.trip else l.bound) →
      (on = false ∨ f.cop < 6) →
      exec (.loopBackEdge c t) s =
        .next (retire v c b.loops (Tab.put k { l with index := l.index + 1 } b.lcs) l.start 1))

/-- FETCH (R198): an active one copies its words later, from an address its rotation slot, bay and bank let through; when its moment has
come the words stand in the word store as memory holds them, and memory stays. Where no bay takes it, the step ends with
cause 0x02. -/
def Obligations.FetchFillsTheWordStore : Prop :=
  ∀ (s : State) (c t : Nat) (i : Issue),
    let u := s.at t
    let v := tryIssue u c
    let b := (ctxOf v c).bcn
    let f := cfield (lwControl (u.lw c))
    let e := endwStep (floodLoops v c) b.pc b.loops b.lcs
    let a := (scGet i.sc f.freg).toNat
    (ControlTurn u c 0x06 i → e.2.2 = none → v.active c i f.pred f.neg = true →
      (∀ x, crossAt v c a i.at_ = some x → exec (.fetch c t) s =
        .next (retire (modBcn v c fun y => { y with fetches := y.fetches ++
          [{ dst := f.dstw, count := f.count, addr := a, at_ := x + (ldCycles a + 8 * ((f.count + 1) / 2 - 1)) * 625 }] })
          c e.1 e.2.1 (b.pc + 1) 1)) ∧
      (crossAt v c a i.at_ = none → (ctxOf v c).committed = false → (ctxOf v c).st = .running → (ctxOf v c).cause = none →
        exec (.fetch c t) s = .next (stepFail v .bcn c 0x02 a))) ∧
    (∀ (p : PendFetch) (pre post : List PendFetch), (ctxOf u c).bcn.fetches = pre ++ p :: post → (∀ q ∈ pre, u.now < q.at_) →
      p.at_ ≤ u.now → u.upsets = [] →
      exec (.fetchComplete c t) s = .next (modBcn u c fun y =>
        { y with fetches := pre ++ post, words := loadWords (readMem u p.addr (64 * p.count)) p.dst y.words }))

/-- COMMIT and END (R157, R158, R161, R197, R217). The first COMMIT of a step is its commit point; one that follows has no effect and is an
access error. END after the commit point ends the attempt, before it the step fails with cause 0x20. On BC8 both have no effect. -/
def Obligations.CommitAndEndCloseTheStep : Prop :=
  ∀ (s : State) (c t : Nat) (i : Issue),
    let u := s.at t
    let v := tryIssue u c
    let b := (ctxOf v c).bcn
    let f := cfield (lwControl (u.lw c))
    let e := endwStep (floodLoops v c) b.pc b.loops b.lcs
    let on := fun (w : State) => w.active c i f.pred f.neg = true
    let next := fun (w : State) => retire w c e.1 e.2.1 (b.pc + 1) 1
    e.2.2 = none → on v →
    (ControlTurn u c 0x08 i →
      (c < 16 → (ctxOf v c).committed = false → v.upsets = [] →
        exec (.commit c t) s = .next (next (commitPoint v c))) ∧
      (c < 16 → (ctxOf v c).committed = true →
        exec (.commit c t) s = .next (next (logAccess v .stl 0x05 b.pc (0x10 + c / 2)))) ∧
      (c = 16 → exec (.commit c t) s = .next (next v))) ∧
    (ControlTurn u c 0x09 i →
      (c < 16 → (ctxOf v c).committed = true → Answers (.endC c t) s fun s' =>
        (ctxOf s' c).st = .idle ∧ (ctxOf s' c).lastStep = (ctxOf v c).req.step ∧ s'.pub = v.pub ∧ s'.cmt = v.cmt ∧
        ∀ d, d ≠ c → ctxOf s' d = ctxOf v d) ∧
      (c < 16 → (ctxOf v c).committed = false → (ctxOf v c).st = .running → (ctxOf v c).cause = none →
        exec (.endC c t) s = .next (stepFail v .bcn c 0x20)) ∧
      (c = 16 → exec (.endC c t) s = .next (next v)))

/-- GO of BC8 (R218, R219): written after sealing and outside a fold reset by a requester that may write it, it starts BC8 at its entry
point with the first 256 words of its program where they lie in the steward's extents. -/
def Obligations.GoStartsTheSteward : Prop :=
  ∀ (s : State) (q : Requester) (v : Word) (t : Nat),
    let u := s.at t
    let a := rfield u .bcnStwEntry 47 0
    s.regsOk → reachable u q = true → u.takesWrite q .bcnStwCtrl 0 0 v → bitAt v 0 = true →
    (u.img.isSealed = false → exec (.stewardGo q v t) s = .next (u.rejectsWrite q .bcnStwCtrl 0)) ∧
    (u.img.isSealed = true → u.pwr.fold = none → inExtentOf u 8 a 16384 = true → u.upsets = [] →
      Answers (.stewardGo q v t) s fun s' =>
        bitAt (rget s' .bcnStwCtrl) 1 = true ∧ bitAt (rget s' .bcnStwCtrl) 2 = false ∧ (ctxOf s' 16).bcn.pc = 0 ∧
        (ctxOf s' 16).bcn.words = loadWords (readMem u a 16384) 0 [] ∧ (ctxOf s' 16).bcn.ready = (u.now + 9999) / 10000 * 10000 ∧
        (∀ d, d ≠ 16 → ctxOf s' d = ctxOf u d) ∧ s'.mem = u.mem)

/-- The slots of a word post in order (R192, R204, R206, R211, R212, R843): an active slot posts its command to its engine's queue, in Neap
mode an inactive one a null command, which reaches the queue after the post delay; with SIG_OP 2 its signal comes 2 cycles after
issue; an empty slot posts nothing; after the commit point a post is an access error. -/
def Obligations.SlotsPostTheirCommands : Prop :=
  ∀ (s : State) (c k t : Nat) (i : Issue),
    let u := s.at t
    let v := tryIssue u c
    let w := v.carried c (k + 3)
    let f := slotF (lwSlot (v.lw c) k)
    let on := v.active c i f.pred f.neg
    let a := (scGet i.sc f.dreg + word (64 * f.doff)).toNat
    let delay := if f.cls = 0 then 16 else if f.cls ≤ 2 then 24 else if f.cls ≤ 8 then 28 else 4
    let posted : Cmd :=
      { id := v.nextId, c := c, uid := (ctxOf v c).uid, cls := f.cls, inst := f.inst, addr := a, len := 64 * (f.dlen + 1),
        null := !on, sigTal := f.sigTal, sigAdd := if f.sigOp = 1 then f.sigAdd else 0, arrive := i.at_ + delay * 625,
        st := .queued, doneAt := 0, left := 0, desc := [], rows := [], next := 0, total := 0, unfixed := false }
    let signal := fun id => ({ id := id, c := c, uid := (ctxOf v c).uid, tal := f.sigTal, add := f.sigAdd, at_ := i.at_ + 1250 } : PendSig)
    let silent := f.empty = true ∨ (on = false ∧ floodLoops v c = true)
    k < 4 → u.lw c = v.lw c → lwSlot (v.lw c) k ≠ 0 →
    (∀ j < k, lwSlot (v.lw c) j = 0 ∨ ∃ i0, (ctxOf u c).bcn.iss = some i0 ∧ i0.done.contains (j + 3) = true) →
    (ctxOf v c).bcn.iss = some i → i.done.contains (k + 3) = false →
    (¬silent → (c = 16 ∨ (ctxOf v c).committed = false) → f.sigOp ≠ 2 →
      exec (.slotPost c k t) s = .next { w with nextId := v.nextId + 1, cmds := v.cmds ++ [posted] }) ∧
    (¬silent → (c = 16 ∨ (ctxOf v c).committed = false) → f.sigOp = 2 → f.sigAdd ≠ 0 →
      exec (.slotPost c k t) s =
        .next { w with nextId := v.nextId + 2, cmds := v.cmds ++ [posted], sigs := v.sigs ++ [signal (v.nextId + 1)] }) ∧
    (¬silent → c < 16 → (ctxOf v c).committed = true → f.sigOp = 0 →
      exec (.slotPost c k t) s = .next (logAccess w .stl 0x05 a (0x10 + c / 2))) ∧
    (silent → (f.sigOp = 0 ∨ f.sigAdd = 0) → exec (.slotPost c k t) s = .next w) ∧
    (silent → f.sigOp ≠ 0 → f.sigAdd ≠ 0 →
      exec (.slotPost c k t) s = .next { w with nextId := v.nextId + 1, sigs := v.sigs ++ [signal v.nextId] })

/-- A command whose writes have all landed leaves its queue (R206, R280): a signal of SIG_OP 1 is then added to its tally where its
attempt still runs; and a signal of SIG_OP 2 is added at its own moment. -/
def Obligations.CommandsCompleteWithTheirSignal : Prop :=
  ∀ (s : State) (id t : Nat),
    let u := s.at t
    (∀ (m : Cmd), u.cmds.find? (·.id == id) = some m → m.st = .finished → m.left = 0 → (m.doneAt + 624) / 625 * 625 ≤ u.now →
      (m.cls = 11 → fieldAt m.desc 0 1 ≠ 1) → u.grWrites = [] →
      let w := { u with cmds := u.cmds.filter (·.id ≠ id) }
      (m.sigAdd = 0 → exec (.commandComplete id t) s = .next w) ∧
      (m.sigAdd ≠ 0 → runningCtx u m.c = true → (ctxOf u m.c).uid = m.uid →
        exec (.commandComplete id t) s = .next (tallyAdd w m.c m.sigTal m.sigAdd m.unfixed)) ∧
      ((runningCtx u m.c = false ∨ (ctxOf u m.c).uid ≠ m.uid) → exec (.commandComplete id t) s = .next w)) ∧
    (∀ (g : PendSig), u.sigs.find? (·.id == id) = some g → g.at_ ≤ u.now →
      let w := { u with sigs := u.sigs.filter (·.id ≠ id) }
      (runningCtx u g.c = true → (ctxOf u g.c).uid = g.uid →
        exec (.tallySignal id t) s = .next (tallyAdd w g.c g.tal g.add)) ∧
      ((runningCtx u g.c = false ∨ (ctxOf u g.c).uid ≠ g.uid) → exec (.tallySignal id t) s = .next w))

/-! ### Engine queues, the Granary and Haul -/

/-- Every engine reads a descriptor when it takes the command (R204, R205, R145): one outside what the context may read, shorter than the
format, or with a code that the class does not have is a protection violation; a descriptor with an uncorrectable word is a chip loss;
one with another code of the class waits for its own command; in Flood mode an urgent command goes first (R167); and one with the
code asked for is carried out with the bytes that memory holds.

The seven Granary operations (R251, R254): a well-formed descriptor is taken into the Granary's requests, where it waits for its
stall's rotation slots, and its command runs; one that R254 or R842 forbids is a protection violation. -/
def Obligations.EnginesTakeTheirDescriptors : Prop :=
  (∀ (u : State) (src : Src) (c cls inst op size : Nat) (valid : Nat → Bool) (k : Cmd → List Byte → State → State) (m : Cmd),
    let v := takeCmd u src c cls inst op size valid k
    let code := leNat (readMem u m.addr 1)
    let first := c < 16 → c % 2 = 0 → floodCtx u c = true → headCmd u (c + 1) cls inst = none
    (headCmd u c cls inst = none → v = u) ∧
    (headCmd u c cls inst = some m →
      (¬first → v = u) ∧
      (first → (mayRead u c m.addr m.len = false ∨ m.len < size) → v = violation u src m.addr) ∧
      (first → mayRead u c m.addr m.len = true → size ≤ m.len →
        (code ≠ op → valid code = true → v = u) ∧
        (code ≠ op → valid code = false → v = violation u src m.addr) ∧
        (∀ x, code = op → u.upsets.find? (fun y => decide (m.addr < 8 * y.1 + 8) && decide (8 * y.1 < m.addr + m.len) && y.2 == 2) =
            some x → v = countUncorrected u src (8 * x.1)) ∧
        (code = op → u.upsets = [] → v = k m (readMem u m.addr m.len) u)))) ∧
  (∀ (s : State) (i : Instr) (c op t : Nat) (m : Cmd) (b : List Byte),
    let u := s.at t
    let q : GrReq :=
      { cmd := m.id, c := c, uid := m.uid, order := 16 * (c / 2) + (if op = 1 then fieldAt b 2 1 else 10), op := op,
        cls := fieldAt b 1 1, slot := fieldAt b 3 1, count := fieldAt b 4 4, handle := fieldAt b 8 8, result := fieldAt b 16 8,
        header := slice b 24 16, null := m.null, served := 0, got := [] }
    granaryOp i = some (c, op, t) → Offered u c 10 0 op 64 m b →
    (grnDescOk u c b = false → exec i s = .next (violation u .grn m.addr)) ∧
    (grnDescOk u c b = true → exec i s = .next { u with
      grReqs := u.grReqs ++ [q]
      cmds := u.cmds.map fun x => if x.id = m.id then { x with st := .running, left := 1, doneAt := u.now } else x }))

/-- One slot of an ALLOC (R246, R249 to R251): the lowest free index of the requester's reserve is allocated to the attempt, and no other
buffer changes; its record is written 40 cycles later; a reserve that is full, with no chain, ends the step with cause 0x28.

RELEASE, RESOLVE and STAGE in their slot (R156, R246, R247, R252, R254). A released buffer is free and its generation rises by one modulo 8;
a sound handle that stands in the publication table may not be released. STAGE puts a fresh buffer on the slot's staged side, and
the current side stays. A second STAGE of the slot by the attempt allocates nothing. A slot in which the GRANARY control of Squall
still defers the request of a Flood stall passes (R789). -/
def Obligations.GranaryServesItsSlots : Prop :=
  (∀ (s : State) (n t ix : Nat) (q : GrReq),
    let u := s.at t
    let w := rget u .grnRsv (8 * q.order + q.cls)
    let unit := bf w 52 48
    let lo := bf w 39 20
    let taken := fun i => (bufOf u (bufKey false unit i)).alloc = true
    let key := bufKey false unit ix
    let served := floodOf u n = false ∨ squallOn u 5 n = false ∨ Tab.find q.cmd u.grDefer = some 0
    grnSlotNow u n = true → grnNext u n = some q → served → q.op = 1 → q.null = false → (ctxOf u q.c).committed = false →
    u.grWrites = [] →
    (lo ≤ ix → ix < lo + bf w 19 0 → ¬taken ix → (∀ i, lo ≤ i → i < ix → taken i) →
      Answers (.granaryServe n t) s fun s' =>
        (bufOf s' key).alloc = true ∧ (bufOf s' key).uid = q.uid ∧ (bufOf s' key).req = q.order ∧ (bufOf s' key).gen = (bufOf u key).gen ∧
        (∀ k, k ≠ key → bufOf s' k = bufOf u k) ∧ s'.mem = u.mem ∧ s'.ctxs = u.ctxs ∧ s'.pub = u.pub ∧
        ∃ r, s'.grWrites = [r] ∧ r.addr = q.result + 16 * q.served ∧ r.at_ = u.now + 25000 ∧ r.uid = q.uid) ∧
    ((∀ i, lo ≤ i → i < lo + bf w 19 0 → taken i) → bf w 40 40 = 0 →
      Answers (.granaryServe n t) s fun s' =>
        s'.bufs = u.bufs ∧ s'.pub = u.pub ∧
        ((ctxOf u q.c).st = .running → (ctxOf u q.c).cause = none →
          (ctxOf s' q.c).st = .killing ∧ (ctxOf s' q.c).cause = some 0x28))) ∧
  (∀ (s : State) (n t : Nat) (q : GrReq),
    let u := s.at t
    let h := q.handle % 2 ^ 32
    let p := pubOf u n q.slot
    let sound := checkHandle u n h (q.handle / 2 ^ 32) 0 0 = .ok
    grnSlotNow u n = true → grnNext u n = some q → u.grWrites = [] →
    (∀ k, floodOf u n = true → squallOn u 5 n = true → Tab.find q.cmd u.grDefer = some (k + 1) →
      Answers (.granaryServe n t) s fun s' =>
        Tab.find q.cmd s'.grDefer = some k ∧ s'.grReqs = u.grReqs ∧ s'.bufs = u.bufs ∧ s'.pub = u.pub ∧ s'.mem = u.mem ∧
        s'.ctxs = u.ctxs ∧ s'.regs = u.regs) ∧
    (floodOf u n = false ∨ squallOn u 5 n = false ∨ Tab.find q.cmd u.grDefer = some 0 →
    q.c / 2 = n → q.null = false → q.served = 0 → (ctxOf u q.c).committed = false →
    (q.op = 2 → sound → h ≠ 0 → handlePublished u n h = false → Answers (.granaryServe n t) s fun s' =>
      (bufOf s' (keyOf h)).alloc = false ∧ (bufOf s' (keyOf h)).gen = ((bufOf u (keyOf h)).gen + 1) % 8 ∧
      (∀ k, k ≠ keyOf h → bufOf s' k = bufOf u k) ∧ s'.mem = u.mem ∧ s'.pub = u.pub ∧ s'.ctxs = u.ctxs) ∧
    (q.op = 4 → sound → Answers (.granaryServe n t) s fun s' =>
      s'.bufs = u.bufs ∧ s'.pub = u.pub ∧ s'.mem = u.mem ∧ s'.ctxs = u.ctxs ∧
      ∃ r, s'.grWrites = [r] ∧ r.addr = q.result ∧ r.bytes = resultRec u (keyOf h)) ∧
    (q.op = 3 → q.slot < 64 → p.kv = false → (ctxOf u q.c).staged.contains q.slot = true → Answers (.granaryServe n t) s fun s' =>
      s'.bufs = u.bufs ∧ s'.pub = u.pub ∧ s'.mem = u.mem ∧ s'.ctxs = u.ctxs) ∧
    (q.op = 3 → q.slot < 64 → p.kv = false → (ctxOf u q.c).staged.contains q.slot = false →
      (allocBuf u (16 * n + 10) q.c q.uid 8 q.cls).isSome = true → Answers (.granaryServe n t) s fun s' =>
      (pubOf s' n q.slot).side = p.side ∧ (pubOf s' n q.slot).handle p.side = p.handle p.side ∧
      (ctxOf s' q.c).staged = (ctxOf u q.c).staged ++ [q.slot] ∧ s'.mem = u.mem ∧
      (∀ j < 64, j ≠ q.slot → pubOf s' n j = pubOf u n j) ∧ (∀ d, d ≠ q.c → ctxOf s' d = ctxOf u d))))

/-- What a COPY, FILL or COPY_2D on the chip writes (R264 to R268): each destination row holds what its source row held, or the 8-byte pattern
over and over; for a COPY_2D this is said of destination rows that meet no other row; no other byte of memory changes, and a null
command moves nothing. -/
def Obligations.HaulMovesItsRows : Prop :=
  ∀ (u : State) (c m : Nat) (x : Cmd) (d : HaulDesc) (src dst : Nat),
    let v := haulLocal c m x d src dst u
    let row := fun i => dst + i * d.dstStride
    let srow := fun i => src + i * d.srcStride
    let apart := fun a b => a + d.len ≤ b ∨ b + d.len ≤ a
    let sp := if d.op = 2 then none else placeOf src
    u.undisturbed → c < 16 → gate u (c / 2) (haulRes m sp (placeOf dst)) = .go →
    (∀ i < d.rows, (d.op ≠ 2 → mayUse u c (srow i) d.len = true) ∧ mayWrite u c (row i) d.len = true) →
    (x.null = true → v.mem = u.mem) ∧
    (∀ a, (∀ i < d.rows, a < row i ∨ row i + d.len ≤ a) → readByte v a = readByte u a) ∧
    (x.null = false →
      (d.op = 1 → d.rows = 1 → ∀ j < d.len, readByte v (dst + j) = readByte u (src + j)) ∧
      (d.op = 2 → d.rows = 1 → d.len % 8 = 0 → ∀ j < d.len, readByte v (dst + j) = (leBytes 8 d.src).getD (j % 8) 0) ∧
      (d.op = 3 → (∀ i < d.rows, ∀ k < d.rows, (i ≠ k → apart (row i) (row k)) ∧ apart (srow i) (row k)) →
        ∀ i < d.rows, ∀ j < d.len, readByte v (row i + j) = readByte u (srow i + j)))

/-- The Haul commands of a stall between board addresses of this chip, and with the host (R160, R264, R267, R636, R643): an idle mover takes
the descriptor that its form allows; COPY, FILL and COPY_2D go on as a move on the chip; a TO_HOST from HBM is held until the
commit point; a FROM_HOST asks for its bytes in reads of at most 512 that cross no 4 KiB boundary; a malformed descriptor is a
protection violation.

BC8's command at a mover goes on by one piece of at most 4 KiB where R266 lets it (R266, R276): at a die that no stall owns, at an idle
mover of a Flood stall, and at a Neap stall's only from 4,000 ns after the sampling point on. -/
def Obligations.HaulCommandsAreTaken : Prop :=
  (∀ (s : State) (c m t op : Nat) (x : Cmd) (b : List Byte),
    let u := s.at t
    let d := haulDesc b
    let y := ctxOf u c
    let x' := { x with desc := b.take 64 }
    let i := if op = 1 then Instr.copy c m t else if op = 2 then .fill c m t else if op = 3 then .copy2d c m t
      else if op = 4 then .toHost c m t else .fromHost c m t
    1 ≤ op → op ≤ 5 → c < 16 → engineIdle u 0 m = true → Offered u c 0 m op 64 x b → d.op = op →
    (haulForm u d b = false → exec i s = .next (violation u .hau x.addr)) ∧
    (haulForm u d b = true → op ≤ 3 → (op ≠ 2 → d.srcKind = 0) → d.dstKind = 0 →
      (op ≠ 2 → boardChip d.src = chipOnBoard u) → boardChip d.dst = chipOnBoard u →
      exec i s = .next (haulLocal c m x' d (if op = 2 then 0 else boardLocal d.src) (boardLocal d.dst) u)) ∧
    (haulForm u d b = true → op = 4 → d.srcKind = 0 → mayUse u c (boardLocal d.src) d.len = true → isHbm (boardLocal d.src) = true →
      x.null = false → Answers i s fun s' =>
        (∃ h, (ctxOf s' c).held = y.held ++ [h] ∧ h.src = boardLocal d.src ∧ h.len = d.len ∧ h.dst = d.dst ∧ h.fn = c / 2 ∧
          h.cmd = x.id ∧ h.note = none) ∧
        s'.mem = u.mem ∧ s'.host = u.host ∧ s'.out = u.out ∧ ∀ k, k ≠ c → ctxOf s' k = ctxOf u k) ∧
    (haulForm u d b = true → op = 4 → d.srcKind = 0 → mayUse u c (boardLocal d.src) d.len = true → isHbm (boardLocal d.src) = false →
      exec i s = .next (stepFail u .hau c 0x0B (boardLocal d.src))) ∧
    (haulForm u d b = true → op = 5 → d.dstKind = 0 → mayWrite u c (boardLocal d.dst) d.len = true → (fnOf u (c / 2)).bme = true →
      x.null = false → Answers i s fun s' =>
        s'.mem = u.mem ∧ s'.ctxs = u.ctxs ∧
        ∀ cut ∈ tlpCuts 512 (d.len + 1) d.src 0 d.len,
          (∃ tag, Out.hostRead (c / 2) tag cut.1 cut.2.2 ∈ s'.out) ∧ cut.2.2 ≤ 512 ∧ cut.1 / 4096 = (cut.1 + cut.2.2 - 1) / 4096) ∧
    (haulForm u d b = true → op = 5 → d.dstKind = 0 → mayWrite u c (boardLocal d.dst) d.len = true → (fnOf u (c / 2)).bme = false →
      exec i s = .next (stepFail u .hif c 0x63))) ∧
  (∀ (s : State) (m t : Nat) (x : Cmd) (r : Nat × Nat × Nat) (rest : List (Nat × Nat × Nat)),
    let u := s.at t
    let d := haulDesc x.desc
    let rows := stewardPieces (haulRows d (boardLocal d.src) (boardLocal d.dst))
    stewardCmd u m = some x → rows.drop (rows.length - x.left) = r :: rest → u.undisturbed →
    (8 ≤ cdOwner u (m / 2) ∨ (cdOwner u (m / 2) < 8 ∧ floodOf u (cdOwner u (m / 2)) = false ∧ u.tide.running = true ∧
      u.tide.sampled = true ∧ samplingPoint u + 4000000 ≤ u.now)) →
    Answers (.stewardHaulResume m t) s fun s' =>
      (∀ a, a < r.2.1 ∨ r.2.1 + r.2.2 ≤ a → readByte s' a = readByte u a) ∧
      (d.op ≠ 2 → ∀ j < r.2.2, readByte s' (r.2.1 + j) = readByte u (r.1 + j)) ∧ r.2.2 ≤ 4096 ∧
      s'.cmds = u.cmds.map (fun y => if y.id = x.id then
        { y with left := y.left - 1, st := if y.left ≤ 1 then .finished else y.st, doneAt := u.now } else y) ∧
      s'.ctxs = u.ctxs ∧ s'.pub = u.pub)

/-! ### Tallies -/

/-- Adds and resets of one tally (R278, R282, R283): the first change of a domain-48 cycle starts from the value as it stood; the adds of a
cycle sum above it, or from 0 where the cycle resets it; the stored complement follows; no other tally and nothing else changes. A
tally whose complement does not match is a complement mismatch.

TALLY_OVERFLOW (R282): the step that owns the tally ends with cause 0x30 in this cycle, and the tally stays at what it was before the
adds of the cycle, after a reset of the same cycle. -/
def Obligations.TallyChangesOfACycleCombine : Prop :=
  (∀ (u : State) (c i amount : Nat) (late : Bool),
    let x := tallyOf u i
    let fresh := x.cyc ≠ u.now / 625
    let base := if fresh then x.value else if x.wasReset = true then 0 else x.before
    let adds := if fresh then 0 else x.adds
    let v := tallyAdd u c i amount late
    let z := tallyReset u i
    (x.comp ≠ 2 ^ 32 - 1 - x.value % 2 ^ 32 → v = mismatch u .tal i ∧ z = mismatch u .tal i) ∧
    (x.comp = 2 ^ 32 - 1 - x.value % 2 ^ 32 →
      (base + adds + amount < 2 ^ 32 →
        (tallyOf v i).value = base + adds + amount ∧ (tallyOf v i).sound = true ∧ (tallyOf v i).cyc = u.now / 625 ∧
        (∀ k, k ≠ i → tallyOf v k = tallyOf u k) ∧ v = { u with tallies := v.tallies }) ∧
      (adds < 2 ^ 32 →
        (tallyOf z i).value = adds ∧ (tallyOf z i).sound = true ∧ (tallyOf z i).wasReset = true ∧
        (∀ k, k ≠ i → tallyOf z k = tallyOf u k) ∧ z = { u with tallies := z.tallies }))) ∧
  (∀ (u : State) (c i amount : Nat) (late : Bool),
    let x := tallyOf u i
    let fresh := x.cyc ≠ u.now / 625
    let base := if fresh then x.value else if x.wasReset = true then 0 else x.before
    let adds := if fresh then 0 else x.adds
    let v := tallyAdd u c i amount late
    x.comp = 2 ^ 32 - 1 - x.value % 2 ^ 32 → 2 ^ 32 ≤ base + adds + amount →
    (ctxOf u c).st = .running → (ctxOf u c).committed = false → (ctxOf u c).cause = none →
    (tallyOf v i).value = base ∧ (∀ k, k ≠ i → tallyOf v k = tallyOf u k) ∧
    (ctxOf v c).st = .killing ∧ (ctxOf v c).cause = some 0x30 ∧ (ctxOf v c).killT = u.now ∧
    ∀ d, d ≠ c → ctxOf v d = ctxOf u d)

/-- The Tally commands (R277, R285 to R287, R289, Table 7.2): 8 cycles after it reached its queue, ADD and REMOTE_ADD to this chip add, RESET resets
unless it is null, READ stores the value with its complement, and each completes then; a REMOTE_ADD to another chip leaves as a
message on a port and completes with its acknowledgement; a malformed descriptor is a protection violation. -/
def Obligations.TallyCommandsTakeEffectAfterEightCycles : Prop :=
  ∀ (s : State) (c t op : Nat) (m : Cmd) (b : List Byte),
    let u := s.at t
    let d := talDesc b
    let done := finishCmd u m.id (max u.now (m.arrive + 5000))
    let i := if op = 1 then Instr.tallyAdd c t else if op = 2 then .tallyReset c t else if op = 3 then .remoteAdd c t else .tallyRead c t
    1 ≤ op → op ≤ 4 → c < 16 → Offered u c 9 0 op 64 m b → d.op = op → m.arrive + 5000 ≤ u.now →
    (talDescOk u c d b = false → exec i s = .next (violation u .tal m.addr)) ∧
    (talDescOk u c d b = true →
      (op = 1 → exec i s = .next (tallyAdd done c d.index d.amount)) ∧
      (op = 2 → m.null = false → exec i s = .next (tallyReset done d.index)) ∧
      (op = 2 → m.null = true → exec i s = .next done) ∧
      (op = 3 → d.chip = chipOnBoard u → exec i s = .next (tallyAdd done c d.index d.amount)) ∧
      (op = 3 → d.chip ≠ chipOnBoard u → ∀ p ps, activeTo u d.chip = p :: ps → Answers i s fun s' =>
        s'.tallies = u.tallies ∧ s'.mem = u.mem ∧ (∀ k, k ≠ c → ctxOf s' k = ctxOf u k) ∧
        s'.cmds = u.cmds.map (fun x => if x.id = m.id then { x with st := .running, left := 1, doneAt := u.now } else x)) ∧
      (op = 4 → u.undisturbed → (tallyOf u d.index).sound = true → m.null = false → Answers i s fun s' =>
        readMem s' d.result 8 = leBytes 4 (tallyOf u d.index).value ++ leBytes 4 (2 ^ 32 - 1 - (tallyOf u d.index).value % 2 ^ 32) ∧
        (∀ a, a < d.result ∨ d.result + 8 ≤ a → readByte s' a = readByte u a) ∧ s'.tallies = u.tallies ∧ s'.cmds = done.cmds))

/-- A remote add that arrives (R290 to R293, Table 7.4): its complements and its index are checked, a stall that does not exist counts it as
unclaimed, and the table's first row that matches discards it as stale, parks it or applies it; a full park loses it. -/
def Obligations.RemoteAddsAreClassified : Prop :=
  ∀ (s : State) (p t : Nat) (b : List Byte),
    let u := s.at t
    let w := dropUnit u p 0
    let body := b.drop 16
    let stall := fieldAt body 1 1 % 8
    let c := 2 * stall + fieldAt body 1 1 / 8 % 2
    let attempt := fieldAt body 1 1 / 16 % 4
    let step := fieldAt body 2 2 % 4096
    let index := fieldAt body 4 2
    let amount := fieldAt body 8 4
    let x := ctxOf u c
    let n := if x.st = .idle then x.lastStep else x.req.step
    let d := (step + 4096 - n) % 4096
    let runs := x.st = .running ∧ (x.committed = false ∨ u.now < x.commitT + 625) ∧ x.req.step = step
    let stale := exec (.remoteAddMsg p t) s = .next (rbump w .talDrop 31 0 stall)
    let parks := ((parkOf u c).adds.length < 64 → exec (.remoteAddMsg p t) s =
        .next (setPark w c { parkOf w c with adds := (parkOf w c).adds ++ [{ step := step, attempt := attempt, index := index, amount := amount }] })) ∧
      (64 ≤ (parkOf u c).adds.length → exec (.remoteAddMsg p t) s =
        .next (setPark (rbump w .talDrop 63 48 stall) c { parkOf w c with lost := step :: (parkOf w c).lost.filter (· ≠ step) }))
    let sound := fieldAt body 6 2 = 2 ^ 16 - 1 - index ∧ fieldAt body 12 4 = 2 ^ 32 - 1 - amount ∧ inHalf c index = true
    MessageAt u p 1 b →
    (¬sound → exec (.remoteAddMsg p t) s = .next (mismatch w .tal index)) ∧
    (sound → assigned u stall = false → exec (.remoteAddMsg p t) s = .next (rbump w .talDrop 47 32 stall)) ∧
    (sound → assigned u stall = true →
      (inFence u = true → stale) ∧
      (inFence u = false → x.ranThisTide = false → parks) ∧
      (inFence u = false → x.ranThisTide = true →
        (runs → attempt = x.attempt → exec (.remoteAddMsg p t) s = .next (tallyAdd w c index amount true)) ∧
        (runs → x.attempt < attempt → parks) ∧
        (¬(runs ∧ x.attempt ≤ attempt) → step = n → stale) ∧
        (¬(runs ∧ x.attempt ≤ attempt) → step ≠ n → 1 ≤ d → d ≤ 63 → parks) ∧
        (¬(runs ∧ x.attempt ≤ attempt) → step ≠ n → 64 ≤ d → stale)))

/-! ### Matrix tiles and vector units -/

/-- A piece of GEMM, GROUPED, SPLIT or COMBINE that a tile runs from its direct queue (R303, R313, R316, R319, R324, R325): where its
writes do not meet, each of them is read back, every byte outside them stays, and a null command writes nothing; the command counts
the piece, and in Neap mode the tile is busy for d (first piece) + 32 + c cycles of its die (log entry 48) and the command completes
16 of them later. The
sheaf partials of a loose SPLIT leave the tile instead (R327). -/
def Obligations.MatrixPiecesWriteTheirBlocks : Prop :=
  ∀ (s : State) (c k piece t op : Nat) (m : Cmd) (g j r : Nat),
    let u := s.at t
    let d := mtxDesc m.desc
    let i := if op = 1 then Instr.gemm c k piece t else if op = 2 then .grouped c k piece t
      else if op = 3 then .split c k piece t else .combine c k piece t
    let parts := splitPartials u d m.rows j r
    let ws := if op = 3 then parts.flatMap fun p => p.2.map fun w => (w.1, w.2.flatMap (leBytes 4))
      else productWrites u (c / 2) d m.rows g j r
    let res := match placeOf d.c with | some p => pathRes (.cd (k / 8)) p | none => []
    let busy := if floodCtx u c = true then u.now
      else u.now + cdCycles u (k / 8) ((if piece = 0 then descCycles k 1 m.addr else 0) + (32 + mtxCycles d))
    let end_ := if floodCtx u c = true then u.now else busy + cdCycles u (k / 8) 16
    let rest := fun (s' : State) =>
      busyTill s' 1 k = busy ∧ (∀ v, v ≠ k → busyTill s' 1 v = busyTill u 1 v) ∧ s'.ctxs = u.ctxs ∧ s'.pub = u.pub ∧ s'.log = u.log ∧
      ∀ r' d' i', r' ≠ .mtxTileBusy → r'.inRange d' i' → rgetX s' r' d' i' = rgetX u r' d' i'
    1 ≤ op → op ≤ 4 → Runs u 1 c k m → m.next = piece → d.op = op →
    (mtxPieces (!floodCtx u c) d m.rows)[piece]? = some (g, j, r) → (floodCtx u c = false → pieceOnDie d m k g j r = true) →
    gate u (c / 2) res = .go → u.undisturbed →
    (op = 3 ∧ d.loose = true → m.null = false → Answers i s fun s' =>
      s'.mem = u.mem ∧ s'.cmds = pieceCounted u m d.count end_ ∧
      s'.tiles.loose = u.tiles.loose ++ parts.map (fun p =>
        { cmd := m.id, c := c, uid := m.uid, trk := d.trk, block := d.c + 64 * r * d.cStride + 512 * j, sheaf := p.1, unit := k, adds := p.2 }) ∧
      rest s') ∧
    (¬(op = 3 ∧ d.loose = true) → Answers i s fun s' =>
      (m.null = true → s'.mem = u.mem) ∧
      (∀ a, (∀ w ∈ ws, a < w.1 ∨ w.1 + w.2.length ≤ a) → readByte s' a = readByte u a) ∧
      (m.null = false → ws.Pairwise apartWrites → ∀ w ∈ ws, readMem s' w.1 w.2.length = w.2) ∧
      s'.cmds = pieceCounted u m 0 end_ ∧ s'.tiles.loose = u.tiles.loose ∧ rest s')

/-- WORKLIST_CLAIM and LOOSE_ADD, in Flood mode (R322, R327, R328). A claim hands the next piece of the list's first command to the free
unit that comes first in the rotation after the last one served, or under ARB 1 to the one that has claimed longest, the
lower of two; the piece reaches it 24 cycles later. While the WORKLIST control of Squall acts, the next random value picks the unit
among the free ones, and the grant counts in SQL_STAT (R789). A loose partial is added to its block by one rounded read-add-write
for each value, which counts in MTX_LOOSE where its sheaf is not the lowest that is outstanding. -/
def Obligations.FloodWorkIsClaimedAndAdded : Prop :=
  ∀ (s : State) (c k n t : Nat) (vector : Bool),
    let u := s.at t
    let cls := if vector = true then 2 else 1
    let key := 2 * (c / 2) + (cls - 1)
    let last := (Tab.getD (0, 127) key u.tiles.claims).2
    let free := fun v => v < 128 ∧ cdOwner u (v / 8) = c / 2 ∧ fallow u (v / 8) = false ∧ unitFree u cls v = true
    let opened := fun c' => ∀ m ∈ listCmds u c' cls, m.st ≠ .queued
    let units := stallUnits u (c / 2)
    let frees := units.filter (unitFree u cls)
    let ordered := fun m : Cmd => squallOn u 3 (c / 2) = false ∧ last < 128 ∧
      (arbOf u (c / 2) = false → ∀ v, free v → (k + 127 - last) % 128 ≤ (v + 127 - last) % 128) ∧
      (arbOf u (c / 2) = true → ∀ v, free v → max (busyTill u cls k) m.arrive < max (busyTill u cls v) m.arrive ∨
        (max (busyTill u cls k) m.arrive = max (busyTill u cls v) m.arrive ∧ k ≤ v))
    let drawn := squallOn u 3 (c / 2) = true ∧ (∀ v, free v → Tab.getD 0 (128 * key + v) u.tiles.waits + 1 < units.length) ∧
      frees[lfsrNext u.lfsr % frees.length]? = some k
    (∀ m : Cmd, c < 16 → floodCtx u c = true → opened c → (c % 2 = 0 → opened (c + 1) ∧ listNext u (c + 1) cls = none) →
      Tab.find key u.tiles.claims ≠ some (u.now / 625, last) → listNext u c cls = some m → free k → (ordered m ∨ drawn) →
      Answers (.worklistClaim c k vector t) s fun s' =>
        s'.tiles.pieces = u.tiles.pieces ++
          [{ cmd := m.id, c := c, uid := m.uid, cls := cls, unit := k, piece := m.next, at_ := u.now + 15000, first := false }] ∧
        (Tab.getD (0, 127) key s'.tiles.claims).2 = k ∧
        s'.cmds = u.cmds.map (fun x => if x.id = m.id then { x with next := x.next + 1 } else x) ∧
        s'.mem = u.mem ∧ s'.ctxs = u.ctxs ∧ s'.log = u.log ∧ (ordered m → s'.regs = u.regs) ∧
        (drawn → s'.lfsr = lfsrNext u.lfsr ∧
          rget s' .sqlStat = rget (rbump u .sqlStat 31 0) .sqlStat)) ∧
    (∀ x : LooseAdd, (u.tiles.loose.filter fun y => y.c == c)[n]? = some x → looseReady u x = true → u.undisturbed →
      x.adds.Pairwise (fun a b => a.1 + 4 * a.2.length ≤ b.1 ∨ b.1 + 4 * b.2.length ≤ a.1) →
      Answers (.looseAdd c n t) s fun s' =>
        (∀ w ∈ x.adds, ∀ q v, w.2[q]? = some v → leNat (readMem s' (w.1 + 4 * q) 4) =
          f32bits (Fp.add (f32 (leNat (readMem u (w.1 + 4 * q) 4))) (f32 v)) % 2 ^ 32) ∧
        (∀ a, (∀ w ∈ x.adds, a < w.1 ∨ w.1 + 4 * w.2.length ≤ a) → readByte s' a = readByte u a) ∧
        s'.tiles.loose = u.tiles.loose.erase x ∧
        s'.cmds = u.cmds.map (fun y => if y.id = x.cmd then
          { y with left := y.left - 1, st := if y.left ≤ 1 then .finished else y.st, doneAt := u.now } else y) ∧
        (x.sheaf = lowestSheaf (trackerOf u (trackKey x)).done → s'.regs = u.regs) ∧
        (x.sheaf ≠ lowestSheaf (trackerOf u (trackKey x)).done → bf (rget u .mtxLoose (x.c / 2)) 31 0 < 2 ^ 32 - 1 → x.c < 16 →
          u.regsOk → bf (rget s' .mtxLoose (x.c / 2)) 31 0 = bf (rget u .mtxLoose (x.c / 2)) 31 0 + 1) ∧
        s'.ctxs = u.ctxs ∧ s'.pub = u.pub ∧ s'.log = u.log)

/-- A piece of a vector program (R331, R332, R336): memory changes only in the spans of its ST operations for the piece's rows,
a null command stores nothing, the command counts the piece, and where no operation uses the SFU the unit is busy in Neap
mode for 8 cycles of its die (log entry 48) and ⌈COLS / 64⌉ × P + E + 8 × s for each row. Of the operations, FMA, ADD, SUB, MUL, MAX, MIN and CONST work lane by
lane, and an LD of fp32 loads the chunk's words. -/
def Obligations.VectorPiecesRunTheirProgram : Prop :=
  (∀ (s : State) (c k piece t : Nat) (m : Cmd),
    let u := s.at t
    let d := vDesc m.desc
    let rows := (List.range (min 16 (d.rows - 16 * piece))).map (· + 16 * piece)
    let sts := (d.ops.filter (·.opc == 0x02)).flatMap fun o => rows.flatMap fun r => vRowSpans d o r
    let res := match placeOf d.out with | some p => pathRes (.cd (k / 8)) p | none => []
    let perRow := cdiv d.cols 64 * (d.ops.filter (!·.rowEnd)).length + (d.ops.filter (·.rowEnd)).length +
      8 * ((sumAccs d).length * cdiv d.cols 4096)
    Runs u 2 c k m → m.next = piece → vForm u (c / 2) m.len d m.desc = true → (floodCtx u c = false → vOnDie d m k rows = true) →
    gate u (c / 2) res = .go → u.undisturbed → Answers (.program c k piece t) s fun s' =>
      (∀ a, (∀ p ∈ sts, a < p.1 ∨ p.1 + p.2 ≤ a) → readByte s' a = readByte u a) ∧
      (m.null = true → s'.mem = u.mem) ∧
      (floodCtx u c = true → s'.cmds = pieceCounted u m 0 u.now) ∧
      (floodCtx u c = false → s'.cmds = pieceCounted u m 0 (busyTill s' 2 k + cdCycles u (k / 8) 16) ∧
        ((∀ o ∈ d.ops, o.opc ≠ 0x0D) → busyTill s' 2 k =
          u.now + cdCycles u (k / 8) ((if piece = 0 then descCycles k 2 m.addr else 0) + (8 + rows.length * perRow)))) ∧
      s'.ctxs = u.ctxs ∧ s'.pub = u.pub ∧ s'.log = u.log) ∧
  (∀ (d : VDesc) (null : Bool) (p : VAt) (r : VRun) (o : VOp) (l : Nat),
    let v := vStep d null p r o
    let a := (vrGet r.u o.a).getD l 0
    let b := (vrGet r.u o.b).getD l 0
    let x := (vrGet r.u o.c).getD l 0
    let out := (vrGet v.u o.dst).getD l 0
    l < 64 → (vrGet r.u o.a).length = 64 → (vrGet r.u o.b).length = 64 → (vrGet r.u o.c).length = 64 →
    (o.opc = 0x03 → out = f32bits (Fp.add (Fp.mul (f32 a) (f32 b)) (f32 x)) ∧ v.s = r.s) ∧
    (o.opc = 0x04 → out = f32bits (Fp.add (f32 a) (f32 b)) ∧ v.s = r.s) ∧
    (o.opc = 0x05 → out = f32bits (Fp.sub (f32 a) (f32 b)) ∧ v.s = r.s) ∧
    (o.opc = 0x06 → out = f32bits (Fp.mul (f32 a) (f32 b)) ∧ v.s = r.s) ∧
    (o.opc = 0x07 → out = f32bits (Fp.max (f32 a) (f32 b)) ∧ v.s = r.s) ∧
    (o.opc = 0x08 → out = f32bits (Fp.min (f32 a) (f32 b)) ∧ v.s = r.s) ∧
    (o.opc = 0x0B → out = f32bits (f32 o.imm) ∧ v.s = r.s) ∧
    (o.opc = 0x01 → o.fmt = 0x10 → o.rowScalar = false → l < p.present → p.present ≤ 64 → v.s = r.s ∧
      out = f32bits (f32 (leNat (readMem r.s (d.ins.getD o.stream 0 + p.row * d.strides.getD o.stream 0 + 256 * p.chunk + 4 * l) 4)))) ∧
    (3 ≤ o.opc → o.opc ≤ 8 → ∀ q, q ≠ o.dst → vrGet v.u q = vrGet r.u q))

/-! ### Winnow and the census -/

/-- ROUTE (R381, R385, R388, R389): a malformed descriptor is a protection violation; else the record of row r and rank i is written at
OUT + 16 × (r × K + i) and no byte outside the records changes, and a null command writes nothing. The choices of a token are at
most K different experts in descending σ, the lower expert first where two are equal, and none where a logit or a σ is a NaN. -/
def Obligations.WinnowWritesItsChoices : Prop :=
  (∀ (s : State) (c dd t : Nat) (m : Cmd) (b : List Byte),
    let u := s.at t
    let d := winDesc b
    let len := 16 * d.tokens * d.k
    c < 16 → dd < 2 → engineIdle u 3 dd = true → Offered u c 3 dd 1 64 m b →
    (winForm d b = false → exec (.route c dd t) s = .next (violation u .win m.addr)) ∧
    (winForm d b = true → (∀ p ∈ winReads d, mayUse u c p.1 p.2 = true) → mayWrite u c d.out len = true →
      gate u (c / 2) (ddRes dd [d.z, d.out]) = .go → u.undisturbed → Answers (.route c dd t) s fun s' =>
        (m.null = true → s'.mem = u.mem ∧ s'.regs = u.regs) ∧
        (∀ a, a < d.out ∨ d.out + len ≤ a → readByte s' a = readByte u a) ∧
        (m.null = false → ∀ r < d.tokens, ∀ i < d.k,
          readMem s' (d.out + 16 * (r * d.k + i)) 16 = ((winRow u c d r).1.drop (16 * i)).take 16) ∧
        (∃ done, done ≥ u.now + (96 + d.tokens * (cdiv d.e 64 + d.k + 4)) * 500 ∧
          s'.cmds = u.cmds.map (fun x => if x.id = m.id then { x with st := .finished, doneAt := done, left := 0 } else x)) ∧
        s'.ctxs = u.ctxs ∧ s'.pub = u.pub ∧ s'.log = u.log)) ∧
  (∀ (d : WinDesc) (z sg : List Fp),
    let ch := winChoices d z sg
    sg.length = d.e →
    ch.1.length ≤ d.k ∧ (∀ e ∈ ch.1, e < d.e) ∧
    ch.1.Pairwise (fun a b => a ≠ b ∧ Fp.lt (sg.getD a .nan) (sg.getD b .nan) = false ∧
      (Fp.lt (sg.getD b .nan) (sg.getD a .nan) = false → a < b)) ∧
    (ch.2 = true ↔ (∃ x ∈ z, x.isNan = true) ∨ ∃ x ∈ sg, x.isNan = true) ∧ (ch.2 = true → ch.1 = []))

/-- The census round (R395 to R399, R402 to R408, R634, R635): a census command reads, clears and sends its local census; what arrives
is checked, matched, kept for the next step or counted as stale; a group census that does not complete in time, or whose members
differ, ends the step; the lead's valid verdict in its window, or the default when the window closes, is applied and computes the
capacities; a peer applies the forwarded verdict once its group census is complete, and fails where it does not come. -/
def Obligations.CensusRoundsApplyOneVerdict : Prop :=
  ∀ (s : State) (c p t : Nat) (b : List Byte),
    let u := s.at t
    let x := ctxOf u c
    let me := chipOnBoard u
    let fails := fun (i : Instr) cause => exec i s = .next (stepFail u .win c cause)
    let w := dropUnit u p 0
    let mc := msgCtx b
    let body := b.drop 16
    let y := ctxOf u mc
    let stale := fun i => exec i s = .next (winStale w (mc / 2))
    (∀ (m : Cmd) (f : List Byte),
      let d := cenDesc f
      c < 16 → x.cen = none → Offered u c 11 0 1 64 m f →
      (cenForm u c d f = false → exec (.census c t) s = .next (violation u .win m.addr)) ∧
      (cenForm u c d f = true → mayUse u c d.loc (lsize d.e) = true → mayWrite u c d.loc (lsize d.e) = true →
        mayWrite u c d.group (16 * lsize d.e) = true → mayWrite u c d.out (64 + 4 * d.e) = true →
        (m.null = true → exec (.census c t) s = .next (finishCmd u m.id u.now)) ∧
        (m.null = false → u.undisturbed → reachesAll u d.mask →
          Tab.find (32 * c + me) u.bank = none →
          (∃ pos < 16, d.mask.testBit pos = true ∧ pos ≠ me ∧ Tab.find (32 * c + pos) u.bank = none) →
          Answers (.census c t) s fun s' =>
            (∃ r, (ctxOf s' c).cen = some r ∧ r.cmd = m.id ∧ r.start = u.now ∧ r.complete = none ∧
              ∃ l, Tab.find me r.got = some l ∧ fieldAt l 24 4 = crc32 ((readMem u d.loc (64 + 16 * d.e)).drop 64) % 2 ^ 32) ∧
            (∀ j < 16 * d.e, readByte s' (d.loc + 64 + j) = 0#8) ∧
            (∀ a, a < d.loc ∨ d.loc + 64 + 16 * d.e ≤ a → readByte s' a = readByte u a) ∧
            ∀ k, k ≠ c → ctxOf s' k = ctxOf u k))) ∧
    (∀ r : CensusRun, x.cen = some r → c < 16 →
      let d := cenDesc r.desc
      let out := mayWrite u c d.out (64 + 4 * d.e) = true
      let window := u.plan.windows.getD (c / 2) 0
      (r.complete = none → r.start + d.wait * 1000000 ≤ u.now → fails (.censusTimeout c t) 0x40) ∧
      (∀ o, r.complete = some o → d.lead ≠ me → noWindow x d = false → o + (window + 20) * 1000000 ≤ u.now →
        fails (.verdictLost c t) 0x41) ∧
      (∀ o, r.complete.isSome = true → d.lead = me → noWindow x d = false → windowOpen u c = some o →
        o + window * 1000000 ≤ u.now → reachesAll u d.mask → out → u.undisturbed → u.regsOk →
        Answers (.answerWindowExpire c t) s fun s' => VerdictApplied u s' c r false d.defCf [] 1)) ∧
    (∀ fn < 8, reachable u (.vf (Fin.ofNat 8 fn)) = true → (fnOf u fn).bme = true → 64 ≤ b.length → b.length ≤ 192 →
      let k := 2 * fn + fieldAt b 2 1 / 4 % 2
      let v := modFn u fn fun f => { f with verdictBuf := (b ++ (f.verdictBuf ++ zeros (256 - f.verdictBuf.length)).drop b.length).take 256 }
      let i := Instr.verdictDb fn b.length b t
      let tell := fun (z : State) result => postEvent z fn
        (eventBytes z 0x05 (k % 2) (fieldAt b 0 2) 0 result 0 (fieldAt b 2 1 % 4) 0 false (fieldAt b 8 4) 0) 0
      let known := (Tab.getD [] k u.opened).contains (fieldAt b 8 4)
      ((ctxOf u k).cen = none →
        (verdictValid 1024 b = false → exec i s = .next (tell (rbump v .winVerdict 15 8 fn) 2)) ∧
        (verdictValid 1024 b = true → known = true → exec i s = .next (tell (rbump v .winVerdict 31 16 fn) 3)) ∧
        (verdictValid 1024 b = true → known = false → exec i s = .next (tell (rbump v .winVerdict 7 0 fn) 4))) ∧
      (∀ r o, (ctxOf u k).cen = some r → (cenDesc r.desc).lead = me → windowOpen u k = some o → fieldAt b 8 4 = r.seq →
        verdictValid (cenDesc r.desc).e b = true →
        (u.now / 625 ≤ (o + u.plan.windows.getD fn 0 * 1000000) / 625 → sameAttempt k (ctxOf u k) b = true →
          reachesAll u (cenDesc r.desc).mask → mayWrite u k (cenDesc r.desc).out (64 + 4 * (cenDesc r.desc).e) = true →
          u.undisturbed → u.regsOk → Answers i s fun s' =>
            VerdictApplied u s' k r (fieldAt b 3 1 % 2 == 1) (fieldAt b 4 2) (verdictOf b 0).ovr 0) ∧
        ((o + u.plan.windows.getD fn 0 * 1000000) / 625 < u.now / 625 →
          exec i s = .next (tell (rbump v .winVerdict 31 16 fn) 3)))) ∧
    (MessageAt u p 2 b →
      let chip := fieldAt body 3 1 % 16
      let kept := isNextStep u mc body = true ∧ Tab.find (32 * mc + chip) u.bank = none
      (fieldAt body 24 4 ≠ crc32 (body.drop 64) → exec (.censusMsg p t) s = .next (mismatch w .win chip)) ∧
      (fieldAt body 24 4 = crc32 (body.drop 64) →
        (assigned u (mc / 2) = false ∨ inFence u = true → stale (.censusMsg p t)) ∧
        (assigned u (mc / 2) = true → inFence u = false →
          (y.cen = none → kept →
            exec (.censusMsg p t) s = .next { w with bank := Tab.put (32 * mc + chip) body u.bank }) ∧
          (y.cen = none → ¬kept → stale (.censusMsg p t)) ∧
          (∀ r, y.cen = some r → sameAttempt mc y body = true → r.complete = none → (cenDesc r.desc).mask.testBit chip = true →
            Tab.find chip r.got = none →
            ((∃ pos < 16, (cenDesc r.desc).mask.testBit pos = true ∧ pos ≠ chip ∧ Tab.find pos r.got = none) →
              exec (.censusMsg p t) s =
                .next (modCtx w mc fun z => { z with cen := some { r with got := Tab.put chip body r.got } })) ∧
            ((∀ pos < 16, (cenDesc r.desc).mask.testBit pos = true → pos ≠ chip → (Tab.find pos r.got).isSome = true) →
              (∃ g ∈ r.got, fieldAt g.2 4 1 ≠ fieldAt body 4 1 ∨ fieldAt g.2 6 2 ≠ fieldAt body 6 2 ∨
                fieldAt g.2 2 1 / 8 % 4 ≠ fieldAt body 2 1 / 8 % 4) →
              exec (.censusMsg p t) s = .next (stepFail
                (modCtx w mc fun z => { z with cen := some { r with got := Tab.put chip body r.got } }) .win mc 0x42)))))) ∧
    (MessageAt u p 3 b →
      let comp := ∀ i < 16, body.getD (16 + i) 0#8 = ~~~ (body.getD i 0#8)
      let kept := isNextStep u mc body = true ∧ Tab.find (32 * mc + 16) u.bank = none
      (¬comp → exec (.verdictMsg p t) s = .next (mismatch w .win (mc / 2))) ∧
      (comp → (assigned u (mc / 2) = false ∨ inFence u = true) → stale (.verdictMsg p t)) ∧
      (comp → assigned u (mc / 2) = true → inFence u = false →
        (y.cen = none → kept → exec (.verdictMsg p t) s = .next { w with bank := Tab.put (32 * mc + 16) body u.bank }) ∧
        (y.cen = none → ¬kept → stale (.verdictMsg p t)) ∧
        (∀ r, y.cen = some r → sameAttempt mc y body = true → (cenDesc r.desc).lead ≠ me → noWindow y (cenDesc r.desc) = false →
          r.fwd = none →
          (r.complete = none →
            exec (.verdictMsg p t) s = .next (modCtx w mc fun z => { z with cen := some { r with fwd := some body } })) ∧
          (r.complete.isSome = true → mayWrite u mc (cenDesc r.desc).out (64 + 4 * (cenDesc r.desc).e) = true → u.undisturbed →
            u.regsOk → Answers (.verdictMsg p t) s fun s' =>
              VerdictApplied u s' mc r (fieldAt body 3 1 % 2 == 1) (fieldAt body 4 2) (verdictOf body 0).ovr (fieldAt body 32 1)))))

/-! ### Dispatch and combine -/

/-- HISTOGRAM, SCATTER, EXCHANGE, RETURN and Gleaner's COMBINE (R414, R428 to R436, R440, R441, R445, R451, R452): each takes the plan of
its descriptor, and a null command changes no byte. HISTOGRAM adds the choices of each expert and rank to the local census; SCATTER
reserves the return slots and writes the records that are kept, in their places; EXCHANGE and RETURN send their records in
order to the holder or the origin; COMBINE writes each token's sum. The causes are CENSUS_OVER, RECV_OVER, NO_ROUTE and
RETURN_MISSING. -/
def Obligations.DispatchEnginesFollowTheirPlan : Prop :=
  ∀ (s : State) (c dd t op : Nat) (m : Cmd) (b : List Byte) (p : DPlan),
    let u := s.at t
    let d := dispDesc b
    let me := chipOnBoard u
    let upto := d.first + d.count
    let i := roundInfo u p
    let x := ctxOf u c
    let done := fun (s' : State) => ∃ at_, u.now ≤ at_ ∧ s'.cmds = finished u m.id at_
    let others := fun (s' : State) => ∀ k, k ≠ c → ctxOf s' k = ctxOf u k
    let cs := choicesAt u p 0 upto
    let choices := cs.drop (d.first * p.k)
    c < 16 → dd < 2 → PlanAt u c d.plan p → u.undisturbed →
    (engineIdle u 4 dd = true → Offered u c 4 dd 1 64 m b → dispForm false true d b = true → upto ≤ p.tokens →
      let old := readMem u d.loc (64 + 16 * p.e)
      mayUse u c (p.choices + 16 * d.first * p.k) (16 * d.count * p.k) = true → mayUse u c d.loc (64 + 16 * p.e) = true →
      mayWrite u c d.loc (64 + 16 * p.e) = true → (∀ ch ∈ choicesAt u p d.first d.count, ch.ok p = true) →
      (32768 < fieldAt old 8 4 + d.count →
        exec (.histogram c dd t) s = .next (stepFail (ddErr u .thrErr dd c 0x43) .thr c 0x43)) ∧
      (fieldAt old 8 4 + d.count ≤ 32768 → gate u (c / 2) (ddRes dd [p.choices, d.loc]) = .go →
        Answers (.histogram c dd t) s fun s' =>
          done s' ∧ others s' ∧ s'.regs = u.regs ∧
          (∀ a, a < d.loc ∨ d.loc + 64 + 16 * p.e ≤ a → readByte s' a = readByte u a) ∧ (m.null = true → s'.mem = u.mem) ∧
          (m.null = false → leNat (readMem s' (d.loc + 8) 4) = fieldAt old 8 4 + d.count ∧
            ∀ e < p.e, ∀ r < p.k, leNat (readMem s' (d.loc + 64 + 16 * e + 2 * r) 2) = (fieldAt old (64 + 16 * e + 2 * r) 2 +
              ((choicesAt u p d.first d.count).filter fun ch => !ch.absent && ch.expert == e && ch.rank == r).length) % 65536))) ∧
    (engineIdle u 4 dd = true → Offered u c 4 dd 2 64 m b → dispForm false false d b = true → upto ≤ p.tokens →
      (∀ q ∈ [(p.choices, 16 * upto * p.k)] ++ roundSpans p ++
        (List.range d.count).map (fun k => (p.x + (d.first + k) * p.xStride, p.pay)), mayUse u c q.1 q.2 = true) →
      mayWrite u c (p.retHdr + 32 * d.first * p.k) (32 * d.count * p.k) = true → (∀ ch ∈ cs, ch.ok p = true) → i.mapOk me = true →
      ((∃ e < p.e, p.recvRows < i.rows e) →
        exec (.scatter c dd t) s = .next (stepFail (ddErr u .thrErr dd c 0x48) .thr c 0x48)) ∧
      ((∀ e < p.e, i.rows e ≤ p.recvRows) → (∀ q ∈ i.chips, i.sentTo me q ≤ p.sendRows) →
        gate u (c / 2) (ddRes dd [p.choices, p.x, p.retHdr, p.send]) = .go →
        let before := fun tok (ch : Choice) =>
          ((cs.take (tok * p.k)).filter fun y => !y.absent && y.expert == ch.expert && y.rank == ch.rank).length
        let ws := (List.range d.count).flatMap fun k => ((choices.drop (k * p.k)).take p.k).flatMap fun ch =>
          let o := scatterOne u c i (d.first + k) (before (d.first + k) ch) ch
          o.1 ++ o.2.toList
        (m.null = true → Answers (.scatter c dd t) s fun s' => s'.mem = u.mem ∧ s'.ctxs = u.ctxs ∧ done s') ∧
        (m.null = false → cleanWrites u c ws ((List.range d.count).map fun k => (p.x + (d.first + k) * p.xStride, p.pay)) →
          Answers (.scatter c dd t) s fun s' =>
            wroteOnly u s' ws ∧ done s' ∧ others s' ∧
            (ctxOf s' c).disp.scat = some (roundOf u c, readMem u d.plan 256) ∧ s'.pub = u.pub ∧ s'.log = u.log))) ∧
    (fryIdle u c dd = true → Offered u c 5 dd op 64 m b → i.mapOk me = true → (∀ q ∈ roundSpans p, mayUse u c q.1 q.2 = true) →
      mayUse u c p.recv (32 * p.experts) = true →
      (op = 1 → dispForm true false d b = true → mayWrite u c p.counts (4 * p.experts) = true →
        let dests := maskChips (d.dest &&& p.mask)
        let recs := fun q => (List.range (i.sentTo me q)).map fun ix => readMem u (p.send + q * p.sendStride + ix * p.recLen) p.recLen
        (∀ q ∈ dests, mayUse u c (p.send + q * p.sendStride) (i.sentTo me q * p.recLen) = true) →
        ((∃ q ∈ dests, q ≠ me ∧ i.sentTo me q ≠ 0 ∧ stallPorts u (c / 2) q = []) →
          exec (.exchange c dd t) s = .next (stepFail (ddErr u .fryErr dd c 0x4A) .fry c 0x4A)) ∧
        ((∀ q ∈ dests, q = me ∨ stallPorts u (c / 2) q ≠ []) →
          (m.null = true → exec (.exchange c dd t) s = .next (finishCmd u m.id u.now)) ∧
          (∀ q pt, m.null = false → gate u (c / 2) (ddRes dd [p.send, p.recv]) = .go → x.st = .running → p.experts = 0 →
            (∀ ex, x.disp.exch = some ex → ex.round ≠ roundOf u c) →
            dests = [q] → q ≠ me → stallPorts u (c / 2) q = [pt] → (∀ r ∈ recs q, tagSound r = true) →
            Answers (.exchange c dd t) s fun s' =>
              (∃ ex, (ctxOf s' c).disp.exch = some ex ∧ ex.round = roundOf u c) ∧
              (Tab.getD (TxChan.clear 0) 2 (portOf s' pt).tx).units =
                (Tab.getD (TxChan.clear 0) 2 (portOf u pt).tx).units ++ (recs q).map (recUnit u c) ∧
              s'.mem = u.mem ∧ others s' ∧ s'.pub = u.pub ∧ s'.log = u.log))) ∧
      (op = 2 → dispForm false false d b = true → upto ≤ p.experts →
        let recs := ((List.range d.count).map (· + d.first)).flatMap fun le => returnsOf u i le
        (∀ le < p.experts, ∀ e, i.expertAt me le = some e →
          (i.rows e ≠ 0 → mayUse u c (recvEntry u p le).1 (32 * i.rows e) = true) ∧
          (i.valid e ≠ 0 → mayUse u c (recvEntry u p le).2.2 (p.pay * i.valid e) = true)) →
        (∀ r ∈ recs, r.1 < 16) →
        ((∃ r ∈ recs, r.1 ≠ me ∧ stallPorts u (c / 2) r.1 = []) →
          exec (.returnC c dd t) s = .next (stepFail (ddErr u .fryErr dd c 0x4A) .fry c 0x4A)) ∧
        ((∀ r ∈ recs, r.1 = me ∨ stallPorts u (c / 2) r.1 ≠ []) →
          (m.null = true → exec (.returnC c dd t) s = .next (finishCmd u m.id u.now)) ∧
          (∀ q pt, m.null = false → gate u (c / 2) (ddRes dd [p.recv, p.retHdr]) = .go → x.st = .running → q ≠ me →
            (∀ r ∈ recs, r.1 = q ∧ tagSound r.2.2 = true) → stallPorts u (c / 2) q = [pt] →
            Answers (.returnC c dd t) s fun s' =>
              (Tab.getD (TxChan.clear 0) 1 (portOf s' pt).tx).units =
                (Tab.getD (TxChan.clear 0) 1 (portOf u pt).tx).units ++ recs.map (fun r => recUnit u c r.2.2) ∧
              s'.mem = u.mem ∧ others s' ∧ s'.pub = u.pub ∧ s'.regs = u.regs ∧ s'.log = u.log)))) ∧
    (engineIdle u 6 dd = true → Offered u c 6 dd 1 64 m b → dispForm false false d b = true → upto ≤ p.tokens →
      let toks := (List.range d.count).map (· + d.first)
      let n := p.elems
      let rd := [(p.retHdr + 32 * d.first * p.k, 32 * d.count * p.k)] ++
        (List.range p.shared).flatMap (fun e => toks.map fun k =>
          (p.sharedOut + e * p.sharedStride + k * p.outStride, fmtLen p.sharedFmt n)) ++
        (if p.residFmt = 0 then [] else toks.map fun k => (p.resid + k * p.outStride, fmtLen p.residFmt n)) ++
        toks.flatMap fun k => (tokenSlots u p k).zipIdx.filterMap fun q =>
          if (recHead q.1).state = 1 then some (p.retPay + p.pay * (k * p.k + q.2), p.pay) else none
      let ws := toks.map fun k => (p.glOut + k * p.outStride, (convertRow p.outFmt false (tokenSum u p k)).1)
      (∀ q ∈ rd, mayUse u c q.1 q.2 = true) → (∀ k ∈ toks, mayWrite u c (p.glOut + k * p.outStride) (fmtLen p.outFmt n) = true) →
      gate u (c / 2) (ddRes dd [p.retHdr, p.retPay, p.glOut]) = .go →
      (m.null = true → Answers (.gleanerCombine c dd t) s fun s' => s'.mem = u.mem ∧ s'.regs = u.regs ∧ s'.ctxs = u.ctxs ∧ done s') ∧
      (m.null = false → d.count ≠ 0 → (∀ h ∈ tokenSlots u p d.first, tagSound h = true) →
        (∃ h ∈ tokenSlots u p d.first, (recHead h).state = 0) →
        exec (.gleanerCombine c dd t) s = .next (stepFail (ddErr u .glnErr dd c 0x4C) .gln c 0x4C)) ∧
      (m.null = false → (∀ k ∈ toks, ∀ h ∈ tokenSlots u p k, tagSound h = true ∧ (recHead h).state ≠ 0) → cleanWrites u c ws rd →
        Answers (.gleanerCombine c dd t) s fun s' => wroteOnly u s' ws ∧ s'.ctxs = u.ctxs ∧ s'.pub = u.pub ∧ s'.log = u.log ∧ done s'))

/-- What arrives for an attempt (R442 to R449, R523 to R525, R528, R529, R562, R788): a record is checked, claimed, placed at its row or in its
slot, or counted as stale or as a duplicate, or it is a conflict; settling keeps the lowest tags; PLACED reports are taken and sent; a
kill notice acts on the attempt it names or waits for it; a LANDED report counts one part of its copy; a WRITE unit writes its bytes and
a READ_REQ is answered on its port; a held unit is delivered when its delay is over. -/
def Obligations.ArrivalsActOnTheirAttempt : Prop :=
  (∀ (s : State) (p t : Nat) (x : RxUnit),
    let u := s.at t
    let dd := p % 4 / 2
    let b := x.bytes
    let c := recCtx b
    let n := c / 2
    let y := ctxOf u c
    let h := recHead b
    let sound := recSound b = true ∧ tagSound b = true
    let quiet := fun dir chip => chip = chipOnBoard u ∨
      Tab.getD 0 (hopKey dir h.round chip) y.disp.landed + 1 < Tab.getD 0 (hopKey dir h.round chip) y.disp.told + 64
    let named := y.st = .running ∧ y.req.step = bitsOf h.tag 63 52 ∧ y.attempt % 4 = h.attempt
    let acts := fun vc (i : Instr) => freeRec u p vc = some x →
      let w := recTaken u p vc x
      (¬sound → exec i s = .next (mismatch w .fry dd)) ∧
      (sound → assigned u n = false → exec i s = .next (rbump w .fryDrop 47 32 n 1 dd)) ∧
      (sound → assigned u n = true → (inFence u = true ∨ ¬named) → exec i s = .next (rbump w .fryDrop 31 0 n 1 dd))
    p < 32 → acts 2 (.dispatchRecordArrival p t) ∧ acts 1 (.returnArrival p t) ∧
    (∀ ex : Exch, freeRec u p 2 = some x → sound → classifyRec u b = .place → y.disp.exch = some ex → ownerOfPort u p = n →
      let w := recTaken u p 2 x
      let pl := dPlan ex.plan
      let i := roundInfo u pl
      let le := i.localIx h.expert
      let e := recvEntry u pl le
      let ws := [(e.1 + 32 * h.pos, b.take 32), (e.2.1 + pl.pay * h.pos, b.drop 32)]
      let wrong := h.holder ≠ chipOnBoard u ∨ pl.e ≤ h.expert ∨ i.holder h.expert ≠ chipOnBoard u ∨ i.rows h.expert ≤ h.pos ∨
        h.state ≠ 1 ∨ h.len ≠ pl.len ∨ b.length ≠ pl.recLen
      let due_ := fun l => match i.expertAt (chipOnBoard u) l with | some f => i.rows f | none => 0
      let got := fun l => (ex.rows.filter fun r => r.1 / 65536 == l).length + if l = le then 1 else 0
      gate u n (ddRes dd [pl.recv]) = .go →
      (wrong → exec (.dispatchRecordArrival p t) s = .next (placeConflict w c dd)) ∧
      (∀ tag, ¬wrong → Tab.find (65536 * le + h.pos) ex.rows = some tag →
        (tag = h.tag → exec (.dispatchRecordArrival p t) s = .next (rbump w .fryDrop 63 48 n 1 dd)) ∧
        (tag ≠ h.tag → exec (.dispatchRecordArrival p t) s = .next (placeConflict w c dd))) ∧
      (¬wrong → Tab.find (65536 * le + h.pos) ex.rows = none → u.undisturbed →
        cleanWrites u c ws (roundSpans pl ++ [(pl.recv, 32 * pl.experts)]) → pl.experts ≤ 64 → le < pl.experts →
        (∀ l < pl.experts, l ∉ ex.settled → got l ≠ due_ l) → quiet 0 h.origin →
        Answers (.dispatchRecordArrival p t) s fun s' =>
          wroteOnly u s' ws ∧ s'.pub = u.pub ∧ s'.bufs = u.bufs ∧ (∀ k, k ≠ c → ctxOf s' k = ctxOf u k) ∧
          ∃ e', (ctxOf s' c).disp.exch = some e' ∧ Tab.find (65536 * le + h.pos) e'.rows = some h.tag)) ∧
    (∀ (rnd : Nat) (pb : List Byte), freeRec u p 1 = some x → sound → classifyRec u b = .answer → y.disp.scat = some (rnd, pb) →
      ownerOfPort u p = n →
      let w := recTaken u p 1 x
      let pl := dPlan pb
      let tok := bitsOf h.tag 45 25
      let rank := bitsOf h.tag 48 46
      let j := (tok - pl.base) * pl.k + rank
      let slot := readMem u (pl.retHdr + 32 * j) 32
      let sh := recHead slot
      let form := (h.state = 1 ∧ h.len = pl.len ∧ b.length = pl.recLen) ∨ (h.state = 2 ∧ h.len = 0 ∧ b.length = 32)
      let ws := [(pl.retHdr + 32 * j, b.take 32), (pl.retPay + pl.pay * j, b.drop 32)]
      let own := pl.base ≤ tok ∧ tok < pl.base + pl.tokens ∧ rank < pl.k
      gate u n (ddRes dd [pl.retHdr]) = .go →
      (¬own → exec (.returnArrival p t) s = .next (placeConflict w c dd)) ∧
      (own → tagSound slot = false → exec (.returnArrival p t) s = .next (mismatch w .fry (pl.retHdr + 32 * j))) ∧
      (own → tagSound slot = true → sh.tag = h.tag → sh.round = h.round → (sh.state = 1 ∨ sh.state = 2) →
        exec (.returnArrival p t) s = .next (rbump w .fryDrop 63 48 n 1 dd)) ∧
      (own → tagSound slot = true → (sh.tag ≠ h.tag ∨ sh.round ≠ h.round) → exec (.returnArrival p t) s = .next (placeConflict w c dd)) ∧
      (own → tagSound slot = true → sh.tag = h.tag → sh.round = h.round → sh.state = 0 → form → u.undisturbed →
        (∀ v ∈ ws, v.2 ≠ [] → mayWrite u c v.1 v.2.length = true) → ws.Pairwise apartWrites →
        quiet 1 h.holder → Answers (.returnArrival p t) s fun s' =>
          (∀ v ∈ ws, readMem s' v.1 v.2.length = v.2) ∧
          (∀ a, (∀ v ∈ ws, a < v.1 ∨ v.1 + v.2.length ≤ a) → readByte s' a = readByte u a) ∧ s'.pub = u.pub ∧ s'.bufs = u.bufs ∧
          (∀ k, k ≠ c → ctxOf s' k = ctxOf u k) ∧ (ctxOf s' c).disp.pendF = y.disp.pendF + 1))) ∧
  (∀ (room : Nat) (rows : List (List Byte × List Byte)),
    let tag := fun (r : List Byte × List Byte) => fieldAt r.1 0 8 % 2 ^ 49
    let out := settleRows room rows
    (rows.map tag).Nodup → (∀ r ∈ rows, tagSound r.1 = true ∧ r.1.length = 32) →
    out.length = rows.length ∧ (out.take room).Sublist rows ∧
    ∀ a ∈ out.take room, ∀ b ∈ out.drop room, tag a < tag b ∧ (recHead b.1).state = 2) ∧
  (∀ (s : State) (p c t : Nat) (m : List Byte),
    let u := s.at t
    let w := dropUnit u p 0
    let mc := msgCtx m
    let body := m.drop 16
    let x := ctxOf u mc
    let names := x.req.step = fieldAt body 0 2 % 4096 ∧ x.attempt % 4 = fieldAt body 2 1 % 4
    (MessageAt u p 5 m → ∀ chip, peerPos u p = some chip →
      (¬(x.st = .running ∧ names) → exec (.placedMsg p t) s = .next w) ∧
      (x.st = .running → names → Answers (.placedMsg p t) s fun s' =>
        let key := hopKey (fieldAt body 2 1 / 4 % 2) (fieldAt body 3 1) chip
        Tab.getD 0 key (ctxOf s' mc).disp.placed = max (fieldAt body 4 4) (Tab.getD 0 key x.disp.placed) ∧
        (∀ k, k ≠ key → Tab.getD 0 k (ctxOf s' mc).disp.placed = Tab.getD 0 k x.disp.placed) ∧
        (∀ k, k ≠ mc → ctxOf s' k = ctxOf u k) ∧ s'.mem = u.mem)) ∧
    (c < 16 → (ctxOf u c).st = .running → placedDue u c ≠ [] → (∀ k ∈ placedDue u c, activeTo u (k % 16) ≠ []) →
      Answers (.placedTimer c t) s fun s' =>
        (∀ k ∈ placedDue u c, Tab.getD 0 k (ctxOf s' c).disp.told = Tab.getD 0 k (ctxOf u c).disp.landed) ∧
        (ctxOf s' c).disp.landed = (ctxOf u c).disp.landed ∧ (∀ k, k ≠ c → ctxOf s' k = ctxOf u k) ∧
        s'.mem = u.mem ∧ s'.regs = u.regs ∧ s'.cmds = u.cmds) ∧
    (MessageAt u p 4 m →
      (x.st = .running → names →
        (fieldAt body 2 1 / 4 % 4 = 0 → exec (.killMsg p t) s = .next (endByNotice w mc (fieldAt body 3 1))) ∧
        (fieldAt body 2 1 / 4 % 4 = 2 → exec (.killMsg p t) s = .next (killFor w mc (noticeNext w mc false))) ∧
        (fieldAt body 2 1 / 4 % 4 = 1 → hasFallback u (mc / 2) = true →
          exec (.killMsg p t) s = .next (killFor w mc (noticeNext w mc true))) ∧
        (fieldAt body 2 1 / 4 % 4 = 1 → hasFallback u (mc / 2) = false → exec (.killMsg p t) s = .next (endByNotice w mc 0x05))) ∧
      (x.st ≠ .running → x.st ≠ .held → x.st ≠ .killing →
        (classifyAdd u mc (fieldAt body 0 2 % 4096) (fieldAt body 2 1 % 4) = .park → Tab.find mc u.heldKill = none →
          exec (.killMsg p t) s = .next { w with heldKill := Tab.put mc body u.heldKill }) ∧
        (classifyAdd u mc (fieldAt body 0 2 % 4096) (fieldAt body 2 1 % 4) ≠ .park → exec (.killMsg p t) s = .next w))) ∧
    (MessageAt u p 6 m →
      (¬names → exec (.landedMsg p t) s = .next w) ∧
      (∀ y, names → copyCmd u mc (fieldAt body 4 4) = some y → Answers (.landedMsg p t) s fun s' =>
        s'.cmds = u.cmds.map (fun z => if z.id = y.id then
          { z with left := z.left - 1, st := if z.left ≤ 1 then .finished else z.st, doneAt := u.now } else z) ∧
        s'.mem = u.mem ∧ s'.ctxs = u.ctxs))) ∧
  (∀ (s : State) (p vc t : Nat) (b : List Byte) (x : RxUnit) (pre post : List RxUnit),
    let u := s.at t
    let w := dropUnit u p 3
    let c := unitCtx b
    let a := fieldAt b 8 8
    let len := fieldAt b 16 4
    let crcOk := fieldAt b 30 2 = crc16 (slice b 0 30 ++ b.drop 32)
    let reach := ownerOfPort u p = c / 2 ∧ if fieldAt b 0 1 = 1 then mayWrite u c a len = true else mayRead u c a len = true
    let checks := fun (i : Instr) (w : State) =>
      (¬crcOk → exec i s = .next (mismatch w .dkl a)) ∧
      (crcOk → unitForm b = true → unitRuns u b = false → exec i s = .next (rbump w .dklErr 7 0 (p / 4) 1 (p % 4))) ∧
      (crcOk → unitForm b = true → unitRuns u b = true → ¬reach → exec i s = .next (violation w .dkl a))
    p < 32 →
    (headUnit u p 3 = some b → fieldAt b 0 1 = 1 → b.length = 32 + len →
      checks (.writeUnit p t) w ∧
      (crcOk → unitForm b = true → unitRuns u b = true → reach → gate u (c / 2) (ddRes (p % 4 / 2) [a]) = .go → u.undisturbed →
        (∀ pos, peerPos u p = some pos → activeTo u pos ≠ []) → Answers (.writeUnit p t) s fun s' =>
          readMem s' a len = b.drop 32 ∧ (∀ k, k < a ∨ a + len ≤ k → readByte s' k = readByte u k) ∧ s'.pub = u.pub)) ∧
    ((portOf u p).reads = [] → headUnit u p 3 = some b → fieldAt b 0 1 = 2 →
      checks (.readReq p t) w ∧
      (crcOk → unitForm b = true → unitRuns u b = true → reach → gate u (c / 2) (ddRes (p % 4 / 2) [a]) = .go → u.upsets = [] →
        exec (.readReq p t) s = .next (sendUnit w p 3
          { bytes := vc3Unit 1 (c / 2) (c % 2) (ctxOf u c).attempt true (ctxOf u c).req.step (fieldAt b 4 4) (fieldAt b 20 8) len 0
              (readMem u a len)
            started := false, safety := false, reply := true, c := c, uid := (ctxOf u c).uid, cmd := 0 }))) ∧
    (vc < 4 → (Tab.getD RxChan.clear vc (portOf u p).rx).units = pre ++ x :: post → (∀ z ∈ pre, z.due = none) →
      (∀ d, x.due = some d → d ≤ u.now →
        Answers (.delayedDelivery p vc t) s fun s' =>
          (∃ l, (Tab.getD RxChan.clear vc (portOf s' p).rx).units = pre ++ { x with due := none } :: l ∧ l.length = post.length) ∧
          (∀ q, q ≠ p → portOf s' q = portOf u q) ∧ s'.mem = u.mem ∧ s'.ctxs = u.ctxs ∧ s'.regs = u.regs)))

/-! ### Media -/

/-- PROCESS, CONFIGURE and ENCODE (R588, R594, R598 to R604): a malformed descriptor is a protection violation. Resample writes the rows of
its picture and nothing else, and a null command nothing. CONFIGURE stages its slot with a fresh stream table. ENCODE fails where the slot
holds no configured table, the group is out of order, the other context stages the slot or the work store is too small; else it
writes its header, its OBUs and zeros up to MAX_TG_BYTES at its output. What the AV1 standard itself decides is the open function
Config.av1. -/
def Obligations.MediaEnginesWriteTheirOutput : Prop :=
  ∀ (s : State) (c e t : Nat) (m : Cmd) (b : List Byte),
    let u := s.at t
    let n := c / 2
    let x := ctxOf u c
    c < 16 → m.len = 128 → u.undisturbed →
    (let d := rsDesc b
     e < 2 → engineIdle u 7 e = true → Offered u c 7 e 1 128 m b →
      (rsForm d b = false → exec (.process c e t) s = .next (violation u .med m.addr)) ∧
      (rsForm d b = true → (∀ p ∈ rsReads d, mayUse u c p.1 p.2 = true) → (∀ p ∈ rsWrites d, mayWrite u c p.1 p.2 = true) →
        gate u n (mdRes e [d.inp, d.outY]) = .go → Answers (.process c e t) s fun s' =>
          (m.null = true → s'.mem = u.mem) ∧ (m.null = false → (rsRows u d).Pairwise apartWrites → wroteOnly u s' (rsRows u d)) ∧
          (∃ at_, u.now + mdCycles u e (rsCycles u e d) ≤ at_ ∧ s'.cmds = finished u m.id at_) ∧
          s'.ctxs = u.ctxs ∧ s'.pub = u.pub ∧ s'.log = u.log)) ∧
    (let d := encDesc b
     let p := pubOf u n d.slot
     let side := if x.staged.contains d.slot = true then !p.side else p.side
     e < 8 → encIdle u c e = true → p.sound = true →
      (Offered u c 8 e 1 128 m b →
        (encForm d b = false → exec (.configure c e t) s = .next (violation u .med m.addr)) ∧
        (encForm d b = true →
          (slotBusy u c d.slot = true → exec (.configure c e t) s = .next (encFail u e c 0x5A)) ∧
          (slotBusy u c d.slot = false → m.null = true → exec (.configure c e t) s = .next (finishCmd u m.id u.now)) ∧
          (∀ w key, slotBusy u c d.slot = false → m.null = false → x.st = .running → streamStaged u c d.slot = some (w, key) →
            Answers (.configure c e t) s fun s' =>
              readMem s' (keySpan w key).1 4096 = [1#8, 5#8] ++ zeros 14 ++ slice b 64 48 ++ zeros 4032 ∧
              (∀ k, k < (keySpan w key).1 ∨ (keySpan w key).1 + 4096 ≤ k → readByte s' k = readByte u k) ∧
              (ctxOf s' c).staged = (if x.staged.contains d.slot = true then x.staged else x.staged ++ [d.slot]) ∧
              (pubOf s' n d.slot).side = p.side ∧ (∀ k, k ≠ c → ctxOf s' k = ctxOf u k) ∧ s'.cmds = finished u m.id u.now))) ∧
      (Offered u c 8 e 2 128 m b → encForm d b = true → (d.pair = true → e % 2 = 0 ∧
          bitsOf u.plan.encOwner (4 * (e + 1) + 3) (4 * (e + 1)) = n) → (p.invalid = true → x.staged.contains d.slot = true) →
        (p.handle side = 0 ∨ p.stream side = false → exec (.encode c e t) s = .next (encFail u e c 0x58)) ∧
        (p.handle side ≠ 0 → p.stream side = true →
          let tab := readMem u (keySpan u (keyOf (p.handle side))).1 4096
          let cfg := encCfg (slice tab 16 48)
          let f := frameOf tab d cfg
          let going := fieldAt tab 1 1 / 2 % 2 = 1
          let inOrder := if going then d.rowFirst = fieldAt tab 2 2 ∨ (d.rowFirst = 0 ∧ d.forceKey = true) else d.rowFirst = 0
          let configured := fieldAt tab 0 1 = 1 ∧ fieldAt tab 1 1 % 2 = 1
          let outLen := 64 + cfg.maxTg
          let outA := handleAddr u d.out + d.outOff
          let srcs := (chunks 8 (readMem u d.src (8 * d.rowCount))).map leNat
          let hintLen := 4 * hintBlocks cfg d.rowCount
          let refs := (f.refs cfg).flatMap fun r => (r.rows.drop (refWindow cfg d.rowFirst d.rowCount).1).take
            (refWindow cfg d.rowFirst d.rowCount).2
          let prev := if d.rowFirst = 0 then [] else [(f.entries.getD f.cur ⟨0, 0, 0, []⟩).rows.getD (d.rowFirst - 1) 0]
          let ins := (srcs.map fun a => readMem u a cfg.rowBytes) ++ [if d.hint = 0 then [] else readMem u d.hint hintLen] ++
            (refs ++ prev).map fun h => readMem u (handleAddr u h) cfg.rowBytes
          let part := Config.av1 (b.take 128) tab ins
          let obu := (part 0).take cfg.maxTg
          let fit := fun (y : List Byte) => (y ++ zeros (cfg.rowBytes - y.length)).take cfg.rowBytes
          let rows := (if d.rowFirst = 0 then [] else [(d.rowFirst - 1, fit (part 2000))]) ++
            (List.range d.rowCount).map fun k => (d.rowFirst + k, fit (part (3 + k)))
          let last := d.rowFirst + d.rowCount == cfg.sbRows
          let baseQ := if cfg.rcMode = 0 then cfg.baseQ else fieldAt (part 2) 0 1
          let fails := fun cause => exec (.encode c e t) s = .next (encFail u e c cause)
          (¬configured → fails 0x58) ∧ (configured → ¬inOrder → fails 0x59) ∧
          (configured → inOrder → slotBusy u c d.slot = true → fails 0x5A) ∧
          (configured → inOrder → slotBusy u c d.slot = false → 33554432 < encDemand cfg d → fails 0x5B) ∧
          (configured → inOrder → slotBusy u c d.slot = false → encDemand cfg d ≤ 33554432 →
            cfg.wholeTiles d.rowFirst d.rowCount = true → (d.pair = true → cfg.colsLog2 ≠ 0) →
            (d.patch_ = 0 ∨ inOwnTile u n d.patch_ 4 = true ∨ inHeldBuf u x.uid d.patch_ 4 = true) →
            handleFits u n d.out d.outOff outLen → isHbm outA = true → mayWrite u c outA outLen = true →
            mayUse u c d.src (8 * d.rowCount) = true → (∀ a ∈ srcs, mayUse u c a cfg.rowBytes = true) →
            (d.hint ≠ 0 → mayUse u c d.hint hintLen = true) → (∀ h ∈ refs ++ prev, handleFits u n h 0 cfg.rowBytes) →
            gate u n (mdRes (e / 4) (outA :: srcs)) = .go →
            (m.null = true → Answers (.encode c e t) s fun s' =>
              s'.mem = u.mem ∧ s'.ctxs = u.ctxs ∧ s'.pub = u.pub ∧ ∃ at_, u.now ≤ at_ ∧ s'.cmds = finished u m.id at_) ∧
            (∀ w key v hs, m.null = false → x.st = .running → streamStaged u c d.slot = some (w, key) →
              allocRows c (16 * n + 8) (classFor cfg.rowBytes) rows w [] = some (v, hs) → mayWrite v c outA outLen = true →
              (d.patch_ ≠ 0 → mayWrite v c d.patch_ 4 = true ∧ (d.patch_ + 4 ≤ outA ∨ outA + outLen ≤ d.patch_)) →
              Answers (.encode c e t) s fun s' =>
                readMem s' outA outLen = encHeader f d obu.length baseQ last (fieldAt (part 2) 1 1 % 2 == 1) ++ obu ++
                  zeros (cfg.maxTg - obu.length) ∧
                (d.patch_ ≠ 0 → leNat (readMem s' d.patch_ 4) = (64 + 64 * ((obu.length + 63) / 64)) % 2 ^ 32) ∧
                (ctxOf s' c).staged.contains d.slot = true ∧ (pubOf s' n d.slot).side = p.side ∧
                (∀ k, k ≠ c → ctxOf s' k = ctxOf u k) ∧ ∃ at_, u.now ≤ at_ ∧ s'.cmds = finished u m.id at_)))))

/-! ### The host side and the image -/

/-- The host side (R623, R624, R626, R629, R639 to R643, R648, R649, R739, R789): an event goes to the entry at TAIL of an enabled ring with
room and is counted where the ring is full; a stall's NOTIFY is held, BC8's is written at once; the doorbell HEAD, the end of a
holdoff, bus mastering and credits let waiting writes leave; a completion lands, or fails its step, or is late; a timeout keeps the
tag; a function level reset and a host reset clear their side. -/
def Obligations.HostSideFollowsItsRules : Prop :=
  (∀ (u : State) (fn vec : Nat) (rec : List Byte),
    let cfg := rget u .hifEvtCfg fn
    let tail := bf (rget u .hifEvtPtr fn) 16 0
    let head := bf (rget u .hifEvtPtr fn) 48 32
    let size := 2 ^ bf cfg 12 8
    let v := postEvent u fn rec vec
    (bitAt cfg 0 = false → v = u) ∧
    (bitAt cfg 0 = true → (tail + 2 ^ 17 - head) % 2 ^ 17 = size →
      v = modFn (rbump u .hifFnStat 47 32 fn) fn fun f => { f with dropped := f.dropped + 1 }) ∧
    (bitAt cfg 0 = true → (tail + 2 ^ 17 - head) % 2 ^ 17 ≠ size → (fnOf u fn).dropped = 0 → u.host.up = false → u.regsOk → fn < 9 →
      bf (rget v .hifEvtPtr fn) 16 0 = (tail + 1) % 2 ^ 17 ∧ bf (rget v .hifEvtPtr fn) 48 32 = head ∧
      (∃ q ∈ v.host.queue, q.fn = fn ∧ q.addr = (rget u .hifEvtBase fn).toNat / 64 * 64 + 32 * (tail % size) ∧ q.vec = some vec ∧
        q.bytes = rec.set 1 (rec.getD 1 0#8 ||| if tail / size % 2 = 0 then 0x80#8 else 0#8)) ∧
      v.mem = u.mem ∧ v.ctxs = u.ctxs ∧ v.log = u.log)) ∧
  (∀ (s : State) (c t : Nat) (m : Cmd) (b : List Byte),
    let u := s.at t
    let x := ctxOf u c
    let plain := allZero (slice b 1 7) = true ∧ allZero (slice b 16 48) = true
    c < 17 → x.cen = none → Offered u c 11 0 2 64 m b →
    (¬plain → exec (.notifyC c t) s = .next (violation u .hif m.addr)) ∧
    (plain → c = 16 → exec (.notifyC c t) s = .next (postEvent (finishCmd u m.id u.now) 8
      (eventBytes u 0x06 0 0 0 0 0 0 0 false 0 (word (fieldAt b 8 8)).toNat) 2)) ∧
    (plain → c < 16 → (fnOf u (c / 2)).bme = false → exec (.notifyC c t) s = .next (stepFail u .hif c 0x63)) ∧
    (plain → c < 16 → (fnOf u (c / 2)).bme = true →
      (m.null = true → exec (.notifyC c t) s = .next (finishCmd u m.id u.now)) ∧
      (m.null = false → Answers (.notifyC c t) s fun s' =>
        (∃ h, (ctxOf s' c).held = x.held ++ [h] ∧ h.note = some (word (fieldAt b 8 8)) ∧ h.cmd = m.id ∧ h.fn = c / 2) ∧
        s'.cmds = u.cmds.map (fun y => if y.id = m.id then { y with st := .held, unfixed := true } else y) ∧
        s'.host = u.host ∧ s'.out = u.out ∧ s'.mem = u.mem ∧ ∀ k, k ≠ c → ctxOf s' k = ctxOf u k))) ∧
  (∀ (s : State) (fn vec n speed width t : Nat) (on flit : Bool) (v : Word),
    let u := s.at t
    let f := fnOf u fn
    let same := fun (s' : State) => s'.mem = u.mem ∧ s'.ctxs = u.ctxs ∧ s'.log = u.log ∧ s'.pub = u.pub
    (fn < 9 → reachable u .pf = true →
      (f.bme = false → exec (.evtHeadDb fn v t) s = .next (rbump u .hifFnStat 63 48 fn)) ∧
      (f.bme = true → f.dropped = 0 → Answers (.evtHeadDb fn v t) s fun s' =>
        s'.regs = (rsetField u .hifEvtPtr 48 32 (bf v 16 0) fn).regs ∧ same s')) ∧
    (f.unsignalled.contains vec = true → f.masked.contains vec = false → u.host.queue = [] → u.host.up = true → u.host.credits ≠ 0 →
      f.bme = true → (Tab.find vec f.sentAt = none ∨
        ∃ at_, Tab.find vec f.sentAt = some at_ ∧ at_ + bf (rget u .hifEvtCfg fn) 23 16 * 1000000 ≤ u.now) →
      Answers (.msixHoldoff fn vec t) s fun s' =>
        s'.out = Out.msix fn vec :: u.out ∧ (fnOf s' fn).unsignalled.contains vec = false ∧
        Tab.find vec (fnOf s' fn).sentAt = some u.now ∧ s'.regs = u.regs ∧ same s') ∧
    (u.host.up = true → fn < 9 → Answers (.busMasterEnable fn on t) s fun s' =>
      (fnOf s' fn).bme = on ∧ (∀ k, k ≠ fn → (fnOf s' k).bme = (fnOf u k).bme) ∧ s'.regs = u.regs ∧ same s') ∧
    (u.host.up = true → Answers (.postedCreditReturn n t) s fun s' =>
      s'.host.credits + s'.out.length = u.host.credits + n + u.out.length ∧ (s'.host.credits = 0 ∨ hostPick s' = none) ∧
      s'.regs = u.regs ∧ same s') ∧
    (u.pwr.inReset = false → u.host.perst = true → phase u ≠ 1 → Answers (.perstNRelease speed width flit t) s fun s' =>
      s'.host.perst = false ∧ s'.host.up = true ∧ s'.host.credits = 0 ∧ s'.regs = u.regs ∧ s'.out = u.out ∧ same s')) ∧
  (∀ (s : State) (fn tag t : Nat) (bytes : List Byte) (r : HostRd),
    let u := s.at t
    let b := bytes.take r.len
    let fails := fun (i : Instr) (w : State) (new : Option HostRd) cause =>
      (r.c < 16 → r.orphan = false → exec i s = .next (stepFail (setRead w r new) .hif r.c cause)) ∧
      (r.orphan = true → exec i s = .next (setRead w r new))
    let lands := fun (s' : State) =>
      (r.orphan = true → s'.mem = u.mem) ∧
      (r.orphan = false → readMem s' r.dst b.length = b ∧ ∀ a, a < r.dst ∨ r.dst + b.length ≤ a → readByte s' a = readByte u a) ∧
      (b.length = r.len → hostReadOf s' fn tag = none ∧ (r.orphan = false → s'.cmds = u.cmds.map fun y =>
        if y.id = r.cmd then { y with left := y.left - 1, st := if y.left ≤ 1 then .finished else y.st, doneAt := u.now } else y)) ∧
      (b.length < r.len → hostReadOf s' fn tag = some { r with dst := r.dst + b.length, len := r.len - b.length, delayed := none } ∧
        s'.cmds = u.cmds) ∧
      s'.ctxs = u.ctxs ∧ s'.pub = u.pub
    (u.host.up = true → hostReadOf u fn tag = none → ∀ res, Answers (.readCompletion fn tag res bytes t) s fun s' =>
      s'.out = Out.aer fn tag :: u.out ∧ s'.mem = u.mem ∧ s'.ctxs = u.ctxs ∧ s'.cmds = u.cmds) ∧
    (hostReadOf u fn tag = some r → r.timedOut = none →
      (u.host.up = true → r.delayed = none →
        fails (.readCompletion fn tag .abort bytes t) (dmaLast (rbump u .hifDmaErr 31 16) fn tag 2) none 0x61 ∧
        fails (.readCompletion fn tag .poison bytes t) (dmaLast (rbump u .hifDmaErr 15 0) fn tag 3) none 0x62 ∧
        ((r.c < 16 → squallOn u 6 (r.c / 2) = false) → u.undisturbed → Answers (.readCompletion fn tag .ok bytes t) s lands)) ∧
      (r.delayed = none → fails (.completionTimeout fn tag t) (dmaLast (rbump u .hifDmaErr 47 32) fn tag 1)
        (some { r with timedOut := some u.now, orphan := true }) 0x60) ∧
      (∀ d, r.delayed = some (d, bytes) → d ≤ u.now → u.undisturbed → Answers (.hostDelayedLanding fn tag t) s lands))) ∧
  (∀ (s : State) (fn t : Nat) (kind : HostResetKind),
    let u := s.at t
    (u.host.up = true → fn < 8 → u.regsOk → Answers (.functionLevelReset fn t) s fun s' =>
      fnOf s' fn = Fn.clear ∧ (stallOf s' fn).queue = [] ∧ (stallOf s' fn).urgentReq = none ∧ (stallOf s' fn).drains = [] ∧
      rget s' .hifEvtCfg fn = 0 ∧ rget s' .hifEvtBase fn = 0 ∧ rget s' .hifCensusBase fn = 0 ∧ (∀ q ∈ s'.host.queue, q.fn ≠ fn) ∧
      (∀ c, c / 2 = fn → (ctxOf u c).st ≠ .idle → (ctxOf u c).committed = false → (ctxOf u c).cause = none →
        (ctxOf s' c).st = .killing ∧ (ctxOf s' c).cause = some 0x65) ∧
      (∀ c, c / 2 = fn → (ctxOf u c).committed = true → (ctxOf s' c).st = .idle) ∧
      ∀ c, c / 2 ≠ fn → ctxOf s' c = ctxOf u c) ∧
    (u.pwr.inReset = false → u.host.perst = false → u.pwr.fold = none → u.pwr.coldDue = false → phase u ≠ 1 → phase u ≠ 8 →
      u.regsOk → bf (rget u .hifLink) 31 16 < 65535 → Answers (.hostReset kind t) s fun s' =>
        s'.pwr.fold = some (u.now, .hostReset) ∧ phase s' = 6 ∧ s'.host.reads = [] ∧ (∀ f < 9, rget s' .hifEvtCfg f = 0) ∧
        bf (rget s' .hifLink) 31 16 = bf (rget u .hifLink) 31 16 + 1 ∧ rget s' .hifDmaErr = rget u .hifDmaErr ∧
        (kind = .perst → s'.host.up = false ∧ s'.host.perst = true) ∧ ∀ c < 16, (ctxOf s' c).st = .idle))

/-- The life of an image (R120 to R126, R128, R133, R134, R139, R622): a write of the staging store takes effect unless the store is
held; START begins a check or is refused; a check ends in a rejection that leaves all registers of the image, in a pending partial
image, in a full one that waits, or at boot in force and sealed at once without SEAL_ON_CMD; SEAL seals; what an applying image releases
reads 0. -/
def Obligations.ImagesAreCheckedBeforeTheyApply : Prop :=
  ∀ (s : State) (q : Requester) (off t : Nat) (bytes : List Byte),
    let u := s.at t
    let w := u.noteWrite q .secImgCtrl 0 0
    let b := stagedImage u
    let v := { u with img := { u.img with checking := none } }
    (reachable u .pf = true →
      (stagingHeld u = true → exec (.stagingWrite .pf off bytes t) s = .next (logAccess u .sec 0x02 off (reqCode .pf))) ∧
      (stagingHeld u = false → 4194304 < off + bytes.length →
        exec (.stagingWrite .pf off bytes t) s = .next (logAccess u .sec 0x01 off (reqCode .pf))) ∧
      (stagingHeld u = false → off + bytes.length ≤ 4194304 → u.img.staging.Pairwise (fun x y => x.1 < y.1) →
        Answers (.stagingWrite .pf off bytes t) s fun s' =>
          (∀ i < bytes.length, Tab.getD 0#8 (off + i) s'.img.staging = bytes.getD i 0#8) ∧
          (∀ a, a < off ∨ off + bytes.length ≤ a → Tab.getD 0#8 a s'.img.staging = Tab.getD 0#8 a u.img.staging) ∧
          s' = { u with img := { u.img with staging := s'.img.staging } })) ∧
    (reachable u q = true → u.takesWrite q .secImgCtrl 0 0 1 →
      (q ≠ .pf → exec (.startC q t) s = .next (logAccess w .sec 0x04 (regAddr .secImgCtrl 0 0) (reqCode q))) ∧
      (q = .pf → acceptsImages u = false →
        exec (.startC q t) s = .next (logAccess w .sec 0x02 (regAddr .secImgCtrl 0 0) (reqCode q))) ∧
      (q = .pf → acceptsImages u = true → (u.img.checking.isSome = true ∨ u.img.pending.isSome = true) →
        exec (.startC q t) s = .next (reportImage w (0x15, 0xFF, 0))) ∧
      (q = .pf → acceptsImages u = true → u.img.checking = none → u.img.pending = none → u.regsOk → Answers (.startC q t) s fun s' =>
        s'.img.checking = some u.now ∧ phase s' = (if phase u = 2 then 3 else phase u) ∧ s'.plan = u.plan ∧ s'.mem = u.mem ∧
        s'.img.staging = u.img.staging ∧ s'.log = u.log)) ∧
    (reachable u q = true → u.takesWrite q .secImgCtrl 0 0 2 →
      (u.img.inForce = true → u.img.isSealed = false → u.img.checking = none → u.regsOk → Answers (.sealC q t) s fun s' =>
        s'.img.isSealed = true ∧ phase s' = 4 ∧ s'.pwr.readyAt = some u.now ∧ s'.plan = u.plan ∧ s'.mem = u.mem ∧
        s'.ctxs = u.ctxs) ∧
      ((u.img.inForce = false ∨ u.img.isSealed = true ∨ u.img.checking.isSome = true) →
        exec (.sealC q t) s = .next (logAccess w .sec 0x02 (regAddr .secImgCtrl 0 0) (reqCode q)))) ∧
    (u.img.checking.isSome = true → (u.pwr.fold = none ∨ u.pwr.foldRun = true) →
      (∀ r, checkImage v b = some r → exec (.imageCheckEnd t) s = .next (rejectImage v r)) ∧
      (checkImage v b = none → ¬(u.sec.badSince.isSome = true ∧ needsKeys v b = true) →
        (imgPartial b = true → Answers (.imageCheckEnd t) s fun s' =>
          s'.img.pending = some b ∧ s'.img.applyTide = imgTide b ∧ s'.img.checking = none ∧ s'.plan = u.plan ∧ s'.mem = u.mem) ∧
        (imgPartial b = false → u.img.isSealed = true → Answers (.imageCheckEnd t) s fun s' =>
          s'.img.waiting = some b ∧ s'.img.checking = none ∧ s'.plan = u.plan ∧ s'.mem = u.mem) ∧
        (imgPartial b = false → u.img.isSealed = false → u.regsOk → Answers (.imageCheckEnd t) s fun s' =>
          s'.img.inForce = true ∧ s'.img.active = b ∧ s'.plan = planOf (sectsOf b) (imgTarget b) ∧
          s'.img.isSealed = !imgSealOnCmd b ∧ (imgSealOnCmd b = false → phase s' = 4)))) ∧
    (∀ im, inFence u = true → u.img.applying = true → u.tide.cleared = false → samplingPoint u + 4000000 ≤ u.now →
      u.img.pending = some im → u.memOk →
      let m := sectsAfter u im
      let spans := loftReleased u.img.sections m ++ poolReleased u.img.sections m ++ (diesReleased u.img.sections m).map sramSpan
      (∀ p ∈ spans, ∀ a, p.1 ≤ a → a < p.1 + p.2 → isHbm a = isHbm p.1) → Answers (.releaseClear t) s fun s' =>
        s'.tide.cleared = true ∧ (∀ p ∈ spans, ∀ a, p.1 ≤ a → a < p.1 + p.2 → readByte s' a = 0#8) ∧
        (∀ a, (∀ p ∈ spans, a < p.1 ∨ p.1 + p.2 ≤ a) → readByte s' a = readByte u a) ∧ s'.plan = u.plan ∧ s'.regs = u.regs)

/-! ### Power, reset and health -/

/-- The resets (R482, R483, R737 to R742, R746 to R751, R754, R755, R757, R762): power-on and the faults of Table 19.2 lead to a cold reset
1 ms after PKG_PWROK, a cold reset clears the device and ends in phase 2, or in phase 8 where a die that may never be fallow has failed;
alignment is tried four times; a fold reset keeps memory, the publication and commit tables and the buffers, and ends aligned, held or halted;
a self-test gives a pass that lasts 60 s. -/
def Obligations.ResetsFollowTheirPhases : Prop :=
  ∀ (s : State) (q : Requester) (rail t : Nat) (v : Word) (bad : Option Nat) (failDies : List Nat) (secOk : Bool),
    let u := s.at t
    let x := testTarget v
    let cleared := fun (s' : State) => s'.mem = [] ∧ s'.ctxs = [] ∧ s'.tallies = [] ∧ s'.cmt = [] ∧ s'.plan = State.reset.plan ∧
      s'.pwr.inReset = true ∧ s'.fuse = u.fuse ∧ s'.pending = u.pending ∧
      ∀ r d i, r ∉ bwrRegs → r.inRange d i → rgetX s' r d i = r.info.reset
    let kept := fun (s' : State) => s'.mem = u.mem ∧ s'.pub = u.pub ∧ s'.cmt = u.cmt ∧ s'.bufs = u.bufs ∧ s'.plan = u.plan
    u.regsOk →
    (u.pwr.pwrok = false → Answers (.pkgPwrokRise t) s fun s' =>
      s'.pwr.pwrok = true ∧ s'.pwr.inReset = true ∧ s'.pwr.c0 = u.now + 1000000000 ∧ s'.pwr.coldDue = !u.pwr.seqFault ∧
      s'.mem = u.mem ∧ s'.fuse = u.fuse) ∧
    (u.pwr.pwrok = true →
      (Answers (.pkgPwrokFall t) s fun s' => cleared s' ∧ s'.pwr.pwrok = false ∧ s'.pwr.seqFault = false) ∧
      Answers (.vauxFault t) s fun s' => cleared s' ∧ s'.pwr.pwrok = true ∧ s'.pwr.coldDue = false) ∧
    (u.pwr.inReset = true → u.pwr.seqFault = false → 1 ≤ rail → rail ≤ 10 → exec (.seqFault rail t) s =
      .next { u with pwr := { u.pwr with seqFault := true, coldDue := false }, out := Out.pin "SEQ_FAULT_N" false :: u.out }) ∧
    (u.pwr.inReset = false → 1 ≤ rail → rail ≤ 10 → Answers (.supplyFault rail t) s fun s' => ColdStarted u s' 5) ∧
    (u.pwr.coldDue = true → u.pwr.c0 ≤ u.now → Answers (.coldReset t) s fun s' => ColdStarted u s' (u.pwr.coldCause % 256)) ∧
    (u.pwr.coldDue = false → u.pwr.inReset = false → Answers (.coldReset t) s fun s' => ColdStarted u s' 2) ∧
    (reachable u q = true → u.takesWrite q .pwrRstCtrl 0 0 v →
      (bf v 63 56 = 2 →
        (q = .bc8 → exec (.cold q v t) s = .next (logAccess u .pwr 0x04 (regAddr .pwrRstCtrl 0 0) (reqCode q))) ∧
        (q ≠ .bc8 → bf v 15 0 ≠ 0xC3C3 → exec (.cold q v t) s = .next (u.rejectsWrite q .pwrRstCtrl 0)) ∧
        (q ≠ .bc8 → bf v 15 0 = 0xC3C3 → Answers (.cold q v t) s fun s' => ColdStarted u s' 3)) ∧
      (bf v 63 56 = 1 →
        (bf v 15 0 ≠ 0 → exec (.fold q v t) s = .next (u.rejectsWrite q .pwrRstCtrl 0)) ∧
        (bf v 15 0 = 0 → u.mayFold → Answers (.fold q v t) s fun s' =>
          s'.pwr.fold = some (u.now, .requested) ∧ phase s' = 6 ∧ s'.mem = u.mem ∧ ∀ c < 16, (ctxOf s' c).st = .idle))) ∧
    (phase u = 1 → u.pwr.inReset = false → u.pwr.aligned = true → u.sec.badSince = none →
      Answers (.coldResetReady failDies secOk t) s fun s' =>
        phase s' = (if 38 ∈ failDies ∨ 39 ∈ failDies ∨ 32 ∈ failDies ∨ 33 ∈ failDies then 8 else 2) ∧
        (∀ i < 40, bitAt (rget s' .pwrRstFailDies) i = true ↔ i ∈ failDies) ∧
        (secOk = false → bitAt (rget s' .secStatus) 59 = true) ∧ s'.host.up = !u.host.perst ∧ s'.mem = u.mem) ∧
    (((phase u = 1 ∧ u.pwr.inReset = false) ∨ u.pwr.foldRun = true) → u.clk.refBad = false → u.pwr.tripWait = false →
      u.pwr.alignAt = none → u.pwr.aligned = false → u.pwr.alignTries < 4 → Answers (.alignStart t) s fun s' =>
        s'.pwr = { u.pwr with alignAt := some ((u.now + 9999) / 10000 * 10000) } ∧ bitAt (rget s' .clkAlignStatus) 0 = false ∧
        (∀ n < 57, bitAt (rget s' .clkLockStatus) n = true) ∧ s'.mem = u.mem) ∧
    (∀ a, u.pwr.alignAt = some a → a + 10400000 ≤ u.now → Answers (.alignCheckEnd bad t) s fun s' =>
      s'.pwr.alignAt = none ∧ s'.mem = u.mem ∧
      (bad = none → s'.pwr.aligned = true ∧ bitAt (rget s' .clkAlignStatus) 0 = true ∧ bitAt (rget s' .clkAlignStatus) 1 = false) ∧
      (∀ n, bad = some n → s'.pwr.alignTries = u.pwr.alignTries + 1 ∧ s'.pwr.aligned = u.pwr.aligned ∧
        bitAt (rget s' .clkAlignStatus) 1 = true ∧ bf (rget s' .clkAlignStatus) 15 8 = n % 256 ∧
        (u.pwr.alignTries + 1 < 4 → s'.log = u.log) ∧
        (4 ≤ u.pwr.alignTries + 1 → (∃ e ∈ s'.log.entries, e.cls = 7 ∧ e.code = 1) ∧
          (u.pwr.foldRun = true → s'.pwr.badCheck = some 1) ∧ (u.pwr.foldRun = false → phase s' = 8)))) ∧
    (∀ f, u.pwr.foldRun = false → u.pwr.fold = some f → f.1 + 20000000 ≤ u.now → Answers (.foldReset t) s fun s' =>
      kept s' ∧ s'.pwr.foldRun = true ∧ s'.cmds = [] ∧ s'.tallies = [] ∧ s'.parks = [] ∧ s'.pwr.passes = [] ∧ s'.pwr.aligned = false ∧
      (∀ n, (stallOf s' n).queue = [] ∧ (stallOf s' n).urgentReq = none) ∧ rget s' .pwrRstTestDies = 0 ∧ rget s' .pwrRstTestPorts = 0) ∧
    (u.pwr.foldRun = true → (u.pwr.aligned = true ∨ u.pwr.badCheck = some 1) → u.sec.waitEntropy = false → u.pwr.tripWait = false →
      (∀ fail r, haltedRow u fail = some r → Answers (.foldDone fail t) s fun s' =>
        phase s' = 8 ∧ s'.pwr.fold = none ∧ s'.img.inForce = false) ∧
      (haltedRow u none = none → u.img.isSealed = true → Answers (.foldDone none t) s fun s' =>
        phase s' = 4 ∧ s'.pwr.fold = none ∧ s'.img.inForce = true ∧ s'.pwr.readyAt = some u.now) ∧
      (∀ d, d < 40 → haltedRow u (some (16 * d + 7)) = none → fallow u d = false → u.img.waiting = none →
        Answers (.foldDone (some (16 * d + 7)) t) s fun s' =>
          phase s' = 7 ∧ s'.img.inForce = false ∧ bitAt (rget s' .pwrRstFailDies) d = true)) ∧
    (reachable u q = true → u.takesWrite q .pwrRstTestCmd 0 0 v →
      (bf v 63 56 = 1 → testOk u v = false → exec (.test q v t) s = .next (u.rejectsWrite q .pwrRstTestCmd 0)) ∧
      (bf v 63 56 = 1 → testOk u v = true → Answers (.test q v t) s fun s' =>
        s'.pwr.test = some (x.1, x.2, u.now) ∧ bitAt (rget s' .pwrRstTestLast) 63 = true ∧ s'.mem = u.mem) ∧
      (bf v 63 56 = 2 → Answers (.powerDown q v t) s fun s' =>
        (∀ y ∈ s'.pwr.passes, ¬(y.1 = x.1 ∧ y.2.1 = x.2)) ∧ s'.mem = u.mem ∧
        bitAt (rget s' (if x.1 = true then .pwrRstTestPorts else .pwrRstTestDies)) x.2 = false)) ∧
    (∀ port i at_ block, u.pwr.test = some (port, i, at_) → i < 64 → Answers (.selfTestDone block t) s fun s' =>
      s'.pwr.test = none ∧
      (block = 0 → (port, i, u.now) ∈ s'.pwr.passes ∧ bf (rget s' .pwrRstTestLast) 62 61 = 1 ∧
        bitAt (rget s' (if port = true then .pwrRstTestPorts else .pwrRstTestDies)) i = true) ∧
      (block ≠ 0 → s'.pwr.passes = u.pwr.passes ∧ bf (rget s' .pwrRstTestLast) 62 61 = 2) ∧
      (port = true → s'.mem = u.mem) ∧
      (port = false → i < 16 → u.memOk → ∀ a k, unitOf a = .tile i k → readByte s' a = 0#8)) ∧
    (∀ target at_ port, target < 72 → (port = true ↔ 40 ≤ target) →
      (port, (if 40 ≤ target then target - 40 else target), at_) ∈ u.pwr.passes → at_ + 60000000000000 ≤ u.now →
      Answers (.testPassExpire target t) s fun s' =>
        (∀ y ∈ s'.pwr.passes, ¬(y.1 = port ∧ y.2.1 = if 40 ≤ target then target - 40 else target)) ∧ s'.mem = u.mem ∧
        bitAt (rget s' (if port = true then .pwrRstTestPorts else .pwrRstTestDies)) (if 40 ≤ target then target - 40 else target) = false)

/-- The events of power and health (R54, R543, R768, R782, R783, R786, R823, R824, R827, R828, R837): a voltage that does not rise in time
holds its quadrant's domains back and is logged; a fall takes the code that the multipliers need; a thermal trip is a chip loss and waits
for the dies to cool; THERMTRIP_N goes low and every laser stops; gates, scrubs, evaluations, snapshots and sensor reads do what their
rules say. -/
def Obligations.PowerAndHealthEventsAct : Prop :=
  ∀ (s : State) (d t : Nat) (late unlocked : List Nat),
    let u := s.at t
    let raised := fun q => quadVid u q (rget u .clkAppliedCd) u.plan.fallowDies < bf (rget u .pwrVid q) 6 0
    u.regsOk →
    (inFence u = true → u.tide.checked = false → u.tide.expected ≤ u.now + 1000000 →
      Answers (.voltageRiseCheck late unlocked t) s fun s' =>
        s'.tide.checked = true ∧
        (∀ n, n ∈ s'.tide.heldDomains ↔ (n < 16 ∧ n / 4 ∈ late ∧ raised (n / 4)) ∨ (n ∈ unlocked ∧ (n < 16 ∨ n = 40 ∨ n = 41))) ∧
        (s'.tide.heldDomains = [] → s'.log = u.log) ∧
        (s'.tide.heldDomains ≠ [] → ∃ e, s'.log.entries = (e :: u.log.entries).take 8192 ∧ e.cls = 6 ∧ e.code = 3 ∧ e.source = Src.clk.code) ∧
        s'.regs = u.regs ∧ s'.ctxs = u.ctxs ∧ s'.mem = u.mem) ∧
    (d < 4 → u.tide.running = true → u.tide.sampled = false → u.tide.tick + 20000 ≤ u.now → u.now ≤ u.tide.tick + 20000000 →
      bf (rget u .pwrVid d) 22 16 < bf (rget u .pwrVid d) 6 0 → Answers (.vidFall d t) s fun s' =>
        bf (rget s' .pwrVid d) 6 0 = bf (rget u .pwrVid d) 22 16 ∧ u.otherRegs s' .pwrVid 0 d ∧ s' = { u with regs := s'.regs }) ∧
    (d < 39 → fallow u d = false → u.mayFold → Answers (.thermalTrip d t) s fun s' =>
      bitAt (rget s' .pwrTrip) d = true ∧ s'.pwr.tripWait = true ∧ bitAt (rget s' .pwrStatus) 61 = true ∧ phase s' = 6 ∧
      s'.pwr.fold = some (u.now, .chipLoss) ∧ s'.mem = u.mem) ∧
    (u.pwr.tripWait = true → Answers (.tripWaitEnd t) s fun s' =>
      s'.pwr = { u.pwr with tripWait := false } ∧ bitAt (rget s' .pwrStatus) 61 = false ∧ u.otherRegs s' .pwrStatus 0 0 ∧
      s'.mem = u.mem ∧ s'.ctxs = u.ctxs) ∧
    (d < 40 → u.pwr.pwrok = true → u.pwr.thermtrip = false → Answers (.thermtrip d t) s fun s' =>
      s'.pwr = { u.pwr with thermtrip := true } ∧ (∃ l, s'.out = Out.pin "THERMTRIP_N" false :: l) ∧
      (∀ p < 32, (bwPortOf s' p).level = 0 ∧ (portOf s' p).st = 0) ∧ s'.mem = u.mem ∧ s'.ctxs = u.ctxs) ∧
    (∀ up, d < 16 → wantsPower u d = up → u.pwr.gated.contains d = !up → Tab.getD 0 (d / 4) u.pwr.gateRamps ≤ u.now →
      rampFits u = true → u.pwr.inReset = false → Answers (.powerGateRamp d up t) s fun s' =>
        bitAt (rget s' .clkLockStatus) d = up ∧ s'.pwr.gated.contains d = up ∧
        Tab.getD 0 (d / 4) s'.pwr.gateRamps = u.now + 200000000 ∧ u.otherRegs s' .clkLockStatus 0 0 ∧ s'.log = u.log ∧
        s'.mem = u.mem ∧ s'.ctxs = u.ctxs) ∧
    (d < 4 → fallow u (28 + d) = false → bitAt (rget u .clkLockStatus) (32 + d) = true → Answers (.edgeRxLockLost d t) s fun s' =>
      bitAt (rget s' .clkLockLost) (32 + d) = true ∧ bitAt (rget s' .clkLockStatus) (32 + d) = false ∧
      (∀ p < 32, p % 4 = d → (portOf s' p).light = none ∧
        ((portOf u p).light.isSome = true → ((portOf u p).st = 4 ∨ (portOf u p).st = 5 ∨ (portOf u p).st = 6) →
          (portOf s' p).st = 9 ∧ (portOf s' p).back = (portOf u p).st)) ∧
      (∀ p, p % 4 ≠ d → portOf s' p = portOf u p) ∧ s'.mem = u.mem ∧ s'.ctxs = u.ctxs) ∧
    (inFence u = true → u.health.scrubbed = false → u.tide.expected ≤ u.now + 3500000 → u.now + 1000000 ≤ u.tide.expected →
      u.upsets.Pairwise (fun a b => a.1 < b.1) →
      (∀ w ∈ u.upsets, w.2 = 2 → ∀ p ∈ scrubSpans u, 8 * w.1 < p.1 ∨ p.1 + p.2 ≤ 8 * w.1) → Answers (.fenceScrub t) s fun s' =>
        s'.health = { u.health with loftAt := (u.health.loftAt + 1) % 16, tileAt := (u.health.tileAt + 1) % 3, scrubbed := true } ∧
        (∀ w, w ∈ s'.upsets ↔ w ∈ u.upsets ∧ ∀ p ∈ scrubSpans u, 8 * w.1 < p.1 ∨ p.1 + p.2 ≤ 8 * w.1) ∧
        s'.mem = u.mem ∧ s'.ctxs = u.ctxs) ∧
    (∀ (tj : Nat) (swing : Bool) (wear rows : List Nat), u.pwr.inReset = false → u.clk.telStopped = false →
      Answers (.weatheringEval wear tj swing rows t) s fun s' =>
        s'.health.evals = u.health.evals + 1 ∧
        rget s' .hltAcc 0 = rget u .hltAcc 0 + (if (u.health.evals + 1) % 6 = 0 then 1 else 0) ∧
        rget s' .hltAcc 1 = rget u .hltAcc 1 + word (stressUnits tj) ∧ rget s' .hltAcc 2 = rget u .hltAcc 2 + word swing.toNat ∧
        (∀ n < 12, rget s' .hltAcc (n + 3) = rget u .hltAcc (n + 3) + word (rows.getD n 0)) ∧
        (∀ n < 40, bf (rget s' .hltWear n) 63 48 = min (wear.getD n 0) 65535) ∧ s'.mem = u.mem ∧ s'.ctxs = u.ctxs) ∧
    (u.pwr.inReset = false → (∀ x, u.health.snaps.getLast? = some x → x.1 + 24 ≤ (rget u .hltAcc 0).toNat) →
      24 ≤ (rget u .hltAcc 0).toNat → Answers (.wearSnapshot t) s fun s' =>
        (∃ x, s'.health.snaps.getLast? = some x ∧ x.1 = (rget u .hltAcc 0).toNat ∧
          ∀ n < 58, x.2.getD n 0 = bf (rget u .hltWear n) 63 48) ∧
        s'.health.snaps.length = min 30 (u.health.snaps.length + 1) ∧ s' = { u with health := s'.health }) ∧
    (mgmtUp u = true →
      exec (.sensorRead 0x0160 t) s = .next { u with out := Out.mgmt 0x11 ([0x60#8, 0x01#8] ++ leBytes 8 ((rget u .tidNumber).toNat % 2 ^ 32)) :: u.out } ∧
      (∀ n < 8, exec (.sensorRead (0x0168 + n) t) s =
        .next { u with out := Out.mgmt 0x11 (leBytes 2 (0x0168 + n) ++ leBytes 8 (stallOf u n).overruns) :: u.out }) ∧
      (∀ id, 0x0100 ≤ id → id ≤ 0x012A → ∃ v : Nat, exec (.sensorRead id t) s =
        .next { u with free := u.free + 1, out := Out.mgmt 0x11 (leBytes 2 id ++ leBytes 8 v) :: u.out }) ∧
      (∀ id, 0x0210 ≤ id → exec (.sensorRead id t) s = .next { u with out := Out.mgmt 0x11 (leBytes 2 id) :: u.out }))

/-! ### Links -/

/-- The links (R499 to R502, R504, R508, R510 to R514, R521, R531 to R534, R538 to R542): what a port sends in a flit time, what it makes of
a flit that arrives, how it trains, identifies itself, replays, retrains, goes dark, comes back and fails. -/
def Obligations.PortsFollowTheirStates : Prop :=
  ∀ (s : State) (q : Requester) (p t : Nat) (b : List Byte),
    let u := s.at t
    let x := portOf u p
    let v := fieldAt b 0 8
    let h := flitHead v
    let soundCrc := fieldAt b 248 8 = crc64 (b.take 248)
    let w := headerEffects (modPort u p fun x => { x with goodAt := u.now }) p h
    let y := portOf w p
    let f := flushNotices u
    let z := portOf f p
    let hit := bf (rget u .hltInject) 63 62 = 3 ∧ bf (rget u .hltInject) 52 48 = p
    let wire := fun (h : FlitHead) (payload : List Byte) =>
      let body := leBytes 8 h.word ++ payload
      Out.flit p (body ++ leBytes 8 (if h.kind = 1 ∧ hit then crc64 body ^^^ 1 else crc64 body))
    let sends := fun (s' : State) (h : FlitHead) (payload : List Byte) =>
      s'.out = wire h payload :: u.out ∧ s'.mem = u.mem ∧ s'.ctxs = u.ctxs ∧ s'.notices = []
    let ctrl := fun (s' : State) => sends s' (baseHead f p 2 64) (identRecord f p ++ zeros 176)
    let idle := fun (s' : State) => sends s' (baseHead f p 0 0) (zeros 240)
    let rises := fun (s' : State) (hi lo cap : Nat) => rfield s' .dklErr hi lo (p / 4) (p % 4) = min (rfield u .dklErr hi lo (p / 4) (p % 4) + 1) cap
    p < 32 → u.regsOk →
    -- what a port sends (R504, R521)
    (sendsFlits x = true →
      ((z.st = 3 ∨ z.st = 7 ∨ (z.st = 2 ∨ z.st = 6) ∧ z.qualified = true) → Answers (.flitTx p t) s ctrl) ∧
      ((z.st = 5 ∨ z.st = 9 ∨ (z.st = 2 ∨ z.st = 6) ∧ z.qualified = false) → Answers (.flitTx p t) s idle) ∧
      (z.st = 4 → z.replayAt = none → chooseVc z = none → Answers (.flitTx p t) s idle) ∧
      (∀ r k, z.st = 4 → z.replayAt = some r → z.replayBuf.find? (·.ext == r) = some k → Answers (.flitTx p t) s fun s' =>
        sends s' { baseHead f p 1 k.fill with seq := k.ext % 4096, vc := k.vc, crypt := k.crypt, phase := k.phase } k.payload ∧
        (portOf s' p).replayAt = (if r + 1 < z.txExt then some (r + 1) else none) ∧ (portOf s' p).replayBuf = z.replayBuf) ∧
      (∀ vc rot, z.st = 4 → z.replayAt = none → chooseVc z = some (vc, rot) → Answers (.flitTx p t) s fun s' =>
        ∃ k, (portOf s' p).replayBuf = z.replayBuf ++ [k] ∧ k.ext = z.txExt ∧ k.vc = vc ∧ k.crypt = portEnc u p ∧
          (portOf s' p).txExt = z.txExt + 1 ∧ (portOf s' p).ackDue.isSome = true ∧
          sends s' { baseHead f p 1 k.fill with
            seq := z.txExt % 4096, vc := vc, crypt := portEnc u p,
            phase := if portEnc u p = true then keyEpochOf z.txExt % 2 else 0 } k.payload)) ∧
    -- what arrives (R508, R512, R531, R532, R534)
    (b.length = 256 → receivesFlits x = true → x.light.isSome = true →
      (∀ i ∈ [Instr.dataFlitRx p b t, Instr.idleFlitRx p b t, Instr.ctrlFlitRx p b t],
        (¬soundCrc → Answers i s fun s' => rises s' 63 48 65535 ∧
          portOf s' p = (if (x.st = 4 ∨ x.st = 5) ∧ x.nakSent = false then { x with nak := true } else x) ∧
          s' = { u with ports := s'.ports, regs := s'.regs } ∧ u.otherRegs s' .dklErr (p % 4) (p / 4))) ∧
      (soundCrc →
        (h.kind = 3 → Answers (.dataFlitRx p b t) s fun s' => PortFails u s' p 14) ∧
        (headerBad u p v = true →
          (h.kind = 0 → Answers (.idleFlitRx p b t) s fun s' => PortFails u s' p 14) ∧
          (h.kind = 1 → Answers (.dataFlitRx p b t) s fun s' => PortFails u s' p 14) ∧
          (h.kind = 2 → Answers (.ctrlFlitRx p b t) s fun s' => PortFails u s' p 14)) ∧
        (headerBad u p v = false →
          (h.kind = 0 → exec (.idleFlitRx p b t) s = .next w) ∧
          (h.kind = 1 → y.st ≠ 4 → y.st ≠ 5 → exec (.dataFlitRx p b t) s = .next w) ∧
          (h.kind = 1 → (y.st = 4 ∨ y.st = 5) →
            let d := (h.seq + 4096 - y.rxExt % 4096) % 4096
            (d = 0 → h.crypt = false → Answers (.dataFlitRx p b t) s fun s' =>
              (portOf s' p).rxExt = y.rxExt + 1 ∧ (portOf s' p).nak = false ∧ (portOf s' p).nakSent = false ∧
              ∀ o, o ≠ p → portOf s' o = portOf w o) ∧
            (1 ≤ d → d ≤ 2046 → Answers (.dataFlitRx p b t) s fun s' =>
              onlyPort w s' p (if y.nakSent = false then { y with nak := true } else y)) ∧
            (d = 2047 ∨ d = 2048 → Answers (.dataFlitRx p b t) s fun s' => PortFails w s' p 10) ∧
            (2049 ≤ d → exec (.dataFlitRx p b t) s = .next w)) ∧
          (h.kind = 2 → (y.st = 2 ∨ y.st = 6) → y.qualified = true → Answers (.ctrlFlitRx p b t) s fun s' =>
            onlyPort w s' p { y with st := 3, since := u.now, heard := (slice b 8 240).take 64, rxOk := false
                                     farOk := decide (fieldAt ((slice b 8 240).take 64) 14 1 / 2 % 2 = 1) }) ∧
          (h.kind = 2 → y.st ≠ 2 → y.st ≠ 6 → y.st ≠ 3 → exec (.ctrlFlitRx p b t) s = .next w) ∧
          (h.kind = 2 → y.st = 3 →
            let r := (slice b 8 240).take 64
            let ok := y.rxOk || y.heard == r
            let far := y.farOk || decide (fieldAt r 14 1 / 2 % 2 = 1)
            (ok && far) = false → Answers (.ctrlFlitRx p b t) s fun s' =>
              onlyPort w s' p { y with heard := r, rxOk := ok, farOk := far }) ∧
          (h.kind = 2 → y.st = 3 → y.heard = (slice b 8 240).take 64 → fieldAt y.heard 14 1 / 2 % 2 = 1 →
            let cause := identCause w p y.heard
            let adv := (List.range 4).map fun n => fieldAt y.heard (36 + 2 * n) 2
            (y.far = [] → (∀ a ∈ adv, 16 ≤ a ∧ a ≤ 2047) →
              (cause ≠ 0 → Answers (.ctrlFlitRx p b t) s fun s' =>
                (portOf s' p).st = 7 ∧ (portOf s' p).cause = cause ∧ bitAt (rget s' .topEvent) (32 + p) = true) ∧
              (cause = 0 → Answers (.ctrlFlitRx p b t) s fun s' =>
                (portOf s' p).st = (if portRole u p = 2 then 5 else 4) ∧ (portOf s' p).far = y.heard ∧ (portOf s' p).tries = 0 ∧
                ∀ n < 4, (Tab.getD (TxChan.clear 0) n (portOf s' p).tx).adv = adv.getD n 0)) ∧
            (y.far = [] → (∃ a ∈ adv, a < 16 ∨ 2047 < a) → Answers (.ctrlFlitRx p b t) s fun s' => PortFails w s' p 14) ∧
            (y.far ≠ [] → slice y.heard 0 11 ≠ slice y.far 0 11 → Answers (.ctrlFlitRx p b t) s fun s' => PortFails w s' p 11) ∧
            (y.far ≠ [] → slice y.heard 0 11 = slice y.far 0 11 → fieldAt y.heard 16 4 ≠ fieldAt y.far 16 4 →
              Answers (.ctrlFlitRx p b t) s fun s' =>
                (portOf s' p).st = 3 ∧ (portOf s' p).far = [] ∧ (portOf s' p).txExt = 0 ∧ (portOf s' p).rxExt = 0 ∧
                (portOf s' p).replayBuf = []) ∧
            (y.far ≠ [] → slice y.heard 0 11 = slice y.far 0 11 → fieldAt y.heard 16 4 = fieldAt y.far 16 4 →
              let rx := fieldAt y.heard 48 8
              ((rx < y.oldest ∨ y.txExt < rx) → Answers (.ctrlFlitRx p b t) s fun s' => PortFails w s' p 10) ∧
              (y.oldest ≤ rx → rx ≤ y.txExt → Answers (.ctrlFlitRx p b t) s fun s' =>
                (portOf s' p).st = (if portRole u p = 2 then 5 else 4) ∧ (portOf s' p).oldest = rx ∧
                (portOf s' p).session = y.session ∧ (portOf s' p).txExt = y.txExt ∧
                (rx < y.txExt → (portOf s' p).replayAt = some rx))))))) ∧
    -- acknowledgement and replay (R511, R513, R514)
    (let d := (h.ack + 4096 - x.oldest % 4096) % 4096
     (portOf (receiveAck u p h.ack) p).oldest = (if d < x.txExt - x.oldest then x.oldest + d + 1 else x.oldest) ∧
     (∀ k, k ∈ (portOf (receiveAck u p h.ack) p).replayBuf ↔
       k ∈ x.replayBuf ∧ (d < x.txExt - x.oldest → x.oldest + d + 1 ≤ k.ext)) ∧
     (x.txExt - x.oldest ≤ d → receiveAck u p h.ack = u)) ∧
    (x.st = 4 → x.txExt ≠ x.oldest → (∃ d, ackExpiry u p = some d ∧ d ≤ u.now) →
      (x.consReplay < 8 → Answers (.ackTimeout p t) s fun s' =>
        rises s' 47 32 65535 ∧ s' = { u with ports := s'.ports, regs := s'.regs } ∧
        portOf s' p = { x with replayAt := some x.oldest, consReplay := x.consReplay + 1,
                               lastReplay := some (x.oldest % 4096, u.now), ackDue := some (u.now + 2000000) }) ∧
      (8 ≤ x.consReplay → Answers (.ackTimeout p t) s fun s' => Retrains u s' p)) ∧
    -- training (R501, R502, R538, R539)
    ((x.st = 2 ∨ x.st = 6) → x.adapted = none → x.light.isSome = true → Answers (.receiverAdapted p t) s fun s' =>
      onlyPort u s' p { x with adapted := some u.now }) ∧
    (∀ a, x.qualified = false → x.adapted = some a → (x.st = 2 ∧ a + 209715200 ≤ u.now ∨ x.st = 6 ∧ a + 26214400 ≤ u.now) →
      Answers (.rxQualify p t) s fun s' => onlyPort u s' p { x with qualified := true }) ∧
    ((x.st = 2 ∧ x.since + 2000000000 ≤ u.now ∨ x.st = 3 ∧ x.since + 100000000 ≤ u.now) →
      (x.tries < 2 → Answers (.trainTimeout p t) s fun s' => (portOf s' p).st = 2 ∧ (portOf s' p).since = u.now ∧
        (portOf s' p).tries = x.tries + 1 ∧ (portOf s' p).adapted = none ∧ (portOf s' p).session = x.session ∧
        s' = { u with ports := s'.ports } ∧ ∀ o, o ≠ p → portOf s' o = portOf u o) ∧
      (2 ≤ x.tries → Answers (.trainTimeout p t) s fun s' => PortFails u s' p 8)) ∧
    ((x.st = 4 ∨ x.st = 5) →
      (x.goodAt + 4000000 ≤ u.now → Answers (.rxSilence p t) s fun s' => Retrains u s' p) ∧
      (Answers (.codewordLockLost p t) s fun s' => Retrains u s' p) ∧
      (Answers (.prbsRx p t) s fun s' => Retrains u s' p)) ∧
    (x.retrain = true → (x.st = 6 ∨ x.st = 3) → x.retrainAt + 200000000 ≤ u.now → Answers (.retrainTimeout p t) s fun s' =>
      (portOf s' p).st = 2 ∧ (portOf s' p).retrain = false ∧ (portOf s' p).since = u.now ∧ (portOf s' p).adapted = none ∧
      (portOf s' p).session = x.session ∧ (portOf s' p).replayBuf = x.replayBuf ∧ s' = { u with ports := s'.ports } ∧
      ∀ o, o ≠ p → portOf s' o = portOf u o) ∧
    (reachable u q = true →
      (u.takesWrite q .dklCtrl (p % 4) (p / 4) 1 →
        ((x.st = 4 ∨ x.st = 5) → Answers (.retrain q p t) s fun s' => Retrains u s' p) ∧
        (x.st ≠ 4 → x.st ≠ 5 → exec (.retrain q p t) s =
          .next (logAccess u .dkl 0x02 (regAddr .dklCtrl (p % 4) (p / 4)) (reqCode q)))) ∧
      (u.takesWrite q .dklCtrl (p % 4) (p / 4) 2 →
        (x.st = 7 → Answers (.reprobe q p t) s fun s' =>
          (portOf s' p).st = 1 ∧ (portOf s' p).session = x.session ∧ (portOf s' p).since = u.now ∧ s'.mem = u.mem ∧
          ∀ o, o ≠ p → portOf s' o = portOf u o) ∧
        (x.st ≠ 7 → exec (.reprobe q p t) s =
          .next (logAccess u .dkl 0x02 (regAddr .dklCtrl (p % 4) (p / 4)) (reqCode q))))) ∧
    -- darkness (R533, R540)
    (x.light.isSome = true →
      ((x.st = 4 ∨ x.st = 5 ∨ x.st = 6) → Answers (.lossOfSignal p t) s fun s' =>
        (portOf s' p).st = 9 ∧ (portOf s' p).back = x.st ∧ (portOf s' p).light = none ∧ (portOf s' p).losAt = u.now ∧
        (portOf s' p).replayBuf = x.replayBuf ∧ (portOf s' p).session = x.session ∧ rises s' 23 16 255 ∧
        s' = { u with ports := s'.ports, regs := s'.regs }) ∧
      (x.st ≠ 4 → x.st ≠ 5 → x.st ≠ 6 → Answers (.lossOfSignal p t) s fun s' =>
        onlyPort u s' p { x with light := none, losAt := u.now })) ∧
    (x.light = none → ∀ relocked,
      (x.st ≠ 9 → Answers (.signalReturn p relocked t) s fun s' =>
        bitAt (rget s' .clkLockStatus) (32 + p % 4) = true ∧ portOf s' p = { x with light := some u.now } ∧ s'.mem = u.mem) ∧
      (x.st = 9 → relocked = false → Answers (.signalReturn p relocked t) s fun s' =>
        Retrains u s' p ∧ (portOf s' p).light = some u.now) ∧
      (x.st = 9 → relocked = true → Answers (.signalReturn p relocked t) s fun s' =>
        (portOf s' p).st = x.back ∧ (portOf s' p).light = some u.now ∧ (portOf s' p).goodAt = u.now ∧
        (portOf s' p).replayAt = (if x.back ≠ 6 ∧ x.txExt ≠ x.oldest then some x.oldest else x.replayAt) ∧
        (portOf s' p).replayBuf = x.replayBuf ∧ s'.mem = u.mem)) ∧
    (x.light = none → (x.st = 9 ∨ x.st = 7 ∨ x.st = 3 ∨ x.st = 2) → x.losAt + 50000000 < u.now →
      Answers (.losTimeout p t) s fun s' => (portOf s' p).st = 1 ∧ (portOf s' p).session = x.session ∧
        (portOf s' p).replayBuf = x.replayBuf ∧ s' = { u with ports := s'.ports } ∧ ∀ o, o ≠ p → portOf s' o = portOf u o)

/-! ### Breakwater -/

/-- Breakwater's light (R499, R654, R661, R664 to R666, R668 to R674, R676, R678 to R680): what raises a port, reduces it to PROBE or cuts
it to OFF, its interlocks, its brake tests, and the permits between chips. -/
def Obligations.BreakwaterGovernsTheLight : Prop :=
  ∀ (s : State) (p e t : Nat),
    let u := s.at t
    let x := portOf u p
    let bp := bwPortOf u p
    let permitSpan := fieldAt u.plan.safety 4 2 * 1000000
    u.regsOk →
    (p < 32 →
      (x.st = 0 → u.img.inForce = true → u.img.isSealed = true → u.pwr.fold = none → u.sec.badSince = none → lightAllowed u p = true →
        Answers (.portProbeStart p t) s fun s' =>
          (portOf s' p).st = 1 ∧ (bwPortOf s' p).level = 1 ∧ (portOf s' p).txExt = 0 ∧ (portOf s' p).rxExt = 0 ∧
          (portOf s' p).replayBuf = [] ∧ (portOf s' p).far = [] ∧
          (x.nonce ≠ [] → (portOf s' p).session = (x.session + 1) % 2 ^ 32) ∧
          ∀ o, o ≠ p → portOf s' o = portOf u o ∧ bwPortOf s' o = bwPortOf u o) ∧
      (mayGrant u p = true →
        (bp.tested = true → Answers (.fullPowerGrant p t) s fun s' =>
          (portOf s' p).st = 2 ∧ (portOf s' p).since = u.now ∧ (bwPortOf s' p).level = 2 ∧ (bwPortOf s' p).held = 0 ∧
          (∀ o, o ≠ p → portOf s' o = portOf u o ∧ bwPortOf s' o = bwPortOf u o) ∧ s'.mem = u.mem) ∧
        (bp.tested = false → Answers (.fullPowerGrant p t) s fun s' =>
          s'.ports = u.ports ∧ bwPortOf s' p = { bp with level := 3, was := 1, test := some (u.now, false) } ∧
          (∀ o, o ≠ p → bwPortOf s' o = bwPortOf u o) ∧ s'.mem = u.mem)) ∧
      (2 ≤ bp.level → x.light = none → x.losAt + 50000000 ≤ u.now → Answers (.aprReduce p t) s fun s' => ReducedToProbe u s' p) ∧
      (∀ chan, bp.level ≠ 0 → channelBad u chan (p % 4) = false → Answers (.overPower p chan t) s fun s' =>
        CutToOff s' p ∧ (∀ o, o ≠ p → portOf s' o = portOf u o ∧ bwPortOf s' o = bwPortOf u o) ∧
        (∀ n < 64, bitAt (rget s' .bwrIntlk) n = (bitAt (rget u .bwrIntlk) n || n == 4 * (p % 4) + 3)) ∧ s'.mem = u.mem) ∧
      (u.bw.sfOn = true → u.bw.disagree = none → Answers (.channelDiscrepancy p t) s fun s' =>
        DieCut u s' (p % 4) ∧ s'.bw.disagree = some (p % 4) ∧ s'.mem = u.mem) ∧
      (x.st = 4 → u.bw.sfOn = true → bp.permitDue ≤ u.now → Answers (.permitSend p t) s fun s' =>
        (∃ m ∈ (Tab.getD (TxChan.clear 0) 0 (portOf s' p).tx).units,
          m.safety = true ∧ m.bytes = vc0Message u 7 0 0 (safetyBody u p 1 0 0)) ∧
        (bwPortOf s' p).seq = (bp.seq + 1) % 2 ^ 32 ∧ (bp.seq, u.now) ∈ (bwPortOf s' p).sent ∧
        (bwPortOf s' p).permitDue = u.now + fieldAt u.plan.safety 2 2 * 1000000 ∧ s'.mem = u.mem) ∧
      (x.st = 4 → bp.permitAt + permitSpan ≤ u.now → Answers (.permitLoss p t) s fun s' =>
        ReducedToProbe u s' p ∧ (bwPortOf s' p).held = 5) ∧
      (∀ d, bp.holdTill = some d → d ≤ u.now → Answers (.shutdownHoldEnd p t) s fun s' =>
        bwPortOf s' p = { bp with holdTill := none } ∧ s' = { u with bw := s'.bw }) ∧
      (bp.level = 2 → overdue u p = true → Answers (.brakeTestOverdue p t) s fun s' => ReducedToProbe u s' p) ∧
      (∀ b, MessageAt u p 7 b →
        let body := b.drop 16
        let ok := safetyAccepts u p body
        let fresh := (bp.rejects.filter fun t => decide (u.now ≤ t + 10000000000)).length
        let rejected := fun (s' : State) => rfield s' .bwrPort 31 16 p = min (rfield u .bwrPort 31 16 p + 1) 65535
        (fieldAt body 0 1 ≠ 2 →
          (ok = (true, true) → Answers (.permit p t) s fun s' =>
            (bwPortOf s' p).acc = some (fieldAt body 8 4) ∧ (bwPortOf s' p).level = bp.level ∧
            (bwPortOf s' p).permitAt = (if timely u p (fieldAt body 12 4) = true then u.now else bp.permitAt) ∧ s'.mem = u.mem) ∧
          (ok ≠ (true, true) → Answers (.permit p t) s fun s' =>
            rejected s' ∧ (bwPortOf s' p).acc = bp.acc ∧ (bwPortOf s' p).permitAt = bp.permitAt ∧
            (fresh < 2 → (bwPortOf s' p).level = bp.level ∧ (bwPortOf s' p).rejects.length = fresh + 1) ∧
            (2 ≤ fresh → (bwPortOf s' p).rejects = [] ∧ (bp.level ≠ 0 →
              (bwPortOf s' p).level = 1 ∧ (bwPortOf s' p).held = 5 ∧ (portOf s' p).st = if x.st = 8 ∨ x.st = 0 then x.st else 1)) ∧
            s'.mem = u.mem)) ∧
        (fieldAt body 0 1 = 2 →
          ((ok.1 || ok.2) = true → Answers (.shutdown p t) s fun s' =>
            CutToOff s' p ∧ (bwPortOf s' p).holdTill = some (u.now + fieldAt body 18 2 * 1000000000) ∧
            (bwPortOf s' p).acc = some (fieldAt body 8 4) ∧
            rfield s' .bwrPort 15 0 p = min (rfield u .bwrPort 15 0 p + 1) 65535 ∧
            (ok ≠ (true, true) → rejected s') ∧ s'.mem = u.mem) ∧
          (ok = (false, false) → Answers (.shutdown p t) s fun s' =>
            rejected s' ∧ (bwPortOf s' p).holdTill = bp.holdTill ∧ (fresh < 2 → (bwPortOf s' p).level = bp.level) ∧ s'.mem = u.mem)))) ∧
    (e < 4 →
      (∀ a b, u.bw.sfOn = true → Answers (.interlockPulse e a b t) s fun s' =>
        let k := fun (c : Channel) (n : Nat) (sense : Bool) =>
          (channelBad u c e = true → Tab.find n s'.bw.closed = Tab.find n u.bw.closed ∧ Tab.find n s'.bw.wrong = Tab.find n u.bw.wrong) ∧
          (channelBad u c e = false → sense = true →
            Tab.find n s'.bw.closed = some (Tab.getD u.now n u.bw.closed) ∧ Tab.find n s'.bw.wrong = none) ∧
          (channelBad u c e = false → sense = false → (Tab.find n u.bw.closed).isSome = true →
            Tab.find n s'.bw.wrong = some (Tab.getD 0 n u.bw.wrong + 1) ∧
            (1 ≤ Tab.getD 0 n u.bw.wrong → DieCut u s' e ∧ bitAt (rget s' .bwrIntlk) (4 * e + 2) = true))
        (u.bw.closed.Pairwise fun a b => a.1 < b.1) → (u.bw.wrong.Pairwise fun a b => a.1 < b.1) →
        k .p (2 * e) a ∧ k .h (2 * e + 1) b ∧ s'.mem = u.mem ∧ s'.ctxs = u.ctxs) ∧
      (∀ chan : Channel, channelBad u chan e = false → Answers (.interlockOpen e chan t) s fun s' =>
        DieCut u s' e ∧ s'.mem = u.mem ∧
        ((u.bw.closed.Pairwise fun a b => a.1 < b.1) →
          Tab.find (2 * e + (match chan with | .p => 0 | .h => 1)) s'.bw.closed = none)) ∧
      (∀ n, u.bw.sfOn = true → u.tide.running = true → u.tide.sampled = false → u.tide.bay = fieldAt u.plan.safety 12 1 →
        bayOccurs u u.tide.bay = true → brakeMoment u ≤ u.now → u.now + 60000000 ≤ bayEndAt u u.tide.bay →
        (∀ a, Tab.find e u.bw.testAt = some a → a < u.tide.tick) → brakePort u e = some n →
        Answers (.brakeTestStart e t) s fun s' =>
          bwPortOf s' n = { bwPortOf u n with level := 3, was := (bwPortOf u n).level, test := some (u.now, false) } ∧
          (∀ o, o ≠ n → bwPortOf s' o = bwPortOf u o) ∧ s'.ports = u.ports ∧ s'.mem = u.mem) ∧
      (∀ n monP monH t0 second, checkPort u e = some n → (bwPortOf u n).test = some (t0, second) →
        Answers (.brakeTestCheck e monP monH t) s fun s' =>
          rget s' .bwrLastTest = word (tideNo u % 2 ^ 48 * 2 ^ 16 + n * 64 + second.toNat * 32 + (monP && monH).toNat) ∧ s'.mem = u.mem ∧
          ((monP && monH) = false → CutToOff s' n ∧ LockoutDecided (cutOff u n) s' 1) ∧
          ((monP && monH) = true → second = false → bwPortOf s' n = { bwPortOf u n with test := some (t0, true) } ∧ s'.ports = u.ports) ∧
          ((monP && monH) = true → second = true → (bwPortOf s' n).level = (bwPortOf u n).was ∧ (bwPortOf s' n).test = none ∧
            (bwPortOf s' n).tested = true ∧ (bwPortOf s' n).passed = some u.now ∧ (portOf s' n).st = (portOf u n).st)))

/-- Lock-out and the way out of it (R661, R662, R681, R682, R684 to R689, R692, R695, R696, R700): channel faults lead to degraded mode or
lock-out; a lock-out's entry cuts every port and ends every uncommitted step; only ARM and CONFIRM with their keys, in their time and
with a passed self-test, end it. -/
def Obligations.LockoutEndsInTwoStepsOnly : Prop :=
  ∀ (s : State) (q : Requester) (t : Nat) (v : Word) (okP : Bool) (okH : List Bool),
    let u := s.at t
    let result := fun (s' : State) => rfield s' .bwrResetStatus 59 56
    let armed := fun (s' : State) => rfield s' .bwrResetStatus 63 63
    let write := reachable u q = true ∧ u.bw.sfOn = true ∧ u.takesWrite q .bwrCmd 0 0 v
    let h := fun e => okH.getD e true
    let hour := 3600000000000000
    let limit := fieldAt u.plan.safety 13 1 * hour
    let same := fun (s' : State) => s'.mem = u.mem ∧ s'.ctxs = u.ctxs ∧ s'.ports = u.ports ∧ s'.bw.ports = u.bw.ports
    u.regsOk →
    -- channels
    (∀ chan e, u.bw.sfOn = true → Answers (.channelFault chan e t) s fun s' =>
      ChannelFaulted u s' chan ((if e < 4 then [e] else List.range 4) ++ match chan with
        | .p => if u.clk.told.testBit 0 = true then List.range 4 else []
        | .h => (List.range 4).filter fun e => u.clk.told.testBit (e + 1)) ∧ s'.mem = u.mem ∧ s'.ctxs = u.ctxs) ∧
    (u.bw.sfOn = true → exec (.romCrcCheck true t) s = .next u ∧
      Answers (.romCrcCheck false t) s fun s' => ChannelFaulted u s' .p (List.range 4) ∧ s'.mem = u.mem ∧ s'.ctxs = u.ctxs) ∧
    (∀ e < 4, u.bw.disagree = some e → Answers (.channelSelfTestDone okP okH t) s fun s' =>
      s'.bw.disagree = none ∧ s'.mem = u.mem ∧ s'.ctxs = u.ctxs ∧
      (okP = true → h e = true → LockoutDecided u s' 5) ∧
      (okP = false → h e = true → ChannelFaulted u s' .p [e]) ∧
      (okP = true → h e = false → ChannelFaulted u s' .h [e]) ∧
      (okP = false → h e = false → LockoutDecided u s' 2)) ∧
    (∀ d, degraded u = true → u.bw.degradedAt = some d →
      (u.bw.warned = false → d + limit ≤ u.now + 600000000000000 → Answers (.degradedWarning t) s fun s' =>
        s'.bw = { u.bw with warned := true } ∧ s' = { u with bw := s'.bw, log := s'.log } ∧
        ∃ e, s'.log.entries = (e :: u.log.entries).take 8192 ∧ e.cls = 6 ∧ e.code = 2 ∧ e.source = Src.bwr.code) ∧
      (u.bw.expired = false → d + limit ≤ u.now → Answers (.degradedExpired t) s fun s' => LockoutDecided u s' 3 ∧ s'.mem = u.mem ∧ s'.ctxs = u.ctxs)) ∧
    -- into lock-out
    (∀ line < 2, (u.bw.sfOn = true ∨ line = 1) → Answers (.externalStop line t) s fun s' =>
      LockoutDecided u s' 7 ∧ s'.mem = u.mem ∧ s'.ctxs = u.ctxs) ∧
    (write → bf v 63 56 = 1 → Answers (.lockout q v t) s fun s' => LockoutDecided u s' 4 ∧ s'.mem = u.mem ∧ s'.ctxs = u.ctxs) ∧
    (∀ cause at_, u.bw.entry = some (cause, at_) → at_ + 16000000 ≤ u.now → Answers (.lockoutEntry t) s fun s' =>
      (∀ p < 32, CutToOff s' p) ∧ s'.bw.entry = none ∧ Out.pin "LOCKOUT_N" false ∈ s'.out ∧
      (∀ c < 16, (ctxOf u c).committed = false → (ctxOf u c).st ≠ .idle → (ctxOf u c).cause = none →
        (ctxOf s' c).st = .killing ∧ (ctxOf s' c).cause = some lockMark) ∧
      (∀ c < 16, (ctxOf u c).committed = true → ctxOf s' c = ctxOf u c) ∧
      ∃ e ∈ s'.log.entries, e.cls = 5 ∧ e.code = cause % 256 ∧ e.source = Src.bwr.code) ∧
    -- out of lock-out
    (reachable u .bc8 = true → u.bw.sfOn = true → ∀ i ∈ [Instr.arm .bc8 v t, Instr.confirm .bc8 v true true true t, Instr.abortC .bc8 v t],
      (i = .arm .bc8 v t → bf v 63 56 = 2) → (i = .confirm .bc8 v true true true t → bf v 63 56 = 3) →
      (i = .abortC .bc8 v t → bf v 63 56 = 4) →
      exec i s = .next (logAccess u .bwr 0x04 (regAddr .bwrCmd 0 0) (reqCode .bc8))) ∧
    (write → q ≠ .bc8 → bf v 63 56 = 2 →
      (bf v 31 16 = onesComp 16 (rfield u .bwrStatus 15 0) → bf v 50 48 ≤ 4 → Answers (.arm q v t) s fun s' =>
        armed s' = 1 ∧ rfield s' .bwrResetStatus 62 60 = bf v 50 48 ∧ s'.bw.armAt = some u.now ∧
        rfield s' .bwrResetStatus 47 32 = Config.freeRandom u.free % 65536 ∧ s'.free = u.free + 1 ∧
        inLockout s' = inLockout u ∧ same s') ∧
      ((bf v 31 16 ≠ onesComp 16 (rfield u .bwrStatus 15 0) ∨ 4 < bf v 50 48) → Answers (.arm q v t) s fun s' =>
        result s' = 5 ∧ s'.bw.armAt = u.bw.armAt ∧ inLockout s' = inLockout u ∧ same s')) ∧
    (write → q ≠ .bc8 → bf v 63 56 = 3 → ∀ permit stopP stopH : Bool,
      (u.bw.armAt = none → Answers (.confirm q v permit stopP stopH t) s fun s' =>
        result s' = 2 ∧ s'.bw.confirm = u.bw.confirm ∧ inLockout s' = inLockout u ∧ same s') ∧
      (∀ a, u.bw.armAt = some a →
        let keyOk := bf v 31 16 = onesComp 16 (rfield u .bwrResetStatus 47 32) ∧ bf v 50 48 = rfield u .bwrResetStatus 62 60
        let may := a + 1000000000000 ≤ u.now ∧ u.now ≤ a + 60000000000000 ∧ permit = true ∧ stopP = true ∧ stopH = true ∧
          u.clk.safeBad = false ∧ u.clk.lnkBad = false ∧ (inLockout u = true ↔ bf v 50 48 = 0)
        Answers (.confirm q v permit stopP stopH t) s fun s' =>
          s'.bw.armAt = none ∧ armed s' = 0 ∧ inLockout s' = inLockout u ∧ same s' ∧
          (¬keyOk → result s' = 5 ∧ s'.bw.confirm = u.bw.confirm) ∧ (keyOk → ¬may → result s' = 2 ∧ s'.bw.confirm = u.bw.confirm) ∧
          (keyOk → may → s'.bw.confirm = some (bf v 50 48)))) ∧
    (write → q ≠ .bc8 → bf v 63 56 = 4 → Answers (.abortC q v t) s fun s' =>
      armed s' = 0 ∧ s'.bw.armAt = none ∧ inLockout s' = inLockout u ∧ same s') ∧
    (∀ a, u.bw.armAt = some a → a + 60000000000000 < u.now → Answers (.armTimeout t) s fun s' =>
      armed s' = 0 ∧ result s' = 4 ∧ s'.bw.armAt = none ∧ inLockout s' = inLockout u ∧ same s') ∧
    (∀ scope, u.bw.confirm = some scope → Answers (.resetSelfTestDone okP okH t) s fun s' =>
      s'.bw.confirm = none ∧ same s' ∧
      (scope = 0 → okP = true → (∀ e < 4, h e = true) →
        inLockout s' = false ∧ (∀ e < 4, ∀ c, channelBad s' c e = false) ∧ rget s' .bwrIntlk = 0 ∧ result s' = 1 ∧
        s'.bw.degradedAt = none ∧ Out.pin "LOCKOUT_N" true ∈ s'.out ∧ Out.pin "SAFE_FAULT_N" true ∈ s'.out) ∧
      (scope = 0 → (okP = false ∨ ∃ e < 4, h e = false) → result s' = 3 ∧ u.otherRegs s' .bwrResetStatus 0 0) ∧
      (∀ e < 4, scope = e + 1 →
        (okP = true → h e = true → result s' = 1 ∧ inLockout s' = inLockout u ∧
          ∀ n < 64, bitAt (rget s' .bwrIntlk) n = (bitAt (rget u .bwrIntlk) n && n != 4 * e + 2 && n != 4 * e + 3)) ∧
        ((okP = false ∨ h e = false) → result s' = 3 ∧ u.otherRegs s' .bwrResetStatus 0 0))) ∧
    -- the safety die's supply
    (u.bw.sfOn = true → Answers (.sfPowerLoss t) s fun s' =>
      (∀ p < 32, CutToOff s' p) ∧ s'.bw.sfOn = false ∧ Out.pin "LOCKOUT_N" false ∈ s'.out ∧ s'.mem = u.mem ∧ s'.ctxs = u.ctxs) ∧
    (u.bw.sfOn = false → Answers (.sfPowerOn u.pwr.pwrok t) s fun s' =>
      s'.bw.sfOn = true ∧ inLockout s' = u.pwr.pwrok ∧ s'.mem = u.mem ∧ s'.ctxs = u.ctxs ∧
      (u.pwr.pwrok = true → rfield s' .bwrStatus 31 24 = 6 ∧ s'.bw.entry = some (6, u.now)) ∧
      (∀ r ∈ bwrRegs, r ≠ .bwrStatus → ∀ d i, r.inRange d i → rgetX s' r d i = r.info.reset) ∧
      ∀ p < 32, (bwPortOf s' p).level = 0 ∧ (bwPortOf s' p).tested = false)

/-! ### Security -/

/-- The security controller (R705, R706, R716 to R725, R734): entropy failures and recovery, the requests of the management path by lifecycle
and session, and the tamper reset. The response codes are the model's (log entry 37). -/
def Obligations.SecurityRequestsFollowTheirRules : Prop :=
  ∀ (s : State) (t : Nat) (msg : List Byte) (flag : Bool),
    let u := s.at t
    let err := fun (reason : Nat) => Host.Outcome.next { u with out := Out.mgmt 0x7F (leBytes 1 reason) :: u.out }
    let served := fun (cycles : List Nat) => u.sec.session = true ∧ cycles.contains (lifecycle u) = true
    let only := fun (s' : State) => s'.mem = u.mem ∧ s'.ctxs = u.ctxs ∧ s'.regs = u.regs ∧ s'.pwr = u.pwr
    u.regsOk →
    (u.pwr.inReset = false →
      (Answers (.entropyTestFail flag t) s fun s' =>
        s'.sec = { u.sec with badSince := some (u.sec.badSince.getD u.now) } ∧ bitAt (rget s' .secStatus) 58 = true ∧
        rfield s' .secEntropy 15 0 = (if flag = true then min (rfield u .secEntropy 15 0 + 1) 65535 else rfield u .secEntropy 15 0) ∧
        rfield s' .secEntropy 31 16 = (if flag = true then rfield u .secEntropy 31 16 else min (rfield u .secEntropy 31 16 + 1) 65535) ∧
        s' = { u with regs := s'.regs, sec := s'.sec }) ∧
      (Answers (.supplyGlitch t) s fun s' => Tampered u s' 0x68 ∧ s'.fuse = u.fuse) ∧
      (u.sec.badSince = none → exec (.drbgReseed t) s = .next { u with sec := { u.sec with seededAt := u.now } })) ∧
    (u.sec.badSince.isSome = true → Answers (.entropyStartupPass t) s fun s' =>
      s'.sec.badSince = none ∧ s'.sec.waitEntropy = false ∧ s'.sec.seededAt = u.now ∧ s'.sec.held = [] ∧
      s'.out.length = u.out.length + u.sec.held.length ∧ only s') ∧
    (∀ b, u.sec.waitEntropy = false → u.sec.badSince = some b → b + 100000000000 ≤ u.now →
      Answers (.entropyRecoveryTimeout t) s fun s' => s'.sec.waitEntropy = true ∧
        (u.mayFold → s'.pwr.fold = some (u.now, .chipLoss) ∧ phase s' = 6)) ∧
    (mgmtUp u = true →
      -- SPDM
      (u.pwr.fold.isSome = true → exec (.getMeasurements msg t) s = err 0x03) ∧
      (u.pwr.fold = none → u.sec.deviceId = false → exec (.getMeasurements msg t) s = err 0x05) ∧
      (u.pwr.fold = none → u.sec.deviceId = true → exec (.getMeasurements msg t) s = .next
        { u with out := Out.mgmt 0x60 (Config.spdmAnswer 0x60 msg (u.sec.meas.map fun m => leBytes 1 m.1 ++ m.2)) :: u.out }) ∧
      ((u.sec.deviceId = false ∨ retired u = true) → exec (.keyExchange msg t) s = err 0x05) ∧
      (u.sec.deviceId = true → retired u = false →
        (u.sec.session = true → exec (.keyExchange msg t) s = err 0x03) ∧
        (u.sec.session = false → u.sec.badSince.isSome = true →
          exec (.keyExchange msg t) s = .next { u with sec := { u.sec with held := u.sec.held ++ [(false, msg)] } }) ∧
        (u.sec.session = false → u.sec.badSince = none → Answers (.keyExchange msg t) s fun s' =>
          s'.sec = { u.sec with session := true } ∧ s'.free = u.free + 1 ∧ s'.out.length = u.out.length + 1 ∧ only s')) ∧
      (u.sec.session = true → exec (.spdmSessionEnd t) s =
        .next { u with sec := { u.sec with session := false }, out := Out.mgmt 0x6C [] :: u.out }) ∧
      -- requests outside a session or their lifecycles
      (¬served [1] → (∀ sound, exec (.programSlot msg sound t) s = err 0x05) ∧ exec (.exportKt msg t) s = err 0x05 ∧
        exec (.setProduction msg t) s = err 0x05) ∧
      (¬served [0, 1, 2] → exec (.getNonce msg t) s = err 0x05) ∧
      (¬served [1, 2] → exec (.debugEnter msg t) s = err 0x05 ∧ exec (.retire msg t) s = err 0x05) ∧
      -- requests inside them
      (served [1] →
        let scheme := fieldAt msg 0 1
        let n := fieldAt msg 1 1
        let prog := if scheme = 0 then u.fuse.mldsaProg else u.fuse.ecdsaProg
        let good := scheme ≤ 1 ∧ 1 ≤ n ∧ n ≤ 3 ∧ prog.testBit n = false ∧ (msg.drop 2).length = if scheme = 0 then 2592 else 97
        (¬good → ∀ sound, exec (.programSlot msg sound t) s = err 0x05) ∧
        (good → ∀ sound, Answers (.programSlot msg sound t) s fun s' =>
          let prog' := if scheme = 0 then s'.fuse.mldsaProg else s'.fuse.ecdsaProg
          let rev' := if scheme = 0 then s'.fuse.mldsaRev else s'.fuse.ecdsaRev
          let rev := if scheme = 0 then u.fuse.mldsaRev else u.fuse.ecdsaRev
          prog'.testBit n = true ∧ rev'.testBit n = (rev.testBit n || !sound) ∧ s'.fuse.lifecycle = u.fuse.lifecycle ∧
          s'.fuse.serial = u.fuse.serial ∧ s'.sec = u.sec ∧ only s') ∧
        (rfield u .secStatus 61 60 = 2 → exec (.exportKt msg t) s = err 0x05) ∧
        (rfield u .secStatus 61 60 ≠ 2 → exec (.exportKt msg t) s = .next { u with out := Out.mgmt 0x7E keyKT :: u.out }) ∧
        ((u.fuse.mldsaProg.testBit 1 && u.fuse.ecdsaProg.testBit 1) = true → exec (.setProduction msg t) s =
          .next { u with fuse := { u.fuse with lifecycle := 2 }, out := Out.mgmt 0x7E [] :: u.out }) ∧
        ((u.fuse.mldsaProg.testBit 1 && u.fuse.ecdsaProg.testBit 1) = false → exec (.setProduction msg t) s = err 0x05)) ∧
      (served [0, 1, 2] →
        (u.sec.badSince.isSome = true →
          exec (.getNonce msg t) s = .next { u with sec := { u.sec with held := u.sec.held ++ [(true, msg)] } }) ∧
        (u.sec.badSince = none →
          let n := leBytes 16 (Config.freeRandom u.free)
          exec (.getNonce msg t) s = .next
            { u with free := u.free + 1, sec := { u.sec with nonces := (u.now, n) :: u.sec.nonces }, out := Out.mgmt 0x7E n :: u.out })) ∧
      (served [1, 2] →
        let op := fieldAt msg 4 1
        ((op = 1 ∨ op = 2) → tokenValid u msg op = true → Answers (.debugEnter msg t) s fun s' =>
          Tampered u s' 0x69 ∧ s'.sec.latch = op ∧ s'.fuse = u.fuse) ∧
        (¬((op = 1 ∨ op = 2) ∧ tokenValid u msg op = true) → exec (.debugEnter msg t) s = err 0x05) ∧
        (tokenValid u msg 3 = true → Answers (.retire msg t) s fun s' =>
          Tampered u s' 0x69 ∧ s'.fuse = { u.fuse with lifecycle := 3 }) ∧
        (tokenValid u msg 3 = false → exec (.retire msg t) s = err 0x05)))
end

