-- ==== Sys2Proof/Laws/Memory.lean ====
section
/-! SUPPORT. Sparse tables and memory: a read after a write gives the value written, a write leaves every other place alone,
and every memory operation keeps the canonical form. -/

namespace Sys2Proof.Machine

/-! ### Tables -/

namespace Tab

variable {α : Type}

/-- Reading the key just written. -/
@[simp] theorem find_put_same (k : Nat) (v : α) (m : Tab α) : find k (put k v m) = some v := by
  induction m with
  | nil => simp [put, find]
  | cons c m ih =>
    obtain ⟨j, w⟩ := c
    unfold put
    split
    · simp [find]
    · split
      · simp [find]
      · rename_i h1 h2
        simp [find, Ne.symm h2, ih]

/-- A write leaves every other key alone. -/
theorem find_put_ne {k l : Nat} (h : l ≠ k) (v : α) (m : Tab α) : find l (put k v m) = find l m := by
  induction m with
  | nil => simp [put, find, Ne.symm h]
  | cons c m ih =>
    obtain ⟨j, w⟩ := c
    unfold put
    split
    · simp [find, Ne.symm h]
    · split
      · rename_i h2
        subst h2
        simp [find, Ne.symm h]
      · simp only [find, ih]

/-- A deleted key is not found in a rising table. -/
theorem find_del_ne {k l : Nat} (h : l ≠ k) (m : Tab α) : find l (del k m) = find l m := by
  induction m with
  | nil => simp [del]
  | cons c m ih =>
    obtain ⟨j, w⟩ := c
    unfold del
    split
    · rename_i h2
      subst h2
      simp [find, Ne.symm h]
    · simp only [find, ih]

/-- Every key of a table after a write is the written one or was there. -/
theorem mem_put {k : Nat} {v : α} {m : Tab α} {c : Nat × α} (h : c ∈ put k v m) : c = (k, v) ∨ c ∈ m := by
  induction m with
  | nil => simpa [put] using h
  | cons d m ih =>
    obtain ⟨j, w⟩ := d
    unfold put at h
    split at h
    · simpa using h
    · split at h
      · rcases List.mem_cons.1 h with h | h
        · exact .inl h
        · exact .inr (List.mem_cons_of_mem _ h)
      · rcases List.mem_cons.1 h with h | h
        · exact .inr (h ▸ List.mem_cons_self)
        · rcases ih h with h | h
          · exact .inl h
          · exact .inr (List.mem_cons_of_mem _ h)

/-- A deletion leaves a part of the table. -/
theorem del_sublist (k : Nat) (m : Tab α) : (del k m).Sublist m := by
  induction m with
  | nil => simp [del]
  | cons c m ih =>
    obtain ⟨j, w⟩ := c
    unfold del
    split
    · exact List.sublist_cons_self _ _
    · exact ih.cons_cons _

/-- The deletion of a span leaves a part of the table. -/
theorem delRange_sublist (a b : Nat) (m : Tab α) : (delRange a b m).Sublist m := by
  unfold delRange
  exact List.filter_sublist

/-- A rising table stays so when a key is written. -/
theorem rising_put {k : Nat} {v : α} {m : Tab α} (h : m.Pairwise fun a b => a.1 < b.1) :
    (put k v m).Pairwise fun a b => a.1 < b.1 := by
  induction m with
  | nil => simp [put]
  | cons c m ih =>
    obtain ⟨j, w⟩ := c
    rw [List.pairwise_cons] at h
    unfold put
    split
    · rename_i h1
      refine List.pairwise_cons.2 ⟨?_, List.pairwise_cons.2 h⟩
      intro a ha
      rcases List.mem_cons.1 ha with rfl | ha
      · exact h1
      · exact Nat.lt_trans h1 (h.1 a ha)
    · split
      · rename_i h2
        subst h2
        exact List.pairwise_cons.2 h
      · rename_i h1 h2
        refine List.pairwise_cons.2 ⟨?_, ih h.2⟩
        intro a ha
        rcases mem_put ha with rfl | ha
        · show j < k
          omega
        · exact h.1 a ha

end Tab

/-! ### Memory -/

/-- The canonical form, as a statement. -/
theorem Memory.wf_iff {m : List Host.Cell} :
    Memory.wf m = true ↔ m.Pairwise (fun a b => a.1 < b.1) ∧ ∀ c ∈ m, memDefault c.1 ≠ some c.2 := by
  simp [Memory.wf]

/-- Any part of a canonical memory is canonical. -/
theorem Memory.wf_sublist {m l : List Host.Cell} (h : Memory.wf m = true) (hs : l.Sublist m) : Memory.wf l = true := by
  rw [wf_iff] at *
  exact ⟨h.1.sublist hs, fun c hc => h.2 c (hs.subset hc)⟩

/-- A written byte keeps the canonical form. -/
theorem memPut_wf {m : List Host.Cell} (h : Memory.wf m = true) (a : Nat) (b : Byte) : Memory.wf (memPut a b m) = true := by
  unfold memPut
  split
  · exact Memory.wf_sublist h (Tab.del_sublist a m)
  · rename_i hb
    rw [Memory.wf_iff] at *
    refine ⟨Tab.rising_put h.1, fun c hc => ?_⟩
    rcases Tab.mem_put hc with rfl | hc
    · exact hb
    · exact h.2 c hc

/-- Written bytes keep the canonical form. -/
theorem memPuts_wf {m : List Host.Cell} (h : Memory.wf m = true) (a : Nat) (bs : List Byte) :
    Memory.wf (memPuts a bs m) = true := by
  induction bs generalizing a m with
  | nil => exact h
  | cons b bs ih => exact ih (memPut_wf h a b) (a + 1)

/-- The deletion of a span keeps the canonical form. -/
theorem delRange_wf {m : List Host.Cell} (h : Memory.wf m = true) (a b : Nat) : Memory.wf (Tab.delRange a b m) = true :=
  Memory.wf_sublist h (Tab.delRange_sublist a b m)

/-- In a rising list a key that the head exceeds is not found. -/
theorem find_none_of_lt {α : Type} {m : Tab α} {a : Nat} (h : ∀ c ∈ m, a < c.1) : Tab.find a m = none := by
  induction m with
  | nil => rfl
  | cons c m ih =>
    obtain ⟨j, w⟩ := c
    have hj : a < j := h (j, w) List.mem_cons_self
    rw [Tab.find, if_neg (by omega), ih fun d hd => h d (List.mem_cons_of_mem _ hd)]

/-- In a rising list a deleted key is not found. -/
theorem find_del_same {α : Type} {m : Tab α} {a : Nat} (h : m.Pairwise fun a b => a.1 < b.1) :
    Tab.find a (Tab.del a m) = none := by
  induction m with
  | nil => rfl
  | cons c m ih =>
    obtain ⟨j, w⟩ := c
    rw [List.pairwise_cons] at h
    unfold Tab.del
    split
    · rename_i h2
      subst h2
      exact find_none_of_lt h.1
    · rename_i h2
      rw [Tab.find, if_neg h2, ih h.2]

/-- Reading the byte just written. -/
theorem memGet_memPut_same {m : List Host.Cell} (h : Memory.wf m = true) (a : Nat) (b : Byte) :
    memGet (memPut a b m) a = some b := by
  unfold memPut
  by_cases hb : memDefault a = some b
  · rw [if_pos hb, memGet, find_del_same (Memory.wf_iff.1 h).1, hb]
  · rw [if_neg hb, memGet, Tab.find_put_same]

/-- A written byte leaves every other address alone. -/
theorem memGet_memPut_ne (m : List Host.Cell) {a x : Nat} (hx : x ≠ a) (b : Byte) :
    memGet (memPut a b m) x = memGet m x := by
  unfold memPut
  by_cases hb : memDefault a = some b
  · rw [if_pos hb, memGet, Tab.find_del_ne hx, memGet]
  · rw [if_neg hb, memGet, Tab.find_put_ne hx, memGet]

/-- Written bytes leave every address outside them alone. -/
theorem memGet_memPuts_outside (bs : List Byte) (m : List Host.Cell) {a x : Nat} (hx : x < a ∨ a + bs.length ≤ x) :
    memGet (memPuts a bs m) x = memGet m x := by
  induction bs generalizing a m with
  | nil => rfl
  | cons b bs ih =>
    simp only [List.length_cons] at hx
    rw [memPuts, ih _ (by omega), memGet_memPut_ne _ (by omega)]

/-- Written bytes read back. -/
theorem memGet_memPuts_inside (bs : List Byte) {m : List Host.Cell} (h : Memory.wf m = true) {a i : Nat} {b : Byte}
    (hb : bs[i]? = some b) : memGet (memPuts a bs m) (a + i) = some b := by
  induction bs generalizing a m i with
  | nil => simp at hb
  | cons c bs ih =>
    cases i with
    | zero =>
      simp only [List.getElem?_cons_zero, Option.some.injEq] at hb
      subst hb
      rw [memPuts, memGet_memPuts_outside _ _ (by omega)]
      exact memGet_memPut_same h a c
    | succ i =>
      rw [List.getElem?_cons_succ] at hb
      have := ih (memPut_wf h a c) (a := a + 1) hb
      rw [memPuts, ← this]
      congr 1
      omega

end Sys2Proof.Machine
end

