-- ==== Sys2Proof/Laws/Canon.lean ====
section
/-! SUPPORT. The form of memory, registers and log (`State.canon`): what depends on nothing else of a state, and the few
operations that write one of the three. -/

namespace Sys2Proof.Machine

/-- The form depends on memory, registers and log only. -/
theorem canon_of {s t : State} (h : s.canon) (hm : t.mem = s.mem) (hr : t.regs = s.regs) (hl : t.log = s.log) : t.canon := by
  unfold State.canon State.memOk State.regsOk State.logOk at *
  rw [hm, hr, hl]
  exact h

/-- Another state with the same memory, registers and log. -/
theorem canon_mk {s : State} {now free pending clk tide plan img ctxs stalls pub cmt cmds tiles sigs nextId nextUid tallies parks bank seqs
    opened heldKill bufs grReqs grWrites grDefer grLast host out pwr notices epochs upsets ports bw fuse sec health lfsr} :
    (State.mk now free pending s.regs s.mem s.log clk tide plan img ctxs stalls pub cmt cmds tiles sigs nextId nextUid
      tallies parks bank seqs opened heldKill bufs grReqs grWrites grDefer grLast host out pwr notices epochs upsets ports
      bw fuse sec health lfsr).canon ↔ s.canon := Iff.rfl

/-- Both branches of a choice keep the form. -/
theorem canon_ite {p : Prop} [Decidable p] {s t : State} (h : s.canon) (k : t.canon) : (if p then s else t).canon := by
  split
  · exact h
  · exact k

/-- A fold of operations that keep the form keeps it. -/
theorem canon_foldl {α : Type} {f : State → α → State} {l : List α} {s : State} (h : s.canon)
    (hf : ∀ s x, s.canon → (f s x).canon) : (l.foldl f s).canon := by
  induction l generalizing s with
  | nil => exact h
  | cons a l ih => exact ih (hf _ _ h)

/-- The state right after reset is in its form. -/
theorem canon_State_reset : State.reset.canon :=
  ⟨show Memory.wf State.reset.mem = true by decide, List.Pairwise.nil, by decide, by simp [State.reset], by decide, by simp [State.reset]⟩

/-- A new memory in its form. -/
theorem canon_mem {s t : State} (h : s.canon) (hm : Memory.wf t.mem = true) (hr : t.regs = s.regs) (hl : t.log = s.log) :
    t.canon := by
  obtain ⟨-, h2, h3⟩ := h
  unfold State.regsOk State.logOk at *
  refine ⟨hm, ?_, ?_⟩
  · unfold State.regsOk; rw [hr]; exact h2
  · unfold State.logOk; rw [hl]; exact h3

/-- New registers in their form. -/
theorem canon_regs {s t : State} (h : s.canon) (hm : t.mem = s.mem) (hr : t.regs.Pairwise fun a b => a.1 < b.1)
    (hl : t.log = s.log) : t.canon := by
  obtain ⟨h1, -, h3⟩ := h
  unfold State.memOk State.logOk at *
  refine ⟨?_, hr, ?_⟩
  · unfold State.memOk; rw [hm]; exact h1
  · unfold State.logOk; rw [hl]; exact h3

/-- A register written keeps the form. -/
theorem canon_rputX {s : State} (h : s.canon) (r : Reg) (d i : Nat) (v : Word) : (rputX s r d i v).canon := by
  refine canon_regs h rfl ?_ rfl
  show (regsPut s.regs r d i v).Pairwise _
  unfold regsPut
  split
  · exact h.2.1.sublist (Tab.del_sublist _ _)
  · exact Tab.rising_put h.2.1

/-- Registers returned to their reset values keep the form. -/
theorem canon_rclear {s : State} (h : s.canon) (rs : List Reg) : (rclear s rs).canon :=
  canon_regs h rfl (h.2.1.sublist List.filter_sublist) rfl

/-- Registers of which a part is kept keep the form. -/
theorem canon_keepRegs {s : State} (h : s.canon) (rs : List Reg) : (keepRegs s rs).canon :=
  canon_regs h rfl (h.2.1.sublist List.filter_sublist) rfl

/-- An entry written keeps the form of the log (R777-R780). -/
theorem canon_logRaw {s : State} (h : s.canon) (c : Option Nat) (cls : Nat) (src : Src) (code d0 d1 : Nat) :
    (logRaw s c cls src code d0 d1).canon := by
  obtain ⟨h1, h2, h3, h4, h5, h6⟩ := h
  refine ⟨h1, h2, ?_, ?_, ?_, ?_⟩
  · simp only [logRaw, List.length_take, List.length_cons, h3]
    omega
  · intro i e he
    simp only [logRaw] at he ⊢
    rw [List.getElem?_take] at he
    split at he
    · cases i with
      | zero =>
        simp only [List.getElem?_cons_zero, Option.some.injEq] at he
        subst he
        simp
      | succ i =>
        rw [List.getElem?_cons_succ] at he
        have := h4 i e he
        rw [this]
        congr 1
        omega
    · simp at he
  · simp only [logRaw]
    split
    · simp only [List.length_take, List.length_cons, h5]
      omega
    · exact h5
  · intro e he
    simp only [logRaw] at he
    split at he
    · rename_i hp
      rcases List.mem_cons.1 (List.mem_of_mem_take he) with rfl | he
      · exact hp
      · exact h6 e he
    · exact h6 e he

/-- The counts of a log that do not name entries may change. -/
theorem canon_log {s t : State} (h : s.canon) (hm : t.mem = s.mem) (hr : t.regs = s.regs)
    (he : t.log.entries = s.log.entries) (hp : t.log.pins = s.log.pins) (hs : t.log.seq = s.log.seq)
    (hc : t.log.pinCount = s.log.pinCount) : t.canon := by
  obtain ⟨h1, h2, h3⟩ := h
  unfold State.canon State.memOk State.regsOk State.logOk at *
  rw [hm, hr, he, hp, hs, hc]
  exact ⟨h1, h2, h3⟩

end Sys2Proof.Machine
end

