-- ==== Sys2Proof/Laws/State.lean ====
section
/-! SUPPORT. What the named updates of a state leave of each of its fields, and what is read back of a part just written. -/

namespace Sys2Proof.Machine

/-! The moment moves: every field but `now` stays. -/

@[simp] theorem State.at_free (s : State) (t : Nat) : (s.at t).free = s.free := rfl
@[simp] theorem State.at_pending (s : State) (t : Nat) : (s.at t).pending = s.pending := rfl
@[simp] theorem State.at_regs (s : State) (t : Nat) : (s.at t).regs = s.regs := rfl
@[simp] theorem State.at_mem (s : State) (t : Nat) : (s.at t).mem = s.mem := rfl
@[simp] theorem State.at_log (s : State) (t : Nat) : (s.at t).log = s.log := rfl
@[simp] theorem State.at_clk (s : State) (t : Nat) : (s.at t).clk = s.clk := rfl
@[simp] theorem State.at_tide (s : State) (t : Nat) : (s.at t).tide = s.tide := rfl
@[simp] theorem State.at_plan (s : State) (t : Nat) : (s.at t).plan = s.plan := rfl
@[simp] theorem State.at_img (s : State) (t : Nat) : (s.at t).img = s.img := rfl
@[simp] theorem State.at_ctxs (s : State) (t : Nat) : (s.at t).ctxs = s.ctxs := rfl
@[simp] theorem State.at_stalls (s : State) (t : Nat) : (s.at t).stalls = s.stalls := rfl
@[simp] theorem State.at_pub (s : State) (t : Nat) : (s.at t).pub = s.pub := rfl
@[simp] theorem State.at_cmt (s : State) (t : Nat) : (s.at t).cmt = s.cmt := rfl
@[simp] theorem State.at_cmds (s : State) (t : Nat) : (s.at t).cmds = s.cmds := rfl
@[simp] theorem State.at_tiles (s : State) (t : Nat) : (s.at t).tiles = s.tiles := rfl
@[simp] theorem State.at_sigs (s : State) (t : Nat) : (s.at t).sigs = s.sigs := rfl
@[simp] theorem State.at_nextId (s : State) (t : Nat) : (s.at t).nextId = s.nextId := rfl
@[simp] theorem State.at_nextUid (s : State) (t : Nat) : (s.at t).nextUid = s.nextUid := rfl
@[simp] theorem State.at_tallies (s : State) (t : Nat) : (s.at t).tallies = s.tallies := rfl
@[simp] theorem State.at_parks (s : State) (t : Nat) : (s.at t).parks = s.parks := rfl
@[simp] theorem State.at_bank (s : State) (t : Nat) : (s.at t).bank = s.bank := rfl
@[simp] theorem State.at_seqs (s : State) (t : Nat) : (s.at t).seqs = s.seqs := rfl
@[simp] theorem State.at_opened (s : State) (t : Nat) : (s.at t).opened = s.opened := rfl
@[simp] theorem State.at_heldKill (s : State) (t : Nat) : (s.at t).heldKill = s.heldKill := rfl
@[simp] theorem State.at_bufs (s : State) (t : Nat) : (s.at t).bufs = s.bufs := rfl
@[simp] theorem State.at_grReqs (s : State) (t : Nat) : (s.at t).grReqs = s.grReqs := rfl
@[simp] theorem State.at_grWrites (s : State) (t : Nat) : (s.at t).grWrites = s.grWrites := rfl
@[simp] theorem State.at_grLast (s : State) (t : Nat) : (s.at t).grLast = s.grLast := rfl
@[simp] theorem State.at_host (s : State) (t : Nat) : (s.at t).host = s.host := rfl
@[simp] theorem State.at_out (s : State) (t : Nat) : (s.at t).out = s.out := rfl
@[simp] theorem State.at_pwr (s : State) (t : Nat) : (s.at t).pwr = s.pwr := rfl
@[simp] theorem State.at_notices (s : State) (t : Nat) : (s.at t).notices = s.notices := rfl
@[simp] theorem State.at_epochs (s : State) (t : Nat) : (s.at t).epochs = s.epochs := rfl
@[simp] theorem State.at_upsets (s : State) (t : Nat) : (s.at t).upsets = s.upsets := rfl
@[simp] theorem State.at_ports (s : State) (t : Nat) : (s.at t).ports = s.ports := rfl
@[simp] theorem State.at_bw (s : State) (t : Nat) : (s.at t).bw = s.bw := rfl
@[simp] theorem State.at_fuse (s : State) (t : Nat) : (s.at t).fuse = s.fuse := rfl
@[simp] theorem State.at_sec (s : State) (t : Nat) : (s.at t).sec = s.sec := rfl
@[simp] theorem State.at_health (s : State) (t : Nat) : (s.at t).health = s.health := rfl
@[simp] theorem State.at_lfsr (s : State) (t : Nat) : (s.at t).lfsr = s.lfsr := rfl

/-! A register is replaced: every field but `regs` stays. -/

@[simp] theorem rputX_now (s : State) (r : Reg) (d i : Nat) (v : Word) : (rputX s r d i v).now = s.now := rfl
@[simp] theorem rputX_free (s : State) (r : Reg) (d i : Nat) (v : Word) : (rputX s r d i v).free = s.free := rfl
@[simp] theorem rputX_pending (s : State) (r : Reg) (d i : Nat) (v : Word) : (rputX s r d i v).pending = s.pending := rfl
@[simp] theorem rputX_mem (s : State) (r : Reg) (d i : Nat) (v : Word) : (rputX s r d i v).mem = s.mem := rfl
@[simp] theorem rputX_log (s : State) (r : Reg) (d i : Nat) (v : Word) : (rputX s r d i v).log = s.log := rfl
@[simp] theorem rputX_clk (s : State) (r : Reg) (d i : Nat) (v : Word) : (rputX s r d i v).clk = s.clk := rfl
@[simp] theorem rputX_tide (s : State) (r : Reg) (d i : Nat) (v : Word) : (rputX s r d i v).tide = s.tide := rfl
@[simp] theorem rputX_plan (s : State) (r : Reg) (d i : Nat) (v : Word) : (rputX s r d i v).plan = s.plan := rfl
@[simp] theorem rputX_img (s : State) (r : Reg) (d i : Nat) (v : Word) : (rputX s r d i v).img = s.img := rfl
@[simp] theorem rputX_ctxs (s : State) (r : Reg) (d i : Nat) (v : Word) : (rputX s r d i v).ctxs = s.ctxs := rfl
@[simp] theorem rputX_stalls (s : State) (r : Reg) (d i : Nat) (v : Word) : (rputX s r d i v).stalls = s.stalls := rfl
@[simp] theorem rputX_pub (s : State) (r : Reg) (d i : Nat) (v : Word) : (rputX s r d i v).pub = s.pub := rfl
@[simp] theorem rputX_cmt (s : State) (r : Reg) (d i : Nat) (v : Word) : (rputX s r d i v).cmt = s.cmt := rfl
@[simp] theorem rputX_cmds (s : State) (r : Reg) (d i : Nat) (v : Word) : (rputX s r d i v).cmds = s.cmds := rfl
@[simp] theorem rputX_tiles (s : State) (r : Reg) (d i : Nat) (v : Word) : (rputX s r d i v).tiles = s.tiles := rfl
@[simp] theorem rputX_sigs (s : State) (r : Reg) (d i : Nat) (v : Word) : (rputX s r d i v).sigs = s.sigs := rfl
@[simp] theorem rputX_nextId (s : State) (r : Reg) (d i : Nat) (v : Word) : (rputX s r d i v).nextId = s.nextId := rfl
@[simp] theorem rputX_nextUid (s : State) (r : Reg) (d i : Nat) (v : Word) : (rputX s r d i v).nextUid = s.nextUid := rfl
@[simp] theorem rputX_tallies (s : State) (r : Reg) (d i : Nat) (v : Word) : (rputX s r d i v).tallies = s.tallies := rfl
@[simp] theorem rputX_parks (s : State) (r : Reg) (d i : Nat) (v : Word) : (rputX s r d i v).parks = s.parks := rfl
@[simp] theorem rputX_bank (s : State) (r : Reg) (d i : Nat) (v : Word) : (rputX s r d i v).bank = s.bank := rfl
@[simp] theorem rputX_seqs (s : State) (r : Reg) (d i : Nat) (v : Word) : (rputX s r d i v).seqs = s.seqs := rfl
@[simp] theorem rputX_opened (s : State) (r : Reg) (d i : Nat) (v : Word) : (rputX s r d i v).opened = s.opened := rfl
@[simp] theorem rputX_heldKill (s : State) (r : Reg) (d i : Nat) (v : Word) : (rputX s r d i v).heldKill = s.heldKill := rfl
@[simp] theorem rputX_bufs (s : State) (r : Reg) (d i : Nat) (v : Word) : (rputX s r d i v).bufs = s.bufs := rfl
@[simp] theorem rputX_grReqs (s : State) (r : Reg) (d i : Nat) (v : Word) : (rputX s r d i v).grReqs = s.grReqs := rfl
@[simp] theorem rputX_grWrites (s : State) (r : Reg) (d i : Nat) (v : Word) : (rputX s r d i v).grWrites = s.grWrites := rfl
@[simp] theorem rputX_grLast (s : State) (r : Reg) (d i : Nat) (v : Word) : (rputX s r d i v).grLast = s.grLast := rfl
@[simp] theorem rputX_host (s : State) (r : Reg) (d i : Nat) (v : Word) : (rputX s r d i v).host = s.host := rfl
@[simp] theorem rputX_out (s : State) (r : Reg) (d i : Nat) (v : Word) : (rputX s r d i v).out = s.out := rfl
@[simp] theorem rputX_pwr (s : State) (r : Reg) (d i : Nat) (v : Word) : (rputX s r d i v).pwr = s.pwr := rfl
@[simp] theorem rputX_notices (s : State) (r : Reg) (d i : Nat) (v : Word) : (rputX s r d i v).notices = s.notices := rfl
@[simp] theorem rputX_epochs (s : State) (r : Reg) (d i : Nat) (v : Word) : (rputX s r d i v).epochs = s.epochs := rfl
@[simp] theorem rputX_upsets (s : State) (r : Reg) (d i : Nat) (v : Word) : (rputX s r d i v).upsets = s.upsets := rfl
@[simp] theorem rputX_ports (s : State) (r : Reg) (d i : Nat) (v : Word) : (rputX s r d i v).ports = s.ports := rfl
@[simp] theorem rputX_bw (s : State) (r : Reg) (d i : Nat) (v : Word) : (rputX s r d i v).bw = s.bw := rfl
@[simp] theorem rputX_fuse (s : State) (r : Reg) (d i : Nat) (v : Word) : (rputX s r d i v).fuse = s.fuse := rfl
@[simp] theorem rputX_sec (s : State) (r : Reg) (d i : Nat) (v : Word) : (rputX s r d i v).sec = s.sec := rfl
@[simp] theorem rputX_health (s : State) (r : Reg) (d i : Nat) (v : Word) : (rputX s r d i v).health = s.health := rfl
@[simp] theorem rputX_lfsr (s : State) (r : Reg) (d i : Nat) (v : Word) : (rputX s r d i v).lfsr = s.lfsr := rfl

/-! A register is changed: every field but `regs` stays. -/

@[simp] theorem rmod_now (s : State) (r : Reg) (f : Word → Word) (d i : Nat) : (rmod s r f d i).now = s.now := rfl
@[simp] theorem rmod_free (s : State) (r : Reg) (f : Word → Word) (d i : Nat) : (rmod s r f d i).free = s.free := rfl
@[simp] theorem rmod_pending (s : State) (r : Reg) (f : Word → Word) (d i : Nat) : (rmod s r f d i).pending = s.pending := rfl
@[simp] theorem rmod_mem (s : State) (r : Reg) (f : Word → Word) (d i : Nat) : (rmod s r f d i).mem = s.mem := rfl
@[simp] theorem rmod_log (s : State) (r : Reg) (f : Word → Word) (d i : Nat) : (rmod s r f d i).log = s.log := rfl
@[simp] theorem rmod_clk (s : State) (r : Reg) (f : Word → Word) (d i : Nat) : (rmod s r f d i).clk = s.clk := rfl
@[simp] theorem rmod_tide (s : State) (r : Reg) (f : Word → Word) (d i : Nat) : (rmod s r f d i).tide = s.tide := rfl
@[simp] theorem rmod_plan (s : State) (r : Reg) (f : Word → Word) (d i : Nat) : (rmod s r f d i).plan = s.plan := rfl
@[simp] theorem rmod_img (s : State) (r : Reg) (f : Word → Word) (d i : Nat) : (rmod s r f d i).img = s.img := rfl
@[simp] theorem rmod_ctxs (s : State) (r : Reg) (f : Word → Word) (d i : Nat) : (rmod s r f d i).ctxs = s.ctxs := rfl
@[simp] theorem rmod_stalls (s : State) (r : Reg) (f : Word → Word) (d i : Nat) : (rmod s r f d i).stalls = s.stalls := rfl
@[simp] theorem rmod_pub (s : State) (r : Reg) (f : Word → Word) (d i : Nat) : (rmod s r f d i).pub = s.pub := rfl
@[simp] theorem rmod_cmt (s : State) (r : Reg) (f : Word → Word) (d i : Nat) : (rmod s r f d i).cmt = s.cmt := rfl
@[simp] theorem rmod_cmds (s : State) (r : Reg) (f : Word → Word) (d i : Nat) : (rmod s r f d i).cmds = s.cmds := rfl
@[simp] theorem rmod_tiles (s : State) (r : Reg) (f : Word → Word) (d i : Nat) : (rmod s r f d i).tiles = s.tiles := rfl
@[simp] theorem rmod_sigs (s : State) (r : Reg) (f : Word → Word) (d i : Nat) : (rmod s r f d i).sigs = s.sigs := rfl
@[simp] theorem rmod_nextId (s : State) (r : Reg) (f : Word → Word) (d i : Nat) : (rmod s r f d i).nextId = s.nextId := rfl
@[simp] theorem rmod_nextUid (s : State) (r : Reg) (f : Word → Word) (d i : Nat) : (rmod s r f d i).nextUid = s.nextUid := rfl
@[simp] theorem rmod_tallies (s : State) (r : Reg) (f : Word → Word) (d i : Nat) : (rmod s r f d i).tallies = s.tallies := rfl
@[simp] theorem rmod_parks (s : State) (r : Reg) (f : Word → Word) (d i : Nat) : (rmod s r f d i).parks = s.parks := rfl
@[simp] theorem rmod_bank (s : State) (r : Reg) (f : Word → Word) (d i : Nat) : (rmod s r f d i).bank = s.bank := rfl
@[simp] theorem rmod_seqs (s : State) (r : Reg) (f : Word → Word) (d i : Nat) : (rmod s r f d i).seqs = s.seqs := rfl
@[simp] theorem rmod_opened (s : State) (r : Reg) (f : Word → Word) (d i : Nat) : (rmod s r f d i).opened = s.opened := rfl
@[simp] theorem rmod_heldKill (s : State) (r : Reg) (f : Word → Word) (d i : Nat) : (rmod s r f d i).heldKill = s.heldKill := rfl
@[simp] theorem rmod_bufs (s : State) (r : Reg) (f : Word → Word) (d i : Nat) : (rmod s r f d i).bufs = s.bufs := rfl
@[simp] theorem rmod_grReqs (s : State) (r : Reg) (f : Word → Word) (d i : Nat) : (rmod s r f d i).grReqs = s.grReqs := rfl
@[simp] theorem rmod_grWrites (s : State) (r : Reg) (f : Word → Word) (d i : Nat) : (rmod s r f d i).grWrites = s.grWrites := rfl
@[simp] theorem rmod_grLast (s : State) (r : Reg) (f : Word → Word) (d i : Nat) : (rmod s r f d i).grLast = s.grLast := rfl
@[simp] theorem rmod_host (s : State) (r : Reg) (f : Word → Word) (d i : Nat) : (rmod s r f d i).host = s.host := rfl
@[simp] theorem rmod_out (s : State) (r : Reg) (f : Word → Word) (d i : Nat) : (rmod s r f d i).out = s.out := rfl
@[simp] theorem rmod_pwr (s : State) (r : Reg) (f : Word → Word) (d i : Nat) : (rmod s r f d i).pwr = s.pwr := rfl
@[simp] theorem rmod_notices (s : State) (r : Reg) (f : Word → Word) (d i : Nat) : (rmod s r f d i).notices = s.notices := rfl
@[simp] theorem rmod_epochs (s : State) (r : Reg) (f : Word → Word) (d i : Nat) : (rmod s r f d i).epochs = s.epochs := rfl
@[simp] theorem rmod_upsets (s : State) (r : Reg) (f : Word → Word) (d i : Nat) : (rmod s r f d i).upsets = s.upsets := rfl
@[simp] theorem rmod_ports (s : State) (r : Reg) (f : Word → Word) (d i : Nat) : (rmod s r f d i).ports = s.ports := rfl
@[simp] theorem rmod_bw (s : State) (r : Reg) (f : Word → Word) (d i : Nat) : (rmod s r f d i).bw = s.bw := rfl
@[simp] theorem rmod_fuse (s : State) (r : Reg) (f : Word → Word) (d i : Nat) : (rmod s r f d i).fuse = s.fuse := rfl
@[simp] theorem rmod_sec (s : State) (r : Reg) (f : Word → Word) (d i : Nat) : (rmod s r f d i).sec = s.sec := rfl
@[simp] theorem rmod_health (s : State) (r : Reg) (f : Word → Word) (d i : Nat) : (rmod s r f d i).health = s.health := rfl
@[simp] theorem rmod_lfsr (s : State) (r : Reg) (f : Word → Word) (d i : Nat) : (rmod s r f d i).lfsr = s.lfsr := rfl

/-! A field of a register is replaced: every field but `regs` stays. -/

@[simp] theorem rsetField_now (s : State) (r : Reg) (hi lo v i d : Nat) : (rsetField s r hi lo v i d).now = s.now := rfl
@[simp] theorem rsetField_free (s : State) (r : Reg) (hi lo v i d : Nat) : (rsetField s r hi lo v i d).free = s.free := rfl
@[simp] theorem rsetField_pending (s : State) (r : Reg) (hi lo v i d : Nat) : (rsetField s r hi lo v i d).pending = s.pending := rfl
@[simp] theorem rsetField_mem (s : State) (r : Reg) (hi lo v i d : Nat) : (rsetField s r hi lo v i d).mem = s.mem := rfl
@[simp] theorem rsetField_log (s : State) (r : Reg) (hi lo v i d : Nat) : (rsetField s r hi lo v i d).log = s.log := rfl
@[simp] theorem rsetField_clk (s : State) (r : Reg) (hi lo v i d : Nat) : (rsetField s r hi lo v i d).clk = s.clk := rfl
@[simp] theorem rsetField_tide (s : State) (r : Reg) (hi lo v i d : Nat) : (rsetField s r hi lo v i d).tide = s.tide := rfl
@[simp] theorem rsetField_plan (s : State) (r : Reg) (hi lo v i d : Nat) : (rsetField s r hi lo v i d).plan = s.plan := rfl
@[simp] theorem rsetField_img (s : State) (r : Reg) (hi lo v i d : Nat) : (rsetField s r hi lo v i d).img = s.img := rfl
@[simp] theorem rsetField_ctxs (s : State) (r : Reg) (hi lo v i d : Nat) : (rsetField s r hi lo v i d).ctxs = s.ctxs := rfl
@[simp] theorem rsetField_stalls (s : State) (r : Reg) (hi lo v i d : Nat) : (rsetField s r hi lo v i d).stalls = s.stalls := rfl
@[simp] theorem rsetField_pub (s : State) (r : Reg) (hi lo v i d : Nat) : (rsetField s r hi lo v i d).pub = s.pub := rfl
@[simp] theorem rsetField_cmt (s : State) (r : Reg) (hi lo v i d : Nat) : (rsetField s r hi lo v i d).cmt = s.cmt := rfl
@[simp] theorem rsetField_cmds (s : State) (r : Reg) (hi lo v i d : Nat) : (rsetField s r hi lo v i d).cmds = s.cmds := rfl
@[simp] theorem rsetField_tiles (s : State) (r : Reg) (hi lo v i d : Nat) : (rsetField s r hi lo v i d).tiles = s.tiles := rfl
@[simp] theorem rsetField_sigs (s : State) (r : Reg) (hi lo v i d : Nat) : (rsetField s r hi lo v i d).sigs = s.sigs := rfl
@[simp] theorem rsetField_nextId (s : State) (r : Reg) (hi lo v i d : Nat) : (rsetField s r hi lo v i d).nextId = s.nextId := rfl
@[simp] theorem rsetField_nextUid (s : State) (r : Reg) (hi lo v i d : Nat) : (rsetField s r hi lo v i d).nextUid = s.nextUid := rfl
@[simp] theorem rsetField_tallies (s : State) (r : Reg) (hi lo v i d : Nat) : (rsetField s r hi lo v i d).tallies = s.tallies := rfl
@[simp] theorem rsetField_parks (s : State) (r : Reg) (hi lo v i d : Nat) : (rsetField s r hi lo v i d).parks = s.parks := rfl
@[simp] theorem rsetField_bank (s : State) (r : Reg) (hi lo v i d : Nat) : (rsetField s r hi lo v i d).bank = s.bank := rfl
@[simp] theorem rsetField_seqs (s : State) (r : Reg) (hi lo v i d : Nat) : (rsetField s r hi lo v i d).seqs = s.seqs := rfl
@[simp] theorem rsetField_opened (s : State) (r : Reg) (hi lo v i d : Nat) : (rsetField s r hi lo v i d).opened = s.opened := rfl
@[simp] theorem rsetField_heldKill (s : State) (r : Reg) (hi lo v i d : Nat) : (rsetField s r hi lo v i d).heldKill = s.heldKill := rfl
@[simp] theorem rsetField_bufs (s : State) (r : Reg) (hi lo v i d : Nat) : (rsetField s r hi lo v i d).bufs = s.bufs := rfl
@[simp] theorem rsetField_grReqs (s : State) (r : Reg) (hi lo v i d : Nat) : (rsetField s r hi lo v i d).grReqs = s.grReqs := rfl
@[simp] theorem rsetField_grWrites (s : State) (r : Reg) (hi lo v i d : Nat) : (rsetField s r hi lo v i d).grWrites = s.grWrites := rfl
@[simp] theorem rsetField_grLast (s : State) (r : Reg) (hi lo v i d : Nat) : (rsetField s r hi lo v i d).grLast = s.grLast := rfl
@[simp] theorem rsetField_host (s : State) (r : Reg) (hi lo v i d : Nat) : (rsetField s r hi lo v i d).host = s.host := rfl
@[simp] theorem rsetField_out (s : State) (r : Reg) (hi lo v i d : Nat) : (rsetField s r hi lo v i d).out = s.out := rfl
@[simp] theorem rsetField_pwr (s : State) (r : Reg) (hi lo v i d : Nat) : (rsetField s r hi lo v i d).pwr = s.pwr := rfl
@[simp] theorem rsetField_notices (s : State) (r : Reg) (hi lo v i d : Nat) : (rsetField s r hi lo v i d).notices = s.notices := rfl
@[simp] theorem rsetField_epochs (s : State) (r : Reg) (hi lo v i d : Nat) : (rsetField s r hi lo v i d).epochs = s.epochs := rfl
@[simp] theorem rsetField_upsets (s : State) (r : Reg) (hi lo v i d : Nat) : (rsetField s r hi lo v i d).upsets = s.upsets := rfl
@[simp] theorem rsetField_ports (s : State) (r : Reg) (hi lo v i d : Nat) : (rsetField s r hi lo v i d).ports = s.ports := rfl
@[simp] theorem rsetField_bw (s : State) (r : Reg) (hi lo v i d : Nat) : (rsetField s r hi lo v i d).bw = s.bw := rfl
@[simp] theorem rsetField_fuse (s : State) (r : Reg) (hi lo v i d : Nat) : (rsetField s r hi lo v i d).fuse = s.fuse := rfl
@[simp] theorem rsetField_sec (s : State) (r : Reg) (hi lo v i d : Nat) : (rsetField s r hi lo v i d).sec = s.sec := rfl
@[simp] theorem rsetField_health (s : State) (r : Reg) (hi lo v i d : Nat) : (rsetField s r hi lo v i d).health = s.health := rfl
@[simp] theorem rsetField_lfsr (s : State) (r : Reg) (hi lo v i d : Nat) : (rsetField s r hi lo v i d).lfsr = s.lfsr := rfl

/-! A counter of a register is raised: every field but `regs` stays. -/

@[simp] theorem rbump_now (s : State) (r : Reg) (hi lo i n d : Nat) : (rbump s r hi lo i n d).now = s.now := rfl
@[simp] theorem rbump_free (s : State) (r : Reg) (hi lo i n d : Nat) : (rbump s r hi lo i n d).free = s.free := rfl
@[simp] theorem rbump_pending (s : State) (r : Reg) (hi lo i n d : Nat) : (rbump s r hi lo i n d).pending = s.pending := rfl
@[simp] theorem rbump_mem (s : State) (r : Reg) (hi lo i n d : Nat) : (rbump s r hi lo i n d).mem = s.mem := rfl
@[simp] theorem rbump_log (s : State) (r : Reg) (hi lo i n d : Nat) : (rbump s r hi lo i n d).log = s.log := rfl
@[simp] theorem rbump_clk (s : State) (r : Reg) (hi lo i n d : Nat) : (rbump s r hi lo i n d).clk = s.clk := rfl
@[simp] theorem rbump_tide (s : State) (r : Reg) (hi lo i n d : Nat) : (rbump s r hi lo i n d).tide = s.tide := rfl
@[simp] theorem rbump_plan (s : State) (r : Reg) (hi lo i n d : Nat) : (rbump s r hi lo i n d).plan = s.plan := rfl
@[simp] theorem rbump_img (s : State) (r : Reg) (hi lo i n d : Nat) : (rbump s r hi lo i n d).img = s.img := rfl
@[simp] theorem rbump_ctxs (s : State) (r : Reg) (hi lo i n d : Nat) : (rbump s r hi lo i n d).ctxs = s.ctxs := rfl
@[simp] theorem rbump_stalls (s : State) (r : Reg) (hi lo i n d : Nat) : (rbump s r hi lo i n d).stalls = s.stalls := rfl
@[simp] theorem rbump_pub (s : State) (r : Reg) (hi lo i n d : Nat) : (rbump s r hi lo i n d).pub = s.pub := rfl
@[simp] theorem rbump_cmt (s : State) (r : Reg) (hi lo i n d : Nat) : (rbump s r hi lo i n d).cmt = s.cmt := rfl
@[simp] theorem rbump_cmds (s : State) (r : Reg) (hi lo i n d : Nat) : (rbump s r hi lo i n d).cmds = s.cmds := rfl
@[simp] theorem rbump_tiles (s : State) (r : Reg) (hi lo i n d : Nat) : (rbump s r hi lo i n d).tiles = s.tiles := rfl
@[simp] theorem rbump_sigs (s : State) (r : Reg) (hi lo i n d : Nat) : (rbump s r hi lo i n d).sigs = s.sigs := rfl
@[simp] theorem rbump_nextId (s : State) (r : Reg) (hi lo i n d : Nat) : (rbump s r hi lo i n d).nextId = s.nextId := rfl
@[simp] theorem rbump_nextUid (s : State) (r : Reg) (hi lo i n d : Nat) : (rbump s r hi lo i n d).nextUid = s.nextUid := rfl
@[simp] theorem rbump_tallies (s : State) (r : Reg) (hi lo i n d : Nat) : (rbump s r hi lo i n d).tallies = s.tallies := rfl
@[simp] theorem rbump_parks (s : State) (r : Reg) (hi lo i n d : Nat) : (rbump s r hi lo i n d).parks = s.parks := rfl
@[simp] theorem rbump_bank (s : State) (r : Reg) (hi lo i n d : Nat) : (rbump s r hi lo i n d).bank = s.bank := rfl
@[simp] theorem rbump_seqs (s : State) (r : Reg) (hi lo i n d : Nat) : (rbump s r hi lo i n d).seqs = s.seqs := rfl
@[simp] theorem rbump_opened (s : State) (r : Reg) (hi lo i n d : Nat) : (rbump s r hi lo i n d).opened = s.opened := rfl
@[simp] theorem rbump_heldKill (s : State) (r : Reg) (hi lo i n d : Nat) : (rbump s r hi lo i n d).heldKill = s.heldKill := rfl
@[simp] theorem rbump_bufs (s : State) (r : Reg) (hi lo i n d : Nat) : (rbump s r hi lo i n d).bufs = s.bufs := rfl
@[simp] theorem rbump_grReqs (s : State) (r : Reg) (hi lo i n d : Nat) : (rbump s r hi lo i n d).grReqs = s.grReqs := rfl
@[simp] theorem rbump_grWrites (s : State) (r : Reg) (hi lo i n d : Nat) : (rbump s r hi lo i n d).grWrites = s.grWrites := rfl
@[simp] theorem rbump_grLast (s : State) (r : Reg) (hi lo i n d : Nat) : (rbump s r hi lo i n d).grLast = s.grLast := rfl
@[simp] theorem rbump_host (s : State) (r : Reg) (hi lo i n d : Nat) : (rbump s r hi lo i n d).host = s.host := rfl
@[simp] theorem rbump_out (s : State) (r : Reg) (hi lo i n d : Nat) : (rbump s r hi lo i n d).out = s.out := rfl
@[simp] theorem rbump_pwr (s : State) (r : Reg) (hi lo i n d : Nat) : (rbump s r hi lo i n d).pwr = s.pwr := rfl
@[simp] theorem rbump_notices (s : State) (r : Reg) (hi lo i n d : Nat) : (rbump s r hi lo i n d).notices = s.notices := rfl
@[simp] theorem rbump_epochs (s : State) (r : Reg) (hi lo i n d : Nat) : (rbump s r hi lo i n d).epochs = s.epochs := rfl
@[simp] theorem rbump_upsets (s : State) (r : Reg) (hi lo i n d : Nat) : (rbump s r hi lo i n d).upsets = s.upsets := rfl
@[simp] theorem rbump_ports (s : State) (r : Reg) (hi lo i n d : Nat) : (rbump s r hi lo i n d).ports = s.ports := rfl
@[simp] theorem rbump_bw (s : State) (r : Reg) (hi lo i n d : Nat) : (rbump s r hi lo i n d).bw = s.bw := rfl
@[simp] theorem rbump_fuse (s : State) (r : Reg) (hi lo i n d : Nat) : (rbump s r hi lo i n d).fuse = s.fuse := rfl
@[simp] theorem rbump_sec (s : State) (r : Reg) (hi lo i n d : Nat) : (rbump s r hi lo i n d).sec = s.sec := rfl
@[simp] theorem rbump_health (s : State) (r : Reg) (hi lo i n d : Nat) : (rbump s r hi lo i n d).health = s.health := rfl
@[simp] theorem rbump_lfsr (s : State) (r : Reg) (hi lo i n d : Nat) : (rbump s r hi lo i n d).lfsr = s.lfsr := rfl

/-! A context is replaced: every field but `ctxs` stays. -/

@[simp] theorem setCtx_now (s : State) (c : Nat) (x : Ctx) : (setCtx s c x).now = s.now := rfl
@[simp] theorem setCtx_free (s : State) (c : Nat) (x : Ctx) : (setCtx s c x).free = s.free := rfl
@[simp] theorem setCtx_pending (s : State) (c : Nat) (x : Ctx) : (setCtx s c x).pending = s.pending := rfl
@[simp] theorem setCtx_regs (s : State) (c : Nat) (x : Ctx) : (setCtx s c x).regs = s.regs := rfl
@[simp] theorem setCtx_mem (s : State) (c : Nat) (x : Ctx) : (setCtx s c x).mem = s.mem := rfl
@[simp] theorem setCtx_log (s : State) (c : Nat) (x : Ctx) : (setCtx s c x).log = s.log := rfl
@[simp] theorem setCtx_clk (s : State) (c : Nat) (x : Ctx) : (setCtx s c x).clk = s.clk := rfl
@[simp] theorem setCtx_tide (s : State) (c : Nat) (x : Ctx) : (setCtx s c x).tide = s.tide := rfl
@[simp] theorem setCtx_plan (s : State) (c : Nat) (x : Ctx) : (setCtx s c x).plan = s.plan := rfl
@[simp] theorem setCtx_img (s : State) (c : Nat) (x : Ctx) : (setCtx s c x).img = s.img := rfl
@[simp] theorem setCtx_stalls (s : State) (c : Nat) (x : Ctx) : (setCtx s c x).stalls = s.stalls := rfl
@[simp] theorem setCtx_pub (s : State) (c : Nat) (x : Ctx) : (setCtx s c x).pub = s.pub := rfl
@[simp] theorem setCtx_cmt (s : State) (c : Nat) (x : Ctx) : (setCtx s c x).cmt = s.cmt := rfl
@[simp] theorem setCtx_cmds (s : State) (c : Nat) (x : Ctx) : (setCtx s c x).cmds = s.cmds := rfl
@[simp] theorem setCtx_tiles (s : State) (c : Nat) (x : Ctx) : (setCtx s c x).tiles = s.tiles := rfl
@[simp] theorem setCtx_sigs (s : State) (c : Nat) (x : Ctx) : (setCtx s c x).sigs = s.sigs := rfl
@[simp] theorem setCtx_nextId (s : State) (c : Nat) (x : Ctx) : (setCtx s c x).nextId = s.nextId := rfl
@[simp] theorem setCtx_nextUid (s : State) (c : Nat) (x : Ctx) : (setCtx s c x).nextUid = s.nextUid := rfl
@[simp] theorem setCtx_tallies (s : State) (c : Nat) (x : Ctx) : (setCtx s c x).tallies = s.tallies := rfl
@[simp] theorem setCtx_parks (s : State) (c : Nat) (x : Ctx) : (setCtx s c x).parks = s.parks := rfl
@[simp] theorem setCtx_bank (s : State) (c : Nat) (x : Ctx) : (setCtx s c x).bank = s.bank := rfl
@[simp] theorem setCtx_seqs (s : State) (c : Nat) (x : Ctx) : (setCtx s c x).seqs = s.seqs := rfl
@[simp] theorem setCtx_opened (s : State) (c : Nat) (x : Ctx) : (setCtx s c x).opened = s.opened := rfl
@[simp] theorem setCtx_heldKill (s : State) (c : Nat) (x : Ctx) : (setCtx s c x).heldKill = s.heldKill := rfl
@[simp] theorem setCtx_bufs (s : State) (c : Nat) (x : Ctx) : (setCtx s c x).bufs = s.bufs := rfl
@[simp] theorem setCtx_grReqs (s : State) (c : Nat) (x : Ctx) : (setCtx s c x).grReqs = s.grReqs := rfl
@[simp] theorem setCtx_grWrites (s : State) (c : Nat) (x : Ctx) : (setCtx s c x).grWrites = s.grWrites := rfl
@[simp] theorem setCtx_grLast (s : State) (c : Nat) (x : Ctx) : (setCtx s c x).grLast = s.grLast := rfl
@[simp] theorem setCtx_host (s : State) (c : Nat) (x : Ctx) : (setCtx s c x).host = s.host := rfl
@[simp] theorem setCtx_out (s : State) (c : Nat) (x : Ctx) : (setCtx s c x).out = s.out := rfl
@[simp] theorem setCtx_pwr (s : State) (c : Nat) (x : Ctx) : (setCtx s c x).pwr = s.pwr := rfl
@[simp] theorem setCtx_notices (s : State) (c : Nat) (x : Ctx) : (setCtx s c x).notices = s.notices := rfl
@[simp] theorem setCtx_epochs (s : State) (c : Nat) (x : Ctx) : (setCtx s c x).epochs = s.epochs := rfl
@[simp] theorem setCtx_upsets (s : State) (c : Nat) (x : Ctx) : (setCtx s c x).upsets = s.upsets := rfl
@[simp] theorem setCtx_ports (s : State) (c : Nat) (x : Ctx) : (setCtx s c x).ports = s.ports := rfl
@[simp] theorem setCtx_bw (s : State) (c : Nat) (x : Ctx) : (setCtx s c x).bw = s.bw := rfl
@[simp] theorem setCtx_fuse (s : State) (c : Nat) (x : Ctx) : (setCtx s c x).fuse = s.fuse := rfl
@[simp] theorem setCtx_sec (s : State) (c : Nat) (x : Ctx) : (setCtx s c x).sec = s.sec := rfl
@[simp] theorem setCtx_health (s : State) (c : Nat) (x : Ctx) : (setCtx s c x).health = s.health := rfl
@[simp] theorem setCtx_lfsr (s : State) (c : Nat) (x : Ctx) : (setCtx s c x).lfsr = s.lfsr := rfl

/-! A context is changed: every field but `ctxs` stays. -/

@[simp] theorem modCtx_now (s : State) (c : Nat) (f : Ctx → Ctx) : (modCtx s c f).now = s.now := rfl
@[simp] theorem modCtx_free (s : State) (c : Nat) (f : Ctx → Ctx) : (modCtx s c f).free = s.free := rfl
@[simp] theorem modCtx_pending (s : State) (c : Nat) (f : Ctx → Ctx) : (modCtx s c f).pending = s.pending := rfl
@[simp] theorem modCtx_regs (s : State) (c : Nat) (f : Ctx → Ctx) : (modCtx s c f).regs = s.regs := rfl
@[simp] theorem modCtx_mem (s : State) (c : Nat) (f : Ctx → Ctx) : (modCtx s c f).mem = s.mem := rfl
@[simp] theorem modCtx_log (s : State) (c : Nat) (f : Ctx → Ctx) : (modCtx s c f).log = s.log := rfl
@[simp] theorem modCtx_clk (s : State) (c : Nat) (f : Ctx → Ctx) : (modCtx s c f).clk = s.clk := rfl
@[simp] theorem modCtx_tide (s : State) (c : Nat) (f : Ctx → Ctx) : (modCtx s c f).tide = s.tide := rfl
@[simp] theorem modCtx_plan (s : State) (c : Nat) (f : Ctx → Ctx) : (modCtx s c f).plan = s.plan := rfl
@[simp] theorem modCtx_img (s : State) (c : Nat) (f : Ctx → Ctx) : (modCtx s c f).img = s.img := rfl
@[simp] theorem modCtx_stalls (s : State) (c : Nat) (f : Ctx → Ctx) : (modCtx s c f).stalls = s.stalls := rfl
@[simp] theorem modCtx_pub (s : State) (c : Nat) (f : Ctx → Ctx) : (modCtx s c f).pub = s.pub := rfl
@[simp] theorem modCtx_cmt (s : State) (c : Nat) (f : Ctx → Ctx) : (modCtx s c f).cmt = s.cmt := rfl
@[simp] theorem modCtx_cmds (s : State) (c : Nat) (f : Ctx → Ctx) : (modCtx s c f).cmds = s.cmds := rfl
@[simp] theorem modCtx_tiles (s : State) (c : Nat) (f : Ctx → Ctx) : (modCtx s c f).tiles = s.tiles := rfl
@[simp] theorem modCtx_sigs (s : State) (c : Nat) (f : Ctx → Ctx) : (modCtx s c f).sigs = s.sigs := rfl
@[simp] theorem modCtx_nextId (s : State) (c : Nat) (f : Ctx → Ctx) : (modCtx s c f).nextId = s.nextId := rfl
@[simp] theorem modCtx_nextUid (s : State) (c : Nat) (f : Ctx → Ctx) : (modCtx s c f).nextUid = s.nextUid := rfl
@[simp] theorem modCtx_tallies (s : State) (c : Nat) (f : Ctx → Ctx) : (modCtx s c f).tallies = s.tallies := rfl
@[simp] theorem modCtx_parks (s : State) (c : Nat) (f : Ctx → Ctx) : (modCtx s c f).parks = s.parks := rfl
@[simp] theorem modCtx_bank (s : State) (c : Nat) (f : Ctx → Ctx) : (modCtx s c f).bank = s.bank := rfl
@[simp] theorem modCtx_seqs (s : State) (c : Nat) (f : Ctx → Ctx) : (modCtx s c f).seqs = s.seqs := rfl
@[simp] theorem modCtx_opened (s : State) (c : Nat) (f : Ctx → Ctx) : (modCtx s c f).opened = s.opened := rfl
@[simp] theorem modCtx_heldKill (s : State) (c : Nat) (f : Ctx → Ctx) : (modCtx s c f).heldKill = s.heldKill := rfl
@[simp] theorem modCtx_bufs (s : State) (c : Nat) (f : Ctx → Ctx) : (modCtx s c f).bufs = s.bufs := rfl
@[simp] theorem modCtx_grReqs (s : State) (c : Nat) (f : Ctx → Ctx) : (modCtx s c f).grReqs = s.grReqs := rfl
@[simp] theorem modCtx_grWrites (s : State) (c : Nat) (f : Ctx → Ctx) : (modCtx s c f).grWrites = s.grWrites := rfl
@[simp] theorem modCtx_grLast (s : State) (c : Nat) (f : Ctx → Ctx) : (modCtx s c f).grLast = s.grLast := rfl
@[simp] theorem modCtx_host (s : State) (c : Nat) (f : Ctx → Ctx) : (modCtx s c f).host = s.host := rfl
@[simp] theorem modCtx_out (s : State) (c : Nat) (f : Ctx → Ctx) : (modCtx s c f).out = s.out := rfl
@[simp] theorem modCtx_pwr (s : State) (c : Nat) (f : Ctx → Ctx) : (modCtx s c f).pwr = s.pwr := rfl
@[simp] theorem modCtx_notices (s : State) (c : Nat) (f : Ctx → Ctx) : (modCtx s c f).notices = s.notices := rfl
@[simp] theorem modCtx_epochs (s : State) (c : Nat) (f : Ctx → Ctx) : (modCtx s c f).epochs = s.epochs := rfl
@[simp] theorem modCtx_upsets (s : State) (c : Nat) (f : Ctx → Ctx) : (modCtx s c f).upsets = s.upsets := rfl
@[simp] theorem modCtx_ports (s : State) (c : Nat) (f : Ctx → Ctx) : (modCtx s c f).ports = s.ports := rfl
@[simp] theorem modCtx_bw (s : State) (c : Nat) (f : Ctx → Ctx) : (modCtx s c f).bw = s.bw := rfl
@[simp] theorem modCtx_fuse (s : State) (c : Nat) (f : Ctx → Ctx) : (modCtx s c f).fuse = s.fuse := rfl
@[simp] theorem modCtx_sec (s : State) (c : Nat) (f : Ctx → Ctx) : (modCtx s c f).sec = s.sec := rfl
@[simp] theorem modCtx_health (s : State) (c : Nat) (f : Ctx → Ctx) : (modCtx s c f).health = s.health := rfl
@[simp] theorem modCtx_lfsr (s : State) (c : Nat) (f : Ctx → Ctx) : (modCtx s c f).lfsr = s.lfsr := rfl

/-! The Beacon part of a context is changed: every field but `ctxs` stays. -/

@[simp] theorem modBcn_now (s : State) (c : Nat) (f : Bcn → Bcn) : (modBcn s c f).now = s.now := rfl
@[simp] theorem modBcn_free (s : State) (c : Nat) (f : Bcn → Bcn) : (modBcn s c f).free = s.free := rfl
@[simp] theorem modBcn_pending (s : State) (c : Nat) (f : Bcn → Bcn) : (modBcn s c f).pending = s.pending := rfl
@[simp] theorem modBcn_regs (s : State) (c : Nat) (f : Bcn → Bcn) : (modBcn s c f).regs = s.regs := rfl
@[simp] theorem modBcn_mem (s : State) (c : Nat) (f : Bcn → Bcn) : (modBcn s c f).mem = s.mem := rfl
@[simp] theorem modBcn_log (s : State) (c : Nat) (f : Bcn → Bcn) : (modBcn s c f).log = s.log := rfl
@[simp] theorem modBcn_clk (s : State) (c : Nat) (f : Bcn → Bcn) : (modBcn s c f).clk = s.clk := rfl
@[simp] theorem modBcn_tide (s : State) (c : Nat) (f : Bcn → Bcn) : (modBcn s c f).tide = s.tide := rfl
@[simp] theorem modBcn_plan (s : State) (c : Nat) (f : Bcn → Bcn) : (modBcn s c f).plan = s.plan := rfl
@[simp] theorem modBcn_img (s : State) (c : Nat) (f : Bcn → Bcn) : (modBcn s c f).img = s.img := rfl
@[simp] theorem modBcn_stalls (s : State) (c : Nat) (f : Bcn → Bcn) : (modBcn s c f).stalls = s.stalls := rfl
@[simp] theorem modBcn_pub (s : State) (c : Nat) (f : Bcn → Bcn) : (modBcn s c f).pub = s.pub := rfl
@[simp] theorem modBcn_cmt (s : State) (c : Nat) (f : Bcn → Bcn) : (modBcn s c f).cmt = s.cmt := rfl
@[simp] theorem modBcn_cmds (s : State) (c : Nat) (f : Bcn → Bcn) : (modBcn s c f).cmds = s.cmds := rfl
@[simp] theorem modBcn_tiles (s : State) (c : Nat) (f : Bcn → Bcn) : (modBcn s c f).tiles = s.tiles := rfl
@[simp] theorem modBcn_sigs (s : State) (c : Nat) (f : Bcn → Bcn) : (modBcn s c f).sigs = s.sigs := rfl
@[simp] theorem modBcn_nextId (s : State) (c : Nat) (f : Bcn → Bcn) : (modBcn s c f).nextId = s.nextId := rfl
@[simp] theorem modBcn_nextUid (s : State) (c : Nat) (f : Bcn → Bcn) : (modBcn s c f).nextUid = s.nextUid := rfl
@[simp] theorem modBcn_tallies (s : State) (c : Nat) (f : Bcn → Bcn) : (modBcn s c f).tallies = s.tallies := rfl
@[simp] theorem modBcn_parks (s : State) (c : Nat) (f : Bcn → Bcn) : (modBcn s c f).parks = s.parks := rfl
@[simp] theorem modBcn_bank (s : State) (c : Nat) (f : Bcn → Bcn) : (modBcn s c f).bank = s.bank := rfl
@[simp] theorem modBcn_seqs (s : State) (c : Nat) (f : Bcn → Bcn) : (modBcn s c f).seqs = s.seqs := rfl
@[simp] theorem modBcn_opened (s : State) (c : Nat) (f : Bcn → Bcn) : (modBcn s c f).opened = s.opened := rfl
@[simp] theorem modBcn_heldKill (s : State) (c : Nat) (f : Bcn → Bcn) : (modBcn s c f).heldKill = s.heldKill := rfl
@[simp] theorem modBcn_bufs (s : State) (c : Nat) (f : Bcn → Bcn) : (modBcn s c f).bufs = s.bufs := rfl
@[simp] theorem modBcn_grReqs (s : State) (c : Nat) (f : Bcn → Bcn) : (modBcn s c f).grReqs = s.grReqs := rfl
@[simp] theorem modBcn_grWrites (s : State) (c : Nat) (f : Bcn → Bcn) : (modBcn s c f).grWrites = s.grWrites := rfl
@[simp] theorem modBcn_grLast (s : State) (c : Nat) (f : Bcn → Bcn) : (modBcn s c f).grLast = s.grLast := rfl
@[simp] theorem modBcn_host (s : State) (c : Nat) (f : Bcn → Bcn) : (modBcn s c f).host = s.host := rfl
@[simp] theorem modBcn_out (s : State) (c : Nat) (f : Bcn → Bcn) : (modBcn s c f).out = s.out := rfl
@[simp] theorem modBcn_pwr (s : State) (c : Nat) (f : Bcn → Bcn) : (modBcn s c f).pwr = s.pwr := rfl
@[simp] theorem modBcn_notices (s : State) (c : Nat) (f : Bcn → Bcn) : (modBcn s c f).notices = s.notices := rfl
@[simp] theorem modBcn_epochs (s : State) (c : Nat) (f : Bcn → Bcn) : (modBcn s c f).epochs = s.epochs := rfl
@[simp] theorem modBcn_upsets (s : State) (c : Nat) (f : Bcn → Bcn) : (modBcn s c f).upsets = s.upsets := rfl
@[simp] theorem modBcn_ports (s : State) (c : Nat) (f : Bcn → Bcn) : (modBcn s c f).ports = s.ports := rfl
@[simp] theorem modBcn_bw (s : State) (c : Nat) (f : Bcn → Bcn) : (modBcn s c f).bw = s.bw := rfl
@[simp] theorem modBcn_fuse (s : State) (c : Nat) (f : Bcn → Bcn) : (modBcn s c f).fuse = s.fuse := rfl
@[simp] theorem modBcn_sec (s : State) (c : Nat) (f : Bcn → Bcn) : (modBcn s c f).sec = s.sec := rfl
@[simp] theorem modBcn_health (s : State) (c : Nat) (f : Bcn → Bcn) : (modBcn s c f).health = s.health := rfl
@[simp] theorem modBcn_lfsr (s : State) (c : Nat) (f : Bcn → Bcn) : (modBcn s c f).lfsr = s.lfsr := rfl

/-! A stall is changed: every field but `stalls` stays. -/

@[simp] theorem modStall_now (s : State) (n : Nat) (f : Stall → Stall) : (modStall s n f).now = s.now := rfl
@[simp] theorem modStall_free (s : State) (n : Nat) (f : Stall → Stall) : (modStall s n f).free = s.free := rfl
@[simp] theorem modStall_pending (s : State) (n : Nat) (f : Stall → Stall) : (modStall s n f).pending = s.pending := rfl
@[simp] theorem modStall_regs (s : State) (n : Nat) (f : Stall → Stall) : (modStall s n f).regs = s.regs := rfl
@[simp] theorem modStall_mem (s : State) (n : Nat) (f : Stall → Stall) : (modStall s n f).mem = s.mem := rfl
@[simp] theorem modStall_log (s : State) (n : Nat) (f : Stall → Stall) : (modStall s n f).log = s.log := rfl
@[simp] theorem modStall_clk (s : State) (n : Nat) (f : Stall → Stall) : (modStall s n f).clk = s.clk := rfl
@[simp] theorem modStall_tide (s : State) (n : Nat) (f : Stall → Stall) : (modStall s n f).tide = s.tide := rfl
@[simp] theorem modStall_plan (s : State) (n : Nat) (f : Stall → Stall) : (modStall s n f).plan = s.plan := rfl
@[simp] theorem modStall_img (s : State) (n : Nat) (f : Stall → Stall) : (modStall s n f).img = s.img := rfl
@[simp] theorem modStall_ctxs (s : State) (n : Nat) (f : Stall → Stall) : (modStall s n f).ctxs = s.ctxs := rfl
@[simp] theorem modStall_pub (s : State) (n : Nat) (f : Stall → Stall) : (modStall s n f).pub = s.pub := rfl
@[simp] theorem modStall_cmt (s : State) (n : Nat) (f : Stall → Stall) : (modStall s n f).cmt = s.cmt := rfl
@[simp] theorem modStall_cmds (s : State) (n : Nat) (f : Stall → Stall) : (modStall s n f).cmds = s.cmds := rfl
@[simp] theorem modStall_tiles (s : State) (n : Nat) (f : Stall → Stall) : (modStall s n f).tiles = s.tiles := rfl
@[simp] theorem modStall_sigs (s : State) (n : Nat) (f : Stall → Stall) : (modStall s n f).sigs = s.sigs := rfl
@[simp] theorem modStall_nextId (s : State) (n : Nat) (f : Stall → Stall) : (modStall s n f).nextId = s.nextId := rfl
@[simp] theorem modStall_nextUid (s : State) (n : Nat) (f : Stall → Stall) : (modStall s n f).nextUid = s.nextUid := rfl
@[simp] theorem modStall_tallies (s : State) (n : Nat) (f : Stall → Stall) : (modStall s n f).tallies = s.tallies := rfl
@[simp] theorem modStall_parks (s : State) (n : Nat) (f : Stall → Stall) : (modStall s n f).parks = s.parks := rfl
@[simp] theorem modStall_bank (s : State) (n : Nat) (f : Stall → Stall) : (modStall s n f).bank = s.bank := rfl
@[simp] theorem modStall_seqs (s : State) (n : Nat) (f : Stall → Stall) : (modStall s n f).seqs = s.seqs := rfl
@[simp] theorem modStall_opened (s : State) (n : Nat) (f : Stall → Stall) : (modStall s n f).opened = s.opened := rfl
@[simp] theorem modStall_heldKill (s : State) (n : Nat) (f : Stall → Stall) : (modStall s n f).heldKill = s.heldKill := rfl
@[simp] theorem modStall_bufs (s : State) (n : Nat) (f : Stall → Stall) : (modStall s n f).bufs = s.bufs := rfl
@[simp] theorem modStall_grReqs (s : State) (n : Nat) (f : Stall → Stall) : (modStall s n f).grReqs = s.grReqs := rfl
@[simp] theorem modStall_grWrites (s : State) (n : Nat) (f : Stall → Stall) : (modStall s n f).grWrites = s.grWrites := rfl
@[simp] theorem modStall_grLast (s : State) (n : Nat) (f : Stall → Stall) : (modStall s n f).grLast = s.grLast := rfl
@[simp] theorem modStall_host (s : State) (n : Nat) (f : Stall → Stall) : (modStall s n f).host = s.host := rfl
@[simp] theorem modStall_out (s : State) (n : Nat) (f : Stall → Stall) : (modStall s n f).out = s.out := rfl
@[simp] theorem modStall_pwr (s : State) (n : Nat) (f : Stall → Stall) : (modStall s n f).pwr = s.pwr := rfl
@[simp] theorem modStall_notices (s : State) (n : Nat) (f : Stall → Stall) : (modStall s n f).notices = s.notices := rfl
@[simp] theorem modStall_epochs (s : State) (n : Nat) (f : Stall → Stall) : (modStall s n f).epochs = s.epochs := rfl
@[simp] theorem modStall_upsets (s : State) (n : Nat) (f : Stall → Stall) : (modStall s n f).upsets = s.upsets := rfl
@[simp] theorem modStall_ports (s : State) (n : Nat) (f : Stall → Stall) : (modStall s n f).ports = s.ports := rfl
@[simp] theorem modStall_bw (s : State) (n : Nat) (f : Stall → Stall) : (modStall s n f).bw = s.bw := rfl
@[simp] theorem modStall_fuse (s : State) (n : Nat) (f : Stall → Stall) : (modStall s n f).fuse = s.fuse := rfl
@[simp] theorem modStall_sec (s : State) (n : Nat) (f : Stall → Stall) : (modStall s n f).sec = s.sec := rfl
@[simp] theorem modStall_health (s : State) (n : Nat) (f : Stall → Stall) : (modStall s n f).health = s.health := rfl
@[simp] theorem modStall_lfsr (s : State) (n : Nat) (f : Stall → Stall) : (modStall s n f).lfsr = s.lfsr := rfl

/-! A publication slot is replaced: every field but `pub` stays. -/

@[simp] theorem setPub_now (s : State) (n j : Nat) (p : PubSlot) : (setPub s n j p).now = s.now := rfl
@[simp] theorem setPub_free (s : State) (n j : Nat) (p : PubSlot) : (setPub s n j p).free = s.free := rfl
@[simp] theorem setPub_pending (s : State) (n j : Nat) (p : PubSlot) : (setPub s n j p).pending = s.pending := rfl
@[simp] theorem setPub_regs (s : State) (n j : Nat) (p : PubSlot) : (setPub s n j p).regs = s.regs := rfl
@[simp] theorem setPub_mem (s : State) (n j : Nat) (p : PubSlot) : (setPub s n j p).mem = s.mem := rfl
@[simp] theorem setPub_log (s : State) (n j : Nat) (p : PubSlot) : (setPub s n j p).log = s.log := rfl
@[simp] theorem setPub_clk (s : State) (n j : Nat) (p : PubSlot) : (setPub s n j p).clk = s.clk := rfl
@[simp] theorem setPub_tide (s : State) (n j : Nat) (p : PubSlot) : (setPub s n j p).tide = s.tide := rfl
@[simp] theorem setPub_plan (s : State) (n j : Nat) (p : PubSlot) : (setPub s n j p).plan = s.plan := rfl
@[simp] theorem setPub_img (s : State) (n j : Nat) (p : PubSlot) : (setPub s n j p).img = s.img := rfl
@[simp] theorem setPub_ctxs (s : State) (n j : Nat) (p : PubSlot) : (setPub s n j p).ctxs = s.ctxs := rfl
@[simp] theorem setPub_stalls (s : State) (n j : Nat) (p : PubSlot) : (setPub s n j p).stalls = s.stalls := rfl
@[simp] theorem setPub_cmt (s : State) (n j : Nat) (p : PubSlot) : (setPub s n j p).cmt = s.cmt := rfl
@[simp] theorem setPub_cmds (s : State) (n j : Nat) (p : PubSlot) : (setPub s n j p).cmds = s.cmds := rfl
@[simp] theorem setPub_tiles (s : State) (n j : Nat) (p : PubSlot) : (setPub s n j p).tiles = s.tiles := rfl
@[simp] theorem setPub_sigs (s : State) (n j : Nat) (p : PubSlot) : (setPub s n j p).sigs = s.sigs := rfl
@[simp] theorem setPub_nextId (s : State) (n j : Nat) (p : PubSlot) : (setPub s n j p).nextId = s.nextId := rfl
@[simp] theorem setPub_nextUid (s : State) (n j : Nat) (p : PubSlot) : (setPub s n j p).nextUid = s.nextUid := rfl
@[simp] theorem setPub_tallies (s : State) (n j : Nat) (p : PubSlot) : (setPub s n j p).tallies = s.tallies := rfl
@[simp] theorem setPub_parks (s : State) (n j : Nat) (p : PubSlot) : (setPub s n j p).parks = s.parks := rfl
@[simp] theorem setPub_bank (s : State) (n j : Nat) (p : PubSlot) : (setPub s n j p).bank = s.bank := rfl
@[simp] theorem setPub_seqs (s : State) (n j : Nat) (p : PubSlot) : (setPub s n j p).seqs = s.seqs := rfl
@[simp] theorem setPub_opened (s : State) (n j : Nat) (p : PubSlot) : (setPub s n j p).opened = s.opened := rfl
@[simp] theorem setPub_heldKill (s : State) (n j : Nat) (p : PubSlot) : (setPub s n j p).heldKill = s.heldKill := rfl
@[simp] theorem setPub_bufs (s : State) (n j : Nat) (p : PubSlot) : (setPub s n j p).bufs = s.bufs := rfl
@[simp] theorem setPub_grReqs (s : State) (n j : Nat) (p : PubSlot) : (setPub s n j p).grReqs = s.grReqs := rfl
@[simp] theorem setPub_grWrites (s : State) (n j : Nat) (p : PubSlot) : (setPub s n j p).grWrites = s.grWrites := rfl
@[simp] theorem setPub_grLast (s : State) (n j : Nat) (p : PubSlot) : (setPub s n j p).grLast = s.grLast := rfl
@[simp] theorem setPub_host (s : State) (n j : Nat) (p : PubSlot) : (setPub s n j p).host = s.host := rfl
@[simp] theorem setPub_out (s : State) (n j : Nat) (p : PubSlot) : (setPub s n j p).out = s.out := rfl
@[simp] theorem setPub_pwr (s : State) (n j : Nat) (p : PubSlot) : (setPub s n j p).pwr = s.pwr := rfl
@[simp] theorem setPub_notices (s : State) (n j : Nat) (p : PubSlot) : (setPub s n j p).notices = s.notices := rfl
@[simp] theorem setPub_epochs (s : State) (n j : Nat) (p : PubSlot) : (setPub s n j p).epochs = s.epochs := rfl
@[simp] theorem setPub_upsets (s : State) (n j : Nat) (p : PubSlot) : (setPub s n j p).upsets = s.upsets := rfl
@[simp] theorem setPub_ports (s : State) (n j : Nat) (p : PubSlot) : (setPub s n j p).ports = s.ports := rfl
@[simp] theorem setPub_bw (s : State) (n j : Nat) (p : PubSlot) : (setPub s n j p).bw = s.bw := rfl
@[simp] theorem setPub_fuse (s : State) (n j : Nat) (p : PubSlot) : (setPub s n j p).fuse = s.fuse := rfl
@[simp] theorem setPub_sec (s : State) (n j : Nat) (p : PubSlot) : (setPub s n j p).sec = s.sec := rfl
@[simp] theorem setPub_health (s : State) (n j : Nat) (p : PubSlot) : (setPub s n j p).health = s.health := rfl
@[simp] theorem setPub_lfsr (s : State) (n j : Nat) (p : PubSlot) : (setPub s n j p).lfsr = s.lfsr := rfl

/-! An entry of the commit table is written: every field but `cmt` stays. -/

@[simp] theorem setCmt_now (s : State) (n i : Nat) (w m : Word) : (setCmt s n i w m).now = s.now := rfl
@[simp] theorem setCmt_free (s : State) (n i : Nat) (w m : Word) : (setCmt s n i w m).free = s.free := rfl
@[simp] theorem setCmt_pending (s : State) (n i : Nat) (w m : Word) : (setCmt s n i w m).pending = s.pending := rfl
@[simp] theorem setCmt_regs (s : State) (n i : Nat) (w m : Word) : (setCmt s n i w m).regs = s.regs := rfl
@[simp] theorem setCmt_mem (s : State) (n i : Nat) (w m : Word) : (setCmt s n i w m).mem = s.mem := rfl
@[simp] theorem setCmt_log (s : State) (n i : Nat) (w m : Word) : (setCmt s n i w m).log = s.log := rfl
@[simp] theorem setCmt_clk (s : State) (n i : Nat) (w m : Word) : (setCmt s n i w m).clk = s.clk := rfl
@[simp] theorem setCmt_tide (s : State) (n i : Nat) (w m : Word) : (setCmt s n i w m).tide = s.tide := rfl
@[simp] theorem setCmt_plan (s : State) (n i : Nat) (w m : Word) : (setCmt s n i w m).plan = s.plan := rfl
@[simp] theorem setCmt_img (s : State) (n i : Nat) (w m : Word) : (setCmt s n i w m).img = s.img := rfl
@[simp] theorem setCmt_ctxs (s : State) (n i : Nat) (w m : Word) : (setCmt s n i w m).ctxs = s.ctxs := rfl
@[simp] theorem setCmt_stalls (s : State) (n i : Nat) (w m : Word) : (setCmt s n i w m).stalls = s.stalls := rfl
@[simp] theorem setCmt_pub (s : State) (n i : Nat) (w m : Word) : (setCmt s n i w m).pub = s.pub := rfl
@[simp] theorem setCmt_cmds (s : State) (n i : Nat) (w m : Word) : (setCmt s n i w m).cmds = s.cmds := rfl
@[simp] theorem setCmt_tiles (s : State) (n i : Nat) (w m : Word) : (setCmt s n i w m).tiles = s.tiles := rfl
@[simp] theorem setCmt_sigs (s : State) (n i : Nat) (w m : Word) : (setCmt s n i w m).sigs = s.sigs := rfl
@[simp] theorem setCmt_nextId (s : State) (n i : Nat) (w m : Word) : (setCmt s n i w m).nextId = s.nextId := rfl
@[simp] theorem setCmt_nextUid (s : State) (n i : Nat) (w m : Word) : (setCmt s n i w m).nextUid = s.nextUid := rfl
@[simp] theorem setCmt_tallies (s : State) (n i : Nat) (w m : Word) : (setCmt s n i w m).tallies = s.tallies := rfl
@[simp] theorem setCmt_parks (s : State) (n i : Nat) (w m : Word) : (setCmt s n i w m).parks = s.parks := rfl
@[simp] theorem setCmt_bank (s : State) (n i : Nat) (w m : Word) : (setCmt s n i w m).bank = s.bank := rfl
@[simp] theorem setCmt_seqs (s : State) (n i : Nat) (w m : Word) : (setCmt s n i w m).seqs = s.seqs := rfl
@[simp] theorem setCmt_opened (s : State) (n i : Nat) (w m : Word) : (setCmt s n i w m).opened = s.opened := rfl
@[simp] theorem setCmt_heldKill (s : State) (n i : Nat) (w m : Word) : (setCmt s n i w m).heldKill = s.heldKill := rfl
@[simp] theorem setCmt_bufs (s : State) (n i : Nat) (w m : Word) : (setCmt s n i w m).bufs = s.bufs := rfl
@[simp] theorem setCmt_grReqs (s : State) (n i : Nat) (w m : Word) : (setCmt s n i w m).grReqs = s.grReqs := rfl
@[simp] theorem setCmt_grWrites (s : State) (n i : Nat) (w m : Word) : (setCmt s n i w m).grWrites = s.grWrites := rfl
@[simp] theorem setCmt_grLast (s : State) (n i : Nat) (w m : Word) : (setCmt s n i w m).grLast = s.grLast := rfl
@[simp] theorem setCmt_host (s : State) (n i : Nat) (w m : Word) : (setCmt s n i w m).host = s.host := rfl
@[simp] theorem setCmt_out (s : State) (n i : Nat) (w m : Word) : (setCmt s n i w m).out = s.out := rfl
@[simp] theorem setCmt_pwr (s : State) (n i : Nat) (w m : Word) : (setCmt s n i w m).pwr = s.pwr := rfl
@[simp] theorem setCmt_notices (s : State) (n i : Nat) (w m : Word) : (setCmt s n i w m).notices = s.notices := rfl
@[simp] theorem setCmt_epochs (s : State) (n i : Nat) (w m : Word) : (setCmt s n i w m).epochs = s.epochs := rfl
@[simp] theorem setCmt_upsets (s : State) (n i : Nat) (w m : Word) : (setCmt s n i w m).upsets = s.upsets := rfl
@[simp] theorem setCmt_ports (s : State) (n i : Nat) (w m : Word) : (setCmt s n i w m).ports = s.ports := rfl
@[simp] theorem setCmt_bw (s : State) (n i : Nat) (w m : Word) : (setCmt s n i w m).bw = s.bw := rfl
@[simp] theorem setCmt_fuse (s : State) (n i : Nat) (w m : Word) : (setCmt s n i w m).fuse = s.fuse := rfl
@[simp] theorem setCmt_sec (s : State) (n i : Nat) (w m : Word) : (setCmt s n i w m).sec = s.sec := rfl
@[simp] theorem setCmt_health (s : State) (n i : Nat) (w m : Word) : (setCmt s n i w m).health = s.health := rfl
@[simp] theorem setCmt_lfsr (s : State) (n i : Nat) (w m : Word) : (setCmt s n i w m).lfsr = s.lfsr := rfl

/-! A function of the endpoint is changed: every field but `host` stays. -/

@[simp] theorem modFn_now (s : State) (f : Nat) (g : Fn → Fn) : (modFn s f g).now = s.now := rfl
@[simp] theorem modFn_free (s : State) (f : Nat) (g : Fn → Fn) : (modFn s f g).free = s.free := rfl
@[simp] theorem modFn_pending (s : State) (f : Nat) (g : Fn → Fn) : (modFn s f g).pending = s.pending := rfl
@[simp] theorem modFn_regs (s : State) (f : Nat) (g : Fn → Fn) : (modFn s f g).regs = s.regs := rfl
@[simp] theorem modFn_mem (s : State) (f : Nat) (g : Fn → Fn) : (modFn s f g).mem = s.mem := rfl
@[simp] theorem modFn_log (s : State) (f : Nat) (g : Fn → Fn) : (modFn s f g).log = s.log := rfl
@[simp] theorem modFn_clk (s : State) (f : Nat) (g : Fn → Fn) : (modFn s f g).clk = s.clk := rfl
@[simp] theorem modFn_tide (s : State) (f : Nat) (g : Fn → Fn) : (modFn s f g).tide = s.tide := rfl
@[simp] theorem modFn_plan (s : State) (f : Nat) (g : Fn → Fn) : (modFn s f g).plan = s.plan := rfl
@[simp] theorem modFn_img (s : State) (f : Nat) (g : Fn → Fn) : (modFn s f g).img = s.img := rfl
@[simp] theorem modFn_ctxs (s : State) (f : Nat) (g : Fn → Fn) : (modFn s f g).ctxs = s.ctxs := rfl
@[simp] theorem modFn_stalls (s : State) (f : Nat) (g : Fn → Fn) : (modFn s f g).stalls = s.stalls := rfl
@[simp] theorem modFn_pub (s : State) (f : Nat) (g : Fn → Fn) : (modFn s f g).pub = s.pub := rfl
@[simp] theorem modFn_cmt (s : State) (f : Nat) (g : Fn → Fn) : (modFn s f g).cmt = s.cmt := rfl
@[simp] theorem modFn_cmds (s : State) (f : Nat) (g : Fn → Fn) : (modFn s f g).cmds = s.cmds := rfl
@[simp] theorem modFn_tiles (s : State) (f : Nat) (g : Fn → Fn) : (modFn s f g).tiles = s.tiles := rfl
@[simp] theorem modFn_sigs (s : State) (f : Nat) (g : Fn → Fn) : (modFn s f g).sigs = s.sigs := rfl
@[simp] theorem modFn_nextId (s : State) (f : Nat) (g : Fn → Fn) : (modFn s f g).nextId = s.nextId := rfl
@[simp] theorem modFn_nextUid (s : State) (f : Nat) (g : Fn → Fn) : (modFn s f g).nextUid = s.nextUid := rfl
@[simp] theorem modFn_tallies (s : State) (f : Nat) (g : Fn → Fn) : (modFn s f g).tallies = s.tallies := rfl
@[simp] theorem modFn_parks (s : State) (f : Nat) (g : Fn → Fn) : (modFn s f g).parks = s.parks := rfl
@[simp] theorem modFn_bank (s : State) (f : Nat) (g : Fn → Fn) : (modFn s f g).bank = s.bank := rfl
@[simp] theorem modFn_seqs (s : State) (f : Nat) (g : Fn → Fn) : (modFn s f g).seqs = s.seqs := rfl
@[simp] theorem modFn_opened (s : State) (f : Nat) (g : Fn → Fn) : (modFn s f g).opened = s.opened := rfl
@[simp] theorem modFn_heldKill (s : State) (f : Nat) (g : Fn → Fn) : (modFn s f g).heldKill = s.heldKill := rfl
@[simp] theorem modFn_bufs (s : State) (f : Nat) (g : Fn → Fn) : (modFn s f g).bufs = s.bufs := rfl
@[simp] theorem modFn_grReqs (s : State) (f : Nat) (g : Fn → Fn) : (modFn s f g).grReqs = s.grReqs := rfl
@[simp] theorem modFn_grWrites (s : State) (f : Nat) (g : Fn → Fn) : (modFn s f g).grWrites = s.grWrites := rfl
@[simp] theorem modFn_grLast (s : State) (f : Nat) (g : Fn → Fn) : (modFn s f g).grLast = s.grLast := rfl
@[simp] theorem modFn_out (s : State) (f : Nat) (g : Fn → Fn) : (modFn s f g).out = s.out := rfl
@[simp] theorem modFn_pwr (s : State) (f : Nat) (g : Fn → Fn) : (modFn s f g).pwr = s.pwr := rfl
@[simp] theorem modFn_notices (s : State) (f : Nat) (g : Fn → Fn) : (modFn s f g).notices = s.notices := rfl
@[simp] theorem modFn_epochs (s : State) (f : Nat) (g : Fn → Fn) : (modFn s f g).epochs = s.epochs := rfl
@[simp] theorem modFn_upsets (s : State) (f : Nat) (g : Fn → Fn) : (modFn s f g).upsets = s.upsets := rfl
@[simp] theorem modFn_ports (s : State) (f : Nat) (g : Fn → Fn) : (modFn s f g).ports = s.ports := rfl
@[simp] theorem modFn_bw (s : State) (f : Nat) (g : Fn → Fn) : (modFn s f g).bw = s.bw := rfl
@[simp] theorem modFn_fuse (s : State) (f : Nat) (g : Fn → Fn) : (modFn s f g).fuse = s.fuse := rfl
@[simp] theorem modFn_sec (s : State) (f : Nat) (g : Fn → Fn) : (modFn s f g).sec = s.sec := rfl
@[simp] theorem modFn_health (s : State) (f : Nat) (g : Fn → Fn) : (modFn s f g).health = s.health := rfl
@[simp] theorem modFn_lfsr (s : State) (f : Nat) (g : Fn → Fn) : (modFn s f g).lfsr = s.lfsr := rfl

/-! A port is changed: every field but `ports` stays. -/

@[simp] theorem modPort_now (s : State) (p : Nat) (f : Port → Port) : (modPort s p f).now = s.now := rfl
@[simp] theorem modPort_free (s : State) (p : Nat) (f : Port → Port) : (modPort s p f).free = s.free := rfl
@[simp] theorem modPort_pending (s : State) (p : Nat) (f : Port → Port) : (modPort s p f).pending = s.pending := rfl
@[simp] theorem modPort_regs (s : State) (p : Nat) (f : Port → Port) : (modPort s p f).regs = s.regs := rfl
@[simp] theorem modPort_mem (s : State) (p : Nat) (f : Port → Port) : (modPort s p f).mem = s.mem := rfl
@[simp] theorem modPort_log (s : State) (p : Nat) (f : Port → Port) : (modPort s p f).log = s.log := rfl
@[simp] theorem modPort_clk (s : State) (p : Nat) (f : Port → Port) : (modPort s p f).clk = s.clk := rfl
@[simp] theorem modPort_tide (s : State) (p : Nat) (f : Port → Port) : (modPort s p f).tide = s.tide := rfl
@[simp] theorem modPort_plan (s : State) (p : Nat) (f : Port → Port) : (modPort s p f).plan = s.plan := rfl
@[simp] theorem modPort_img (s : State) (p : Nat) (f : Port → Port) : (modPort s p f).img = s.img := rfl
@[simp] theorem modPort_ctxs (s : State) (p : Nat) (f : Port → Port) : (modPort s p f).ctxs = s.ctxs := rfl
@[simp] theorem modPort_stalls (s : State) (p : Nat) (f : Port → Port) : (modPort s p f).stalls = s.stalls := rfl
@[simp] theorem modPort_pub (s : State) (p : Nat) (f : Port → Port) : (modPort s p f).pub = s.pub := rfl
@[simp] theorem modPort_cmt (s : State) (p : Nat) (f : Port → Port) : (modPort s p f).cmt = s.cmt := rfl
@[simp] theorem modPort_cmds (s : State) (p : Nat) (f : Port → Port) : (modPort s p f).cmds = s.cmds := rfl
@[simp] theorem modPort_tiles (s : State) (p : Nat) (f : Port → Port) : (modPort s p f).tiles = s.tiles := rfl
@[simp] theorem modPort_sigs (s : State) (p : Nat) (f : Port → Port) : (modPort s p f).sigs = s.sigs := rfl
@[simp] theorem modPort_nextId (s : State) (p : Nat) (f : Port → Port) : (modPort s p f).nextId = s.nextId := rfl
@[simp] theorem modPort_nextUid (s : State) (p : Nat) (f : Port → Port) : (modPort s p f).nextUid = s.nextUid := rfl
@[simp] theorem modPort_tallies (s : State) (p : Nat) (f : Port → Port) : (modPort s p f).tallies = s.tallies := rfl
@[simp] theorem modPort_parks (s : State) (p : Nat) (f : Port → Port) : (modPort s p f).parks = s.parks := rfl
@[simp] theorem modPort_bank (s : State) (p : Nat) (f : Port → Port) : (modPort s p f).bank = s.bank := rfl
@[simp] theorem modPort_seqs (s : State) (p : Nat) (f : Port → Port) : (modPort s p f).seqs = s.seqs := rfl
@[simp] theorem modPort_opened (s : State) (p : Nat) (f : Port → Port) : (modPort s p f).opened = s.opened := rfl
@[simp] theorem modPort_heldKill (s : State) (p : Nat) (f : Port → Port) : (modPort s p f).heldKill = s.heldKill := rfl
@[simp] theorem modPort_bufs (s : State) (p : Nat) (f : Port → Port) : (modPort s p f).bufs = s.bufs := rfl
@[simp] theorem modPort_grReqs (s : State) (p : Nat) (f : Port → Port) : (modPort s p f).grReqs = s.grReqs := rfl
@[simp] theorem modPort_grWrites (s : State) (p : Nat) (f : Port → Port) : (modPort s p f).grWrites = s.grWrites := rfl
@[simp] theorem modPort_grLast (s : State) (p : Nat) (f : Port → Port) : (modPort s p f).grLast = s.grLast := rfl
@[simp] theorem modPort_host (s : State) (p : Nat) (f : Port → Port) : (modPort s p f).host = s.host := rfl
@[simp] theorem modPort_out (s : State) (p : Nat) (f : Port → Port) : (modPort s p f).out = s.out := rfl
@[simp] theorem modPort_pwr (s : State) (p : Nat) (f : Port → Port) : (modPort s p f).pwr = s.pwr := rfl
@[simp] theorem modPort_notices (s : State) (p : Nat) (f : Port → Port) : (modPort s p f).notices = s.notices := rfl
@[simp] theorem modPort_epochs (s : State) (p : Nat) (f : Port → Port) : (modPort s p f).epochs = s.epochs := rfl
@[simp] theorem modPort_upsets (s : State) (p : Nat) (f : Port → Port) : (modPort s p f).upsets = s.upsets := rfl
@[simp] theorem modPort_bw (s : State) (p : Nat) (f : Port → Port) : (modPort s p f).bw = s.bw := rfl
@[simp] theorem modPort_fuse (s : State) (p : Nat) (f : Port → Port) : (modPort s p f).fuse = s.fuse := rfl
@[simp] theorem modPort_sec (s : State) (p : Nat) (f : Port → Port) : (modPort s p f).sec = s.sec := rfl
@[simp] theorem modPort_health (s : State) (p : Nat) (f : Port → Port) : (modPort s p f).health = s.health := rfl
@[simp] theorem modPort_lfsr (s : State) (p : Nat) (f : Port → Port) : (modPort s p f).lfsr = s.lfsr := rfl

/-! Breakwater's part of a port is changed: every field but `bw` stays. -/

@[simp] theorem modBwPort_now (s : State) (p : Nat) (f : BwPort → BwPort) : (modBwPort s p f).now = s.now := rfl
@[simp] theorem modBwPort_free (s : State) (p : Nat) (f : BwPort → BwPort) : (modBwPort s p f).free = s.free := rfl
@[simp] theorem modBwPort_pending (s : State) (p : Nat) (f : BwPort → BwPort) : (modBwPort s p f).pending = s.pending := rfl
@[simp] theorem modBwPort_regs (s : State) (p : Nat) (f : BwPort → BwPort) : (modBwPort s p f).regs = s.regs := rfl
@[simp] theorem modBwPort_mem (s : State) (p : Nat) (f : BwPort → BwPort) : (modBwPort s p f).mem = s.mem := rfl
@[simp] theorem modBwPort_log (s : State) (p : Nat) (f : BwPort → BwPort) : (modBwPort s p f).log = s.log := rfl
@[simp] theorem modBwPort_clk (s : State) (p : Nat) (f : BwPort → BwPort) : (modBwPort s p f).clk = s.clk := rfl
@[simp] theorem modBwPort_tide (s : State) (p : Nat) (f : BwPort → BwPort) : (modBwPort s p f).tide = s.tide := rfl
@[simp] theorem modBwPort_plan (s : State) (p : Nat) (f : BwPort → BwPort) : (modBwPort s p f).plan = s.plan := rfl
@[simp] theorem modBwPort_img (s : State) (p : Nat) (f : BwPort → BwPort) : (modBwPort s p f).img = s.img := rfl
@[simp] theorem modBwPort_ctxs (s : State) (p : Nat) (f : BwPort → BwPort) : (modBwPort s p f).ctxs = s.ctxs := rfl
@[simp] theorem modBwPort_stalls (s : State) (p : Nat) (f : BwPort → BwPort) : (modBwPort s p f).stalls = s.stalls := rfl
@[simp] theorem modBwPort_pub (s : State) (p : Nat) (f : BwPort → BwPort) : (modBwPort s p f).pub = s.pub := rfl
@[simp] theorem modBwPort_cmt (s : State) (p : Nat) (f : BwPort → BwPort) : (modBwPort s p f).cmt = s.cmt := rfl
@[simp] theorem modBwPort_cmds (s : State) (p : Nat) (f : BwPort → BwPort) : (modBwPort s p f).cmds = s.cmds := rfl
@[simp] theorem modBwPort_tiles (s : State) (p : Nat) (f : BwPort → BwPort) : (modBwPort s p f).tiles = s.tiles := rfl
@[simp] theorem modBwPort_sigs (s : State) (p : Nat) (f : BwPort → BwPort) : (modBwPort s p f).sigs = s.sigs := rfl
@[simp] theorem modBwPort_nextId (s : State) (p : Nat) (f : BwPort → BwPort) : (modBwPort s p f).nextId = s.nextId := rfl
@[simp] theorem modBwPort_nextUid (s : State) (p : Nat) (f : BwPort → BwPort) : (modBwPort s p f).nextUid = s.nextUid := rfl
@[simp] theorem modBwPort_tallies (s : State) (p : Nat) (f : BwPort → BwPort) : (modBwPort s p f).tallies = s.tallies := rfl
@[simp] theorem modBwPort_parks (s : State) (p : Nat) (f : BwPort → BwPort) : (modBwPort s p f).parks = s.parks := rfl
@[simp] theorem modBwPort_bank (s : State) (p : Nat) (f : BwPort → BwPort) : (modBwPort s p f).bank = s.bank := rfl
@[simp] theorem modBwPort_seqs (s : State) (p : Nat) (f : BwPort → BwPort) : (modBwPort s p f).seqs = s.seqs := rfl
@[simp] theorem modBwPort_opened (s : State) (p : Nat) (f : BwPort → BwPort) : (modBwPort s p f).opened = s.opened := rfl
@[simp] theorem modBwPort_heldKill (s : State) (p : Nat) (f : BwPort → BwPort) : (modBwPort s p f).heldKill = s.heldKill := rfl
@[simp] theorem modBwPort_bufs (s : State) (p : Nat) (f : BwPort → BwPort) : (modBwPort s p f).bufs = s.bufs := rfl
@[simp] theorem modBwPort_grReqs (s : State) (p : Nat) (f : BwPort → BwPort) : (modBwPort s p f).grReqs = s.grReqs := rfl
@[simp] theorem modBwPort_grWrites (s : State) (p : Nat) (f : BwPort → BwPort) : (modBwPort s p f).grWrites = s.grWrites := rfl
@[simp] theorem modBwPort_grLast (s : State) (p : Nat) (f : BwPort → BwPort) : (modBwPort s p f).grLast = s.grLast := rfl
@[simp] theorem modBwPort_host (s : State) (p : Nat) (f : BwPort → BwPort) : (modBwPort s p f).host = s.host := rfl
@[simp] theorem modBwPort_out (s : State) (p : Nat) (f : BwPort → BwPort) : (modBwPort s p f).out = s.out := rfl
@[simp] theorem modBwPort_pwr (s : State) (p : Nat) (f : BwPort → BwPort) : (modBwPort s p f).pwr = s.pwr := rfl
@[simp] theorem modBwPort_notices (s : State) (p : Nat) (f : BwPort → BwPort) : (modBwPort s p f).notices = s.notices := rfl
@[simp] theorem modBwPort_epochs (s : State) (p : Nat) (f : BwPort → BwPort) : (modBwPort s p f).epochs = s.epochs := rfl
@[simp] theorem modBwPort_upsets (s : State) (p : Nat) (f : BwPort → BwPort) : (modBwPort s p f).upsets = s.upsets := rfl
@[simp] theorem modBwPort_ports (s : State) (p : Nat) (f : BwPort → BwPort) : (modBwPort s p f).ports = s.ports := rfl
@[simp] theorem modBwPort_fuse (s : State) (p : Nat) (f : BwPort → BwPort) : (modBwPort s p f).fuse = s.fuse := rfl
@[simp] theorem modBwPort_sec (s : State) (p : Nat) (f : BwPort → BwPort) : (modBwPort s p f).sec = s.sec := rfl
@[simp] theorem modBwPort_health (s : State) (p : Nat) (f : BwPort → BwPort) : (modBwPort s p f).health = s.health := rfl
@[simp] theorem modBwPort_lfsr (s : State) (p : Nat) (f : BwPort → BwPort) : (modBwPort s p f).lfsr = s.lfsr := rfl

/-! A pin changes: every field but `out` stays. -/

@[simp] theorem drivePin_now (s : State) (n : String) (v : Bool) : (drivePin s n v).now = s.now := rfl
@[simp] theorem drivePin_free (s : State) (n : String) (v : Bool) : (drivePin s n v).free = s.free := rfl
@[simp] theorem drivePin_pending (s : State) (n : String) (v : Bool) : (drivePin s n v).pending = s.pending := rfl
@[simp] theorem drivePin_regs (s : State) (n : String) (v : Bool) : (drivePin s n v).regs = s.regs := rfl
@[simp] theorem drivePin_mem (s : State) (n : String) (v : Bool) : (drivePin s n v).mem = s.mem := rfl
@[simp] theorem drivePin_log (s : State) (n : String) (v : Bool) : (drivePin s n v).log = s.log := rfl
@[simp] theorem drivePin_clk (s : State) (n : String) (v : Bool) : (drivePin s n v).clk = s.clk := rfl
@[simp] theorem drivePin_tide (s : State) (n : String) (v : Bool) : (drivePin s n v).tide = s.tide := rfl
@[simp] theorem drivePin_plan (s : State) (n : String) (v : Bool) : (drivePin s n v).plan = s.plan := rfl
@[simp] theorem drivePin_img (s : State) (n : String) (v : Bool) : (drivePin s n v).img = s.img := rfl
@[simp] theorem drivePin_ctxs (s : State) (n : String) (v : Bool) : (drivePin s n v).ctxs = s.ctxs := rfl
@[simp] theorem drivePin_stalls (s : State) (n : String) (v : Bool) : (drivePin s n v).stalls = s.stalls := rfl
@[simp] theorem drivePin_pub (s : State) (n : String) (v : Bool) : (drivePin s n v).pub = s.pub := rfl
@[simp] theorem drivePin_cmt (s : State) (n : String) (v : Bool) : (drivePin s n v).cmt = s.cmt := rfl
@[simp] theorem drivePin_cmds (s : State) (n : String) (v : Bool) : (drivePin s n v).cmds = s.cmds := rfl
@[simp] theorem drivePin_tiles (s : State) (n : String) (v : Bool) : (drivePin s n v).tiles = s.tiles := rfl
@[simp] theorem drivePin_sigs (s : State) (n : String) (v : Bool) : (drivePin s n v).sigs = s.sigs := rfl
@[simp] theorem drivePin_nextId (s : State) (n : String) (v : Bool) : (drivePin s n v).nextId = s.nextId := rfl
@[simp] theorem drivePin_nextUid (s : State) (n : String) (v : Bool) : (drivePin s n v).nextUid = s.nextUid := rfl
@[simp] theorem drivePin_tallies (s : State) (n : String) (v : Bool) : (drivePin s n v).tallies = s.tallies := rfl
@[simp] theorem drivePin_parks (s : State) (n : String) (v : Bool) : (drivePin s n v).parks = s.parks := rfl
@[simp] theorem drivePin_bank (s : State) (n : String) (v : Bool) : (drivePin s n v).bank = s.bank := rfl
@[simp] theorem drivePin_seqs (s : State) (n : String) (v : Bool) : (drivePin s n v).seqs = s.seqs := rfl
@[simp] theorem drivePin_opened (s : State) (n : String) (v : Bool) : (drivePin s n v).opened = s.opened := rfl
@[simp] theorem drivePin_heldKill (s : State) (n : String) (v : Bool) : (drivePin s n v).heldKill = s.heldKill := rfl
@[simp] theorem drivePin_bufs (s : State) (n : String) (v : Bool) : (drivePin s n v).bufs = s.bufs := rfl
@[simp] theorem drivePin_grReqs (s : State) (n : String) (v : Bool) : (drivePin s n v).grReqs = s.grReqs := rfl
@[simp] theorem drivePin_grWrites (s : State) (n : String) (v : Bool) : (drivePin s n v).grWrites = s.grWrites := rfl
@[simp] theorem drivePin_grLast (s : State) (n : String) (v : Bool) : (drivePin s n v).grLast = s.grLast := rfl
@[simp] theorem drivePin_host (s : State) (n : String) (v : Bool) : (drivePin s n v).host = s.host := rfl
@[simp] theorem drivePin_pwr (s : State) (n : String) (v : Bool) : (drivePin s n v).pwr = s.pwr := rfl
@[simp] theorem drivePin_notices (s : State) (n : String) (v : Bool) : (drivePin s n v).notices = s.notices := rfl
@[simp] theorem drivePin_epochs (s : State) (n : String) (v : Bool) : (drivePin s n v).epochs = s.epochs := rfl
@[simp] theorem drivePin_upsets (s : State) (n : String) (v : Bool) : (drivePin s n v).upsets = s.upsets := rfl
@[simp] theorem drivePin_ports (s : State) (n : String) (v : Bool) : (drivePin s n v).ports = s.ports := rfl
@[simp] theorem drivePin_bw (s : State) (n : String) (v : Bool) : (drivePin s n v).bw = s.bw := rfl
@[simp] theorem drivePin_fuse (s : State) (n : String) (v : Bool) : (drivePin s n v).fuse = s.fuse := rfl
@[simp] theorem drivePin_sec (s : State) (n : String) (v : Bool) : (drivePin s n v).sec = s.sec := rfl
@[simp] theorem drivePin_health (s : State) (n : String) (v : Bool) : (drivePin s n v).health = s.health := rfl
@[simp] theorem drivePin_lfsr (s : State) (n : String) (v : Bool) : (drivePin s n v).lfsr = s.lfsr := rfl

/-! An entry of the Strandline log is written: every field but `log` stays. -/

@[simp] theorem logRaw_now (s : State) (c : Option Nat) (cls : Nat) (src : Src) (code d0 d1 : Nat) : (logRaw s c cls src code d0 d1).now = s.now := rfl
@[simp] theorem logRaw_free (s : State) (c : Option Nat) (cls : Nat) (src : Src) (code d0 d1 : Nat) : (logRaw s c cls src code d0 d1).free = s.free := rfl
@[simp] theorem logRaw_pending (s : State) (c : Option Nat) (cls : Nat) (src : Src) (code d0 d1 : Nat) : (logRaw s c cls src code d0 d1).pending = s.pending := rfl
@[simp] theorem logRaw_regs (s : State) (c : Option Nat) (cls : Nat) (src : Src) (code d0 d1 : Nat) : (logRaw s c cls src code d0 d1).regs = s.regs := rfl
@[simp] theorem logRaw_mem (s : State) (c : Option Nat) (cls : Nat) (src : Src) (code d0 d1 : Nat) : (logRaw s c cls src code d0 d1).mem = s.mem := rfl
@[simp] theorem logRaw_clk (s : State) (c : Option Nat) (cls : Nat) (src : Src) (code d0 d1 : Nat) : (logRaw s c cls src code d0 d1).clk = s.clk := rfl
@[simp] theorem logRaw_tide (s : State) (c : Option Nat) (cls : Nat) (src : Src) (code d0 d1 : Nat) : (logRaw s c cls src code d0 d1).tide = s.tide := rfl
@[simp] theorem logRaw_plan (s : State) (c : Option Nat) (cls : Nat) (src : Src) (code d0 d1 : Nat) : (logRaw s c cls src code d0 d1).plan = s.plan := rfl
@[simp] theorem logRaw_img (s : State) (c : Option Nat) (cls : Nat) (src : Src) (code d0 d1 : Nat) : (logRaw s c cls src code d0 d1).img = s.img := rfl
@[simp] theorem logRaw_ctxs (s : State) (c : Option Nat) (cls : Nat) (src : Src) (code d0 d1 : Nat) : (logRaw s c cls src code d0 d1).ctxs = s.ctxs := rfl
@[simp] theorem logRaw_stalls (s : State) (c : Option Nat) (cls : Nat) (src : Src) (code d0 d1 : Nat) : (logRaw s c cls src code d0 d1).stalls = s.stalls := rfl
@[simp] theorem logRaw_pub (s : State) (c : Option Nat) (cls : Nat) (src : Src) (code d0 d1 : Nat) : (logRaw s c cls src code d0 d1).pub = s.pub := rfl
@[simp] theorem logRaw_cmt (s : State) (c : Option Nat) (cls : Nat) (src : Src) (code d0 d1 : Nat) : (logRaw s c cls src code d0 d1).cmt = s.cmt := rfl
@[simp] theorem logRaw_cmds (s : State) (c : Option Nat) (cls : Nat) (src : Src) (code d0 d1 : Nat) : (logRaw s c cls src code d0 d1).cmds = s.cmds := rfl
@[simp] theorem logRaw_tiles (s : State) (c : Option Nat) (cls : Nat) (src : Src) (code d0 d1 : Nat) : (logRaw s c cls src code d0 d1).tiles = s.tiles := rfl
@[simp] theorem logRaw_sigs (s : State) (c : Option Nat) (cls : Nat) (src : Src) (code d0 d1 : Nat) : (logRaw s c cls src code d0 d1).sigs = s.sigs := rfl
@[simp] theorem logRaw_nextId (s : State) (c : Option Nat) (cls : Nat) (src : Src) (code d0 d1 : Nat) : (logRaw s c cls src code d0 d1).nextId = s.nextId := rfl
@[simp] theorem logRaw_nextUid (s : State) (c : Option Nat) (cls : Nat) (src : Src) (code d0 d1 : Nat) : (logRaw s c cls src code d0 d1).nextUid = s.nextUid := rfl
@[simp] theorem logRaw_tallies (s : State) (c : Option Nat) (cls : Nat) (src : Src) (code d0 d1 : Nat) : (logRaw s c cls src code d0 d1).tallies = s.tallies := rfl
@[simp] theorem logRaw_parks (s : State) (c : Option Nat) (cls : Nat) (src : Src) (code d0 d1 : Nat) : (logRaw s c cls src code d0 d1).parks = s.parks := rfl
@[simp] theorem logRaw_bank (s : State) (c : Option Nat) (cls : Nat) (src : Src) (code d0 d1 : Nat) : (logRaw s c cls src code d0 d1).bank = s.bank := rfl
@[simp] theorem logRaw_seqs (s : State) (c : Option Nat) (cls : Nat) (src : Src) (code d0 d1 : Nat) : (logRaw s c cls src code d0 d1).seqs = s.seqs := rfl
@[simp] theorem logRaw_opened (s : State) (c : Option Nat) (cls : Nat) (src : Src) (code d0 d1 : Nat) : (logRaw s c cls src code d0 d1).opened = s.opened := rfl
@[simp] theorem logRaw_heldKill (s : State) (c : Option Nat) (cls : Nat) (src : Src) (code d0 d1 : Nat) : (logRaw s c cls src code d0 d1).heldKill = s.heldKill := rfl
@[simp] theorem logRaw_bufs (s : State) (c : Option Nat) (cls : Nat) (src : Src) (code d0 d1 : Nat) : (logRaw s c cls src code d0 d1).bufs = s.bufs := rfl
@[simp] theorem logRaw_grReqs (s : State) (c : Option Nat) (cls : Nat) (src : Src) (code d0 d1 : Nat) : (logRaw s c cls src code d0 d1).grReqs = s.grReqs := rfl
@[simp] theorem logRaw_grWrites (s : State) (c : Option Nat) (cls : Nat) (src : Src) (code d0 d1 : Nat) : (logRaw s c cls src code d0 d1).grWrites = s.grWrites := rfl
@[simp] theorem logRaw_grLast (s : State) (c : Option Nat) (cls : Nat) (src : Src) (code d0 d1 : Nat) : (logRaw s c cls src code d0 d1).grLast = s.grLast := rfl
@[simp] theorem logRaw_host (s : State) (c : Option Nat) (cls : Nat) (src : Src) (code d0 d1 : Nat) : (logRaw s c cls src code d0 d1).host = s.host := rfl
@[simp] theorem logRaw_out (s : State) (c : Option Nat) (cls : Nat) (src : Src) (code d0 d1 : Nat) : (logRaw s c cls src code d0 d1).out = s.out := rfl
@[simp] theorem logRaw_pwr (s : State) (c : Option Nat) (cls : Nat) (src : Src) (code d0 d1 : Nat) : (logRaw s c cls src code d0 d1).pwr = s.pwr := rfl
@[simp] theorem logRaw_notices (s : State) (c : Option Nat) (cls : Nat) (src : Src) (code d0 d1 : Nat) : (logRaw s c cls src code d0 d1).notices = s.notices := rfl
@[simp] theorem logRaw_epochs (s : State) (c : Option Nat) (cls : Nat) (src : Src) (code d0 d1 : Nat) : (logRaw s c cls src code d0 d1).epochs = s.epochs := rfl
@[simp] theorem logRaw_upsets (s : State) (c : Option Nat) (cls : Nat) (src : Src) (code d0 d1 : Nat) : (logRaw s c cls src code d0 d1).upsets = s.upsets := rfl
@[simp] theorem logRaw_ports (s : State) (c : Option Nat) (cls : Nat) (src : Src) (code d0 d1 : Nat) : (logRaw s c cls src code d0 d1).ports = s.ports := rfl
@[simp] theorem logRaw_bw (s : State) (c : Option Nat) (cls : Nat) (src : Src) (code d0 d1 : Nat) : (logRaw s c cls src code d0 d1).bw = s.bw := rfl
@[simp] theorem logRaw_fuse (s : State) (c : Option Nat) (cls : Nat) (src : Src) (code d0 d1 : Nat) : (logRaw s c cls src code d0 d1).fuse = s.fuse := rfl
@[simp] theorem logRaw_sec (s : State) (c : Option Nat) (cls : Nat) (src : Src) (code d0 d1 : Nat) : (logRaw s c cls src code d0 d1).sec = s.sec := rfl
@[simp] theorem logRaw_health (s : State) (c : Option Nat) (cls : Nat) (src : Src) (code d0 d1 : Nat) : (logRaw s c cls src code d0 d1).health = s.health := rfl
@[simp] theorem logRaw_lfsr (s : State) (c : Option Nat) (cls : Nat) (src : Src) (code d0 d1 : Nat) : (logRaw s c cls src code d0 d1).lfsr = s.lfsr := rfl

/-! ### Read back -/

@[simp] theorem State.at_now (s : State) (t : Nat) : (s.at t).now = max s.now t := rfl

/-- A table read by default at the key just written. -/
@[simp] theorem getD_put_same {α : Type} (d v : α) (k : Nat) (m : Tab α) : Tab.getD d k (Tab.put k v m) = v := by
  simp [Tab.getD]

/-- A table read by default at another key. -/
theorem getD_put_ne {α : Type} {k l : Nat} (h : l ≠ k) (d v : α) (m : Tab α) : Tab.getD d l (Tab.put k v m) = Tab.getD d l m := by
  simp [Tab.getD, Tab.find_put_ne h]

@[simp] theorem ctxOf_setCtx_same (s : State) (c : Nat) (x : Ctx) : ctxOf (setCtx s c x) c = x := by
  simp [ctxOf, setCtx, ctxOf]
theorem ctxOf_setCtx_ne (s : State) (c : Nat) (x : Ctx) {e : Nat} (h : e ≠ c) : ctxOf (setCtx s c x) e = ctxOf s e := by
  simp [ctxOf, setCtx, ctxOf, getD_put_ne h]
@[simp] theorem ctxOf_modCtx_same (s : State) (c : Nat) (f : Ctx → Ctx) : ctxOf (modCtx s c f) c = f (ctxOf s c) := by
  simp [ctxOf, modCtx, setCtx, ctxOf]
theorem ctxOf_modCtx_ne (s : State) (c : Nat) (f : Ctx → Ctx) {e : Nat} (h : e ≠ c) : ctxOf (modCtx s c f) e = ctxOf s e := by
  simp [ctxOf, modCtx, setCtx, ctxOf, getD_put_ne h]
@[simp] theorem ctxOf_modBcn_same (s : State) (c : Nat) (f : Bcn → Bcn) : ctxOf (modBcn s c f) c = { ctxOf s c with bcn := f (ctxOf s c).bcn } := by
  simp [ctxOf, modBcn, modCtx, setCtx, ctxOf]
theorem ctxOf_modBcn_ne (s : State) (c : Nat) (f : Bcn → Bcn) {e : Nat} (h : e ≠ c) : ctxOf (modBcn s c f) e = ctxOf s e := by
  simp [ctxOf, modBcn, modCtx, setCtx, ctxOf, getD_put_ne h]
@[simp] theorem stallOf_modStall_same (s : State) (c : Nat) (f : Stall → Stall) : stallOf (modStall s c f) c = f (stallOf s c) := by
  simp [stallOf, modStall, stallOf]
theorem stallOf_modStall_ne (s : State) (c : Nat) (f : Stall → Stall) {e : Nat} (h : e ≠ c) : stallOf (modStall s c f) e = stallOf s e := by
  simp [stallOf, modStall, stallOf, getD_put_ne h]
@[simp] theorem fnOf_modFn_same (s : State) (c : Nat) (f : Fn → Fn) : fnOf (modFn s c f) c = f (fnOf s c) := by
  simp [fnOf, modFn, fnOf]
theorem fnOf_modFn_ne (s : State) (c : Nat) (f : Fn → Fn) {e : Nat} (h : e ≠ c) : fnOf (modFn s c f) e = fnOf s e := by
  simp [fnOf, modFn, fnOf, getD_put_ne h]
@[simp] theorem portOf_modPort_same (s : State) (c : Nat) (f : Port → Port) : portOf (modPort s c f) c = f (portOf s c) := by
  simp [portOf, modPort, setPort, portOf]
theorem portOf_modPort_ne (s : State) (c : Nat) (f : Port → Port) {e : Nat} (h : e ≠ c) : portOf (modPort s c f) e = portOf s e := by
  simp [portOf, modPort, setPort, portOf, getD_put_ne h]
@[simp] theorem bwPortOf_modBwPort_same (s : State) (c : Nat) (f : BwPort → BwPort) : bwPortOf (modBwPort s c f) c = f (bwPortOf s c) := by
  simp [bwPortOf, modBwPort, bwPortOf]
theorem bwPortOf_modBwPort_ne (s : State) (c : Nat) (f : BwPort → BwPort) {e : Nat} (h : e ≠ c) : bwPortOf (modBwPort s c f) e = bwPortOf s e := by
  simp [bwPortOf, modBwPort, bwPortOf, getD_put_ne h]

/-- A register just written is read back. -/
theorem rgetX_rputX_same {s : State} (h : s.regsOk) (r : Reg) (d i : Nat) (v : Word) : rgetX (rputX s r d i v) r d i = v := by
  unfold rgetX rputX regsPut Tab.getD
  by_cases hv : v = r.info.reset
  · simp only [if_pos hv]
    rw [find_del_same h, hv]
    rfl
  · simp [if_neg hv]

/-- A register written leaves every other register alone. -/
theorem rgetX_rputX_ne (s : State) {r r' : Reg} {d i d' i' : Nat} (h : r'.addr d' i' ≠ r.addr d i) (v : Word) :
    rgetX (rputX s r d i v) r' d' i' = rgetX s r' d' i' := by
  unfold rgetX rputX regsPut Tab.getD
  by_cases hv : v = r.info.reset
  · simp only [if_pos hv]
    rw [Tab.find_del_ne h]
  · simp only [if_neg hv]
    rw [Tab.find_put_ne h]

/-- Registers keep one home each when one is written. -/
theorem regsOk_rputX {s : State} (h : s.regsOk) (r : Reg) (d i : Nat) (v : Word) : (rputX s r d i v).regsOk := by
  unfold State.regsOk rputX regsPut
  dsimp only
  split
  · exact h.sublist (Tab.del_sublist _ _)
  · exact Tab.rising_put h

end Sys2Proof.Machine
end

