-- ==== Sys2Proof/Laws/Ops.lean ====
section
/-! SUPPORT. What the shared operations can do, said once: an event that is enabled or not, the write of a register with a
check, and reads and writes of memory. -/

namespace Sys2Proof.Machine

/-! ### Events -/

/-- An event whose condition holds has its effect. -/
theorem whenEnabled_of_true {t : Nat} {en : State → Bool} {eff : State → State} {s : State} (h : en (s.at t) = true) :
    whenEnabled t en eff s = .next (eff (s.at t)) := by
  simp [whenEnabled, h]

/-- An event whose condition does not hold moves time only. -/
theorem whenEnabled_of_false {t : Nat} {en : State → Bool} {eff : State → State} {s : State} (h : en (s.at t) = false) :
    whenEnabled t en eff s = .next (s.at t) := by
  simp [whenEnabled, h]

/-- An event answers a next state: its effect, or the present state at its moment. -/
theorem whenEnabled_cases (t : Nat) (en : State → Bool) (eff : State → State) (s : State) :
    (en (s.at t) = true ∧ whenEnabled t en eff s = .next (eff (s.at t))) ∨
    (en (s.at t) = false ∧ whenEnabled t en eff s = .next (s.at t)) := by
  cases h : en (s.at t)
  · exact .inr ⟨rfl, whenEnabled_of_false h⟩
  · exact .inl ⟨rfl, whenEnabled_of_true h⟩

/-- A property that the present moment and the effect both have holds of what an event answers. -/
theorem whenEnabled_keeps {P : State → Prop} {t : Nat} {en : State → Bool} {eff : State → State} {s s' : State}
    (h : whenEnabled t en eff s = .next s') (h0 : P (s.at t)) (h1 : en (s.at t) = true → P (eff (s.at t))) : P s' := by
  rcases whenEnabled_cases t en eff s with ⟨he, e⟩ | ⟨-, e⟩ <;> rw [e] at h <;> cases h
  · exact h1 he
  · exact h0

/-! ### The write of a register with a check (R10) -/

/-- A write that R10 lets through acts where the register's check passes, and leaves an access error with code 0x02 where it
does not. -/
theorem guardedWrite_of_takes {s : State} {q : Requester} {r : Reg} {d i : Nat} {v : Word} (h : s.takesWrite q r d i v)
    (check : State → Bool) (act : State → State) :
    guardedWrite s q r d i v check act =
      if check s = true then act (s.noteWrite q r d i) else logAccess s r.src 0x02 (regAddr r d i) (reqCode q) := by
  obtain ⟨h1, h2, h3, h4⟩ := h
  by_cases hc : check s = true <;> simp [guardedWrite, h1, h2, h3, h4, hc, State.noteWrite]

/-- A write in a fallow die's window is an access error (R25). -/
theorem guardedWrite_of_fallow {s : State} {q : Requester} {r : Reg} {d i : Nat} {v : Word}
    (h : fallow s (r.info.win.dies.1 + d) = true) (check : State → Bool) (act : State → State) :
    guardedWrite s q r d i v check act = logAccess s r.src 0x03 (regAddr r d i) (reqCode q) := by
  simp [guardedWrite, h]

/-! ### Memory -/

/-- A write of memory leaves every byte outside it alone. -/
theorem readByte_writeMem_outside (s : State) {a x : Nat} {bs : List Byte} (h : x < a ∨ a + bs.length ≤ x) :
    readByte (writeMem s a bs) x = readByte s x := by
  unfold writeMem
  split
  · rfl
  · have hm : (injectOnWrite s a bs.length).mem = s.mem := by
      unfold injectOnWrite; dsimp only; split <;> rfl
    have he : keyEpoch (injectOnWrite s a bs.length) x = keyEpoch s x := by
      unfold injectOnWrite; dsimp only; split <;> rfl
    show (memGet (memPuts a bs (injectOnWrite s a bs.length).mem) x).getD (Config.freeByte (keyEpoch (injectOnWrite s a bs.length) x) x) = _
    rw [memGet_memPuts_outside bs _ h, hm, he]
    rfl

/-- A written byte is read back. -/
theorem readByte_writeMem_inside {s : State} (h : s.memOk) {a i : Nat} {bs : List Byte} {b : Byte} (hb : bs[i]? = some b) :
    readByte (writeMem s a bs) (a + i) = b := by
  unfold writeMem
  split
  · rename_i he
    simp only [List.isEmpty_iff] at he
    subst he
    simp at hb
  · have hm : (injectOnWrite s a bs.length).mem = s.mem := by
      unfold injectOnWrite; dsimp only; split <;> rfl
    show (memGet (memPuts a bs (injectOnWrite s a bs.length).mem) (a + i)).getD _ = b
    rw [hm, memGet_memPuts_inside bs h hb]
    rfl

/-- A write of memory keeps the canonical form. -/
theorem memOk_writeMem {s : State} (h : s.memOk) (a : Nat) (bs : List Byte) : (writeMem s a bs).memOk := by
  unfold writeMem
  split
  · exact h
  · have hm : (injectOnWrite s a bs.length).mem = s.mem := by
      unfold injectOnWrite; dsimp only; split <;> rfl
    show Memory.wf (memPuts a bs (injectOnWrite s a bs.length).mem) = true
    rw [hm]
    exact memPuts_wf h a bs

end Sys2Proof.Machine
end

