-- ==== Sys2Proof/WellFormed.lean ====
section
/-! DEFINITION. Which commands name things that exist: contexts 0-16 (16 is BC8), ports 0-31, stalls 0-7, and so on, by the
ranges that the manual gives each index; a flit has 256 bytes (R506). A command outside these ranges names nothing, and its
meaning changes nothing. -/

namespace Sys2Proof

/-- The command's operands lie in the ranges that the manual gives them. -/
def wellFormed : Instr → Bool
  | .registerWrite _ _ _ _ => true
  | .stagingWrite _ _ _ _ => true
  | .clkSetpointCdWrite _ _ _ => true
  | .clkSetpointMdWrite _ _ _ => true
  | .tidPeriodWrite _ _ _ => true
  | .tidBayStartWrite _ b _ _ => decide (b < 16)
  | .tidBayOwnWrite _ b _ _ _ => decide (b < 16)
  | .tidRefPlanWrite _ _ _ => true
  | .evtCfgWrite _ f _ _ => decide (f < 9)
  | .tidMissCountRead _ _ => true
  | .tidExtStatusRead _ _ => true
  | .bcnHoldsRead _ i _ => decide (i < 8)
  | .grnHeldRead _ i _ => decide (i < 1024)
  | .hauBytesRead _ i _ => decide (i < 32)
  | .talDropRead _ i _ => decide (i < 8)
  | .mtxTileBusyRead _ d i _ => decide (d < 16) && decide (i < 8)
  | .vecUnitBusyRead _ d i _ => decide (d < 16) && decide (i < 8)
  | .mtxLooseRead _ i _ => decide (i < 8)
  | .sfuBusyRead _ d i _ => decide (d < 16) && decide (i < 2)
  | .sfuEccRead _ d i _ => decide (d < 16) && decide (i < 2)
  | .winVerdictRead _ i _ => decide (i < 8)
  | .winDropsRead _ i _ => decide (i < 8)
  | .winCensusRead _ i _ => decide (i < 8)
  | .fryDropRead _ d i _ => decide (d < 2) && decide (i < 8)
  | .glnDoneRead _ d i _ => decide (d < 2) && decide (i < 8)
  | .dklErrRead _ d i _ => decide (d < 4) && decide (i < 8)
  | .dklFecRead _ d i _ => decide (d < 4) && decide (i < 8)
  | .medRsBusyRead _ d _ => decide (d < 2)
  | .medEncBytesRead _ d i _ => decide (d < 2) && decide (i < 4)
  | .medEncCappedRead _ d i _ => decide (d < 2) && decide (i < 4)
  | .hifFnStatRead _ i _ => decide (i < 9)
  | .hifDmaErrRead _ _ => true
  | .hltEccRead _ i _ => decide (i < 8)
  | .hltHbmRead _ i _ => decide (i < 12)
  | .logStatusRead _ _ => true
  | .sqlStatRead _ _ => true
  | .secEntropyRead _ _ => true
  | .pwrPeakRead _ _ => true
  | .clockInputLost _ _ => true
  | .toleranceWindow _ _ _ _ => true
  | .pllLockLost dom _ => decide (dom < 60)
  | .edgeRxLockLost e _ => decide (e < 4)
  | .monitorClockStop _ => true
  | .telemetryClockStop _ => true
  | .refclkStable _ => true
  | .rampStage _ _ => true
  | .tideTick _ _ => true
  | .tideInEdge _ => true
  | .flywheelTick _ _ => true
  | .tideOutEnd _ => true
  | .firstTick _ => true
  | .samplingPoint _ => true
  | .releaseClear _ => true
  | .killComplete c _ => decide (c < 17)
  | .engineStopTimeout c _ => decide (c < 17)
  | .voltageRiseCheck _ _ _ => true
  | .vidFall quad _ => decide (quad < 4)
  | .bayStart b _ => decide (b < 16)
  | .refreshSlot _ _ => true
  | .blackoutEnd j _ => decide (j < 8)
  | .deadlineKill c _ => decide (c < 17)
  | .stepDb fn _ _ => decide (fn < 8)
  | .stepStart c _ => decide (c < 17)
  | .attemptStart c _ => decide (c < 17)
  | .primaryResume s _ => decide (s < 8)
  | .killPrimary _ _ _ => true
  | .killUrgent _ _ _ => true
  | .hostTransferDrained s _ => decide (s < 8)
  | .slotPost c slot _ => decide (c < 17) && decide (slot < 4)
  | .commandComplete _ _ => true
  | .tallySignal _ _ => true
  | .nopC c _ _ => decide (c < 17)
  | .add c _ _ => decide (c < 17)
  | .addi c _ _ => decide (c < 17)
  | .sub c _ _ => decide (c < 17)
  | .subi c _ _ => decide (c < 17)
  | .mul c _ _ => decide (c < 17)
  | .muli c _ _ => decide (c < 17)
  | .mulhu c _ _ => decide (c < 17)
  | .mulhui c _ _ => decide (c < 17)
  | .mulResultReady c _ => decide (c < 17)
  | .andC c _ _ => decide (c < 17)
  | .andi c _ _ => decide (c < 17)
  | .orC c _ _ => decide (c < 17)
  | .ori c _ _ => decide (c < 17)
  | .xorC c _ _ => decide (c < 17)
  | .xori c _ _ => decide (c < 17)
  | .shl c _ _ => decide (c < 17)
  | .shli c _ _ => decide (c < 17)
  | .shr c _ _ => decide (c < 17)
  | .shri c _ _ => decide (c < 17)
  | .sar c _ _ => decide (c < 17)
  | .sari c _ _ => decide (c < 17)
  | .minC c _ _ => decide (c < 17)
  | .mini c _ _ => decide (c < 17)
  | .maxC c _ _ => decide (c < 17)
  | .maxi c _ _ => decide (c < 17)
  | .minu c _ _ => decide (c < 17)
  | .minui c _ _ => decide (c < 17)
  | .maxu c _ _ => decide (c < 17)
  | .maxui c _ _ => decide (c < 17)
  | .clz c _ _ => decide (c < 17)
  | .cmpeq c _ _ => decide (c < 17)
  | .cmpne c _ _ => decide (c < 17)
  | .cmplt c _ _ => decide (c < 17)
  | .cmpltu c _ _ => decide (c < 17)
  | .cmpge c _ _ => decide (c < 17)
  | .cmpgeu c _ _ => decide (c < 17)
  | .cmpeqi c _ _ => decide (c < 17)
  | .cmpnei c _ _ => decide (c < 17)
  | .cmplti c _ _ => decide (c < 17)
  | .cmpltui c _ _ => decide (c < 17)
  | .cmpgei c _ _ => decide (c < 17)
  | .cmpgeui c _ _ => decide (c < 17)
  | .pand c _ _ => decide (c < 17)
  | .por c _ _ => decide (c < 17)
  | .pxor c _ _ => decide (c < 17)
  | .pandn c _ _ => decide (c < 17)
  | .sel c _ _ => decide (c < 17)
  | .mfs c _ _ => decide (c < 17)
  | .ld c _ _ => decide (c < 17)
  | .ldDataUsable c _ => decide (c < 17)
  | .st c _ _ => decide (c < 17)
  | .stLands c _ => decide (c < 17)
  | .movhi c _ _ => decide (c < 17)
  | .controlNop c _ => decide (c < 17)
  | .br c _ => decide (c < 17)
  | .jmpr c _ => decide (c < 17)
  | .call c _ => decide (c < 17)
  | .ret c _ => decide (c < 17)
  | .loop c _ => decide (c < 17)
  | .loopBackEdge c _ => decide (c < 17)
  | .fetch c _ => decide (c < 17)
  | .fetchComplete c _ => decide (c < 17)
  | .drain c _ => decide (c < 17)
  | .commit c _ => decide (c < 17)
  | .endC c _ => decide (c < 17)
  | .waittick c _ => decide (c < 17)
  | .stewardGo _ _ _ => true
  | .alloc c _ => decide (c < 17)
  | .release c _ => decide (c < 17)
  | .stage c _ => decide (c < 17)
  | .resolve c _ => decide (c < 17)
  | .kvStage c _ => decide (c < 17)
  | .kvGrow c _ => decide (c < 17)
  | .kvTrim c _ => decide (c < 17)
  | .granaryServe s _ => decide (s < 8)
  | .copy c m _ => decide (c < 17) && decide (m < 32)
  | .fill c m _ => decide (c < 17) && decide (m < 32)
  | .copy2d c m _ => decide (c < 17) && decide (m < 32)
  | .toHost c m _ => decide (c < 17) && decide (m < 32)
  | .fromHost c m _ => decide (c < 17) && decide (m < 32)
  | .stewardHaulResume m _ => decide (m < 32)
  | .tallyAdd c _ => decide (c < 17)
  | .tallyReset c _ => decide (c < 17)
  | .remoteAdd c _ => decide (c < 17)
  | .tallyRead c _ => decide (c < 17)
  | .remoteAddMsg p _ => decide (p < 32)
  | .gemm c unit _ _ => decide (c < 17) && decide (unit < 128)
  | .grouped c unit _ _ => decide (c < 17) && decide (unit < 128)
  | .split c unit _ _ => decide (c < 17) && decide (unit < 128)
  | .combine c unit _ _ => decide (c < 17) && decide (unit < 128)
  | .worklistClaim c unit _ _ => decide (c < 17) && decide (unit < 128)
  | .looseAdd c _ _ => decide (c < 17)
  | .program c unit _ _ => decide (c < 17) && decide (unit < 128)
  | .route c dd _ => decide (c < 17) && decide (dd < 2)
  | .histogram c dd _ => decide (c < 17) && decide (dd < 2)
  | .scatter c dd _ => decide (c < 17) && decide (dd < 2)
  | .census c _ => decide (c < 17)
  | .censusMsg p _ => decide (p < 32)
  | .censusTimeout c _ => decide (c < 17)
  | .verdictDb fn _ _ _ => decide (fn < 8)
  | .answerWindowExpire c _ => decide (c < 17)
  | .verdictMsg p _ => decide (p < 32)
  | .verdictLost c _ => decide (c < 17)
  | .exchange c dd _ => decide (c < 17) && decide (dd < 2)
  | .returnC c dd _ => decide (c < 17) && decide (dd < 2)
  | .dispatchRecordArrival p _ => decide (p < 32)
  | .returnArrival p _ => decide (p < 32)
  | .gleanerCombine c dd _ => decide (c < 17) && decide (dd < 2)
  | .placedMsg p _ => decide (p < 32)
  | .placedTimer c _ => decide (c < 17)
  | .landedMsg p _ => decide (p < 32)
  | .killMsg p _ => decide (p < 32)
  | .writeUnit p _ => decide (p < 32)
  | .readReq p _ => decide (p < 32)
  | .process c m _ => decide (c < 17) && decide (m < 2)
  | .configure c e _ => decide (c < 17) && decide (e < 8)
  | .encode c e _ => decide (c < 17) && decide (e < 8)
  | .notifyC c _ => decide (c < 17)
  | .evtHeadDb fn _ _ => decide (fn < 9)
  | .msixHoldoff fn vec _ => decide (fn < 9) && decide (vec < 8)
  | .readCompletion fn tag _ _ _ => decide (fn < 9) && decide (tag < 16384)
  | .completionTimeout fn tag _ => decide (fn < 9) && decide (tag < 16384)
  | .functionLevelReset fn _ => decide (fn < 9)
  | .hostReset _ _ => true
  | .startC _ _ => true
  | .imageCheckEnd _ => true
  | .sealC _ _ => true
  | .flitTx p _ => decide (p < 32)
  | .dataFlitRx p bytes _ => decide (p < 32) && bytes.length == 256
  | .idleFlitRx p bytes _ => decide (p < 32) && bytes.length == 256
  | .ctrlFlitRx p bytes _ => decide (p < 32) && bytes.length == 256
  | .ackTimeout p _ => decide (p < 32)
  | .portProbeStart p _ => decide (p < 32)
  | .rxQualify p _ => decide (p < 32)
  | .trainTimeout p _ => decide (p < 32)
  | .rxSilence p _ => decide (p < 32)
  | .codewordLockLost p _ => decide (p < 32)
  | .prbsRx p _ => decide (p < 32)
  | .retrainTimeout p _ => decide (p < 32)
  | .retrain _ p _ => decide (p < 32)
  | .reprobe _ p _ => decide (p < 32)
  | .lossOfSignal p _ => decide (p < 32)
  | .signalReturn p _ _ => decide (p < 32)
  | .losTimeout p _ => decide (p < 32)
  | .fullPowerGrant p _ => decide (p < 32)
  | .aprReduce p _ => decide (p < 32)
  | .interlockPulse e _ _ _ => decide (e < 4)
  | .interlockOpen e _ _ => decide (e < 4)
  | .overPower p _ _ => decide (p < 32)
  | .channelDiscrepancy p _ => decide (p < 32)
  | .channelSelfTestDone _ _ _ => true
  | .channelFault _ e _ => decide (e < 4)
  | .romCrcCheck _ _ => true
  | .brakeTestStart e _ => decide (e < 4)
  | .brakeTestCheck e _ _ _ => decide (e < 4)
  | .permitSend p _ => decide (p < 32)
  | .permit p _ => decide (p < 32)
  | .shutdown p _ => decide (p < 32)
  | .permitLoss p _ => decide (p < 32)
  | .shutdownHoldEnd p _ => decide (p < 32)
  | .degradedWarning _ => true
  | .degradedExpired _ => true
  | .externalStop line _ => decide (line < 2)
  | .lockoutEntry _ => true
  | .lockout _ _ _ => true
  | .arm _ _ _ => true
  | .confirm _ _ _ _ _ _ => true
  | .abortC _ _ _ => true
  | .armTimeout _ => true
  | .resetSelfTestDone _ _ _ => true
  | .sfPowerLoss _ => true
  | .sfPowerOn _ _ => true
  | .entropyTestFail _ _ => true
  | .entropyRecoveryTimeout _ => true
  | .drbgReseed _ => true
  | .supplyGlitch _ => true
  | .getMeasurements _ _ => true
  | .keyExchange _ _ => true
  | .programSlot _ _ _ => true
  | .exportKt _ _ => true
  | .setProduction _ _ => true
  | .getNonce _ _ => true
  | .debugEnter _ _ => true
  | .retire _ _ => true
  | .sensorRead _ _ => true
  | .pkgPwrokRise _ => true
  | .pkgPwrokFall _ => true
  | .seqFault rail _ => decide (rail < 12)
  | .vauxFault _ => true
  | .supplyFault rail _ => decide (rail < 12)
  | .coldReset _ => true
  | .cold _ _ _ => true
  | .coldResetReady _ _ _ => true
  | .fold _ _ _ => true
  | .foldReset _ => true
  | .alignStart _ => true
  | .alignCheckEnd _ _ => true
  | .foldDone _ _ => true
  | .test _ _ _ => true
  | .powerDown _ _ _ => true
  | .selfTestDone _ _ => true
  | .testPassExpire target _ => decide (target < 72)
  | .powerGateRamp d _ _ => decide (d < 16)
  | .fenceScrub _ => true
  | .weatheringEval _ _ _ _ _ => true
  | .wearSnapshot _ => true
  | .injectSingleBit _ _ _ => true
  | .injectDoubleBit _ _ _ => true
  | .injectFlitCrc _ _ _ => true
  | .sqlSeedLoad _ _ _ => true
  | .delayedDelivery p vc _ => decide (p < 32) && decide (vc < 4)
  | .thermalTrip d _ => decide (d < 40)
  | .thermtrip d _ => decide (d < 40)
  | .brakeTestOverdue p _ => decide (p < 32)
  | .entropyStartupPass _ => true
  | .tripWaitEnd _ => true
  | .hbmTemperatureReport n _ _ => decide (n < 12)
  | .busMasterEnable fn _ _ => decide (fn < 9)
  | .postedCreditReturn _ _ => true
  | .perstNRelease _ _ _ _ => true
  | .registerRead _ _ _ _ => true
  | .spdmSessionEnd _ => true
  | .receiverAdapted p _ => decide (p < 32)
  | .hostDelayedLanding fn tag _ => decide (fn < 9) && decide (tag < 16384)

end Sys2Proof
end

