-- ==== Sys2Proof/Laws/PerInstr.lean ====
section
/-! SUPPORT. What holds of every command as syntax: its last operand is its moment, and nothing of its form depends on it. -/

namespace Sys2Proof

/-- The moment of a command, in picoseconds. -/
def Instr.moment : Instr → Nat
  | .registerWrite _ _ _ t => t
  | .stagingWrite _ _ _ t => t
  | .clkSetpointCdWrite _ _ t => t
  | .clkSetpointMdWrite _ _ t => t
  | .tidPeriodWrite _ _ t => t
  | .tidBayStartWrite _ _ _ t => t
  | .tidBayOwnWrite _ _ _ _ t => t
  | .tidRefPlanWrite _ _ t => t
  | .evtCfgWrite _ _ _ t => t
  | .tidMissCountRead _ t => t
  | .tidExtStatusRead _ t => t
  | .bcnHoldsRead _ _ t => t
  | .grnHeldRead _ _ t => t
  | .hauBytesRead _ _ t => t
  | .talDropRead _ _ t => t
  | .mtxTileBusyRead _ _ _ t => t
  | .vecUnitBusyRead _ _ _ t => t
  | .mtxLooseRead _ _ t => t
  | .sfuBusyRead _ _ _ t => t
  | .sfuEccRead _ _ _ t => t
  | .winVerdictRead _ _ t => t
  | .winDropsRead _ _ t => t
  | .winCensusRead _ _ t => t
  | .fryDropRead _ _ _ t => t
  | .glnDoneRead _ _ _ t => t
  | .dklErrRead _ _ _ t => t
  | .dklFecRead _ _ _ t => t
  | .medRsBusyRead _ _ t => t
  | .medEncBytesRead _ _ _ t => t
  | .medEncCappedRead _ _ _ t => t
  | .hifFnStatRead _ _ t => t
  | .hifDmaErrRead _ t => t
  | .hltEccRead _ _ t => t
  | .hltHbmRead _ _ t => t
  | .logStatusRead _ t => t
  | .sqlStatRead _ t => t
  | .secEntropyRead _ t => t
  | .pwrPeakRead _ t => t
  | .clockInputLost _ t => t
  | .toleranceWindow _ _ _ t => t
  | .pllLockLost _ t => t
  | .edgeRxLockLost _ t => t
  | .monitorClockStop t => t
  | .telemetryClockStop t => t
  | .refclkStable t => t
  | .rampStage _ t => t
  | .tideTick _ t => t
  | .tideInEdge t => t
  | .flywheelTick _ t => t
  | .tideOutEnd t => t
  | .firstTick t => t
  | .samplingPoint t => t
  | .releaseClear t => t
  | .killComplete _ t => t
  | .engineStopTimeout _ t => t
  | .voltageRiseCheck _ _ t => t
  | .vidFall _ t => t
  | .bayStart _ t => t
  | .refreshSlot _ t => t
  | .blackoutEnd _ t => t
  | .deadlineKill _ t => t
  | .stepDb _ _ t => t
  | .stepStart _ t => t
  | .attemptStart _ t => t
  | .primaryResume _ t => t
  | .killPrimary _ _ t => t
  | .killUrgent _ _ t => t
  | .hostTransferDrained _ t => t
  | .slotPost _ _ t => t
  | .commandComplete _ t => t
  | .tallySignal _ t => t
  | .nopC _ _ t => t
  | .add _ _ t => t
  | .addi _ _ t => t
  | .sub _ _ t => t
  | .subi _ _ t => t
  | .mul _ _ t => t
  | .muli _ _ t => t
  | .mulhu _ _ t => t
  | .mulhui _ _ t => t
  | .mulResultReady _ t => t
  | .andC _ _ t => t
  | .andi _ _ t => t
  | .orC _ _ t => t
  | .ori _ _ t => t
  | .xorC _ _ t => t
  | .xori _ _ t => t
  | .shl _ _ t => t
  | .shli _ _ t => t
  | .shr _ _ t => t
  | .shri _ _ t => t
  | .sar _ _ t => t
  | .sari _ _ t => t
  | .minC _ _ t => t
  | .mini _ _ t => t
  | .maxC _ _ t => t
  | .maxi _ _ t => t
  | .minu _ _ t => t
  | .minui _ _ t => t
  | .maxu _ _ t => t
  | .maxui _ _ t => t
  | .clz _ _ t => t
  | .cmpeq _ _ t => t
  | .cmpne _ _ t => t
  | .cmplt _ _ t => t
  | .cmpltu _ _ t => t
  | .cmpge _ _ t => t
  | .cmpgeu _ _ t => t
  | .cmpeqi _ _ t => t
  | .cmpnei _ _ t => t
  | .cmplti _ _ t => t
  | .cmpltui _ _ t => t
  | .cmpgei _ _ t => t
  | .cmpgeui _ _ t => t
  | .pand _ _ t => t
  | .por _ _ t => t
  | .pxor _ _ t => t
  | .pandn _ _ t => t
  | .sel _ _ t => t
  | .mfs _ _ t => t
  | .ld _ _ t => t
  | .ldDataUsable _ t => t
  | .st _ _ t => t
  | .stLands _ t => t
  | .movhi _ _ t => t
  | .controlNop _ t => t
  | .br _ t => t
  | .jmpr _ t => t
  | .call _ t => t
  | .ret _ t => t
  | .loop _ t => t
  | .loopBackEdge _ t => t
  | .fetch _ t => t
  | .fetchComplete _ t => t
  | .drain _ t => t
  | .commit _ t => t
  | .endC _ t => t
  | .waittick _ t => t
  | .stewardGo _ _ t => t
  | .alloc _ t => t
  | .release _ t => t
  | .stage _ t => t
  | .resolve _ t => t
  | .kvStage _ t => t
  | .kvGrow _ t => t
  | .kvTrim _ t => t
  | .granaryServe _ t => t
  | .copy _ _ t => t
  | .fill _ _ t => t
  | .copy2d _ _ t => t
  | .toHost _ _ t => t
  | .fromHost _ _ t => t
  | .stewardHaulResume _ t => t
  | .tallyAdd _ t => t
  | .tallyReset _ t => t
  | .remoteAdd _ t => t
  | .tallyRead _ t => t
  | .remoteAddMsg _ t => t
  | .gemm _ _ _ t => t
  | .grouped _ _ _ t => t
  | .split _ _ _ t => t
  | .combine _ _ _ t => t
  | .worklistClaim _ _ _ t => t
  | .looseAdd _ _ t => t
  | .program _ _ _ t => t
  | .route _ _ t => t
  | .histogram _ _ t => t
  | .scatter _ _ t => t
  | .census _ t => t
  | .censusMsg _ t => t
  | .censusTimeout _ t => t
  | .verdictDb _ _ _ t => t
  | .answerWindowExpire _ t => t
  | .verdictMsg _ t => t
  | .verdictLost _ t => t
  | .exchange _ _ t => t
  | .returnC _ _ t => t
  | .dispatchRecordArrival _ t => t
  | .returnArrival _ t => t
  | .gleanerCombine _ _ t => t
  | .placedMsg _ t => t
  | .placedTimer _ t => t
  | .landedMsg _ t => t
  | .killMsg _ t => t
  | .writeUnit _ t => t
  | .readReq _ t => t
  | .process _ _ t => t
  | .configure _ _ t => t
  | .encode _ _ t => t
  | .notifyC _ t => t
  | .evtHeadDb _ _ t => t
  | .msixHoldoff _ _ t => t
  | .readCompletion _ _ _ _ t => t
  | .completionTimeout _ _ t => t
  | .functionLevelReset _ t => t
  | .hostReset _ t => t
  | .startC _ t => t
  | .imageCheckEnd t => t
  | .sealC _ t => t
  | .flitTx _ t => t
  | .dataFlitRx _ _ t => t
  | .idleFlitRx _ _ t => t
  | .ctrlFlitRx _ _ t => t
  | .ackTimeout _ t => t
  | .portProbeStart _ t => t
  | .rxQualify _ t => t
  | .trainTimeout _ t => t
  | .rxSilence _ t => t
  | .codewordLockLost _ t => t
  | .prbsRx _ t => t
  | .retrainTimeout _ t => t
  | .retrain _ _ t => t
  | .reprobe _ _ t => t
  | .lossOfSignal _ t => t
  | .signalReturn _ _ t => t
  | .losTimeout _ t => t
  | .fullPowerGrant _ t => t
  | .aprReduce _ t => t
  | .interlockPulse _ _ _ t => t
  | .interlockOpen _ _ t => t
  | .overPower _ _ t => t
  | .channelDiscrepancy _ t => t
  | .channelSelfTestDone _ _ t => t
  | .channelFault _ _ t => t
  | .romCrcCheck _ t => t
  | .brakeTestStart _ t => t
  | .brakeTestCheck _ _ _ t => t
  | .permitSend _ t => t
  | .permit _ t => t
  | .shutdown _ t => t
  | .permitLoss _ t => t
  | .shutdownHoldEnd _ t => t
  | .degradedWarning t => t
  | .degradedExpired t => t
  | .externalStop _ t => t
  | .lockoutEntry t => t
  | .lockout _ _ t => t
  | .arm _ _ t => t
  | .confirm _ _ _ _ _ t => t
  | .abortC _ _ t => t
  | .armTimeout t => t
  | .resetSelfTestDone _ _ t => t
  | .sfPowerLoss t => t
  | .sfPowerOn _ t => t
  | .entropyTestFail _ t => t
  | .entropyRecoveryTimeout t => t
  | .drbgReseed t => t
  | .supplyGlitch t => t
  | .getMeasurements _ t => t
  | .keyExchange _ t => t
  | .programSlot _ _ t => t
  | .exportKt _ t => t
  | .setProduction _ t => t
  | .getNonce _ t => t
  | .debugEnter _ t => t
  | .retire _ t => t
  | .sensorRead _ t => t
  | .pkgPwrokRise t => t
  | .pkgPwrokFall t => t
  | .seqFault _ t => t
  | .vauxFault t => t
  | .supplyFault _ t => t
  | .coldReset t => t
  | .cold _ _ t => t
  | .coldResetReady _ _ t => t
  | .fold _ _ t => t
  | .foldReset t => t
  | .alignStart t => t
  | .alignCheckEnd _ t => t
  | .foldDone _ t => t
  | .test _ _ t => t
  | .powerDown _ _ t => t
  | .selfTestDone _ t => t
  | .testPassExpire _ t => t
  | .powerGateRamp _ _ t => t
  | .fenceScrub t => t
  | .weatheringEval _ _ _ _ t => t
  | .wearSnapshot t => t
  | .injectSingleBit _ _ t => t
  | .injectDoubleBit _ _ t => t
  | .injectFlitCrc _ _ t => t
  | .sqlSeedLoad _ _ t => t
  | .delayedDelivery _ _ t => t
  | .thermalTrip _ t => t
  | .thermtrip _ t => t
  | .brakeTestOverdue _ t => t
  | .entropyStartupPass t => t
  | .tripWaitEnd t => t
  | .hbmTemperatureReport _ _ t => t
  | .busMasterEnable _ _ t => t
  | .postedCreditReturn _ t => t
  | .perstNRelease _ _ _ t => t
  | .registerRead _ _ _ t => t
  | .spdmSessionEnd t => t
  | .receiverAdapted _ t => t
  | .hostDelayedLanding _ _ t => t

end Sys2Proof

namespace Sys2Proof.Laws.TimeOperand

/-- The last operand is the moment: it can be replaced, and whether the command names things that exist does not depend on it. -/
def Statement (i : Instr) : Prop :=
  ∃ at_ : Nat → Instr, at_ i.moment = i ∧ ∀ t, (at_ t).moment = t ∧ wellFormed (at_ t) = wellFormed i

theorem registerWrite (x1 x2 x3 t) : Statement (.registerWrite x1 x2 x3 t) := ⟨fun t => .registerWrite x1 x2 x3 t, rfl, fun _ => ⟨rfl, rfl⟩⟩
theorem stagingWrite (x1 x2 x3 t) : Statement (.stagingWrite x1 x2 x3 t) := ⟨fun t => .stagingWrite x1 x2 x3 t, rfl, fun _ => ⟨rfl, rfl⟩⟩
theorem clkSetpointCdWrite (x1 x2 t) : Statement (.clkSetpointCdWrite x1 x2 t) := ⟨fun t => .clkSetpointCdWrite x1 x2 t, rfl, fun _ => ⟨rfl, rfl⟩⟩
theorem clkSetpointMdWrite (x1 x2 t) : Statement (.clkSetpointMdWrite x1 x2 t) := ⟨fun t => .clkSetpointMdWrite x1 x2 t, rfl, fun _ => ⟨rfl, rfl⟩⟩
theorem tidPeriodWrite (x1 x2 t) : Statement (.tidPeriodWrite x1 x2 t) := ⟨fun t => .tidPeriodWrite x1 x2 t, rfl, fun _ => ⟨rfl, rfl⟩⟩
theorem tidBayStartWrite (x1 x2 x3 t) : Statement (.tidBayStartWrite x1 x2 x3 t) := ⟨fun t => .tidBayStartWrite x1 x2 x3 t, rfl, fun _ => ⟨rfl, rfl⟩⟩
theorem tidBayOwnWrite (x1 x2 x3 x4 t) : Statement (.tidBayOwnWrite x1 x2 x3 x4 t) := ⟨fun t => .tidBayOwnWrite x1 x2 x3 x4 t, rfl, fun _ => ⟨rfl, rfl⟩⟩
theorem tidRefPlanWrite (x1 x2 t) : Statement (.tidRefPlanWrite x1 x2 t) := ⟨fun t => .tidRefPlanWrite x1 x2 t, rfl, fun _ => ⟨rfl, rfl⟩⟩
theorem evtCfgWrite (x1 x2 x3 t) : Statement (.evtCfgWrite x1 x2 x3 t) := ⟨fun t => .evtCfgWrite x1 x2 x3 t, rfl, fun _ => ⟨rfl, rfl⟩⟩
theorem tidMissCountRead (x1 t) : Statement (.tidMissCountRead x1 t) := ⟨fun t => .tidMissCountRead x1 t, rfl, fun _ => ⟨rfl, rfl⟩⟩
theorem tidExtStatusRead (x1 t) : Statement (.tidExtStatusRead x1 t) := ⟨fun t => .tidExtStatusRead x1 t, rfl, fun _ => ⟨rfl, rfl⟩⟩
theorem bcnHoldsRead (x1 x2 t) : Statement (.bcnHoldsRead x1 x2 t) := ⟨fun t => .bcnHoldsRead x1 x2 t, rfl, fun _ => ⟨rfl, rfl⟩⟩
theorem grnHeldRead (x1 x2 t) : Statement (.grnHeldRead x1 x2 t) := ⟨fun t => .grnHeldRead x1 x2 t, rfl, fun _ => ⟨rfl, rfl⟩⟩
theorem hauBytesRead (x1 x2 t) : Statement (.hauBytesRead x1 x2 t) := ⟨fun t => .hauBytesRead x1 x2 t, rfl, fun _ => ⟨rfl, rfl⟩⟩
theorem talDropRead (x1 x2 t) : Statement (.talDropRead x1 x2 t) := ⟨fun t => .talDropRead x1 x2 t, rfl, fun _ => ⟨rfl, rfl⟩⟩
theorem mtxTileBusyRead (x1 x2 x3 t) : Statement (.mtxTileBusyRead x1 x2 x3 t) := ⟨fun t => .mtxTileBusyRead x1 x2 x3 t, rfl, fun _ => ⟨rfl, rfl⟩⟩
theorem vecUnitBusyRead (x1 x2 x3 t) : Statement (.vecUnitBusyRead x1 x2 x3 t) := ⟨fun t => .vecUnitBusyRead x1 x2 x3 t, rfl, fun _ => ⟨rfl, rfl⟩⟩
theorem mtxLooseRead (x1 x2 t) : Statement (.mtxLooseRead x1 x2 t) := ⟨fun t => .mtxLooseRead x1 x2 t, rfl, fun _ => ⟨rfl, rfl⟩⟩
theorem sfuBusyRead (x1 x2 x3 t) : Statement (.sfuBusyRead x1 x2 x3 t) := ⟨fun t => .sfuBusyRead x1 x2 x3 t, rfl, fun _ => ⟨rfl, rfl⟩⟩
theorem sfuEccRead (x1 x2 x3 t) : Statement (.sfuEccRead x1 x2 x3 t) := ⟨fun t => .sfuEccRead x1 x2 x3 t, rfl, fun _ => ⟨rfl, rfl⟩⟩
theorem winVerdictRead (x1 x2 t) : Statement (.winVerdictRead x1 x2 t) := ⟨fun t => .winVerdictRead x1 x2 t, rfl, fun _ => ⟨rfl, rfl⟩⟩
theorem winDropsRead (x1 x2 t) : Statement (.winDropsRead x1 x2 t) := ⟨fun t => .winDropsRead x1 x2 t, rfl, fun _ => ⟨rfl, rfl⟩⟩
theorem winCensusRead (x1 x2 t) : Statement (.winCensusRead x1 x2 t) := ⟨fun t => .winCensusRead x1 x2 t, rfl, fun _ => ⟨rfl, rfl⟩⟩
theorem fryDropRead (x1 x2 x3 t) : Statement (.fryDropRead x1 x2 x3 t) := ⟨fun t => .fryDropRead x1 x2 x3 t, rfl, fun _ => ⟨rfl, rfl⟩⟩
theorem glnDoneRead (x1 x2 x3 t) : Statement (.glnDoneRead x1 x2 x3 t) := ⟨fun t => .glnDoneRead x1 x2 x3 t, rfl, fun _ => ⟨rfl, rfl⟩⟩
theorem dklErrRead (x1 x2 x3 t) : Statement (.dklErrRead x1 x2 x3 t) := ⟨fun t => .dklErrRead x1 x2 x3 t, rfl, fun _ => ⟨rfl, rfl⟩⟩
theorem dklFecRead (x1 x2 x3 t) : Statement (.dklFecRead x1 x2 x3 t) := ⟨fun t => .dklFecRead x1 x2 x3 t, rfl, fun _ => ⟨rfl, rfl⟩⟩
theorem medRsBusyRead (x1 x2 t) : Statement (.medRsBusyRead x1 x2 t) := ⟨fun t => .medRsBusyRead x1 x2 t, rfl, fun _ => ⟨rfl, rfl⟩⟩
theorem medEncBytesRead (x1 x2 x3 t) : Statement (.medEncBytesRead x1 x2 x3 t) := ⟨fun t => .medEncBytesRead x1 x2 x3 t, rfl, fun _ => ⟨rfl, rfl⟩⟩
theorem medEncCappedRead (x1 x2 x3 t) : Statement (.medEncCappedRead x1 x2 x3 t) := ⟨fun t => .medEncCappedRead x1 x2 x3 t, rfl, fun _ => ⟨rfl, rfl⟩⟩
theorem hifFnStatRead (x1 x2 t) : Statement (.hifFnStatRead x1 x2 t) := ⟨fun t => .hifFnStatRead x1 x2 t, rfl, fun _ => ⟨rfl, rfl⟩⟩
theorem hifDmaErrRead (x1 t) : Statement (.hifDmaErrRead x1 t) := ⟨fun t => .hifDmaErrRead x1 t, rfl, fun _ => ⟨rfl, rfl⟩⟩
theorem hltEccRead (x1 x2 t) : Statement (.hltEccRead x1 x2 t) := ⟨fun t => .hltEccRead x1 x2 t, rfl, fun _ => ⟨rfl, rfl⟩⟩
theorem hltHbmRead (x1 x2 t) : Statement (.hltHbmRead x1 x2 t) := ⟨fun t => .hltHbmRead x1 x2 t, rfl, fun _ => ⟨rfl, rfl⟩⟩
theorem logStatusRead (x1 t) : Statement (.logStatusRead x1 t) := ⟨fun t => .logStatusRead x1 t, rfl, fun _ => ⟨rfl, rfl⟩⟩
theorem sqlStatRead (x1 t) : Statement (.sqlStatRead x1 t) := ⟨fun t => .sqlStatRead x1 t, rfl, fun _ => ⟨rfl, rfl⟩⟩
theorem secEntropyRead (x1 t) : Statement (.secEntropyRead x1 t) := ⟨fun t => .secEntropyRead x1 t, rfl, fun _ => ⟨rfl, rfl⟩⟩
theorem pwrPeakRead (x1 t) : Statement (.pwrPeakRead x1 t) := ⟨fun t => .pwrPeakRead x1 t, rfl, fun _ => ⟨rfl, rfl⟩⟩
theorem clockInputLost (x1 t) : Statement (.clockInputLost x1 t) := ⟨fun t => .clockInputLost x1 t, rfl, fun _ => ⟨rfl, rfl⟩⟩
theorem toleranceWindow (x1 x2 x3 t) : Statement (.toleranceWindow x1 x2 x3 t) := ⟨fun t => .toleranceWindow x1 x2 x3 t, rfl, fun _ => ⟨rfl, rfl⟩⟩
theorem pllLockLost (x1 t) : Statement (.pllLockLost x1 t) := ⟨fun t => .pllLockLost x1 t, rfl, fun _ => ⟨rfl, rfl⟩⟩
theorem edgeRxLockLost (x1 t) : Statement (.edgeRxLockLost x1 t) := ⟨fun t => .edgeRxLockLost x1 t, rfl, fun _ => ⟨rfl, rfl⟩⟩
theorem monitorClockStop (t) : Statement (.monitorClockStop t) := ⟨fun t => .monitorClockStop t, rfl, fun _ => ⟨rfl, rfl⟩⟩
theorem telemetryClockStop (t) : Statement (.telemetryClockStop t) := ⟨fun t => .telemetryClockStop t, rfl, fun _ => ⟨rfl, rfl⟩⟩
theorem refclkStable (t) : Statement (.refclkStable t) := ⟨fun t => .refclkStable t, rfl, fun _ => ⟨rfl, rfl⟩⟩
theorem rampStage (x1 t) : Statement (.rampStage x1 t) := ⟨fun t => .rampStage x1 t, rfl, fun _ => ⟨rfl, rfl⟩⟩
theorem tideTick (x1 t) : Statement (.tideTick x1 t) := ⟨fun t => .tideTick x1 t, rfl, fun _ => ⟨rfl, rfl⟩⟩
theorem tideInEdge (t) : Statement (.tideInEdge t) := ⟨fun t => .tideInEdge t, rfl, fun _ => ⟨rfl, rfl⟩⟩
theorem flywheelTick (x1 t) : Statement (.flywheelTick x1 t) := ⟨fun t => .flywheelTick x1 t, rfl, fun _ => ⟨rfl, rfl⟩⟩
theorem tideOutEnd (t) : Statement (.tideOutEnd t) := ⟨fun t => .tideOutEnd t, rfl, fun _ => ⟨rfl, rfl⟩⟩
theorem firstTick (t) : Statement (.firstTick t) := ⟨fun t => .firstTick t, rfl, fun _ => ⟨rfl, rfl⟩⟩
theorem samplingPoint (t) : Statement (.samplingPoint t) := ⟨fun t => .samplingPoint t, rfl, fun _ => ⟨rfl, rfl⟩⟩
theorem releaseClear (t) : Statement (.releaseClear t) := ⟨fun t => .releaseClear t, rfl, fun _ => ⟨rfl, rfl⟩⟩
theorem killComplete (x1 t) : Statement (.killComplete x1 t) := ⟨fun t => .killComplete x1 t, rfl, fun _ => ⟨rfl, rfl⟩⟩
theorem engineStopTimeout (x1 t) : Statement (.engineStopTimeout x1 t) := ⟨fun t => .engineStopTimeout x1 t, rfl, fun _ => ⟨rfl, rfl⟩⟩
theorem voltageRiseCheck (x1 x2 t) : Statement (.voltageRiseCheck x1 x2 t) := ⟨fun t => .voltageRiseCheck x1 x2 t, rfl, fun _ => ⟨rfl, rfl⟩⟩
theorem vidFall (x1 t) : Statement (.vidFall x1 t) := ⟨fun t => .vidFall x1 t, rfl, fun _ => ⟨rfl, rfl⟩⟩
theorem bayStart (x1 t) : Statement (.bayStart x1 t) := ⟨fun t => .bayStart x1 t, rfl, fun _ => ⟨rfl, rfl⟩⟩
theorem refreshSlot (x1 t) : Statement (.refreshSlot x1 t) := ⟨fun t => .refreshSlot x1 t, rfl, fun _ => ⟨rfl, rfl⟩⟩
theorem blackoutEnd (x1 t) : Statement (.blackoutEnd x1 t) := ⟨fun t => .blackoutEnd x1 t, rfl, fun _ => ⟨rfl, rfl⟩⟩
theorem deadlineKill (x1 t) : Statement (.deadlineKill x1 t) := ⟨fun t => .deadlineKill x1 t, rfl, fun _ => ⟨rfl, rfl⟩⟩
theorem stepDb (x1 x2 t) : Statement (.stepDb x1 x2 t) := ⟨fun t => .stepDb x1 x2 t, rfl, fun _ => ⟨rfl, rfl⟩⟩
theorem stepStart (x1 t) : Statement (.stepStart x1 t) := ⟨fun t => .stepStart x1 t, rfl, fun _ => ⟨rfl, rfl⟩⟩
theorem attemptStart (x1 t) : Statement (.attemptStart x1 t) := ⟨fun t => .attemptStart x1 t, rfl, fun _ => ⟨rfl, rfl⟩⟩
theorem primaryResume (x1 t) : Statement (.primaryResume x1 t) := ⟨fun t => .primaryResume x1 t, rfl, fun _ => ⟨rfl, rfl⟩⟩
theorem killPrimary (x1 x2 t) : Statement (.killPrimary x1 x2 t) := ⟨fun t => .killPrimary x1 x2 t, rfl, fun _ => ⟨rfl, rfl⟩⟩
theorem killUrgent (x1 x2 t) : Statement (.killUrgent x1 x2 t) := ⟨fun t => .killUrgent x1 x2 t, rfl, fun _ => ⟨rfl, rfl⟩⟩
theorem hostTransferDrained (x1 t) : Statement (.hostTransferDrained x1 t) := ⟨fun t => .hostTransferDrained x1 t, rfl, fun _ => ⟨rfl, rfl⟩⟩
theorem slotPost (x1 x2 t) : Statement (.slotPost x1 x2 t) := ⟨fun t => .slotPost x1 x2 t, rfl, fun _ => ⟨rfl, rfl⟩⟩
theorem commandComplete (x1 t) : Statement (.commandComplete x1 t) := ⟨fun t => .commandComplete x1 t, rfl, fun _ => ⟨rfl, rfl⟩⟩
theorem tallySignal (x1 t) : Statement (.tallySignal x1 t) := ⟨fun t => .tallySignal x1 t, rfl, fun _ => ⟨rfl, rfl⟩⟩
theorem nopC (x1 x2 t) : Statement (.nopC x1 x2 t) := ⟨fun t => .nopC x1 x2 t, rfl, fun _ => ⟨rfl, rfl⟩⟩
theorem add (x1 x2 t) : Statement (.add x1 x2 t) := ⟨fun t => .add x1 x2 t, rfl, fun _ => ⟨rfl, rfl⟩⟩
theorem addi (x1 x2 t) : Statement (.addi x1 x2 t) := ⟨fun t => .addi x1 x2 t, rfl, fun _ => ⟨rfl, rfl⟩⟩
theorem sub (x1 x2 t) : Statement (.sub x1 x2 t) := ⟨fun t => .sub x1 x2 t, rfl, fun _ => ⟨rfl, rfl⟩⟩
theorem subi (x1 x2 t) : Statement (.subi x1 x2 t) := ⟨fun t => .subi x1 x2 t, rfl, fun _ => ⟨rfl, rfl⟩⟩
theorem mul (x1 x2 t) : Statement (.mul x1 x2 t) := ⟨fun t => .mul x1 x2 t, rfl, fun _ => ⟨rfl, rfl⟩⟩
theorem muli (x1 x2 t) : Statement (.muli x1 x2 t) := ⟨fun t => .muli x1 x2 t, rfl, fun _ => ⟨rfl, rfl⟩⟩
theorem mulhu (x1 x2 t) : Statement (.mulhu x1 x2 t) := ⟨fun t => .mulhu x1 x2 t, rfl, fun _ => ⟨rfl, rfl⟩⟩
theorem mulhui (x1 x2 t) : Statement (.mulhui x1 x2 t) := ⟨fun t => .mulhui x1 x2 t, rfl, fun _ => ⟨rfl, rfl⟩⟩
theorem mulResultReady (x1 t) : Statement (.mulResultReady x1 t) := ⟨fun t => .mulResultReady x1 t, rfl, fun _ => ⟨rfl, rfl⟩⟩
theorem andC (x1 x2 t) : Statement (.andC x1 x2 t) := ⟨fun t => .andC x1 x2 t, rfl, fun _ => ⟨rfl, rfl⟩⟩
theorem andi (x1 x2 t) : Statement (.andi x1 x2 t) := ⟨fun t => .andi x1 x2 t, rfl, fun _ => ⟨rfl, rfl⟩⟩
theorem orC (x1 x2 t) : Statement (.orC x1 x2 t) := ⟨fun t => .orC x1 x2 t, rfl, fun _ => ⟨rfl, rfl⟩⟩
theorem ori (x1 x2 t) : Statement (.ori x1 x2 t) := ⟨fun t => .ori x1 x2 t, rfl, fun _ => ⟨rfl, rfl⟩⟩
theorem xorC (x1 x2 t) : Statement (.xorC x1 x2 t) := ⟨fun t => .xorC x1 x2 t, rfl, fun _ => ⟨rfl, rfl⟩⟩
theorem xori (x1 x2 t) : Statement (.xori x1 x2 t) := ⟨fun t => .xori x1 x2 t, rfl, fun _ => ⟨rfl, rfl⟩⟩
theorem shl (x1 x2 t) : Statement (.shl x1 x2 t) := ⟨fun t => .shl x1 x2 t, rfl, fun _ => ⟨rfl, rfl⟩⟩
theorem shli (x1 x2 t) : Statement (.shli x1 x2 t) := ⟨fun t => .shli x1 x2 t, rfl, fun _ => ⟨rfl, rfl⟩⟩
theorem shr (x1 x2 t) : Statement (.shr x1 x2 t) := ⟨fun t => .shr x1 x2 t, rfl, fun _ => ⟨rfl, rfl⟩⟩
theorem shri (x1 x2 t) : Statement (.shri x1 x2 t) := ⟨fun t => .shri x1 x2 t, rfl, fun _ => ⟨rfl, rfl⟩⟩
theorem sar (x1 x2 t) : Statement (.sar x1 x2 t) := ⟨fun t => .sar x1 x2 t, rfl, fun _ => ⟨rfl, rfl⟩⟩
theorem sari (x1 x2 t) : Statement (.sari x1 x2 t) := ⟨fun t => .sari x1 x2 t, rfl, fun _ => ⟨rfl, rfl⟩⟩
theorem minC (x1 x2 t) : Statement (.minC x1 x2 t) := ⟨fun t => .minC x1 x2 t, rfl, fun _ => ⟨rfl, rfl⟩⟩
theorem mini (x1 x2 t) : Statement (.mini x1 x2 t) := ⟨fun t => .mini x1 x2 t, rfl, fun _ => ⟨rfl, rfl⟩⟩
theorem maxC (x1 x2 t) : Statement (.maxC x1 x2 t) := ⟨fun t => .maxC x1 x2 t, rfl, fun _ => ⟨rfl, rfl⟩⟩
theorem maxi (x1 x2 t) : Statement (.maxi x1 x2 t) := ⟨fun t => .maxi x1 x2 t, rfl, fun _ => ⟨rfl, rfl⟩⟩
theorem minu (x1 x2 t) : Statement (.minu x1 x2 t) := ⟨fun t => .minu x1 x2 t, rfl, fun _ => ⟨rfl, rfl⟩⟩
theorem minui (x1 x2 t) : Statement (.minui x1 x2 t) := ⟨fun t => .minui x1 x2 t, rfl, fun _ => ⟨rfl, rfl⟩⟩
theorem maxu (x1 x2 t) : Statement (.maxu x1 x2 t) := ⟨fun t => .maxu x1 x2 t, rfl, fun _ => ⟨rfl, rfl⟩⟩
theorem maxui (x1 x2 t) : Statement (.maxui x1 x2 t) := ⟨fun t => .maxui x1 x2 t, rfl, fun _ => ⟨rfl, rfl⟩⟩
theorem clz (x1 x2 t) : Statement (.clz x1 x2 t) := ⟨fun t => .clz x1 x2 t, rfl, fun _ => ⟨rfl, rfl⟩⟩
theorem cmpeq (x1 x2 t) : Statement (.cmpeq x1 x2 t) := ⟨fun t => .cmpeq x1 x2 t, rfl, fun _ => ⟨rfl, rfl⟩⟩
theorem cmpne (x1 x2 t) : Statement (.cmpne x1 x2 t) := ⟨fun t => .cmpne x1 x2 t, rfl, fun _ => ⟨rfl, rfl⟩⟩
theorem cmplt (x1 x2 t) : Statement (.cmplt x1 x2 t) := ⟨fun t => .cmplt x1 x2 t, rfl, fun _ => ⟨rfl, rfl⟩⟩
theorem cmpltu (x1 x2 t) : Statement (.cmpltu x1 x2 t) := ⟨fun t => .cmpltu x1 x2 t, rfl, fun _ => ⟨rfl, rfl⟩⟩
theorem cmpge (x1 x2 t) : Statement (.cmpge x1 x2 t) := ⟨fun t => .cmpge x1 x2 t, rfl, fun _ => ⟨rfl, rfl⟩⟩
theorem cmpgeu (x1 x2 t) : Statement (.cmpgeu x1 x2 t) := ⟨fun t => .cmpgeu x1 x2 t, rfl, fun _ => ⟨rfl, rfl⟩⟩
theorem cmpeqi (x1 x2 t) : Statement (.cmpeqi x1 x2 t) := ⟨fun t => .cmpeqi x1 x2 t, rfl, fun _ => ⟨rfl, rfl⟩⟩
theorem cmpnei (x1 x2 t) : Statement (.cmpnei x1 x2 t) := ⟨fun t => .cmpnei x1 x2 t, rfl, fun _ => ⟨rfl, rfl⟩⟩
theorem cmplti (x1 x2 t) : Statement (.cmplti x1 x2 t) := ⟨fun t => .cmplti x1 x2 t, rfl, fun _ => ⟨rfl, rfl⟩⟩
theorem cmpltui (x1 x2 t) : Statement (.cmpltui x1 x2 t) := ⟨fun t => .cmpltui x1 x2 t, rfl, fun _ => ⟨rfl, rfl⟩⟩
theorem cmpgei (x1 x2 t) : Statement (.cmpgei x1 x2 t) := ⟨fun t => .cmpgei x1 x2 t, rfl, fun _ => ⟨rfl, rfl⟩⟩
theorem cmpgeui (x1 x2 t) : Statement (.cmpgeui x1 x2 t) := ⟨fun t => .cmpgeui x1 x2 t, rfl, fun _ => ⟨rfl, rfl⟩⟩
theorem pand (x1 x2 t) : Statement (.pand x1 x2 t) := ⟨fun t => .pand x1 x2 t, rfl, fun _ => ⟨rfl, rfl⟩⟩
theorem por (x1 x2 t) : Statement (.por x1 x2 t) := ⟨fun t => .por x1 x2 t, rfl, fun _ => ⟨rfl, rfl⟩⟩
theorem pxor (x1 x2 t) : Statement (.pxor x1 x2 t) := ⟨fun t => .pxor x1 x2 t, rfl, fun _ => ⟨rfl, rfl⟩⟩
theorem pandn (x1 x2 t) : Statement (.pandn x1 x2 t) := ⟨fun t => .pandn x1 x2 t, rfl, fun _ => ⟨rfl, rfl⟩⟩
theorem sel (x1 x2 t) : Statement (.sel x1 x2 t) := ⟨fun t => .sel x1 x2 t, rfl, fun _ => ⟨rfl, rfl⟩⟩
theorem mfs (x1 x2 t) : Statement (.mfs x1 x2 t) := ⟨fun t => .mfs x1 x2 t, rfl, fun _ => ⟨rfl, rfl⟩⟩
theorem ld (x1 x2 t) : Statement (.ld x1 x2 t) := ⟨fun t => .ld x1 x2 t, rfl, fun _ => ⟨rfl, rfl⟩⟩
theorem ldDataUsable (x1 t) : Statement (.ldDataUsable x1 t) := ⟨fun t => .ldDataUsable x1 t, rfl, fun _ => ⟨rfl, rfl⟩⟩
theorem st (x1 x2 t) : Statement (.st x1 x2 t) := ⟨fun t => .st x1 x2 t, rfl, fun _ => ⟨rfl, rfl⟩⟩
theorem stLands (x1 t) : Statement (.stLands x1 t) := ⟨fun t => .stLands x1 t, rfl, fun _ => ⟨rfl, rfl⟩⟩
theorem movhi (x1 x2 t) : Statement (.movhi x1 x2 t) := ⟨fun t => .movhi x1 x2 t, rfl, fun _ => ⟨rfl, rfl⟩⟩
theorem controlNop (x1 t) : Statement (.controlNop x1 t) := ⟨fun t => .controlNop x1 t, rfl, fun _ => ⟨rfl, rfl⟩⟩
theorem br (x1 t) : Statement (.br x1 t) := ⟨fun t => .br x1 t, rfl, fun _ => ⟨rfl, rfl⟩⟩
theorem jmpr (x1 t) : Statement (.jmpr x1 t) := ⟨fun t => .jmpr x1 t, rfl, fun _ => ⟨rfl, rfl⟩⟩
theorem call (x1 t) : Statement (.call x1 t) := ⟨fun t => .call x1 t, rfl, fun _ => ⟨rfl, rfl⟩⟩
theorem ret (x1 t) : Statement (.ret x1 t) := ⟨fun t => .ret x1 t, rfl, fun _ => ⟨rfl, rfl⟩⟩
theorem loop (x1 t) : Statement (.loop x1 t) := ⟨fun t => .loop x1 t, rfl, fun _ => ⟨rfl, rfl⟩⟩
theorem loopBackEdge (x1 t) : Statement (.loopBackEdge x1 t) := ⟨fun t => .loopBackEdge x1 t, rfl, fun _ => ⟨rfl, rfl⟩⟩
theorem fetch (x1 t) : Statement (.fetch x1 t) := ⟨fun t => .fetch x1 t, rfl, fun _ => ⟨rfl, rfl⟩⟩
theorem fetchComplete (x1 t) : Statement (.fetchComplete x1 t) := ⟨fun t => .fetchComplete x1 t, rfl, fun _ => ⟨rfl, rfl⟩⟩
theorem drain (x1 t) : Statement (.drain x1 t) := ⟨fun t => .drain x1 t, rfl, fun _ => ⟨rfl, rfl⟩⟩
theorem commit (x1 t) : Statement (.commit x1 t) := ⟨fun t => .commit x1 t, rfl, fun _ => ⟨rfl, rfl⟩⟩
theorem endC (x1 t) : Statement (.endC x1 t) := ⟨fun t => .endC x1 t, rfl, fun _ => ⟨rfl, rfl⟩⟩
theorem waittick (x1 t) : Statement (.waittick x1 t) := ⟨fun t => .waittick x1 t, rfl, fun _ => ⟨rfl, rfl⟩⟩
theorem stewardGo (x1 x2 t) : Statement (.stewardGo x1 x2 t) := ⟨fun t => .stewardGo x1 x2 t, rfl, fun _ => ⟨rfl, rfl⟩⟩
theorem alloc (x1 t) : Statement (.alloc x1 t) := ⟨fun t => .alloc x1 t, rfl, fun _ => ⟨rfl, rfl⟩⟩
theorem release (x1 t) : Statement (.release x1 t) := ⟨fun t => .release x1 t, rfl, fun _ => ⟨rfl, rfl⟩⟩
theorem stage (x1 t) : Statement (.stage x1 t) := ⟨fun t => .stage x1 t, rfl, fun _ => ⟨rfl, rfl⟩⟩
theorem resolve (x1 t) : Statement (.resolve x1 t) := ⟨fun t => .resolve x1 t, rfl, fun _ => ⟨rfl, rfl⟩⟩
theorem kvStage (x1 t) : Statement (.kvStage x1 t) := ⟨fun t => .kvStage x1 t, rfl, fun _ => ⟨rfl, rfl⟩⟩
theorem kvGrow (x1 t) : Statement (.kvGrow x1 t) := ⟨fun t => .kvGrow x1 t, rfl, fun _ => ⟨rfl, rfl⟩⟩
theorem kvTrim (x1 t) : Statement (.kvTrim x1 t) := ⟨fun t => .kvTrim x1 t, rfl, fun _ => ⟨rfl, rfl⟩⟩
theorem granaryServe (x1 t) : Statement (.granaryServe x1 t) := ⟨fun t => .granaryServe x1 t, rfl, fun _ => ⟨rfl, rfl⟩⟩
theorem copy (x1 x2 t) : Statement (.copy x1 x2 t) := ⟨fun t => .copy x1 x2 t, rfl, fun _ => ⟨rfl, rfl⟩⟩
theorem fill (x1 x2 t) : Statement (.fill x1 x2 t) := ⟨fun t => .fill x1 x2 t, rfl, fun _ => ⟨rfl, rfl⟩⟩
theorem copy2d (x1 x2 t) : Statement (.copy2d x1 x2 t) := ⟨fun t => .copy2d x1 x2 t, rfl, fun _ => ⟨rfl, rfl⟩⟩
theorem toHost (x1 x2 t) : Statement (.toHost x1 x2 t) := ⟨fun t => .toHost x1 x2 t, rfl, fun _ => ⟨rfl, rfl⟩⟩
theorem fromHost (x1 x2 t) : Statement (.fromHost x1 x2 t) := ⟨fun t => .fromHost x1 x2 t, rfl, fun _ => ⟨rfl, rfl⟩⟩
theorem stewardHaulResume (x1 t) : Statement (.stewardHaulResume x1 t) := ⟨fun t => .stewardHaulResume x1 t, rfl, fun _ => ⟨rfl, rfl⟩⟩
theorem tallyAdd (x1 t) : Statement (.tallyAdd x1 t) := ⟨fun t => .tallyAdd x1 t, rfl, fun _ => ⟨rfl, rfl⟩⟩
theorem tallyReset (x1 t) : Statement (.tallyReset x1 t) := ⟨fun t => .tallyReset x1 t, rfl, fun _ => ⟨rfl, rfl⟩⟩
theorem remoteAdd (x1 t) : Statement (.remoteAdd x1 t) := ⟨fun t => .remoteAdd x1 t, rfl, fun _ => ⟨rfl, rfl⟩⟩
theorem tallyRead (x1 t) : Statement (.tallyRead x1 t) := ⟨fun t => .tallyRead x1 t, rfl, fun _ => ⟨rfl, rfl⟩⟩
theorem remoteAddMsg (x1 t) : Statement (.remoteAddMsg x1 t) := ⟨fun t => .remoteAddMsg x1 t, rfl, fun _ => ⟨rfl, rfl⟩⟩
theorem gemm (x1 x2 x3 t) : Statement (.gemm x1 x2 x3 t) := ⟨fun t => .gemm x1 x2 x3 t, rfl, fun _ => ⟨rfl, rfl⟩⟩
theorem grouped (x1 x2 x3 t) : Statement (.grouped x1 x2 x3 t) := ⟨fun t => .grouped x1 x2 x3 t, rfl, fun _ => ⟨rfl, rfl⟩⟩
theorem split (x1 x2 x3 t) : Statement (.split x1 x2 x3 t) := ⟨fun t => .split x1 x2 x3 t, rfl, fun _ => ⟨rfl, rfl⟩⟩
theorem combine (x1 x2 x3 t) : Statement (.combine x1 x2 x3 t) := ⟨fun t => .combine x1 x2 x3 t, rfl, fun _ => ⟨rfl, rfl⟩⟩
theorem worklistClaim (x1 x2 x3 t) : Statement (.worklistClaim x1 x2 x3 t) := ⟨fun t => .worklistClaim x1 x2 x3 t, rfl, fun _ => ⟨rfl, rfl⟩⟩
theorem looseAdd (x1 x2 t) : Statement (.looseAdd x1 x2 t) := ⟨fun t => .looseAdd x1 x2 t, rfl, fun _ => ⟨rfl, rfl⟩⟩
theorem program (x1 x2 x3 t) : Statement (.program x1 x2 x3 t) := ⟨fun t => .program x1 x2 x3 t, rfl, fun _ => ⟨rfl, rfl⟩⟩
theorem route (x1 x2 t) : Statement (.route x1 x2 t) := ⟨fun t => .route x1 x2 t, rfl, fun _ => ⟨rfl, rfl⟩⟩
theorem histogram (x1 x2 t) : Statement (.histogram x1 x2 t) := ⟨fun t => .histogram x1 x2 t, rfl, fun _ => ⟨rfl, rfl⟩⟩
theorem scatter (x1 x2 t) : Statement (.scatter x1 x2 t) := ⟨fun t => .scatter x1 x2 t, rfl, fun _ => ⟨rfl, rfl⟩⟩
theorem census (x1 t) : Statement (.census x1 t) := ⟨fun t => .census x1 t, rfl, fun _ => ⟨rfl, rfl⟩⟩
theorem censusMsg (x1 t) : Statement (.censusMsg x1 t) := ⟨fun t => .censusMsg x1 t, rfl, fun _ => ⟨rfl, rfl⟩⟩
theorem censusTimeout (x1 t) : Statement (.censusTimeout x1 t) := ⟨fun t => .censusTimeout x1 t, rfl, fun _ => ⟨rfl, rfl⟩⟩
theorem verdictDb (x1 x2 x3 t) : Statement (.verdictDb x1 x2 x3 t) := ⟨fun t => .verdictDb x1 x2 x3 t, rfl, fun _ => ⟨rfl, rfl⟩⟩
theorem answerWindowExpire (x1 t) : Statement (.answerWindowExpire x1 t) := ⟨fun t => .answerWindowExpire x1 t, rfl, fun _ => ⟨rfl, rfl⟩⟩
theorem verdictMsg (x1 t) : Statement (.verdictMsg x1 t) := ⟨fun t => .verdictMsg x1 t, rfl, fun _ => ⟨rfl, rfl⟩⟩
theorem verdictLost (x1 t) : Statement (.verdictLost x1 t) := ⟨fun t => .verdictLost x1 t, rfl, fun _ => ⟨rfl, rfl⟩⟩
theorem exchange (x1 x2 t) : Statement (.exchange x1 x2 t) := ⟨fun t => .exchange x1 x2 t, rfl, fun _ => ⟨rfl, rfl⟩⟩
theorem returnC (x1 x2 t) : Statement (.returnC x1 x2 t) := ⟨fun t => .returnC x1 x2 t, rfl, fun _ => ⟨rfl, rfl⟩⟩
theorem dispatchRecordArrival (x1 t) : Statement (.dispatchRecordArrival x1 t) := ⟨fun t => .dispatchRecordArrival x1 t, rfl, fun _ => ⟨rfl, rfl⟩⟩
theorem returnArrival (x1 t) : Statement (.returnArrival x1 t) := ⟨fun t => .returnArrival x1 t, rfl, fun _ => ⟨rfl, rfl⟩⟩
theorem gleanerCombine (x1 x2 t) : Statement (.gleanerCombine x1 x2 t) := ⟨fun t => .gleanerCombine x1 x2 t, rfl, fun _ => ⟨rfl, rfl⟩⟩
theorem placedMsg (x1 t) : Statement (.placedMsg x1 t) := ⟨fun t => .placedMsg x1 t, rfl, fun _ => ⟨rfl, rfl⟩⟩
theorem placedTimer (x1 t) : Statement (.placedTimer x1 t) := ⟨fun t => .placedTimer x1 t, rfl, fun _ => ⟨rfl, rfl⟩⟩
theorem landedMsg (x1 t) : Statement (.landedMsg x1 t) := ⟨fun t => .landedMsg x1 t, rfl, fun _ => ⟨rfl, rfl⟩⟩
theorem killMsg (x1 t) : Statement (.killMsg x1 t) := ⟨fun t => .killMsg x1 t, rfl, fun _ => ⟨rfl, rfl⟩⟩
theorem writeUnit (x1 t) : Statement (.writeUnit x1 t) := ⟨fun t => .writeUnit x1 t, rfl, fun _ => ⟨rfl, rfl⟩⟩
theorem readReq (x1 t) : Statement (.readReq x1 t) := ⟨fun t => .readReq x1 t, rfl, fun _ => ⟨rfl, rfl⟩⟩
theorem process (x1 x2 t) : Statement (.process x1 x2 t) := ⟨fun t => .process x1 x2 t, rfl, fun _ => ⟨rfl, rfl⟩⟩
theorem configure (x1 x2 t) : Statement (.configure x1 x2 t) := ⟨fun t => .configure x1 x2 t, rfl, fun _ => ⟨rfl, rfl⟩⟩
theorem encode (x1 x2 t) : Statement (.encode x1 x2 t) := ⟨fun t => .encode x1 x2 t, rfl, fun _ => ⟨rfl, rfl⟩⟩
theorem notifyC (x1 t) : Statement (.notifyC x1 t) := ⟨fun t => .notifyC x1 t, rfl, fun _ => ⟨rfl, rfl⟩⟩
theorem evtHeadDb (x1 x2 t) : Statement (.evtHeadDb x1 x2 t) := ⟨fun t => .evtHeadDb x1 x2 t, rfl, fun _ => ⟨rfl, rfl⟩⟩
theorem msixHoldoff (x1 x2 t) : Statement (.msixHoldoff x1 x2 t) := ⟨fun t => .msixHoldoff x1 x2 t, rfl, fun _ => ⟨rfl, rfl⟩⟩
theorem readCompletion (x1 x2 x3 x4 t) : Statement (.readCompletion x1 x2 x3 x4 t) := ⟨fun t => .readCompletion x1 x2 x3 x4 t, rfl, fun _ => ⟨rfl, rfl⟩⟩
theorem completionTimeout (x1 x2 t) : Statement (.completionTimeout x1 x2 t) := ⟨fun t => .completionTimeout x1 x2 t, rfl, fun _ => ⟨rfl, rfl⟩⟩
theorem functionLevelReset (x1 t) : Statement (.functionLevelReset x1 t) := ⟨fun t => .functionLevelReset x1 t, rfl, fun _ => ⟨rfl, rfl⟩⟩
theorem hostReset (x1 t) : Statement (.hostReset x1 t) := ⟨fun t => .hostReset x1 t, rfl, fun _ => ⟨rfl, rfl⟩⟩
theorem startC (x1 t) : Statement (.startC x1 t) := ⟨fun t => .startC x1 t, rfl, fun _ => ⟨rfl, rfl⟩⟩
theorem imageCheckEnd (t) : Statement (.imageCheckEnd t) := ⟨fun t => .imageCheckEnd t, rfl, fun _ => ⟨rfl, rfl⟩⟩
theorem sealC (x1 t) : Statement (.sealC x1 t) := ⟨fun t => .sealC x1 t, rfl, fun _ => ⟨rfl, rfl⟩⟩
theorem flitTx (x1 t) : Statement (.flitTx x1 t) := ⟨fun t => .flitTx x1 t, rfl, fun _ => ⟨rfl, rfl⟩⟩
theorem dataFlitRx (x1 x2 t) : Statement (.dataFlitRx x1 x2 t) := ⟨fun t => .dataFlitRx x1 x2 t, rfl, fun _ => ⟨rfl, rfl⟩⟩
theorem idleFlitRx (x1 x2 t) : Statement (.idleFlitRx x1 x2 t) := ⟨fun t => .idleFlitRx x1 x2 t, rfl, fun _ => ⟨rfl, rfl⟩⟩
theorem ctrlFlitRx (x1 x2 t) : Statement (.ctrlFlitRx x1 x2 t) := ⟨fun t => .ctrlFlitRx x1 x2 t, rfl, fun _ => ⟨rfl, rfl⟩⟩
theorem ackTimeout (x1 t) : Statement (.ackTimeout x1 t) := ⟨fun t => .ackTimeout x1 t, rfl, fun _ => ⟨rfl, rfl⟩⟩
theorem portProbeStart (x1 t) : Statement (.portProbeStart x1 t) := ⟨fun t => .portProbeStart x1 t, rfl, fun _ => ⟨rfl, rfl⟩⟩
theorem rxQualify (x1 t) : Statement (.rxQualify x1 t) := ⟨fun t => .rxQualify x1 t, rfl, fun _ => ⟨rfl, rfl⟩⟩
theorem trainTimeout (x1 t) : Statement (.trainTimeout x1 t) := ⟨fun t => .trainTimeout x1 t, rfl, fun _ => ⟨rfl, rfl⟩⟩
theorem rxSilence (x1 t) : Statement (.rxSilence x1 t) := ⟨fun t => .rxSilence x1 t, rfl, fun _ => ⟨rfl, rfl⟩⟩
theorem codewordLockLost (x1 t) : Statement (.codewordLockLost x1 t) := ⟨fun t => .codewordLockLost x1 t, rfl, fun _ => ⟨rfl, rfl⟩⟩
theorem prbsRx (x1 t) : Statement (.prbsRx x1 t) := ⟨fun t => .prbsRx x1 t, rfl, fun _ => ⟨rfl, rfl⟩⟩
theorem retrainTimeout (x1 t) : Statement (.retrainTimeout x1 t) := ⟨fun t => .retrainTimeout x1 t, rfl, fun _ => ⟨rfl, rfl⟩⟩
theorem retrain (x1 x2 t) : Statement (.retrain x1 x2 t) := ⟨fun t => .retrain x1 x2 t, rfl, fun _ => ⟨rfl, rfl⟩⟩
theorem reprobe (x1 x2 t) : Statement (.reprobe x1 x2 t) := ⟨fun t => .reprobe x1 x2 t, rfl, fun _ => ⟨rfl, rfl⟩⟩
theorem lossOfSignal (x1 t) : Statement (.lossOfSignal x1 t) := ⟨fun t => .lossOfSignal x1 t, rfl, fun _ => ⟨rfl, rfl⟩⟩
theorem signalReturn (x1 x2 t) : Statement (.signalReturn x1 x2 t) := ⟨fun t => .signalReturn x1 x2 t, rfl, fun _ => ⟨rfl, rfl⟩⟩
theorem losTimeout (x1 t) : Statement (.losTimeout x1 t) := ⟨fun t => .losTimeout x1 t, rfl, fun _ => ⟨rfl, rfl⟩⟩
theorem fullPowerGrant (x1 t) : Statement (.fullPowerGrant x1 t) := ⟨fun t => .fullPowerGrant x1 t, rfl, fun _ => ⟨rfl, rfl⟩⟩
theorem aprReduce (x1 t) : Statement (.aprReduce x1 t) := ⟨fun t => .aprReduce x1 t, rfl, fun _ => ⟨rfl, rfl⟩⟩
theorem interlockPulse (x1 x2 x3 t) : Statement (.interlockPulse x1 x2 x3 t) := ⟨fun t => .interlockPulse x1 x2 x3 t, rfl, fun _ => ⟨rfl, rfl⟩⟩
theorem interlockOpen (x1 x2 t) : Statement (.interlockOpen x1 x2 t) := ⟨fun t => .interlockOpen x1 x2 t, rfl, fun _ => ⟨rfl, rfl⟩⟩
theorem overPower (x1 x2 t) : Statement (.overPower x1 x2 t) := ⟨fun t => .overPower x1 x2 t, rfl, fun _ => ⟨rfl, rfl⟩⟩
theorem channelDiscrepancy (x1 t) : Statement (.channelDiscrepancy x1 t) := ⟨fun t => .channelDiscrepancy x1 t, rfl, fun _ => ⟨rfl, rfl⟩⟩
theorem channelSelfTestDone (x1 x2 t) : Statement (.channelSelfTestDone x1 x2 t) := ⟨fun t => .channelSelfTestDone x1 x2 t, rfl, fun _ => ⟨rfl, rfl⟩⟩
theorem channelFault (x1 x2 t) : Statement (.channelFault x1 x2 t) := ⟨fun t => .channelFault x1 x2 t, rfl, fun _ => ⟨rfl, rfl⟩⟩
theorem romCrcCheck (x1 t) : Statement (.romCrcCheck x1 t) := ⟨fun t => .romCrcCheck x1 t, rfl, fun _ => ⟨rfl, rfl⟩⟩
theorem brakeTestStart (x1 t) : Statement (.brakeTestStart x1 t) := ⟨fun t => .brakeTestStart x1 t, rfl, fun _ => ⟨rfl, rfl⟩⟩
theorem brakeTestCheck (x1 x2 x3 t) : Statement (.brakeTestCheck x1 x2 x3 t) := ⟨fun t => .brakeTestCheck x1 x2 x3 t, rfl, fun _ => ⟨rfl, rfl⟩⟩
theorem permitSend (x1 t) : Statement (.permitSend x1 t) := ⟨fun t => .permitSend x1 t, rfl, fun _ => ⟨rfl, rfl⟩⟩
theorem permit (x1 t) : Statement (.permit x1 t) := ⟨fun t => .permit x1 t, rfl, fun _ => ⟨rfl, rfl⟩⟩
theorem shutdown (x1 t) : Statement (.shutdown x1 t) := ⟨fun t => .shutdown x1 t, rfl, fun _ => ⟨rfl, rfl⟩⟩
theorem permitLoss (x1 t) : Statement (.permitLoss x1 t) := ⟨fun t => .permitLoss x1 t, rfl, fun _ => ⟨rfl, rfl⟩⟩
theorem shutdownHoldEnd (x1 t) : Statement (.shutdownHoldEnd x1 t) := ⟨fun t => .shutdownHoldEnd x1 t, rfl, fun _ => ⟨rfl, rfl⟩⟩
theorem degradedWarning (t) : Statement (.degradedWarning t) := ⟨fun t => .degradedWarning t, rfl, fun _ => ⟨rfl, rfl⟩⟩
theorem degradedExpired (t) : Statement (.degradedExpired t) := ⟨fun t => .degradedExpired t, rfl, fun _ => ⟨rfl, rfl⟩⟩
theorem externalStop (x1 t) : Statement (.externalStop x1 t) := ⟨fun t => .externalStop x1 t, rfl, fun _ => ⟨rfl, rfl⟩⟩
theorem lockoutEntry (t) : Statement (.lockoutEntry t) := ⟨fun t => .lockoutEntry t, rfl, fun _ => ⟨rfl, rfl⟩⟩
theorem lockout (x1 x2 t) : Statement (.lockout x1 x2 t) := ⟨fun t => .lockout x1 x2 t, rfl, fun _ => ⟨rfl, rfl⟩⟩
theorem arm (x1 x2 t) : Statement (.arm x1 x2 t) := ⟨fun t => .arm x1 x2 t, rfl, fun _ => ⟨rfl, rfl⟩⟩
theorem confirm (x1 x2 x3 x4 x5 t) : Statement (.confirm x1 x2 x3 x4 x5 t) := ⟨fun t => .confirm x1 x2 x3 x4 x5 t, rfl, fun _ => ⟨rfl, rfl⟩⟩
theorem abortC (x1 x2 t) : Statement (.abortC x1 x2 t) := ⟨fun t => .abortC x1 x2 t, rfl, fun _ => ⟨rfl, rfl⟩⟩
theorem armTimeout (t) : Statement (.armTimeout t) := ⟨fun t => .armTimeout t, rfl, fun _ => ⟨rfl, rfl⟩⟩
theorem resetSelfTestDone (x1 x2 t) : Statement (.resetSelfTestDone x1 x2 t) := ⟨fun t => .resetSelfTestDone x1 x2 t, rfl, fun _ => ⟨rfl, rfl⟩⟩
theorem sfPowerLoss (t) : Statement (.sfPowerLoss t) := ⟨fun t => .sfPowerLoss t, rfl, fun _ => ⟨rfl, rfl⟩⟩
theorem sfPowerOn (x1 t) : Statement (.sfPowerOn x1 t) := ⟨fun t => .sfPowerOn x1 t, rfl, fun _ => ⟨rfl, rfl⟩⟩
theorem entropyTestFail (x1 t) : Statement (.entropyTestFail x1 t) := ⟨fun t => .entropyTestFail x1 t, rfl, fun _ => ⟨rfl, rfl⟩⟩
theorem entropyRecoveryTimeout (t) : Statement (.entropyRecoveryTimeout t) := ⟨fun t => .entropyRecoveryTimeout t, rfl, fun _ => ⟨rfl, rfl⟩⟩
theorem drbgReseed (t) : Statement (.drbgReseed t) := ⟨fun t => .drbgReseed t, rfl, fun _ => ⟨rfl, rfl⟩⟩
theorem supplyGlitch (t) : Statement (.supplyGlitch t) := ⟨fun t => .supplyGlitch t, rfl, fun _ => ⟨rfl, rfl⟩⟩
theorem getMeasurements (x1 t) : Statement (.getMeasurements x1 t) := ⟨fun t => .getMeasurements x1 t, rfl, fun _ => ⟨rfl, rfl⟩⟩
theorem keyExchange (x1 t) : Statement (.keyExchange x1 t) := ⟨fun t => .keyExchange x1 t, rfl, fun _ => ⟨rfl, rfl⟩⟩
theorem programSlot (x1 x2 t) : Statement (.programSlot x1 x2 t) := ⟨fun t => .programSlot x1 x2 t, rfl, fun _ => ⟨rfl, rfl⟩⟩
theorem exportKt (x1 t) : Statement (.exportKt x1 t) := ⟨fun t => .exportKt x1 t, rfl, fun _ => ⟨rfl, rfl⟩⟩
theorem setProduction (x1 t) : Statement (.setProduction x1 t) := ⟨fun t => .setProduction x1 t, rfl, fun _ => ⟨rfl, rfl⟩⟩
theorem getNonce (x1 t) : Statement (.getNonce x1 t) := ⟨fun t => .getNonce x1 t, rfl, fun _ => ⟨rfl, rfl⟩⟩
theorem debugEnter (x1 t) : Statement (.debugEnter x1 t) := ⟨fun t => .debugEnter x1 t, rfl, fun _ => ⟨rfl, rfl⟩⟩
theorem retire (x1 t) : Statement (.retire x1 t) := ⟨fun t => .retire x1 t, rfl, fun _ => ⟨rfl, rfl⟩⟩
theorem sensorRead (x1 t) : Statement (.sensorRead x1 t) := ⟨fun t => .sensorRead x1 t, rfl, fun _ => ⟨rfl, rfl⟩⟩
theorem pkgPwrokRise (t) : Statement (.pkgPwrokRise t) := ⟨fun t => .pkgPwrokRise t, rfl, fun _ => ⟨rfl, rfl⟩⟩
theorem pkgPwrokFall (t) : Statement (.pkgPwrokFall t) := ⟨fun t => .pkgPwrokFall t, rfl, fun _ => ⟨rfl, rfl⟩⟩
theorem seqFault (x1 t) : Statement (.seqFault x1 t) := ⟨fun t => .seqFault x1 t, rfl, fun _ => ⟨rfl, rfl⟩⟩
theorem vauxFault (t) : Statement (.vauxFault t) := ⟨fun t => .vauxFault t, rfl, fun _ => ⟨rfl, rfl⟩⟩
theorem supplyFault (x1 t) : Statement (.supplyFault x1 t) := ⟨fun t => .supplyFault x1 t, rfl, fun _ => ⟨rfl, rfl⟩⟩
theorem coldReset (t) : Statement (.coldReset t) := ⟨fun t => .coldReset t, rfl, fun _ => ⟨rfl, rfl⟩⟩
theorem cold (x1 x2 t) : Statement (.cold x1 x2 t) := ⟨fun t => .cold x1 x2 t, rfl, fun _ => ⟨rfl, rfl⟩⟩
theorem coldResetReady (x1 x2 t) : Statement (.coldResetReady x1 x2 t) := ⟨fun t => .coldResetReady x1 x2 t, rfl, fun _ => ⟨rfl, rfl⟩⟩
theorem fold (x1 x2 t) : Statement (.fold x1 x2 t) := ⟨fun t => .fold x1 x2 t, rfl, fun _ => ⟨rfl, rfl⟩⟩
theorem foldReset (t) : Statement (.foldReset t) := ⟨fun t => .foldReset t, rfl, fun _ => ⟨rfl, rfl⟩⟩
theorem alignStart (t) : Statement (.alignStart t) := ⟨fun t => .alignStart t, rfl, fun _ => ⟨rfl, rfl⟩⟩
theorem alignCheckEnd (x1 t) : Statement (.alignCheckEnd x1 t) := ⟨fun t => .alignCheckEnd x1 t, rfl, fun _ => ⟨rfl, rfl⟩⟩
theorem foldDone (x1 t) : Statement (.foldDone x1 t) := ⟨fun t => .foldDone x1 t, rfl, fun _ => ⟨rfl, rfl⟩⟩
theorem test (x1 x2 t) : Statement (.test x1 x2 t) := ⟨fun t => .test x1 x2 t, rfl, fun _ => ⟨rfl, rfl⟩⟩
theorem powerDown (x1 x2 t) : Statement (.powerDown x1 x2 t) := ⟨fun t => .powerDown x1 x2 t, rfl, fun _ => ⟨rfl, rfl⟩⟩
theorem selfTestDone (x1 t) : Statement (.selfTestDone x1 t) := ⟨fun t => .selfTestDone x1 t, rfl, fun _ => ⟨rfl, rfl⟩⟩
theorem testPassExpire (x1 t) : Statement (.testPassExpire x1 t) := ⟨fun t => .testPassExpire x1 t, rfl, fun _ => ⟨rfl, rfl⟩⟩
theorem powerGateRamp (x1 x2 t) : Statement (.powerGateRamp x1 x2 t) := ⟨fun t => .powerGateRamp x1 x2 t, rfl, fun _ => ⟨rfl, rfl⟩⟩
theorem fenceScrub (t) : Statement (.fenceScrub t) := ⟨fun t => .fenceScrub t, rfl, fun _ => ⟨rfl, rfl⟩⟩
theorem weatheringEval (x1 x2 x3 x4 t) : Statement (.weatheringEval x1 x2 x3 x4 t) := ⟨fun t => .weatheringEval x1 x2 x3 x4 t, rfl, fun _ => ⟨rfl, rfl⟩⟩
theorem wearSnapshot (t) : Statement (.wearSnapshot t) := ⟨fun t => .wearSnapshot t, rfl, fun _ => ⟨rfl, rfl⟩⟩
theorem injectSingleBit (x1 x2 t) : Statement (.injectSingleBit x1 x2 t) := ⟨fun t => .injectSingleBit x1 x2 t, rfl, fun _ => ⟨rfl, rfl⟩⟩
theorem injectDoubleBit (x1 x2 t) : Statement (.injectDoubleBit x1 x2 t) := ⟨fun t => .injectDoubleBit x1 x2 t, rfl, fun _ => ⟨rfl, rfl⟩⟩
theorem injectFlitCrc (x1 x2 t) : Statement (.injectFlitCrc x1 x2 t) := ⟨fun t => .injectFlitCrc x1 x2 t, rfl, fun _ => ⟨rfl, rfl⟩⟩
theorem sqlSeedLoad (x1 x2 t) : Statement (.sqlSeedLoad x1 x2 t) := ⟨fun t => .sqlSeedLoad x1 x2 t, rfl, fun _ => ⟨rfl, rfl⟩⟩
theorem delayedDelivery (x1 x2 t) : Statement (.delayedDelivery x1 x2 t) := ⟨fun t => .delayedDelivery x1 x2 t, rfl, fun _ => ⟨rfl, rfl⟩⟩
theorem thermalTrip (x1 t) : Statement (.thermalTrip x1 t) := ⟨fun t => .thermalTrip x1 t, rfl, fun _ => ⟨rfl, rfl⟩⟩
theorem thermtrip (x1 t) : Statement (.thermtrip x1 t) := ⟨fun t => .thermtrip x1 t, rfl, fun _ => ⟨rfl, rfl⟩⟩
theorem brakeTestOverdue (x1 t) : Statement (.brakeTestOverdue x1 t) := ⟨fun t => .brakeTestOverdue x1 t, rfl, fun _ => ⟨rfl, rfl⟩⟩
theorem entropyStartupPass (t) : Statement (.entropyStartupPass t) := ⟨fun t => .entropyStartupPass t, rfl, fun _ => ⟨rfl, rfl⟩⟩
theorem tripWaitEnd (t) : Statement (.tripWaitEnd t) := ⟨fun t => .tripWaitEnd t, rfl, fun _ => ⟨rfl, rfl⟩⟩
theorem hbmTemperatureReport (x1 x2 t) : Statement (.hbmTemperatureReport x1 x2 t) := ⟨fun t => .hbmTemperatureReport x1 x2 t, rfl, fun _ => ⟨rfl, rfl⟩⟩
theorem busMasterEnable (x1 x2 t) : Statement (.busMasterEnable x1 x2 t) := ⟨fun t => .busMasterEnable x1 x2 t, rfl, fun _ => ⟨rfl, rfl⟩⟩
theorem postedCreditReturn (x1 t) : Statement (.postedCreditReturn x1 t) := ⟨fun t => .postedCreditReturn x1 t, rfl, fun _ => ⟨rfl, rfl⟩⟩
theorem perstNRelease (x1 x2 x3 t) : Statement (.perstNRelease x1 x2 x3 t) := ⟨fun t => .perstNRelease x1 x2 x3 t, rfl, fun _ => ⟨rfl, rfl⟩⟩
theorem registerRead (x1 x2 x3 t) : Statement (.registerRead x1 x2 x3 t) := ⟨fun t => .registerRead x1 x2 x3 t, rfl, fun _ => ⟨rfl, rfl⟩⟩
theorem spdmSessionEnd (t) : Statement (.spdmSessionEnd t) := ⟨fun t => .spdmSessionEnd t, rfl, fun _ => ⟨rfl, rfl⟩⟩
theorem receiverAdapted (x1 t) : Statement (.receiverAdapted x1 t) := ⟨fun t => .receiverAdapted x1 t, rfl, fun _ => ⟨rfl, rfl⟩⟩
theorem hostDelayedLanding (x1 x2 t) : Statement (.hostDelayedLanding x1 x2 t) := ⟨fun t => .hostDelayedLanding x1 x2 t, rfl, fun _ => ⟨rfl, rfl⟩⟩

end Sys2Proof.Laws.TimeOperand
end

