-- ==== Sys2Proof/Tests/Slice0.lean ====
section
/-! SUPPORT. The model's own tests. Each shows a small state and operands that meet the hypotheses of a clause of the statements, most
of them with what the command leaves there; the expected values are read from the rules, not from the model. -/

open Sys2Proof Sys2Proof.Machine

namespace Sys2Proof.Tests

set_option Elab.async false

/-! ### Small states -/

/-- What a command leaves. -/
def after (i : Instr) (s : State) : State := match exec i s with | .next s' => s' | _ => s

/-- A context in which an attempt of step 5 runs. -/
def runner (uid : Nat) : Ctx :=
  { Ctx.clear with st := .running, uid := uid, ranThisTide := true, req := { StepReq.empty with step := 5 } }

/-- A chip in service: the image sealed, the tide of 1 ms that began at 0 running, the link up, SF on; stall 0 is a Neap stall with die 0, the
first MiB of HBM and a Flood stall 1 with die 1 and the next; the steward has the third. -/
def live : State :=
  { State.reset with
    now := 5000000
    regs := [(Reg.addr .tidStatus 0 0, 1000000), (Reg.addr .stlCtrl 0 0, 1), (Reg.addr .stlCtrl 0 1, 3)]
    pwr := { Power.reset with pwrok := true, inReset := false }
    host := { HostIf.reset with perst := false, up := true, credits := 4, fns := [(0, { Fn.clear with bme := true })] }
    img := { Images.reset with inForce := true, isSealed := true }
    tide := { Tide.reset with running := true, expected := 1000000000, bays := 1, sPeriod := 1000000 }
    plan := { Plan.reset with
      cdOwner := 0xFFFFFFFFFFFFFF10
      extents := [{ base := 0, size := 0x100000, owner := 0 }, { base := 0x100000, size := 0x100000, owner := 1 },
                  { base := 0x200000, size := 0x100000, owner := 8 }] }
    bw := { Bw.reset with sfOn := true } }

/-- The same chip after the sampling point. -/
def sampled : State := { live with now := 990000000, tide := { live.tide with sampled := true } }

/-- The same chip with an attempt in context 0, and one in context 2 of the Flood stall. -/
def busy : State := { live with ctxs := [(0, runner 1), (2, runner 2)], nextUid := 3 }

/-! ### The queue and the form -/

theorem test_step_runs_front :
    (match step { live with pending := [.blackoutEnd 0 9, .firstTick 9] } with | .next s => s.pending | _ => []) = [.firstTick 9] := by
  decide +kernel

theorem test_form_kept : live.canon ∧ ∃ s', step { live with pending := [.drbgReseed 6000000] } = .next s' := by
  refine ⟨⟨by unfold State.memOk; decide, by unfold State.regsOk; decide, ?_⟩, _, rfl⟩
  simp [State.logOk, live, State.reset]

/-! ### Registers -/

theorem test_last_register_in_range : Reg.inRange .dklErr 3 7 ∧ Reg.decode (Reg.addr .dklErr 3 7) = some (.dklErr, 3, 7) := by
  unfold Reg.inRange; decide +kernel

theorem test_plain_write :
    Reg.plain .tidBayCfg = false ∧ Reg.plain .tidDl = true ∧ Reg.inRange .tidDl 0 7 ∧ live.regsOk ∧ reachable live .pf = true ∧
    live.takesWrite .pf .tidDl 0 7 0x1 ∧
    rget (after (.registerWrite .pf (regAddr .tidDl 0 7) 0x1 0) live) .tidDl 7 = 1 := by
  unfold Reg.inRange State.regsOk State.takesWrite; decide +kernel

theorem test_write_sets_a_reserved_bit :
    mayWriteReg .pf .tidDl 7 = true ∧ Reg.hasWritable live .tidDl 7 = true ∧ (0x80000000#64 &&& ~~~Reg.fields .tidDl) ≠ 0 := by
  decide +kernel

/-- Die 3 fallow: its window reads 0, and a write is logged with code 0x03 (R25). -/
theorem test_fallow_window :
    let u := { live with plan := { live.plan with fallowDies := 8 } }
    let a := regBase + 3 * 0x1000000 + 0x10000
    fallow u 3 = true ∧ Reg.inRange .mtxTileBusy 3 0 ∧ (Reg.info .mtxTileBusy).win.dies.1 + 3 = 3 ∧
    (after (.registerRead .pf a 8 0) u).out = [Out.readData .pf 0] ∧
    (after (.registerWrite .pf a 0 0) u).log.entries.map (fun e => (e.cls, e.code)) = [(2, 3)] := by
  unfold Reg.inRange; decide +kernel

theorem test_requester_may_not_write :
    fallow live 38 = false ∧ mayWriteReg (.vf 0) .tidDl 0 = false ∧
    mayWriteReg .pf .tidNumber 0 = true ∧ Reg.hasWritable live .tidNumber 0 = false ∧
    (after (.registerWrite .pf (regAddr .tidNumber 0 0) 0 0) live).log.entries.map (fun e => (e.cls, e.code)) = [(2, 1)] := by
  decide +kernel

theorem test_access_log_counts :
    Tab.getD 0 8 live.log.access < 64 ∧ 64 ≤ Tab.getD 0 8 { live.log with access := [(8, 64)] }.access ∧
    rget (logAccess { live with log := { live.log with access := [(8, 64)] } } .clk 1 8 8) .logStatus = 0x1000000000000 := by
  decide +kernel

theorem test_register_read :
    Reg.inRange .tidStatus 0 0 ∧ mayReadReg live .pf .tidStatus 0 0 = true ∧ viewSound live .tidStatus 0 = true ∧
    (Reg.info .tidStatus).rc = 0 ∧ mayReadReg live (.vf 1) .talDrop 0 0 = false ∧ (4 : Nat) ≠ 8 := by
  unfold Reg.inRange; decide +kernel

theorem test_read_clears :
    let u := rput live .talDrop 7 0
    clearRead (.talDropRead .pf 0 0) = some (.pf, .talDrop, 0, 0, 0) ∧ Reg.inRange .talDrop 0 0 ∧ live.regsOk ∧
    mayReadReg u .pf .talDrop 0 0 = true ∧ (after (.talDropRead .pf 0 0) u).out = [Out.readData .pf 7] ∧
    rget (after (.talDropRead .pf 0 0) u) .talDrop = 0 := by
  unfold Reg.inRange State.regsOk; decide +kernel

theorem test_squall_counts_read :
    clearRead (.sqlStatRead .pf 0) = some (.pf, .sqlStat, 0, 0, 0) ∧ squallOpen live = false ∧
    squallOpen (rput live .secStatus (1#64 <<< 60)) = true ∧ mayReadReg live .pf .sqlStat 0 0 = true := by
  decide +kernel

/-- TID_PERIOD takes 1 ms to 100 ms (R57). -/
theorem test_period_bounds :
    live.takesWrite .pf .tidPeriod 0 0 1000000 ∧ live.takesWrite .pf .tidPeriod 0 0 999999 ∧
    rget (after (.tidPeriodWrite .pf 1000000 0) live) .tidPeriod = 1000000 ∧
    rget (after (.tidPeriodWrite .pf 999999 0) live) .tidPeriod = rget live .tidPeriod ∧
    (after (.tidPeriodWrite .pf 999999 0) live).log.entries.map (fun e => (e.cls, e.code)) = [(2, 2)] := by
  unfold State.takesWrite; decide +kernel

/-- Codes above 6 (R46) and media codes above 4 are rejected. -/
theorem test_setpoints :
    live.takesWrite .pf .clkSetpointCd 0 0 0x6666666666666666 ∧ live.takesWrite .pf .clkSetpointMd 0 0 0x44 ∧
    cdCode 0x6666666666666666 15 = 6 ∧ cdOwner live 0 = 0 ∧
    rget (after (.clkSetpointCdWrite .pf 0x6666666666666666 0) live) .clkSetpointCd = 0x6666666666666666 ∧
    (after (.clkSetpointCdWrite .pf 0x7 0) live).log.entries.length = 1 ∧
    rget (after (.clkSetpointMdWrite .pf 0x44 0) live) .clkSetpointMd = 0x44 ∧
    (after (.clkSetpointMdWrite .pf 0x45 0) live).log.entries.length = 1 := by
  unfold State.takesWrite; decide +kernel

/-- Bay starts at least 1,000 beats apart, owners 0 to 8 or 0xF, refresh spacings in 10 ns, ring sizes 2^6 to 2^16. -/
theorem test_plans_checked :
    live.takesWrite .pf .tidBayStart 0 15 5000 ∧ live.takesWrite .pf .tidBayOwnLo 0 15 0x88 ∧
    live.takesWrite .pf .tidBayOwnHi 0 0 0x8 ∧ live.takesWrite .pf .tidRefPlan 0 0 ((50#64 <<< 32) ||| (100#64 <<< 16) ||| 200#64) ∧
    live.takesWrite .pf .hifEvtCfg 0 8 0x601 ∧
    (after (.tidBayOwnWrite .pf 15 false 0x9 0) live).log.entries.length = 1 ∧
    (after (.tidBayOwnWrite .pf 15 false 0x88 0) live).log.entries.length = 0 ∧
    (after (.tidRefPlanWrite .pf ((50#64 <<< 32) ||| (100#64 <<< 16) ||| 200#64) 0) live).log.entries.length = 0 ∧
    (after (.tidRefPlanWrite .pf ((55#64 <<< 32) ||| (100#64 <<< 16) ||| 200#64) 0) live).log.entries.length = 1 ∧
    (after (.evtCfgWrite .pf 8 0x601 0) live).log.entries.length = 0 ∧
    (after (.evtCfgWrite .pf 8 0x501 0) live).log.entries.length = 1 := by
  unfold State.takesWrite; decide +kernel

theorem test_bay_starts_apart :
    let u := rput live .tidBayCfg 1
    live.takesWrite .pf .tidBayStart 0 1 1000 ∧ (after (.tidBayStartWrite .pf 1 1000 0) u).log.entries.length = 0 ∧
    (after (.tidBayStartWrite .pf 1 999 0) u).log.entries.length = 1 := by
  unfold State.takesWrite; decide +kernel

/-- Injections (R792, R793): accepted in a debug state other than LOCKED for a word that exists, or an ACTIVE port. -/
theorem test_injections :
    let u := rput live .secStatus (1#64 <<< 60)
    let v : Word := (1#64 <<< 62) ||| 0x200000000000#64
    u.takesWrite .pf .hltInject 0 0 v ∧ bf v 63 62 = 1 ∧ squallOpen u = true ∧ unitOf 0x200000000000 = .tile 0 0 ∧
    rget (after (.injectSingleBit .pf v 0) u) .hltInject = v ∧
    rget (after (.injectDoubleBit .pf (v + (1#64 <<< 62)) 0) u) .hltInject = v + (1#64 <<< 62) ∧
    (after (.injectSingleBit .pf v 0) live).log.entries.length = 1 ∧
    (after (.injectFlitCrc .pf (3#64 <<< 62) 0) u).log.entries.length = 1 ∧
    rget (after (.injectFlitCrc .pf (3#64 <<< 62) 0) (modPort u 0 fun p => { p with st := 4 })) .hltInject = 3#64 <<< 62 ∧
    (after (.sqlSeedLoad .pf 0 0) u).lfsr = 1 ∧ (after (.sqlSeedLoad .pf 9 0) u).lfsr = 9 ∧
    (after (.sqlSeedLoad .pf 9 0) live).lfsr = 1 := by
  unfold State.takesWrite; decide +kernel

/-! ### Clocks -/

theorem test_clock_inputs_lost :
    monitorRuns live = true ∧ (after (.clockInputLost .refclk 0) live).pwr.fold = some (5000000, .chipLoss) ∧
    (after (.clockInputLost .lnkclk 0) live).clk.told = 0x1E ∧ (after (.clockInputLost .safeclk 0) live).clk.told = 1 := by
  decide +kernel

/-- Domain 31, the last of the first group, is in the determinism set; domain 49 shows in CLK_LOCK_LOST only. -/
theorem test_pll_lock_lost :
    let u := rput live .clkLockStatus ((1#64 <<< 31) ||| (1#64 <<< 49))
    inDetSet 31 = true ∧ fallow u (dieOfDomain 31) = false ∧ bitAt (rget u .clkLockStatus) 31 = true ∧
    (after (.pllLockLost 31 0) u).pwr.fold = some (5000000, .chipLoss) ∧
    inDetSet 49 = false ∧ silentDomain 49 = true ∧ fallow u (dieOfDomain 49) = false ∧
    (after (.pllLockLost 49 0) u).pwr.fold = none ∧ rget (after (.pllLockLost 49 0) u) .clkLockLost = 1#64 <<< 49 := by
  decide +kernel

theorem test_monitor_and_telemetry_stop :
    live.pwr.inReset = false ∧ live.clk.monStopped = false ∧ live.clk.telStopped = false ∧
    (after (.monitorClockStop 0) live).log.entries.map (fun e => (e.cls, e.code)) = [(4, 4)] ∧
    (after (.telemetryClockStop 0) live).log.entries.map (fun e => (e.cls, e.source)) = [(0, 1)] := by
  decide +kernel

/-- 1,000 ppm is in tolerance, 1,001 ppm is not (R49). -/
theorem test_tolerance :
    ppmApart 1001000 1000000 = false ∧ ppmApart 1001001 1000000 = true ∧
    rfield (after (.toleranceWindow 1001000 1000000 1000000 0) live) .clkRefStatus 2 0 = 7 ∧
    ppmApart 1000000 1002000 = true ∧ ppmApart 1000000 1004000 = true ∧ ppmApart 1002000 1004000 = true ∧
    (after (.toleranceWindow 1000000 1002000 1004000 0) live).log.entries.map (fun e => (e.cls, e.code)) = [(4, 4)] := by
  decide +kernel

theorem test_refclk_stable :
    let u := { rput live .clkRefStatus 1 with now := 1000000005, clk := { live.clk with refBad := true, refGoodFrom := 5 } }
    u.clk.refBad = true ∧ bitAt (rget u .clkRefStatus) 0 = true ∧ u.clk.refGoodFrom + 1000000000 ≤ u.now ∧
    (after (.refclkStable 0) u).clk.refBad = false := by
  decide +kernel

theorem test_ramp_stage :
    let u := { live with now := 25000000, clk := { live.clk with ramp := true, sampledCd := 0x55, sampledMd := 4 } }
    u.regsOk ∧ u.clk.ramp = true ∧ u.clk.rampAt + 25000000 ≤ u.now ∧ rget (after (.rampStage [] 0) u) .clkAppliedCd = 0x4444444444444455 ∧
    rget (after (.rampStage [0] 0) u) .clkAppliedCd = 0x4444444444444456 ∧ rget (after (.rampStage [] 0) u) .clkAppliedMd = 4 := by
  unfold State.regsOk; decide +kernel

/-! ### The tide -/

/-- 1,000,007 ns after the tick at 20 ns is no beat edge; the next tick falls on the next one (R58). -/
theorem test_internal_tick :
    let u := { live with tide := { live.tide with sPeriod := 1000007 } }
    bitAt u.tide.sCtrl 0 = false ∧ (1000007 : Nat) ≠ periodNs u ∧ (tickCore u 20000 false false).tide.expected = 1000030000 ∧
    bf live.tide.sPeriod 26 0 = periodNs live ∧ bitAt (rget live .tidStatus) 32 = false ∧
    (tickCore { live with tide := { live.tide with k := 2 } } 3000000000 false false).tide.expected = 4000000000 := by
  decide +kernel

theorem test_tide_tick :
    let u := { sampled with now := 1000000000 }
    u.regsOk ∧ u.tide.sampled = true ∧ u.img.applying = false ∧ tickDue u = some 1000000000 ∧
    (after (.tideTick 0 0) u).tide.expected = 2000000000 ∧ rget (after (.tideTick 0 0) u) .tidNumber = 1 := by
  unfold State.regsOk; decide +kernel

/-- In external mode, an edge 5,000 ns early is taken, one that is earlier is counted; the flywheel ticks 5,000 ns late. -/
theorem test_external_edges :
    let u := { rput sampled .tidStatus (1000000#64 ||| (1#64 <<< 32)) with
      now := 995000000, tide := { sampled.tide with sCtrl := 1 } }
    let w := { u with now := 994999999 }
    let z := { u with now := 1005000000 }
    u.tide.running = true ∧ bitAt (rget u .tidStatus) 32 = true ∧ u.tide.capture = false ∧ u.tide.realign = false ∧
    (after (.tideInEdge 0) u).tide.edgeTick = some 995020000 ∧
    (after (.tideInEdge 0) (after (.tideInEdge 0) u)).tide.edgeTick = some 995020000 ∧
    rfield (after (.tideInEdge 0) w) .tidExtStatus 15 0 = 1 ∧
    (after (.tideInEdge 1005000001) u).tide.edgeTick = none ∧
    z.regsOk ∧ flyDue z = some 1005000000 ∧ (after (.flywheelTick 0 0) z).tide.flyRun = 1 := by
  unfold State.regsOk; decide +kernel

/-- A first tick 100 µs after the seal (R744), at boot and after a fold reset with GO set. -/
theorem test_first_tick :
    let u := { rput live .pwrRstStatus (4#64 <<< 60) with
      now := 105000000, tide := { Tide.reset with sPeriod := 1000000 }, pwr := { live.pwr with readyAt := some 5000000 } }
    let w := rput (rput u .bcnStwCtrl 1) .pwrRstStatus ((4#64 <<< 60) ||| (1#64 <<< 32))
    u.regsOk ∧ phase u = 4 ∧ u.pwr.fold = none ∧ firstTickDue u = some 105000000 ∧
    bitAt (rget u .bcnStwCtrl) 0 = false ∧ phase (after (.firstTick 0) u) = 5 ∧ rget (after (.firstTick 0) u) .tidNumber = 0 ∧
    bitAt (rget w .bcnStwCtrl) 0 = true ∧ bitAt (rget w .bcnStwCtrl) 1 = false ∧ rfield w .pwrRstStatus 47 32 ≠ 0 ∧
    firstTickDue w = some 105000000 := by
  unfold State.regsOk; decide +kernel

theorem test_sampling_point :
    let u := { live with now := 980000000 }
    u.tide.running = true ∧ u.tide.sampled = false ∧ u.pwr.fold = none ∧ u.tide.expected - 20000000 ≤ u.now ∧
    (after (.samplingPoint 0) u).tide.sampled = true := by
  decide +kernel

theorem test_tide_out_end :
    let u := { live with tide := { live.tide with outSince := some 4000000 } }
    u.tide.outSince = some 4000000 ∧ 4000000 + 1000000 ≤ u.now ∧ (after (.tideOutEnd 0) u).out = [Out.pin "TIDE_OUT" false] := by
  decide +kernel

/-- Bay 1 at 0.4 µs; refresh slot 0 at the tick blacks bank 0 out for 50 ns. -/
theorem test_bays_and_refresh :
    let u := { live with tide := { live.tide with bays := 2, starts := [0, 400], refPlan := (50#64 <<< 32) ||| (100#64 <<< 16) ||| 200#64 } }
    u.tide.sampled = false ∧ (1 : Nat) = u.tide.bay + 1 ∧ bayOccurs u 1 = true ∧ bayStartAt u 1 ≤ u.now ∧
    (after (.bayStart 1 0) u).tide.bay = 1 ∧
    u.tide.tick + u.tide.slots * 200000 ≤ u.now ∧ u.tide.tick + u.tide.slots * 200000 + 50000 ≤ u.tide.expected ∧
    (after (.refreshSlot 0 0) u).tide.blackouts = [(0, 50000)] ∧
    (after (.blackoutEnd 0 0) { u with tide := { u.tide with blackouts := [(0, 50000)] } }).tide.blackouts = [] := by
  decide +kernel

theorem test_temperature_report :
    let u := { live with tide := { live.tide with refPlan := 85#64 <<< 48 } }
    u.pwr.inReset = false ∧ fallow u (16 + 11) = false ∧ u.regsOk ∧
    (after (.hbmTemperatureReport 11 86 0) u).tide.hotSeen = true ∧ (after (.hbmTemperatureReport 11 85 0) u).tide.hotSeen = false ∧
    rfield (after (.hbmTemperatureReport 11 86 0) u) .hltHbm 15 8 11 = 86 := by
  unfold State.regsOk; decide +kernel

/-- The kill at K = 100 µs, first beat edge at or after it; the fourth attempt fails the step. -/
theorem test_deadline_kill :
    let x := { runner 1 with first := true }
    let u := { rput live .stlCtrl 9 with
      now := 100000000
      tide := { live.tide with dl := [((1000000#64 <<< 32) ||| 100000#64)] }
      ctxs := [(0, x)] }
    let w := { u with ctxs := [(0, { x with attempt := 3 })] }
    deadlineApplies u 0 = true ∧ killTime u 0 = 100000000 ∧ (ctxOf u 0).attempt < 3 ∧
    (ctxOf (after (.deadlineKill 0 0) u) 0).st = .killing ∧
    ((ctxOf (after (.deadlineKill 0 0) u) 0).next.map (·.at_)) = some 104000000 ∧
    deadlineApplies w 0 = true ∧ 3 ≤ (ctxOf w 0).attempt ∧ (ctxOf (after (.deadlineKill 0 0) w) 0).cause = some 6 := by
  decide +kernel


/-! ### Steps -/

/-- A step fails in context 0: its entry reads class 2, its cause and its number; context 2 is as it was (R13, R18). -/
theorem test_step_failure :
    let v := stepFail busy .bcn 0 0x31 7
    (ctxOf busy 0).committed = false ∧ (ctxOf busy 0).st ≠ .idle ∧ (ctxOf busy 0).cause = none ∧
    (ctxOf busy 0).req.echo = false ∧ (ctxOf v 0).cause = some 0x31 ∧ (ctxOf v 2).st = .running ∧
    (Tab.find 5 v.cmt).map (fun e => (bf e.w 28 26, bf e.w 47 40, bf e.w 11 0)) = some (2, 0x31, 5) ∧
    (stepFail busy .bcn 0 0x08 0).cmt = [] ∧ (ctxOf busy 4).st = .idle := by
  decide +kernel

theorem test_committed_step_stays :
    let u := { busy with ctxs := [(0, { runner 1 with committed := true })] }
    (ctxOf u 0).committed = true ∧ (stepFail u .bcn 0 0x31 0).ctxs = u.ctxs ∧ (stepFail u .bcn 0 0x31 0).log.entries = [] := by
  decide +kernel

theorem test_chip_loss :
    let v := chipLoss busy .stl 5 0 0
    busy.pwr.fold = none ∧ busy.pwr.inReset = false ∧ busy.pwr.coldDue = false ∧ phase busy ≠ 1 ∧ phase busy ≠ 8 ∧
    v.pwr.fold = some (5000000, .chipLoss) ∧ phase v = 6 ∧ (ctxOf v 0).st = .idle ∧
    v.pwr.fold.isSome = true ∧ (chipLoss v .stl 5 0 0).pwr.fold = v.pwr.fold := by
  decide +kernel

/-- A request for step 5 (Table 16.5): version 1, the flags, the complement of its first half. -/
def request (flags : Nat) : List Byte :=
  let h := [1#8, BitVec.ofNat 8 flags, 5#8] ++ List.replicate 13 0#8
  h ++ h.map (~~~ ·) ++ List.replicate 32 0#8

theorem test_step_doorbell :
    let u := { live with stalls := [(0, { stallOf live 0 with queue := List.replicate 16 StepReq.empty, urgentReq := some StepReq.empty })] }
    live.host.up = true ∧ live.pwr.inReset = false ∧ (fnOf live 0).bme = true ∧ (fnOf live 7).bme = false ∧
    reqForm (request 0) = true ∧ (reqOf (request 0)).urgent = false ∧ (reqOf (request 3)).urgent = true ∧
    reqForm (request 4) = false ∧ live.img.inForce = true ∧ live.img.isSealed = true ∧ live.pwr.fold = none ∧
    (stallOf (after (.stepDb 0 (request 0) 0) live) 0).queue.map (·.step) = [5] ∧
    (stallOf (after (.stepDb 0 (request 3) 0) live) 0).urgentReq.map (·.step) = some 5 ∧
    (stallOf u 0).urgentReq.isSome = true ∧ 16 ≤ (stallOf u 0).queue.length ∧
    rfield (after (.stepDb 0 (request 0) 0) u) .hifFnStat 31 16 = 1 ∧
    rfield (after (.stepDb 0 (request 4) 0) live) .hifFnStat 31 16 = 1 ∧
    rfield (after (.stepDb 7 (request 0) 0) live) .hifFnStat 63 48 7 = 1 ∧
    (after (.stepDb 0 (request 0) 0) { live with img := Images.reset }).stalls = [] ∧
    (after (.stepDb 0 (request 0) 0) { live with pwr := { live.pwr with fold := some (0, .requested) } }).stalls = [] := by
  decide +kernel

/-- The stall's oldest request starts; a 65th start in a tide fails with 0x03, an unassigned stall's with 0x0C. -/
theorem test_step_start :
    let r := { StepReq.empty with step := 5 }
    let q := { stallOf live 0 with queue := [r] }
    let u := { live with stalls := [(0, q), (3, q)] }
    let w := { live with stalls := [(0, { q with stepsThisTide := 64 })] }
    let e := { live with stalls := [(0, { q with queue := [{ r with echo := true }] })] }
    mayStart u 0 = true ∧ assigned u 0 = true ∧ (stallOf u 0).stepsThisTide < 64 ∧ startCause (modStall u 0 fun x => { x with queue := [] }) 0 r = 0 ∧
    (ctxOf (after (.stepStart 0 0) u) 0).st = .between ∧
    mayStart u 6 = true ∧ assigned u 3 = false ∧ (cmtOf (after (.stepStart 6 0) u) 3 5).w ≠ 0 ∧
    mayStart w 0 = true ∧ 64 ≤ (stallOf w 0).stepsThisTide ∧ bf (cmtOf (after (.stepStart 0 0) w) 0 5).w 47 40 = 3 ∧
    startCause (modStall e 0 fun x => { x with queue := [] }) 0 { r with echo := true } = 8 := by
  decide +kernel

/-- An urgent step displaces the primary attempt of a Neap stall and starts 4,000 ns after its kill (R164). -/
theorem test_urgent_start :
    let r := { StepReq.empty with step := 6, urgent := true }
    let u := { busy with stalls := [(0, { stallOf busy 0 with urgentReq := some r })] }
    let v := after (.stepStart 1 0) u
    mayStart u 1 = true ∧ startCause (modStall u 0 fun x => { x with urgentReq := none }) 1 r = 0 ∧ floodOf u 0 = false ∧
    (ctxOf u 0).st = .running ∧ (ctxOf u 0).committed = false ∧
    (ctxOf v 0).after = .suspended ∧ (ctxOf v 1).next.map (·.at_) = some 9000000 := by
  decide +kernel

/-- The first word is due 1,000 ns after the start. -/
theorem test_attempt_start :
    let nx : NextAttempt := { at_ := 5000000, fallback := false, number := 1, first := true, notice := false, monitor := false }
    let x := { runner 1 with st := .between, next := some nx, req := { StepReq.empty with step := 5, arg := 9 } }
    let u := { live with ctxs := [(0, x)], tallies := [(3, Tally.mk 7 0 0 0 0 false [])] }
    let w := { u with ctxs := [(0, { x with next := some { nx with number := 4 } })] }
    let z := { u with ctxs := [(0, { x with st := .suspended })] }
    let v := after (.attemptStart 0 0) u
    tideOpen u = true ∧ parkOf u 0 = { adds := [], lost := [] } ∧ Tab.find 0 u.heldKill = none ∧
    inExtentOf u 0 (bf (rget u .stlEntry 0) 47 0) 16384 = true ∧ u.upsets = [] ∧
    (ctxOf v 0).st = .running ∧ scGet (ctxOf v 0).bcn.sc 1 = 9 ∧
    (ctxOf v 0).bcn.ready = 6000000 ∧ (tallyOf v 3).value = 0 ∧
    (ctxOf (after (.attemptStart 0 0) w) 0).cause = some 6 ∧
    (ctxOf z 0).st = .suspended ∧ (ctxOf z 1).st = .idle ∧ (ctxOf (after (.primaryResume 0 0) z) 0).st = .running := by
  decide +kernel

/-- STL_KILL of the physical function names stalls 0 and 1; one of VF 1 reaches its own stall only. -/
theorem test_kills :
    reachable busy .pf = true ∧ reachable busy (.vf 1) = true ∧
    (ctxOf (after (.killPrimary .pf 3 0) busy) 0).cause = some 5 ∧ (ctxOf (after (.killPrimary .pf 3 0) busy) 2).cause = some 5 ∧
    (ctxOf (after (.killPrimary (.vf 1) 3 0) busy) 0).cause = none ∧
    (ctxOf (after (.killPrimary (.vf 1) 3 0) busy) 2).cause = some 5 ∧
    (ctxOf (after (.killUrgent .pf 1 0) { busy with ctxs := [(1, runner 1)] }) 1).cause = some 5 := by
  decide +kernel

theorem test_kill_complete :
    let u := { live with
      now := 30000000
      ctxs := [(0, { runner 1 with st := .killing, cause := some 5, killT := 14000000 }), (2, { runner 2 with st := .killing, after := .held })]
      bufs := [(7, { alloc := true, gen := 0, genC := 0, req := 0, c := 0, uid := 1 })], tallies := [(255, Tally.mk 7 0 0 0 0 false [])] }
    let v := after (.killComplete 0 0) u
    (ctxOf u 0).st = .killing ∧ (ctxOf u 0).killT + 16000000 ≤ u.now ∧ (ctxOf v 0).st = .idle ∧ (ctxOf v 0).lastStep = 5 ∧
    (tallyOf v 255).value = 0 ∧ (bufOf v 7).alloc = false ∧
    (ctxOf u 2).cause = none ∧ (ctxOf (after (.killComplete 2 0) u) 2).st = .held ∧
    (after (.engineStopTimeout 0 0) u).pwr.fold = some (30000000, .chipLoss) := by
  decide +kernel

/-- A commit with slot 63 staged: its SIDE flips, the mask names it, DRAINED stands with it; an echo run flips nothing. -/
theorem test_commit_point :
    let x := { runner 1 with staged := [63] }
    let u := { live with ctxs := [(0, x)] }
    let w := { live with ctxs := [(0, { x with req := { x.req with echo := true } })] }
    let v := commitPoint u 0
    u.upsets = [] ∧ x.staged.Nodup ∧ (∀ j ∈ x.staged, j < 64) ∧ x.req.echo = false ∧ (ctxOf v 0).committed = true ∧
    (pubOf v 0 63).side = true ∧ (pubOf v 0 62).side = false ∧ bitAt (cmtOf v 0 5).mask 63 = true ∧
    bf (cmtOf v 0 5).w 28 26 = 1 ∧ bitAt (cmtOf v 0 5).w 29 = true ∧
    (ctxOf w 0).req.echo = true ∧ (pubOf (commitPoint w 0) 0 63).side = false ∧ bitAt (cmtOf (commitPoint w 0) 0 5).w 31 = true := by
  decide +kernel

theorem test_transfer_drained :
    let d : Drain := { req := { StepReq.empty with step := 5 }, attempt := 0, variant := 0, held := [], left := 0 }
    let u := setCmt { live with stalls := [(0, { stallOf live 0 with drains := [d] })] } 0 5 ((1#64 <<< 26) ||| 5) 6
    let w := setCmt u 0 5 ((1#64 <<< 26) ||| 69) 6
    (stallOf u 0).drains = [d] ∧ bf (cmtOf u 0 5).w 11 0 = 5 ∧ bf (cmtOf u 0 5).w 28 26 = 1 ∧
    bitAt (cmtOf (after (.hostTransferDrained 0 0) u) 0 5).w 29 = true ∧ (cmtOf (after (.hostTransferDrained 0 0) u) 0 5).mask = 6 ∧
    (after (.hostTransferDrained 0 0) w).cmt = w.cmt := by
  decide +kernel

/-! ### The Beacon processor -/

/-- A long word of a control field, two scalar fields and four slots (Table 5.2). -/
def lwOf (ctl a b : Nat) (slots : List Nat) : LongWord :=
  BitVec.ofNat 512 (ctl * 2 ^ 448 + a * 2 ^ 384 + b * 2 ^ 320 + slots.getD 0 0 * 2 ^ 240 + slots.getD 1 0 * 2 ^ 160 +
    slots.getD 2 0 * 2 ^ 80 + slots.getD 3 0)

/-- A scalar field of a register form, PRED 0 (Table 5.4). -/
def sf (sop dst srca srcb : Nat) : Nat := sop * 2 ^ 58 + dst * 2 ^ 47 + srca * 2 ^ 41 + srcb * 2 ^ 35

/-- A scalar field of an immediate form. -/
def sfi (sop dst srca imm : Nat) : Nat := sop * 2 ^ 58 + dst * 2 ^ 47 + srca * 2 ^ 41 + imm

/-- PRED 1, which is false in the states below: the field is not active. -/
def off : Nat := 2 ^ 54

/-- The attempt of context c stands at word 5 of its program; SC2 is negative, SC3 is 67 and PD2 is true. -/
def bcn0 (w : LongWord) : Bcn :=
  { Bcn.clear with pc := 5, words := [(5, w)], sc := [(2, 0xF000000000000005), (3, 0x43), (4, 0x100), (6, 0x200000000100)], pd := 4 }

/-- A state in which context c may issue the word. -/
def atWord (c : Nat) (w : LongWord) : State := { live with ctxs := [(c, { runner 1 with bcn := bcn0 w })] }

/-- Register r of context 0 after a command at a word with the scalar field v in SCALAR_A. -/
def scAfter (i : Instr) (v : Nat) (r : Nat) : Word := scGet (ctxOf (after i (atWord 0 (lwOf 0 v 0 []))) 0).bcn.sc r

theorem test_zero_registers :
    (bcn0 0).sc.Pairwise (fun x y => x.1 < y.1) ∧ (0 : Nat) ≠ 15 ∧
    scGet (ctxOf (putSc (atWord 0 0) 0 0 9) 0).bcn.sc 0 = 0 ∧ scGet (ctxOf (putSc (atWord 0 0) 0 63 9) 0).bcn.sc 63 = 9 ∧
    pdGet (ctxOf (putPd (atWord 0 0) 0 0 false) 0).bcn.pd 0 = true ∧ pdGet (ctxOf (putPd (atWord 0 0) 0 15 true) 0).bcn.pd 15 = true := by
  decide +kernel

/-- A word that may issue, one that waits for a result, one with a register out of reach, one with an operation that does not exist. -/
theorem test_words_issue :
    let u := atWord 0 (lwOf 0 (sf 1 7 2 3) 0 [])
    let held := { u with ctxs := [(0, { runner 1 with bcn := { bcn0 (lwOf 0 (sf 1 7 2 3) 0 []) with
      muls := [{ reg := 2, val := 1, at_ := 6000000, write := true }] } })] }
    let reach := atWord 0 (lwOf 0 (sfi 0x36 7 4 0x200000) 0 [])
    let bad := atWord 0 (lwOf 0 (sf 0x3F 7 2 3) 0 [])
    (ctxOf u 0).bcn.iss = none ∧ mayIssue u 0 = true ∧ wordExc u 0 = none ∧ wordHold u 0 = (0, none) ∧ wordReach u 0 = none ∧
    (ctxOf (tryIssue u 0) 0).bcn.iss.map (fun i => (i.at_, i.done)) = some (5000000, []) ∧
    wordHold held 0 = (3, none) ∧ (ctxOf (tryIssue held 0) 0).bcn.hold = 3 ∧
    wordExc reach 0 = none ∧ wordReach reach 0 = some 0x200100 ∧ (tryIssue reach 0).pwr.fold.isSome = true ∧
    (wordExc bad 0).isSome = true ∧ (tryIssue bad 0).pwr.fold.isSome = true := by
  decide +kernel

/-- A wait-equal that the tally has passed (R205): tally 4 is 9, the slot waits for 0x43 at tally 0 and for 5 at tally 4. -/
theorem test_word_holds_and_passes :
    let wait := fun (tal op reg : Nat) => 9 * 2 ^ 76 + tal * 2 ^ 31 + op * 2 ^ 29 + reg * 2 ^ 23
    let u := { atWord 0 (lwOf 0 0 0 [wait 0 1 3]) with tallies := [(4, { Tally.zero with value := 0x44, comp := 0xFFFFFFBB })] }
    let w := { u with ctxs := [(0, { runner 1 with bcn := bcn0 (lwOf 0 0 0 [wait 4 2 3]) })] }
    wordExc u 0 = none ∧ wordHold u 0 = (1, none) ∧ (ctxOf (tryIssue u 0) 0).bcn.hold = 1 ∧
    wordExc w 0 = none ∧ (wordHold w 0).2 = some 4 ∧ (ctxOf (tryIssue w 0) 0).cause = some 0x31 := by
  decide +kernel

/-- Table 5.7 on SC2 and SC3, by hand: the shift amount is 67 modulo 64, SC2 is negative. -/
theorem test_two_operand :
    ScalarTurn (atWord 0 (lwOf 0 (sf 1 7 2 3) 0 [])) 0 .a 1
      ((ctxOf (tryIssue (atWord 0 (lwOf 0 (sf 1 7 2 3) 0 [])) 0) 0).bcn.iss.getD { at_ := 0, sc := [], pd := 0, lcs := [], loops := [], done := [] }) ∧
    scAfter (.add 0 .a 0) (sf 0x01 7 2 3) 7 = 0xF000000000000048 ∧ scAfter (.addi 0 .a 0) (sfi 0x21 7 2 0x43) 7 = 0xF000000000000048 ∧
    scAfter (.sub 0 .a 0) (sf 0x02 7 2 3) 7 = 0xEFFFFFFFFFFFFFC2 ∧ scAfter (.subi 0 .a 0) (sfi 0x22 7 2 0x43) 7 = 0xEFFFFFFFFFFFFFC2 ∧
    scAfter (.andC 0 .a 0) (sf 0x05 7 2 3) 7 = 1 ∧ scAfter (.andi 0 .a 0) (sfi 0x25 7 2 0x43) 7 = 1 ∧
    scAfter (.orC 0 .a 0) (sf 0x06 7 2 3) 7 = 0xF000000000000047 ∧ scAfter (.ori 0 .a 0) (sfi 0x26 7 2 0x43) 7 = 0xF000000000000047 ∧
    scAfter (.xorC 0 .a 0) (sf 0x07 7 2 3) 7 = 0xF000000000000046 ∧ scAfter (.xori 0 .a 0) (sfi 0x27 7 2 0x43) 7 = 0xF000000000000046 ∧
    scAfter (.shl 0 .a 0) (sf 0x08 7 2 3) 7 = 0x8000000000000028 ∧ scAfter (.shli 0 .a 0) (sfi 0x28 7 2 0x43) 7 = 0x8000000000000028 ∧
    scAfter (.shr 0 .a 0) (sf 0x09 7 2 3) 7 = 0x1E00000000000000 ∧ scAfter (.shri 0 .a 0) (sfi 0x29 7 2 0x43) 7 = 0x1E00000000000000 ∧
    scAfter (.sar 0 .a 0) (sf 0x0A 7 2 3) 7 = 0xFE00000000000000 ∧ scAfter (.sari 0 .a 0) (sfi 0x2A 7 2 0x43) 7 = 0xFE00000000000000 := by
  unfold ScalarTurn; decide +kernel

theorem test_min_max :
    scAfter (.minC 0 .a 0) (sf 0x0B 7 2 3) 7 = 0xF000000000000005 ∧ scAfter (.mini 0 .a 0) (sfi 0x2B 7 2 0x43) 7 = 0xF000000000000005 ∧
    scAfter (.maxC 0 .a 0) (sf 0x0C 7 2 3) 7 = 0x43 ∧ scAfter (.maxi 0 .a 0) (sfi 0x2C 7 2 0x43) 7 = 0x43 ∧
    scAfter (.minu 0 .a 0) (sf 0x0D 7 2 3) 7 = 0x43 ∧ scAfter (.minui 0 .a 0) (sfi 0x2D 7 2 0x43) 7 = 0x43 ∧
    scAfter (.maxu 0 .a 0) (sf 0x0E 7 2 3) 7 = 0xF000000000000005 ∧ scAfter (.maxui 0 .a 0) (sfi 0x2E 7 2 0x43) 7 = 0xF000000000000005 := by
  decide +kernel

/-- The multiplies wait 3 cycles; the one that is due lands. -/
theorem test_multiplies :
    let muls := fun (i : Instr) (v : Nat) => (ctxOf (after i (atWord 0 (lwOf 0 v 0 []))) 0).bcn.muls.map fun p => (p.reg, p.val, p.at_)
    let p : PendReg := { reg := 7, val := 9, at_ := 5000000, write := true }
    let u := { live with ctxs := [(0, { runner 1 with bcn := { bcn0 0 with muls := [{ p with at_ := 5000625 }, p] } })] }
    muls (.mul 0 .a 0) (sf 0x03 7 2 3) = [(7, 0xD00000000000014F, 5001875)] ∧
    muls (.muli 0 .a 0) (sfi 0x23 7 2 0x43) = [(7, 0xD00000000000014F, 5001875)] ∧
    muls (.mulhu 0 .a 0) (sf 0x04 7 2 3) = [(7, 0x3E, 5001875)] ∧ muls (.mulhui 0 .a 0) (sfi 0x24 7 2 0x43) = [(7, 0x3E, 5001875)] ∧
    scGet (ctxOf (after (.mulResultReady 0 0) u) 0).bcn.sc 7 = 9 ∧ (ctxOf (after (.mulResultReady 0 0) u) 0).bcn.muls.length = 1 := by
  decide +kernel

/-- Predicate 7 after a command, where it was the opposite before. -/
def pdAfter (i : Instr) (v : Nat) (was : Bool) : Bool :=
  let u := atWord 0 (lwOf 0 v 0 [])
  pdGet (ctxOf (after i (modBcn u 0 fun b => { b with pd := if was then 0x84 else 4 })) 0).bcn.pd 7

theorem test_compares :
    pdAfter (.cmpeq 0 .a 0) (sf 0x10 7 2 3) true = false ∧ pdAfter (.cmpeqi 0 .a 0) (sfi 0x30 7 3 0x43) false = true ∧
    pdAfter (.cmpne 0 .a 0) (sf 0x11 7 2 3) false = true ∧ pdAfter (.cmpnei 0 .a 0) (sfi 0x31 7 3 0x43) true = false ∧
    pdAfter (.cmplt 0 .a 0) (sf 0x12 7 2 3) false = true ∧ pdAfter (.cmplti 0 .a 0) (sfi 0x32 7 2 0x43) false = true ∧
    pdAfter (.cmpltu 0 .a 0) (sf 0x13 7 2 3) true = false ∧ pdAfter (.cmpltui 0 .a 0) (sfi 0x33 7 2 0x43) true = false ∧
    pdAfter (.cmpge 0 .a 0) (sf 0x14 7 2 3) true = false ∧ pdAfter (.cmpgei 0 .a 0) (sfi 0x34 7 2 0x43) true = false ∧
    pdAfter (.cmpgeu 0 .a 0) (sf 0x15 7 2 3) false = true ∧ pdAfter (.cmpgeui 0 .a 0) (sfi 0x35 7 2 0x43) false = true ∧
    pdAfter (.pand 0 .a 0) (sf 0x16 7 2 3) true = false ∧ pdAfter (.por 0 .a 0) (sf 0x17 7 2 3) false = true ∧
    pdAfter (.pxor 0 .a 0) (sf 0x18 7 2 2) true = false ∧ pdAfter (.pandn 0 .a 0) (sf 0x19 7 2 3) false = true := by
  decide +kernel

/-- CLZ of 0x43 is 57; SEL by PD2 takes SRCA; MFS 4 reads the stall, MFS 0 the step; MOVHI puts its immediate above SC3. -/
theorem test_other_scalar :
    scAfter (.clz 0 .a 0) (sf 0x0F 7 3 0) 7 = 57 ∧ scAfter (.clz 0 .a 0) (sf 0x0F 7 0 0) 7 = 64 ∧
    scAfter (.sel 0 .a 0) (sf 0x1A 7 3 4 + 2 * 2 ^ 31) 7 = 0x43 ∧ scAfter (.sel 0 .a 0) (sf 0x1A 7 3 4 + 3 * 2 ^ 31) 7 = 0x100 ∧
    scAfter (.mfs 0 .a 0) (sf 0x1B 7 0 0) 7 = 5 ∧ scAfter (.mfs 0 .a 0) (sf 0x1B 7 4 0) 7 = 0 ∧
    scAfter (.mfs 0 .a 0) (sf 0x1B 7 15 0) 7 = 0 ∧ scAfter (.mfs 0 .a 0) (sf 0x1B 7 16 0) 7 = 0 ∧
    scAfter (.movhi 0 .a 0) (sfi 0x38 7 3 0x12345678) 7 = 0x1234567800000043 ∧
    (ctxOf (after (.nopC 0 .a 0) (atWord 0 (lwOf 0 0 (sf 1 7 2 3) []))) 0).bcn.iss.map (·.done) = some [1] := by
  decide +kernel

theorem test_variant_by_verdict :
    let u := atWord 0 (lwOf 0 (sf 0x1B 7 2 0) 0 [])
    let w := modCtx u 0 fun x => { x with verdictFb := some 4997500 }
    (ctxOf (tryIssue u 0) 0).verdictFb = none ∧ scGet (ctxOf (after (.mfs 0 .a 0) u) 0).bcn.sc 7 = 0 ∧
    (ctxOf (tryIssue w 0) 0).verdictFb = some 4997500 ∧ scGet (ctxOf (after (.mfs 0 .a 0) w) 0).bcn.sc 7 = 2 := by
  decide +kernel

/-- A field under PD1, which is false; an LD of a Neap stall holds its destination (R211). -/
theorem test_inactive_fields :
    let f := fun (sop : Nat) => sf sop 7 4 3 + off
    scAfter (.add 0 .a 0) (f 1) 7 = 0 ∧ scAfter (.movhi 0 .a 0) (f 0x38) 7 = 0 ∧
    (ctxOf (after (.ld 0 .a 0) (atWord 0 (lwOf 0 (f 0x36) 0 []))) 0).bcn.lds.map (fun p => (p.reg, p.write)) = [(7, false)] ∧
    (ctxOf (after (.ld 2 .a 0) (atWord 2 (lwOf 0 (f 0x36) 0 []))) 2).bcn.lds = [] ∧
    (ctxOf (after (.ld 2 .a 0) (atWord 2 (lwOf 0 (f 0x36) 0 []))) 2).bcn.iss.map (·.done) = some [1] := by
  decide +kernel

/-- LD at SC4 + 8 = 0x108, in HBM, and ST at SC6 + 8, in tile 0 of die 0: 352 and 112 cycles after they cross. -/
theorem test_load_store_issue :
    let l := after (.ld 0 .a 0) (atWord 0 (lwOf 0 (sfi 0x36 7 4 8) 0 []))
    let st := after (.st 0 .a 0) (atWord 0 (lwOf 0 (sfi 0x37 2 6 8) 0 []))
    unitOf 0x200000000108 = .tile 0 0 ∧ (crossAt (atWord 0 0) 0 0x108 5000000).isSome = true ∧
    (crossAt (atWord 0 0) 0 0x200000000108 5000000).isSome = true ∧
    (ctxOf l 0).bcn.lds.map (fun p => (p.reg, p.val, some (p.at_ - 220000))) = [(7, 0x108, crossAt (atWord 0 0) 0 0x108 5000000)] ∧
    (ctxOf st 0).bcn.sts.map (fun p => (p.addr, p.val, some (p.at_ - 70000))) =
      [(0x200000000108, 0xF000000000000005, crossAt (atWord 0 0) 0 0x200000000108 5000000)] := by
  decide +kernel

/-- The 8 bytes at 0x100 are 1 to 8, least significant first. -/
theorem test_load_store_land :
    let u := { live with
      mem := (List.range 8).map fun i => (0x100 + i, BitVec.ofNat 8 (i + 1))
      ctxs := [(0, { runner 1 with bcn := { bcn0 0 with
        lds := [{ reg := 7, val := 0x100, at_ := 5000000, write := true }]
        sts := [{ addr := 0x102, val := 0x1122334455667788, at_ := 5000000, cross := 0 }] } })] }
    let w := after (.stLands 0 0) u
    u.upsets = [] ∧ u.memOk ∧ bf (rget u .hltInject) 63 62 = 0 ∧
    scGet (ctxOf (after (.ldDataUsable 0 0) u) 0).bcn.sc 7 = 0x0807060504030201 ∧
    readMem w 0x100 10 = [1, 2, 0x88, 0x77, 0x66, 0x55, 0x44, 0x33, 0x22, 0x11] := by
  unfold State.memOk; decide +kernel

/-- Control: BR goes to its target in 4 cycles, JMPR to SC3, CALL pushes 6, RET pops; an inactive BR goes on in one. -/
theorem test_control_operations :
    let go := fun (i : Instr) (v : Nat) => let b := (ctxOf (after i (atWord 0 (lwOf v 0 0 []))) 0).bcn; (b.pc, b.ready, b.ret)
    let u := modBcn (atWord 0 (lwOf (4 * 2 ^ 58) 0 0 [])) 0 fun b => { b with ret := [77] }
    go (.controlNop 0 0) 0 = (6, 5000625, []) ∧ go (.br 0 0) (2 ^ 58 + 2046) = (2046, 5002500, []) ∧
    go (.br 0 0) (2 ^ 58 + off + 2046) = (6, 5000625, []) ∧ go (.jmpr 0 0) (2 * 2 ^ 58 + 3) = (0x43, 5002500, []) ∧
    go (.call 0 0) (3 * 2 ^ 58 + 9) = (9, 5002500, [6]) ∧
    (ctxOf (after (.ret 0 0) u) 0).bcn.pc = 77 ∧ (ctxOf (after (.ret 0 0) u) 0).bcn.ret = [] ∧
    go (.drain 0 0) (7 * 2 ^ 58) = (6, 5000625, []) ∧ go (.fetch 0 0) (6 * 2 ^ 58 + off + 9 * 2 ^ 42 + 2 ^ 30 + 4 * 2 ^ 24) = (6, 5000625, []) ∧
    go (.commit 0 0) (8 * 2 ^ 58 + off) = (6, 5000625, []) ∧ go (.endC 0 0) (9 * 2 ^ 58 + off) = (6, 5000625, []) := by
  decide +kernel

/-- WAITTICK on BC8 holds until a tick that comes after its hold began; on a stall's context it is a condition of Table 5.11. -/
theorem test_waittick :
    let u := { rput live .bcnStwCtrl 2 with ctxs := [(16, { Ctx.clear with bcn := bcn0 (lwOf (10 * 2 ^ 58) 0 0 []) })] }
    let w := modBcn { u with tide := { u.tide with tick := 4000000 } } 16 fun b => { b with hold := 6, holdAt := 3000000 }
    wordHold u 16 = (6, none) ∧ (ctxOf (after (.waittick 16 0) u) 16).bcn.pc = 5 ∧
    wordHold w 16 = (0, none) ∧ (ctxOf (after (.waittick 16 0) w) 16).bcn.pc = 6 ∧
    wordExc (atWord 0 (lwOf (10 * 2 ^ 58) 0 0 [])) 0 = some (0x0C, 0) := by
  decide +kernel

/-- LOOP LC7 over words 6 to 8, SC3 = 67 iterations of at most BOUND; inactive in Neap it opens with no active iteration, in Flood
it goes on after ENDW. -/
theorem test_loops :
    let lp := fun (bound : Nat) => 5 * 2 ^ 58 + 7 * 2 ^ 50 + 3 * 2 ^ 44 + bound * 2 ^ 28 + 8 * 2 ^ 17
    let open_ := fun (c : Nat) (v : Nat) => let b := (ctxOf (after (.loop c 0) (atWord c (lwOf v 0 0 []))) c).bcn; (b.loops, b.pc)
    open_ 0 (lp 67) = ([7], 6) ∧ open_ 0 (lp 67 + off) = ([7], 6) ∧ open_ 2 (lp 67) = ([7], 6) ∧ open_ 2 (lp 67 + off) = ([], 9) ∧
    (ctxOf (after (.loop 0 0) (atWord 0 (lwOf (lp 66) 0 0 []))) 0).cause = some 0x21 ∧
    (ctxOf (after (.loop 2 0) (atWord 2 (lwOf (5 * 2 ^ 58 + 7 * 2 ^ 50 + 8 * 2 ^ 17 + 2 ^ 28) 0 0 []))) 2).bcn.pc = 9 := by
  decide +kernel

theorem test_back_edge :
    let l : LoopCtr := { index := 0, trip := 1, bound := 2, endw := 5, start := 3, off := false }
    let u := modBcn (atWord 0 0) 0 fun b => { b with loops := [7], lcs := [(7, l)] }
    let w := { u with ctxs := [(2, { ctxOf u 0 with bcn := { (ctxOf u 0).bcn with lcs := [(7, { l with trip := 2 })] } })] }
    (ctxOf (after (.loopBackEdge 0 0) u) 0).bcn.pc = 3 ∧ (lcOf (ctxOf (after (.loopBackEdge 0 0) u) 0).bcn.lcs 7).index = 1 ∧
    floodLoops w 2 = true ∧ (ctxOf (after (.loopBackEdge 2 0) w) 2).bcn.pc = 3 := by
  decide +kernel

/-- FETCH of 2 words at SC4 = 0x100 to index 9. -/
theorem test_fetch :
    let u := atWord 0 (lwOf (6 * 2 ^ 58 + 9 * 2 ^ 42 + 2 * 2 ^ 30 + 4 * 2 ^ 24) 0 0 [])
    let p : PendFetch := { dst := 9, count := 1, addr := 0x100, at_ := 5000000 }
    let w := { modBcn (atWord 0 0) 0 (fun b => { b with fetches := [p] }) with
      mem := (List.range 64).map fun i => (0x100 + i, BitVec.ofNat 8 (i + 1)) }
    (crossAt (tryIssue u 0) 0 0x100 5000000).isSome = true ∧
    (ctxOf (after (.fetch 0 0) u) 0).bcn.fetches.map (fun p => (p.dst, p.count, p.addr)) = [(9, 2, 0x100)] ∧
    w.upsets = [] ∧ (Tab.getD 0 9 (ctxOf (after (.fetchComplete 0 0) w) 0).bcn.words).toNat % 65536 = 0x0201 := by
  decide +kernel

/-- COMMIT once, COMMIT again (an access error), END after it, END before it (cause 0x20). -/
theorem test_commit_and_end :
    let u := atWord 0 (lwOf (8 * 2 ^ 58) 0 0 [])
    let w := modCtx u 0 fun x => { x with committed := true }
    let e := atWord 0 (lwOf (9 * 2 ^ 58) 0 0 [])
    (tryIssue u 0).upsets = [] ∧ (ctxOf (after (.commit 0 0) u) 0).committed = true ∧ (ctxOf (after (.commit 0 0) u) 0).bcn.pc = 6 ∧
    (after (.commit 0 0) w).log.entries.map (·.cls) = [2] ∧ (ctxOf (after (.commit 0 0) w) 0).bcn.pc = 6 ∧
    (ctxOf (after (.endC 0 0) (modCtx e 0 fun x => { x with committed := true })) 0).st = .idle ∧
    (ctxOf (after (.endC 0 0) e) 0).cause = some 0x20 := by
  decide +kernel

/-- GO before sealing is rejected; after it, with an entry point in the steward's extent, BC8 runs. -/
theorem test_steward_go :
    let u := rput live .bcnStwEntry 0x200000
    let w := { u with img := { u.img with isSealed := false } }
    u.regsOk ∧ reachable u .pf = true ∧ u.takesWrite .pf .bcnStwCtrl 0 0 1 ∧ inExtentOf u 8 (rfield u .bcnStwEntry 47 0) 16384 = true ∧
    bitAt (rget (after (.stewardGo .pf 1 0) u) .bcnStwCtrl) 1 = true ∧
    (after (.stewardGo .pf 1 0) w).log.entries.map (fun e => (e.cls, e.code)) = [(2, 2)] := by
  unfold State.regsOk State.takesWrite; decide +kernel

/-- On BC8, which runs, COMMIT and END have no effect, and a condition of Table 5.11 stops it. -/
theorem test_steward_words :
    let u := fun (v a : Nat) => { rput live .bcnStwCtrl 2 with ctxs := [(16, { Ctx.clear with bcn := bcn0 (lwOf v a 0 []) })] }
    mayIssue (u 0 0) 16 = true ∧ (ctxOf (after (.commit 16 0) (u (8 * 2 ^ 58) 0)) 16).bcn.pc = 6 ∧
    (ctxOf (after (.endC 16 0) (u (9 * 2 ^ 58) 0)) 16).bcn.pc = 6 ∧
    (wordExc (u 0 (sf 0x3F 7 2 3)) 16).isSome = true ∧ bitAt (rget (tryIssue (u 0 (sf 0x3F 7 2 3)) 16) .bcnStwCtrl) 1 = false ∧
    (tryIssue (u 0 (sf 0x3F 7 2 3)) 16).pwr.fold = none := by
  decide +kernel

/-- A slot of class 9 (Tally), DREG 4, SIG_OP o with amount a at tally 3, PRED 0 or 1. -/
def slot9 (o a : Nat) (pred : Nat) : Nat := 9 * 2 ^ 76 + pred * 2 ^ 63 + 4 * 2 ^ 57 + 3 * 2 ^ 11 + o * 2 ^ 9 + a * 2

theorem test_slot_posts :
    let u := fun (c v : Nat) => atWord c (lwOf 0 0 0 [v])
    let w := after (.slotPost 0 0 0) (u 0 (slot9 1 5 0))
    let done := modCtx (u 0 (slot9 0 0 0)) 0 fun x => { x with committed := true }
    w.cmds.map (fun m => (m.cls, m.addr, m.len, m.null)) = [(9, 0x100, 64, false)] ∧
    w.cmds.map (fun m => (m.sigTal, m.sigAdd, m.arrive)) = [(3, 5, 5002500)] ∧
    (after (.slotPost 0 0 0) (u 0 (slot9 2 5 0))).sigs.map (fun g => (g.tal, g.add, g.at_)) = [(3, 5, 5001250)] ∧
    (after (.slotPost 0 0 0) (u 0 (slot9 0 0 1))).cmds.map (·.null) = [true] ∧
    (after (.slotPost 2 0 0) (u 2 (slot9 2 5 1 + 0x200 * 2 ^ 31))).cmds = [] ∧
    (after (.slotPost 0 0 0) (u 0 (9 * 2 ^ 76))).cmds = [] ∧
    (after (.slotPost 0 0 0) done).cmds = [] ∧ (after (.slotPost 0 0 0) done).log.entries.map (·.cls) = [2] := by
  decide +kernel

/-- A finished command completes at a domain-48 edge and adds its signal; one of an attempt that has ended adds nothing. -/
theorem test_command_completes :
    let m : Cmd := { id := 1, c := 0, uid := 1, cls := 9, inst := 0, addr := 0x100, len := 64, null := false, sigTal := 3, sigAdd := 5,
                     arrive := 0, st := .finished, doneAt := 5000000, left := 0, desc := [], rows := [], next := 0, total := 0, unfixed := false }
    let g : PendSig := { id := 2, c := 0, uid := 1, tal := 3, add := 7, at_ := 5000000 }
    let u := { busy with cmds := [m, { m with id := 3, uid := 9 }, { m with id := 4, sigAdd := 0 }], sigs := [g, { g with id := 5, uid := 9 }] }
    runningCtx u 0 = true ∧ (ctxOf u 0).uid = 1 ∧ u.grWrites = [] ∧ (tallyOf (after (.commandComplete 1 0) u) 3).value = 5 ∧
    (tallyOf (after (.commandComplete 3 0) u) 3).value = 0 ∧ (after (.commandComplete 4 0) u).cmds.length = 2 ∧
    (tallyOf (after (.tallySignal 2 0) u) 3).value = 7 ∧ (tallyOf (after (.tallySignal 5 0) u) 3).value = 0 := by
  decide +kernel

/-- Granary pool 2 holds 4 buffers of 64 KiB from 0x300000 on, all in the reserve of requester 0, class 4. -/
def stocked : State :=
  { live with regs := [(Reg.addr .tidStatus 0 0, 1000000), (Reg.addr .stlCtrl 0 0, 1), (Reg.addr .stlCtrl 0 1, 3),
      (Reg.addr .grnPool 0 2, (4#64 <<< 61) ||| (4#64 <<< 40) ||| 0x3000), (Reg.addr .grnRsv 0 4, (2#64 <<< 48) ||| (1#64 <<< 20) ||| 4)] }

/-- Buffer ix of that pool, held by an attempt of context 0. -/
def heldBuf (ix uid : Nat) : Nat × Buf := (bufKey false 2 ix, { alloc := true, gen := 0, genC := 7, req := 0, c := 0, uid := uid })

/-- The one bay belongs to stall 1: no bay of the tide takes stall 0's access to HBM, and the step ends with cause 0x02. -/
theorem test_no_bay_left :
    let own := fun (w : LongWord) => { stocked with
      ctxs := [(0, { runner 1 with bcn := bcn0 w })], bufs := [heldBuf 1 1]
      tide := { stocked.tide with own := [0x1111111111111111, 0x1111111111111111] } }
    let l := own (lwOf 0 (sfi 0x36 7 4 8) 0 [])
    let st := own (lwOf 0 (sfi 0x37 2 4 (0x300008 - 0x100)) 0 [])
    let f := own (lwOf (6 * 2 ^ 58 + 9 * 2 ^ 42 + 2 * 2 ^ 30 + 4 * 2 ^ 24) 0 0 [])
    crossAt l 0 0x108 5000000 = none ∧ (ctxOf (after (.ld 0 .a 0) l) 0).cause = some 2 ∧
    crossAt st 0 0x300008 5000000 = none ∧ (ctxOf (after (.st 0 .a 0) st) 0).cause = some 2 ∧
    (ctxOf (after (.fetch 0 0) f) 0).cause = some 2 := by
  decide +kernel

/-! ### Engine queues -/

/-- The bytes of a descriptor whose fields are given as offset, length and value. -/
def desc (n : Nat) (fs : List (Nat × Nat × Nat)) : List Byte :=
  (List.range n).map fun i =>
    match fs.find? (fun f => decide (f.1 ≤ i) && decide (i < f.1 + f.2.1)) with
    | some f => BitVec.ofNat 8 (f.2.2 / 256 ^ (i - f.1))
    | none => 0

/-- Bytes in memory from an address on. -/
def memAt (a : Nat) (b : List Byte) : List Host.Cell := b.zipIdx.map fun p => (a + p.2, p.1)

/-- A command of an engine that has reached its queue, with its descriptor at 0x200. -/
def cmdOf (c cls inst : Nat) : Cmd :=
  { id := 1, c := c, uid := 1, cls := cls, inst := inst, addr := 0x200, len := 64, null := false, sigTal := 0, sigAdd := 0, arrive := 0,
    st := .queued, doneAt := 0, left := 0, desc := [], rows := [], next := 0, total := 0, unfixed := false }

/-- Attempts in contexts 0 and 2 and in 3, and a command of an engine with a descriptor in stall 0's HBM. -/
def queued (c cls inst : Nat) (d : List Byte) : State :=
  { stocked with
    mem := memAt 0x200 d, ctxs := [(0, runner 1), (2, runner 2), (3, runner 3)]
    cmds := [{ cmdOf c cls inst with uid := c + 1, len := d.length }] }

/-- An ALLOC of 2 buffers of class 4 by requester 0, its records at tile 0 of die 0. -/
def allocDesc : List Byte := desc 64 [(0, 1, 1), (1, 1, 4), (4, 4, 2), (16, 8, 0x200000000000)]

theorem test_engine_takes :
    let u := queued 0 10 0 allocDesc
    let m := { cmdOf 0 10 0 with uid := 1 }
    let w := { u with upsets := [(0x200 / 8, 2)] }
    headCmd u 0 10 0 = some m ∧ mayRead u 0 0x200 64 = true ∧ leNat (readMem u 0x200 1) = 1 ∧ readMem u 0x200 64 = allocDesc ∧
    grnDescOk u 0 allocDesc = true ∧
    (after (.alloc 0 0) u).grReqs.map (fun q => (q.op, q.count, q.result)) = [(1, 2, 0x200000000000)] ∧
    (after (.alloc 0 0) u).cmds.map (·.st) = [.running] ∧
    (after (.release 0 0) u).grReqs = [] ∧ (after (.release 0 0) u).pwr.fold = none ∧
    (after (.alloc 0 0) w).pwr.fold.isSome = true ∧
    headCmd u 1 10 0 = none ∧ (after (.alloc 1 0) u).grReqs = [] := by
  decide +kernel

/-- A descriptor with a reserved byte, one with a code that the class does not have, one out of reach, and one of 64 bytes where the
format has more are protection violations. -/
theorem test_bad_descriptors :
    let bad := queued 0 10 0 (desc 64 [(0, 1, 1), (1, 1, 4), (4, 4, 2), (16, 8, 0x200000000000), (63, 1, 1)])
    let code := queued 0 10 0 (desc 64 [(0, 1, 9)])
    let far := { queued 0 10 0 allocDesc with cmds := [{ cmdOf 0 10 0 with addr := 0x100000 }] }
    grnDescOk bad 0 (readMem bad 0x200 64) = false ∧ (after (.alloc 0 0) bad).pwr.fold.isSome = true ∧
    (after (.alloc 0 0) code).pwr.fold.isSome = true ∧ mayRead far 0 0x100000 64 = false ∧ (after (.alloc 0 0) far).pwr.fold.isSome = true := by
  decide +kernel

/-- In Flood mode the urgent command of the stall goes first (R167). -/
theorem test_urgent_first :
    let u := { queued 2 10 0 allocDesc with cmds := [{ cmdOf 2 10 0 with addr := 0x100000 }, { cmdOf 3 10 0 with id := 2, addr := 0x100000 }] }
    floodCtx u 2 = true ∧ (headCmd u 3 10 0).isSome = true ∧ (after (.alloc 2 0) u).cmds = u.cmds := by
  decide +kernel

/-- The seven operations of the Granary have a witness each. -/
theorem test_granary_operations :
    let ok := fun (op : Nat) (fs : List (Nat × Nat × Nat)) => grnDescOk stocked 0 (desc 64 ((0, 1, op) :: fs))
    let at_ := (16, 8, 0x200000000000)
    ok 2 [(8, 8, 0xFFFFFFFF00000000)] = true ∧ ok 3 [(1, 1, 7), (3, 1, 63), at_] = true ∧ ok 4 [(8, 8, 0xFFFFFFFF00000000), at_] = true ∧
    ok 5 [(1, 1, 7), (3, 1, 63), at_] = true ∧ ok 6 [(3, 1, 63), (8, 8, 4095), at_] = true ∧ ok 7 [(3, 1, 63), (8, 8, 4095), at_] = true ∧
    ok 1 [(1, 1, 7), (2, 1, 11), (4, 4, 64), at_] = true ∧ ok 1 [(1, 1, 7), (2, 1, 12), (4, 4, 64), at_] = false := by
  decide +kernel

/-- The moment of stall 0's rotation slot, with a request of context 0. -/
def serving (op slot handle cls : Nat) (bufs : List (Nat × Buf)) : State :=
  { stocked with
    ctxs := [(0, runner 1)], bufs := bufs
    grReqs := [{ cmd := 1, c := 0, uid := 1, order := 0, op := op, cls := cls, slot := slot, count := 1, handle := handle,
                 result := 0x200000000000, header := [], null := false, served := 0, got := [] }] }

/-- ALLOC with buffers 1 taken: index 2; with all four taken and no chain: cause 0x28. -/
theorem test_granary_alloc :
    let u := serving 1 0 0 4 [heldBuf 1 9]
    let w := serving 1 0 0 4 [heldBuf 1 9, heldBuf 2 9, heldBuf 3 9, heldBuf 4 9]
    let v := after (.granaryServe 0 0) u
    grnSlotNow u 0 = true ∧ (grnNext u 0).isSome = true ∧ (ctxOf u 0).committed = false ∧ u.grWrites = [] ∧
    (bufOf v (bufKey false 2 2)).alloc = true ∧ (bufOf v (bufKey false 2 2)).uid = 1 ∧
    v.grWrites.map (fun r => (r.addr, r.at_)) = [(0x200000000000, 5025000)] ∧
    bf (rget w .grnRsv 4) 40 40 = 0 ∧ (ctxOf (after (.granaryServe 0 0) w) 0).cause = some 0x28 := by
  decide +kernel

/-- Buffer 1 of pool 2 in class 4, generation 0: its handle with its complement. -/
def handle1 : Nat := 0x82000001 + 0x7DFFFFFE * 2 ^ 32

theorem test_granary_release_and_resolve :
    let u := serving 2 0 handle1 0 [heldBuf 1 1]
    let v := after (.granaryServe 0 0) u
    let w := after (.granaryServe 0 0) (serving 4 0 handle1 0 [heldBuf 1 1])
    checkHandle u 0 0x82000001 0x7DFFFFFE 0 0 = .ok ∧ handlePublished u 0 0x82000001 = false ∧
    (bufOf v (bufKey false 2 1)).alloc = false ∧ (bufOf v (bufKey false 2 1)).gen = 1 ∧
    w.grWrites.map (fun r => leNat (r.bytes.drop 8)) = [0x300000] := by
  decide +kernel

/-- STAGE of slot 63 with the class's reserve of requester 10 in pool 2; a second STAGE allocates nothing. -/
theorem test_granary_stage :
    let u := rput (serving 3 63 0 4 []) .grnRsv ((2#64 <<< 48) ||| (1#64 <<< 20) ||| 4) 84
    let v := after (.granaryServe 0 0) u
    let w := modCtx u 0 fun x => { x with staged := [63] }
    (pubOf u 0 63).kv = false ∧ (allocBuf u 10 0 1 8 4).isSome = true ∧ (ctxOf v 0).staged = [63] ∧ (pubOf v 0 63).side = false ∧
    (pubOf v 0 63).h1 = 0x82000001 ∧ (pubOf v 0 63).h0 = 0 ∧ (after (.granaryServe 0 0) w).bufs = [] := by
  decide +kernel

/-- The debug state is Proving and a Squall control acts on stalls 0 and 1. -/
def squalling (control : Nat) (s : State) : State :=
  rput (rput s .secStatus (1#64 <<< 60)) .sqlCtrl (0x300#64 ||| (1#64 <<< control))

/-- A request of Flood stall 1 in that stall's slot, with one more slot to pass, and with none. -/
theorem test_granary_deferral :
    let u := squalling 5 { serving 4 0 handle1 0 [heldBuf 1 1] with
      ctxs := [(2, runner 1)], grDefer := [(1, 1)]
      grReqs := [{ cmd := 1, c := 2, uid := 1, order := 16, op := 4, cls := 0, slot := 0, count := 1, handle := handle1,
                   result := 0x200000000000, header := [], null := false, served := 0, got := [] }] }
    let v := after (.granaryServe 1 5000625) u
    let w := after (.granaryServe 1 5000625) { u with grDefer := [(1, 0)] }
    grnSlotNow (u.at 5000625) 1 = true ∧ (grnNext u 1).isSome = true ∧ floodOf u 1 = true ∧ squallOn u 5 1 = true ∧
    v.grReqs = u.grReqs ∧ v.grDefer = [(1, 0)] ∧ w.grReqs = [] := by
  decide +kernel

/-! ### Haul -/

/-- A Haul descriptor between local addresses. -/
def haulOp (op src dst len : Nat) (more : List (Nat × Nat × Nat)) : List Byte :=
  desc 64 (more ++ [(0, 1, op), (4, 4, 1), (8, 8, src), (16, 8, dst), (32, 4, len)])

/-- COPY, FILL by the 8-byte pattern 0x0102030405060708 and COPY_2D of 2 rows, in their form. -/
theorem test_haul_forms :
    let u := queued 0 0 0 []
    let ok := fun (b : List Byte) => haulForm u (haulDesc b) b
    let t := 0x200000000000
    engineIdle u 0 0 = true ∧ ok (haulOp 1 0x100 t 64 []) = true ∧ ok (haulOp 2 0x0102030405060708 t 64 []) = true ∧
    ok (haulOp 3 0x100 t 64 [(4, 4, 2), (36, 4, 64), (40, 4, 128)]) = true ∧ ok (haulOp 1 0x101 t 64 []) = false ∧
    mayUse u 0 0x100 64 = true ∧ mayWrite u 0 t 64 = true ∧ boardChip t = chipOnBoard u := by
  decide +kernel

/-- What 8 bytes of a row become: the first source byte is 0x5A. -/
theorem test_haul_copies :
    let u := { queued 0 0 0 [] with mem := memAt 0x100 (0x5A :: List.replicate 15 7) }
    let t := 0x200000000000
    let d : HaulDesc := { haulDesc [] with op := 1, rows := 1, len := 8, srcStride := 8, dstStride := 16 }
    let go := fun (d : HaulDesc) => haulLocal 0 0 (cmdOf 0 0 0) d 0x100 t u
    u.upsets = [] ∧ bf (rget u .hltInject) 63 62 = 0 ∧ gate u 0 (haulRes 0 (placeOf 0x100) (placeOf t)) = .go ∧
    readMem (go d) t 2 = [0x5A, 7] ∧ readMem (go { d with op := 2, src := 0x0102030405060708 }) t 8 = [8, 7, 6, 5, 4, 3, 2, 1] ∧
    readMem (go { d with op := 3, rows := 2 }) (t + 16) 2 = [7, 7] := by
  decide +kernel

/-- TO_HOST from HBM is held; from a tile it is cause 0x0B; FROM_HOST asks for 512 bytes and the rest; without bus mastering, 0x63. -/
theorem test_haul_host :
    let h := fun (c op src dst : Nat) => queued c 0 0 (haulOp op src dst 576 [(if op = 4 then 2 else 1, 1, 3)])
    let u := h 0 4 0x100 0x1000
    let f := h 0 5 0x1FC0 0x200000000000
    let nb := { f with host := { f.host with fns := [] } }
    haulForm u (haulDesc (readMem u 0x200 64)) (readMem u 0x200 64) = true ∧ mayUse u 0 0x100 576 = true ∧ isHbm 0x100 = true ∧
    (ctxOf (after (.toHost 0 0 0) u) 0).held.map (fun x => (x.src, x.len, x.dst)) = [(0x100, 576, 0x1000)] ∧
    (ctxOf (after (.toHost 0 0 0) (h 0 4 0x200000000000 0x1000)) 0).cause = some 0x0B ∧
    haulForm f (haulDesc (readMem f 0x200 64)) (readMem f 0x200 64) = true ∧ (fnOf f 0).bme = true ∧
    (after (.fromHost 0 0 0) f).out.length = 2 ∧
    (ctxOf (after (.fromHost 0 0 0) nb) 0).cause = some 0x63 ∧
    (after (.copy 0 0 0) (queued 0 0 0 (haulOp 1 0x101 0x200000000000 64 []))).pwr.fold.isSome = true := by
  decide +kernel

/-- BC8's command at mover 31 of die 15, which no stall owns, and at a Neap stall's mover 0 from 4,000 ns after the sampling point on. -/
theorem test_steward_haul :
    let m := { cmdOf 16 0 31 with st := .running, left := 1, desc := haulOp 2 0x11 0x200100 64 [] }
    let u := { live with cmds := [m] }
    let w := { sampled with now := 990000000, cmds := [{ m with inst := 0 }] }
    stewardCmd u 31 = some m ∧ 8 ≤ cdOwner u 15 ∧ (after (.stewardHaulResume 31 0) u).cmds.map (·.left) = [0] ∧
    readMem (after (.stewardHaulResume 31 0) u) 0x200100 1 = [0x11] ∧
    cdOwner w 0 = 0 ∧ floodOf w 0 = false ∧ samplingPoint w + 4000000 ≤ w.now ∧
    (after (.stewardHaulResume 0 0) w).cmds.map (·.left) = [0] := by
  decide +kernel

/-! ### Tallies -/

/-- Two adds and a reset of one cycle (R283), an overflow, and a tally whose complement is wrong. -/
theorem test_tally_cycle :
    let x : Tally := { Tally.zero with value := 0xFFFFFFFF, comp := 0 }
    let u := { busy with tallies := [(3, x), (4, { x with comp := 1 })] }
    let v := tallyAdd (tallyReset (tallyAdd busy 0 3 5) 3) 0 3 6
    (tallyOf u 3).comp = 2 ^ 32 - 1 - (tallyOf u 3).value % 2 ^ 32 ∧ (tallyOf v 3).value = 11 ∧
    (ctxOf (tallyAdd u 0 3 1) 0).cause = some 0x30 ∧ (tallyOf (tallyAdd u 0 3 1) 3).value = 0xFFFFFFFF ∧
    (tallyOf (tallyReset u 3) 3).value = 0 ∧ (tallyAdd u 0 4 1).pwr.fold.isSome = true := by
  decide +kernel

theorem test_tally_commands :
    let d := fun (op : Nat) (fs : List (Nat × Nat × Nat)) => desc 64 ((0, 1, op) :: fs)
    let t := fun (u : State) => { u with tallies := [(3, { Tally.zero with value := 9, comp := 0xFFFFFFF6 })] }
    let add := t (queued 0 9 0 (d 1 [(2, 2, 3), (4, 4, 5)]))
    let rd := t (queued 0 9 0 (d 4 [(2, 2, 3), (8, 8, 0x200000000000)]))
    let rs := t (queued 0 9 0 (d 2 [(2, 2, 3)]))
    talDescOk add 0 (talDesc (readMem add 0x200 64)) (readMem add 0x200 64) = true ∧
    (tallyOf (after (.tallyAdd 0 0) add) 3).value = 14 ∧ (after (.tallyAdd 0 0) add).cmds.map (·.st) = [.finished] ∧
    (tallyOf (after (.tallyReset 0 0) rs) 3).value = 0 ∧
    (tallyOf (after (.tallyReset 0 0) { rs with cmds := rs.cmds.map fun m => { m with null := true } }) 3).value = 9 ∧
    readMem (after (.tallyRead 0 0) rd) 0x200000000000 8 = [9, 0, 0, 0, 0xF6, 0xFF, 0xFF, 0xFF] ∧
    (after (.tallyAdd 0 0) (queued 0 9 0 (d 1 [(2, 2, 300), (4, 4, 5)]))).pwr.fold.isSome = true := by
  decide +kernel

/-- REMOTE_ADD to chip 0, this one, and to chip 1 of a board of 8, over port 0. -/
theorem test_remote_add_command :
    let d := fun (chip : Nat) => desc 64 [(0, 1, 3), (1, 1, chip), (2, 2, 3), (4, 4, 5)]
    let u := fun (chip : Nat) =>
      let q := queued 0 9 0 (d chip)
      modPort { rput q .dklCfg 1 with plan := { q.plan with target := 0x10 } } 0 fun p => { p with st := 4 }
    (tallyOf (after (.remoteAdd 0 0) (u 0)) 3).value = 5 ∧ activeTo (u 1) 1 = [0] ∧
    (after (.remoteAdd 0 0) (u 1)).cmds.map (fun m => (m.st, m.left)) = [(.running, 1)] ∧ (after (.remoteAdd 0 0) (u 1)).tallies = [] := by
  decide +kernel

/-- A remote add of 5 to tally 3 of stall 0, for step s and attempt a, the first of VC0 at port 31. -/
def remote (s a amount comp : Nat) : State :=
  let b := desc 48 [(0, 1, 1), (17, 1, 16 * a), (18, 2, s), (20, 2, 3), (22, 2, 0xFFFC), (24, 4, amount), (28, 4, comp)]
  modPort busy 31 fun p =>
    { p with st := 4, rx := [(0, { RxChan.clear with units := [{ bytes := b, from_ := 0, due := none }] })] }

/-- Applied to the running attempt 0 of step 5, parked for attempt 1 and for step 6, stale for step 4; with a wrong complement, for a
stall that does not exist, in the fence, before the stall has run, and into a full park. -/
theorem test_remote_adds :
    let go := fun (u : State) => after (.remoteAddMsg 31 0) u
    let ok := remote 5 0 5 0xFFFFFFFA
    let full := setPark (remote 6 0 5 0xFFFFFFFA) 0 { adds := List.replicate 64 { step := 6, attempt := 0, index := 3, amount := 1 }, lost := [] }
    (headUnit ok 31 0).isSome = true ∧ assigned ok 0 = true ∧ inFence ok = false ∧ (ctxOf ok 0).ranThisTide = true ∧
    (tallyOf (go ok) 3).value = 5 ∧ (parkOf (go (remote 5 1 5 0xFFFFFFFA)) 0).adds.length = 1 ∧
    (parkOf (go (remote 6 0 5 0xFFFFFFFA)) 0).adds.length = 1 ∧ rfield (go (remote 4 0 5 0xFFFFFFFA)) .talDrop 31 0 = 1 ∧
    (go (remote 5 0 5 0)).pwr.fold.isSome = true ∧ rfield (go full) .talDrop 63 48 = 1 ∧ (parkOf (go full) 0).lost = [6] ∧
    rfield (go { ok with regs := [] }) .talDrop 47 32 = 1 ∧
    rfield (go { ok with tide := { ok.tide with sampled := true } }) .talDrop 31 0 = 1 ∧
    (parkOf (go { ok with ctxs := [] }) 0).adds.length = 1 := by
  decide +kernel

/-! ### Matrix tiles and vector units -/

/-- The tile SRAM of die 0 and of die 1. -/
def t0 : Nat := 0x200000000000
def t1 : Nat := 0x200004000000

/-- A running command of tile or vector unit k with its descriptor and one piece. -/
def running (c cls k : Nat) (d : List Byte) (mem : List Host.Cell) : State :=
  { live with
    mem := mem, ctxs := [(0, runner 1), (2, runner 2)]
    cmds := [{ cmdOf c cls k with st := .running, addr := if c = 0 then t0 else t1, len := d.length, desc := d, rows := [1], left := 1, total := 1 }] }

/-- A matrix descriptor with M = N = 1 and K = 2. -/
def mtx (op fa fb fc t : Nat) (more : List (Nat × Nat × Nat)) : List Byte :=
  desc 128 (more ++ [(0, 1, op), (1, 1, fa), (2, 1, fb), (3, 1, fc), (6, 2, 1), (8, 4, 1), (12, 4, 1), (16, 4, 2),
    (24, 8, t + 0x100), (32, 8, t + 0x200), (40, 8, t + 0x300)])

/-- A is (3, −2) and B (5, 7) in int8. -/
def ab (t : Nat) : List Host.Cell := [(t + 0x100, 3), (t + 0x101, 0xFE), (t + 0x200, 5), (t + 0x201, 7)]

/-- GEMM and GROUPED: 3 × 5 − 2 × 7 = 1; the tile is busy for the descriptor's 6, 32 and the array's 1 cycle (R319). -/
theorem test_gemm :
    let m := (running 0 1 0 (mtx 1 8 8 0x11 t0 []) (ab t0))
    let u := after (.gemm 0 0 0 0) m
    let g := after (.grouped 0 0 0 0) (running 0 1 0 (mtx 2 8 8 0x11 t0 []) (ab t0))
    listCmds m 0 1 = [] ∧ fallow m 0 = false ∧ busyTill m 1 0 ≤ m.now ∧ (directWork m 1 0).length = 1 ∧
    (mtxPieces true (mtxDesc (mtx 1 8 8 0x11 t0 [])) [1])[0]? = some (0, 0, 0) ∧
    pieceOnDie (mtxDesc (mtx 1 8 8 0x11 t0 [])) (m.cmds.headD (cmdOf 0 1 0)) 0 0 0 0 = true ∧ gate m 0 [] = .go ∧
    readMem u (t0 + 0x300) 4 = [1, 0, 0, 0] ∧ u.cmds.map (·.st) = [.finished] ∧ busyTill u 1 0 = 5000000 + 39 * 625 ∧
    readMem g (t0 + 0x300) 4 = [1, 0, 0, 0] := by
  decide +kernel

/-- SPLIT of one sheaf writes its partial; a loose one leaves the tile; COMBINE of 1 and 5 is 6. -/
theorem test_split_and_combine :
    let s := after (.split 0 0 0 0) (running 0 1 0 (mtx 3 8 8 0x11 t0 [(22, 2, 1)]) (ab t0))
    let l := after (.split 2 8 0 0) (running 2 1 8 (mtx 3 8 8 0x10 t1 [(4, 2, 4), (22, 2, 1)]) (ab t1))
    let parts := [(t0 + 0x100, 1#8), (t0 + 0x140, 5)]
    let c := after (.combine 0 0 0 0) (running 0 1 0 (mtx 4 0x11 0 0x11 t0 [(22, 2, 2), (16, 4, 0), (96, 8, 0x40)]) parts)
    readMem s (t0 + 0x300) 4 = [1, 0, 0, 0] ∧ l.tiles.loose.map (fun x => (x.sheaf, x.adds)) = [(0, [(t1 + 0x300, [0x3F800000])])] ∧
    l.cmds.map (·.left) = [1] ∧ readMem c (t0 + 0x300) 4 = [6, 0, 0, 0] := by
  decide +kernel

/-- A null command writes nothing. -/
theorem test_null_piece :
    let u := running 0 1 0 (mtx 1 8 8 0x11 t0 []) (ab t0)
    (after (.gemm 0 0 0 0) { u with cmds := u.cmds.map fun m => { m with null := true } }).mem = u.mem := by
  decide +kernel

/-- The first claim of stall 1 goes to unit 8; under ARB 1, with unit 8 busy lately, to unit 9. -/
theorem test_worklist_claim :
    let u := { live with ctxs := [(2, runner 2)], cmds := [{ cmdOf 2 1 0xFF with st := .running, total := 2, left := 2 }] }
    let w := { rput u .stlCtrl 7 1 with tiles := { u.tiles with busy := [(8, 3000000)] } }
    let v := { u with cmds := [{ cmdOf 2 2 0xFF with st := .running, total := 2, left := 2 }] }
    floodCtx u 2 = true ∧ (listNext u 2 1).isSome = true ∧ listNext u 3 1 = none ∧ unitFree u 1 8 = true ∧ arbOf u 1 = false ∧
    (after (.worklistClaim 2 8 false 0) u).tiles.pieces.map (fun p => (p.unit, p.piece, p.at_)) = [(8, 0, 5015000)] ∧
    arbOf w 1 = true ∧ (after (.worklistClaim 2 9 false 0) w).tiles.pieces.map (·.unit) = [9] ∧
    (after (.worklistClaim 2 8 true 0) v).tiles.pieces.map (·.unit) = [8] := by
  decide +kernel

/-- With the WORKLIST control the shift register, 2 and then 1, picks the second free unit of stall 1. -/
theorem test_worklist_claim_drawn :
    let u := { squalling 3 live with
      ctxs := [(2, runner 2)], lfsr := 2, cmds := [{ cmdOf 2 1 0xFF with st := .running, total := 2, left := 2 }] }
    let v := after (.worklistClaim 2 9 false 0) u
    squallOn u 3 1 = true ∧ lfsrNext u.lfsr = 1 ∧ v.tiles.pieces.map (·.unit) = [9] ∧ v.lfsr = 1 ∧ rget v .sqlStat = 1 ∧
    (after (.worklistClaim 2 8 false 0) u).tiles.pieces = [] := by
  decide +kernel

/-- 1.0 is added to 2.0; an add that is not of the lowest sheaf is counted. -/
theorem test_loose_add :
    let x : LooseAdd := { cmd := 1, c := 2, uid := 2, trk := 0, block := 0, sheaf := 0, unit := 8, adds := [(t1, [0x3F800000])] }
    let u := { live with
      ctxs := [(2, runner 2)], cmds := [{ cmdOf 2 1 8 with st := .running, left := 1 }]
      mem := [(t1 + 3, 0x40)], tiles := { live.tiles with loose := [x] } }
    let w := { u with tiles := { u.tiles with loose := [{ x with sheaf := 1 }] } }
    looseReady u x = true ∧ u.memOk ∧ u.upsets = [] ∧ u.regsOk ∧ leNat (readMem (after (.looseAdd 2 0 0) u) t1 4) = 0x40400000 ∧
    (after (.looseAdd 2 0 0) u).cmds.map (·.st) = [.finished] ∧ rget (after (.looseAdd 2 0 0) u) .mtxLoose 1 = 0 ∧
    rfield (after (.looseAdd 2 0 0) w) .mtxLoose 31 0 1 = 1 := by
  unfold State.memOk State.regsOk; decide +kernel

/-- An operation of a vector program. -/
def vop (opc dst a b c fmt imm : Nat) : VOp :=
  { opc := opc, dst := dst, a := a, b := b, c := c, fmt := fmt, rowEnd := false, rowScalar := false, stream := 0, modRest := 0, imm := imm }

/-- CONST 1.0, ADD of it to itself, ST of the one column as fp32: 2.0; the unit is busy for 12, 8 and 3 cycles. -/
theorem test_vector_program :
    let d := desc 112 [(0, 1, 0x10), (1, 1, 3), (4, 4, 1), (8, 4, 1), (40, 8, t0 + 0x300), (64, 1, 0x0B), (65, 1, 1), (72, 4, 0x3F800000),
      (80, 1, 4), (81, 1, 2), (82, 1, 1), (83, 1, 1), (96, 1, 2), (98, 1, 2), (101, 1, 0x10)]
    let u := running 0 2 0 d []
    let v := after (.program 0 0 0 0) u
    vForm u 0 112 (vDesc d) d = true ∧ vOnDie (vDesc d) (u.cmds.headD (cmdOf 0 2 0)) 0 [0] = true ∧
    leNat (readMem v (t0 + 0x300) 4) = 0x40000000 ∧ v.cmds.map (·.st) = [.finished] ∧ busyTill v 2 0 = 5000000 + 23 * 625 := by
  decide +kernel

/-- One lane of the operations on 1.5 in VR1, 2.0 in VR2 and 1.5 in VR3, and an LD of 2.0 from memory. -/
theorem test_vector_operations :
    let reg := fun (v : Nat) => List.replicate 64 v
    let u0 : VUnit := { vr := [(1, reg 0x3FC00000), (2, reg 0x40000000), (3, reg 0x3FC00000)], ra := [] }
    let r : VRun := { u := u0, s := { live with mem := [(t0 + 3, 0x40)] } }
    let d : VDesc := { nops := 1, rows := 1, cols := 1, ins := [t0, 0, 0], out := 0, strides := [0, 0, 0, 0], ops := [] }
    let p : VAt := { n := 0, step := 0, row := 0, chunk := 0, present := 1 }
    let lane0 := fun (o : VOp) => (vrGet (vStep d false p r o).u 7).getD 0 0
    (vrGet u0 1).length = 64 ∧ lane0 (vop 3 7 1 2 3 0 0) = 0x40900000 ∧ lane0 (vop 4 7 1 2 0 0 0) = 0x40600000 ∧
    lane0 (vop 5 7 1 2 0 0 0) = 0xBF000000 ∧ lane0 (vop 6 7 1 2 0 0 0) = 0x40400000 ∧ lane0 (vop 7 7 1 2 0 0 0) = 0x40000000 ∧
    lane0 (vop 8 7 1 2 0 0 0) = 0x3FC00000 ∧ lane0 (vop 0x0B 7 0 0 0 0 0x40000000) = 0x40000000 ∧
    lane0 (vop 1 7 0 0 0 0x10 0) = 0x40000000 := by
  decide +kernel

/-! ### Winnow and the census -/

/-- Cells of tile memory: the bytes that are not 0. -/
def tileMem (l : List (Nat × List Byte)) : List Host.Cell := (l.flatMap fun x => memAt x.1 x.2).filter fun x => x.2 != 0

/-- ROUTE of one token over 2 experts with K = 1: logits 0 and 1.0, so expert 1 is chosen; OUT is at 0x400 of tile 0. -/
def routeDesc (k : Nat) : List Byte :=
  desc 64 [(0, 1, 1), (2, 1, k), (3, 1, 1), (4, 2, 2), (6, 2, 1), (8, 1, 1), (10, 1, 0x10), (12, 4, 1), (20, 4, 64), (24, 8, t0 + 0x300),
    (48, 8, t0 + 0x400), (60, 4, 0x3F800000)]

theorem test_route :
    let u := { queued 0 3 0 (routeDesc 1) with mem := memAt 0x200 (routeDesc 1) ++ tileMem [(t0 + 0x304, [0, 0, 0x80, 0x3F])] }
    let d := winDesc (routeDesc 1)
    winForm d (routeDesc 1) = true ∧ (winReads d).all (fun p => mayUse u 0 p.1 p.2) = true ∧ mayWrite u 0 d.out 16 = true ∧
    gate u 0 (ddRes 0 [d.z, d.out]) = .go ∧ u.upsets = [] ∧ engineIdle u 3 0 = true ∧
    winForm (winDesc (routeDesc 9)) (routeDesc 9) = false := by
  decide +kernel

/-- Of σ = 1, 2, 2 the two best are experts 1 and 2; a NaN among them removes every choice. -/
theorem test_winnow_choices :
    let d := { winDesc (routeDesc 2) with e := 3 }
    let one := Fp.fin false 1 0
    let two := Fp.fin false 1 1
    winChoices d [one, one, one] [one, two, two] = ([1, 2], false) ∧ winChoices d [one, one, one] [one, .nan, two] = ([], true) ∧
    [one, two, two].length = d.e := by
  decide +kernel

/-- A census descriptor of 1 expert for the chips of a mask, led by `lead`: LOCAL, GROUP and OUT in tile 0. -/
def censusDesc (mask lead : Nat) : List Byte :=
  desc 64 [(0, 1, 1), (2, 1, lead), (3, 1, 1), (4, 2, mask), (6, 2, 1), (8, 2, 0x100), (10, 2, 0x100), (12, 1, 1), (14, 2, 1),
    (16, 4, 16), (24, 8, t0 + 0x1000), (32, 8, t0 + 0x2000), (40, 8, t0 + 0x3000)]

/-- Chip 0 of a board of 8, whose port 0 leads to chip 1; an attempt in context 0 with a command of an engine. -/
def board (cls : Nat) (d : List Byte) (mem : List Host.Cell) : State :=
  modPort { rput live .dklCfg 1 with
    mem := tileMem [(t0 + 0x100, d)] ++ mem, plan := { live.plan with target := 0x10 }, ctxs := [(0, runner 1)]
    cmds := [{ cmdOf 0 cls 0 with addr := t0 + 0x100 }] } 0 fun p => { p with st := 4 }

/-- CENSUS of the chips 0 and 1: the counts are read, cleared and kept as this chip's census; with an unknown lead it is malformed. -/
theorem test_census :
    let u := board 11 (censusDesc 3 0) (tileMem [(t0 + 0x1040, [7])])
    let v := after (.census 0 0) u
    let d := cenDesc (censusDesc 3 0)
    cenForm u 0 d (censusDesc 3 0) = true ∧ mayUse u 0 d.loc (lsize 1) = true ∧ mayWrite u 0 d.group (16 * lsize 1) = true ∧
    u.upsets = [] ∧ activeTo u 1 = [0] ∧ Tab.find 0 u.bank = none ∧
    (ctxOf v 0).cen.map (fun r => (r.cmd, r.start, (Tab.find 0 r.got).isSome)) = some (1, 5000000, true) ∧
    readByte v (t0 + 0x1040) = 0 ∧ cenForm u 0 (cenDesc (censusDesc 3 2)) (censusDesc 3 2) = false ∧
    (after (.census 0 0) { u with cmds := u.cmds.map fun m => { m with null := true } }).cmds.map (·.st) = [.finished] := by
  decide +kernel

/-- A census round of context 0 that started at 0, led by `lead`, complete at a moment or not. -/
def round (lead : Nat) (complete : Option Nat) : State :=
  let u := board 11 (censusDesc 3 lead) []
  let r : CensusRun := { cmd := 1, desc := censusDesc 3 lead, start := 0, got := [], complete := complete, total := 10, seq := 1
                         written := true, fwd := none }
  { modCtx u 0 (fun x => { x with cen := some r }) with
    now := 90000000, host := { u.host with posted := [(32, 0)] } }

/-- WAIT is 1 µs; the window is 0, so a peer waits 20 µs; the lead's default has CF 1.0 and T = 10: B = 16. -/
theorem test_census_ends :
    let l := round 0 (some 0)
    let v := after (.answerWindowExpire 0 0) l
    (ctxOf (after (.censusTimeout 0 0) (round 0 none)) 0).cause = some 0x40 ∧
    (ctxOf (after (.verdictLost 0 0) (round 1 (some 0))) 0).cause = some 0x41 ∧
    windowOpen l 0 = some 0 ∧ noWindow (ctxOf l 0) (cenDesc (censusDesc 3 0)) = false ∧ l.upsets = [] ∧
    mayWrite l 0 (t0 + 0x3000) 68 = true ∧ (ctxOf v 0).cen = none ∧ leNat (readMem v (t0 + 0x3040) 4) = 16 ∧
    bf (rget v .winLast) 19 18 = 1 := by
  decide +kernel

/-- The 64 bytes of a verdict of step 5 with CF 1.0 and a CENSUS_SEQ. -/
def verdictBytes (seq : Nat) : List Byte :=
  let h := desc 16 [(0, 2, 5), (4, 2, 0x100), (8, 4, seq)]
  h ++ h.map (~~~ ·) ++ zeros 32

/-- The lead's verdict in its window is applied; one of another round is stray; one that is not valid is counted. -/
theorem test_verdict :
    let l := { round 0 (some 0) with now := 600 }
    let v := after (.verdictDb 0 64 (verdictBytes 1) 0) l
    reachable l (.vf 0) = true ∧ (fnOf l 0).bme = true ∧ verdictValid 1 (verdictBytes 1) = true ∧
    (ctxOf v 0).cen = none ∧ leNat (readMem v (t0 + 0x3040) 4) = 16 ∧ bf (rget v .winLast) 19 18 = 0 ∧
    rfield (after (.verdictDb 0 64 (verdictBytes 2) 0) live) .winVerdict 7 0 = 1 ∧
    rfield (after (.verdictDb 0 64 (zeros 64) 0) live) .winVerdict 15 8 = 1 ∧
    rfield (after (.verdictDb 0 64 (verdictBytes 1) 0) { live with opened := [(0, [1])] }) .winVerdict 31 16 = 1 ∧
    rfield (after (.verdictDb 0 64 (verdictBytes 1) 0) (round 0 (some 0))) .winVerdict 31 16 = 1 := by
  decide +kernel

/-- A message of a type for context 0, the first of VC0 at port 0 of a state. -/
def arrives (u : State) (type : Nat) (body : List Byte) : State :=
  let b := desc 16 [(0, 1, type)] ++ body
  modPort u 0 fun p => { p with st := 4, rx := [(0, { RxChan.clear with units := [{ bytes := b, from_ := 0, due := none }] })] }

/-- A census of chip 1 for step 5 with no experts' counts. -/
def censusBytes (step crc : Nat) : List Byte := desc 80 [(0, 2, step), (3, 1, 1), (24, 4, crc)]

/-- It completes the round's group or waits in the bank for the next step; with a wrong CRC it is a mismatch; in the fence it is stale. -/
theorem test_census_message :
    let crc := crc32 (zeros 16)
    let u := modCtx (round 0 none) 0 fun x => { x with cen := x.cen.map fun r => { r with desc := censusDesc 7 0 } }
    let bad := modCtx (round 0 none) 0 fun x => { x with cen := x.cen.map fun r => { r with got := [(0, desc 80 [(4, 1, 9)])] } }
    let go := fun (u : State) (b : List Byte) => after (.censusMsg 0 0) (arrives u 2 b)
    headUnit (arrives u 2 (censusBytes 5 crc)) 0 0 ≠ none ∧
    (ctxOf (go u (censusBytes 5 crc)) 0).cen.map (fun r => (Tab.find 1 r.got).isSome) = some true ∧
    (ctxOf (go bad (censusBytes 5 crc)) 0).cause = some 0x42 ∧ (Tab.find 1 (go busy (censusBytes 6 crc)).bank).isSome = true ∧
    rfield (go busy (censusBytes 9 crc)) .winCensus 63 48 = 1 ∧
    rfield (go { busy with tide := { busy.tide with sampled := true } } (censusBytes 6 crc)) .winCensus 63 48 = 1 ∧
    (go busy (censusBytes 6 (crc + 1))).pwr.fold.isSome = true := by
  decide +kernel

/-- A forwarded verdict at a peer: it waits for the group, or is applied, or is kept for the next step; a wrong complement is a mismatch. -/
theorem test_verdict_message :
    let go := fun (u : State) (b : List Byte) => after (.verdictMsg 0 0) (arrives u 3 b)
    let next := let h := desc 16 [(0, 2, 6)]; h ++ h.map (~~~ ·) ++ zeros 32
    let far := let h := desc 16 [(0, 2, 9)]; h ++ h.map (~~~ ·) ++ zeros 32
    ((ctxOf (go (round 1 none) (verdictBytes 1)) 0).cen.map fun r => r.fwd.isSome) = some true ∧
    (ctxOf (go (round 1 (some 0)) (verdictBytes 1)) 0).cen = none ∧
    leNat (readMem (go (round 1 (some 0)) (verdictBytes 1)) (t0 + 0x3040) 4) = 16 ∧
    (Tab.find 16 (go busy next).bank).isSome = true ∧ rfield (go busy far) .winCensus 63 48 = 1 ∧
    (go busy (zeros 64)).pwr.fold.isSome = true := by
  decide +kernel

/-! ### Dispatch and combine -/

/-- A plan of one token, K = 1 and one expert, with 64-byte payloads, its areas in tile 0. -/
def planBytes (experts : Nat) : List Byte :=
  desc 256 [(0, 1, 1), (1, 1, 1), (2, 2, 1), (4, 2, 1), (6, 2, 3), (8, 4, 1), (16, 2, 1), (18, 2, experts), (20, 4, 4), (25, 1, 1),
    (27, 1, 1), (32, 8, t0 + 0x2000), (40, 8, t0 + 0x3000), (48, 8, t0 + 0x4000), (56, 8, t0 + 0x5000), (64, 8, t0 + 0x6000),
    (72, 8, t0 + 0x7000), (80, 8, t0 + 0x8000), (88, 8, t0 + 0x9000), (96, 8, t0 + 0xA000), (104, 8, t0 + 0xB000),
    (112, 8, t0 + 0xC000), (136, 4, 64), (140, 4, 0x100), (144, 4, 64)]

/-- A Thresher, Ferry or Gleaner descriptor over that plan. -/
def dispBytes (op dest count loc : Nat) : List Byte := desc 64 [(0, 1, op), (2, 2, dest), (8, 4, count), (16, 8, t0 + 0x1000), (24, 8, loc)]

/-- The plan in memory with k_a = 1, a capacity, and a group count of chip 1 or 0 for the expert. -/
def planMem (experts chip n cap : Nat) (more : List (Nat × List Byte)) : List Host.Cell :=
  (tileMem ([(t0 + 0x1000, planBytes experts), (t0 + 0x3000 + 128 * chip + 64, [BitVec.ofNat 8 n]), (t0 + 0x4004, [1]),
    (t0 + 0x4040, [BitVec.ofNat 8 cap])] ++ more))

/-- HISTOGRAM: one choice of expert 0 at rank 0 is added; with 32,768 tokens counted already it is CENSUS_OVER. -/
theorem test_histogram :
    let d := dispBytes 1 0 1 (t0 + 0xD000)
    let u := board 4 d (planMem 1 0 0 0 [])
    let w := board 4 d (planMem 1 0 0 0 [(t0 + 0xD009, [0x80])])
    let v := after (.histogram 0 0 0) u
    dPlan (readMem u (t0 + 0x1000) 256) = dPlan (planBytes 1) ∧ planForm u (dPlan (planBytes 1)) (planBytes 1) = true ∧
    mayUse u 0 (t0 + 0x1000) 256 = true ∧ dispForm false true (dispDesc d) d = true ∧ engineIdle u 4 0 = true ∧
    leNat (readMem v (t0 + 0xD008) 4) = 1 ∧ leNat (readMem v (t0 + 0xD040) 2) = 1 ∧
    (ctxOf (after (.histogram 0 0 0) w) 0).cause = some 0x43 := by
  decide +kernel

/-- SCATTER of a choice that is kept: one return slot is PENDING; two rows where one fits is RECV_OVER. -/
theorem test_scatter :
    let d := dispBytes 2 0 1 0
    let u := board 4 d (planMem 1 0 1 1 [])
    let v := after (.scatter 0 0 0) u
    (roundInfo u (dPlan (planBytes 1))).mapOk 0 = true ∧ (roundInfo u (dPlan (planBytes 1))).fate 0 0 = .keep ∧
    (ctxOf v 0).disp.scat.isSome = true ∧ (ctxOf v 0).disp.pendW = 1 ∧ v.cmds.map (·.st) = [.finished] ∧
    (ctxOf (after (.scatter 0 0 0) (board 4 d (planMem 1 0 2 2 []))) 0).cause = some 0x48 ∧
    (after (.scatter 0 0 0) { u with cmds := u.cmds.map fun m => { m with null := true } }).mem = u.mem := by
  decide +kernel

/-- EXCHANGE sends the one record for chip 1 on VC2 of port 0; with no port it is NO_ROUTE. -/
theorem test_exchange :
    let d := dispBytes 1 2 0 0
    let ff := List.replicate 8 (0xFF : Byte)
    let u := board 5 d (planMem 0 0 1 1 [(t0 + 0x5000, [1]), (t0 + 0x7108, ff)])
    let v := after (.exchange 0 0 0) u
    stallPorts u 0 1 = [0] ∧ fryIdle u 0 0 = true ∧ (roundInfo u (dPlan (planBytes 0))).sentTo 0 1 = 1 ∧
    (Tab.getD (TxChan.clear 0) 2 (portOf v 0).tx).units.map (·.bytes.length) = [96] ∧ (ctxOf v 0).disp.exch.isSome = true ∧
    (ctxOf (after (.exchange 0 0 0) { u with ports := [] }) 0).cause = some 0x4A := by
  decide +kernel

/-- RETURN of the row that came from chip 1. -/
theorem test_return :
    let d := dispBytes 2 0 1 0
    let ff := List.replicate 8 (0xFF : Byte)
    let entry := leBytes 8 (t0 + 0xE000) ++ leBytes 8 (t0 + 0xE100) ++ leBytes 8 (t0 + 0xE200)
    let u := board 5 d (planMem 1 1 1 1 [(t0 + 0xA000, entry), (t0 + 0xE008, ff), (t0 + 0xE01A, [1])])
    let v := after (.returnC 0 0 0) u
    (returnsOf u (roundInfo u (dPlan (planBytes 1))) 0).map (fun r => (r.1, tagSound r.2.2)) = [(1, true)] ∧
    (Tab.getD (TxChan.clear 0) 1 (portOf v 0).tx).units.map (·.bytes.length) = [96] ∧
    (ctxOf (after (.returnC 0 0 0) { u with ports := [] }) 0).cause = some 0x4A := by
  decide +kernel

/-- Gleaner's COMBINE: a slot that was dropped (state 2) adds nothing; one still PENDING is RETURN_MISSING. -/
theorem test_gleaner_combine :
    let d := dispBytes 1 0 1 0
    let ff := List.replicate 8 (0xFF : Byte)
    let u := fun (state : Byte) => board 6 d (planMem 1 0 0 0 [(t0 + 0x8008, ff), (t0 + 0x8018, [state])])
    engineIdle (u 0x20) 6 0 = true ∧ (after (.gleanerCombine 0 0 0) (u 0x20)).cmds.map (·.st) = [.finished] ∧
    (ctxOf (after (.gleanerCombine 0 0 0) (u 0x20)) 0).cause = none ∧
    (ctxOf (after (.gleanerCombine 0 0 0) (u 0)) 0).cause = some 0x4C := by
  decide +kernel

/-! ### Arrivals -/

/-- The bytes of a record header for step 5 of stall 0: length, FLAGS of byte 24, the chips of byte 26 and the CRC. -/
def header (len flags chips crc : Nat) : List Byte :=
  desc 32 [(0, 8, 5 * 2 ^ 52), (8, 8, 2 ^ 64 - 1 - 5 * 2 ^ 52), (18, 2, len), (24, 1, flags), (26, 1, chips), (30, 2, crc)]

/-- A record of 64 zeros for expert 0, row 0 of this chip, from chip 1, in state 1. -/
def record : List Byte := header 1 0x10 1 12851 ++ (zeros 32 ++ zeros 32)

/-- Its CRC, over the first 30 bytes and the payload (R420), in three parts. -/
theorem test_record_is_sound : recSound record = true ∧ tagSound record = true := by
  have a : crcMsb 16 0x1021 0xFFFF (record.take 30) = 64945 := by decide +kernel
  have b : crcMsb 16 0x1021 64945 (zeros 32) = 63704 := by decide +kernel
  have c : crcMsb 16 0x1021 63704 (zeros 32) = 12851 := by decide +kernel
  have d : record.drop 32 = zeros 32 ++ zeros 32 := by decide +kernel
  have e : fieldAt record 30 2 = 12851 := by decide +kernel
  refine ⟨?_, by decide +kernel⟩
  unfold recSound crc16
  unfold crcMsb at *
  rw [e, d, List.foldl_append, List.foldl_append, a, b, c]
  rfl

/-- A unit as the first of a channel of port 0 of a state; port 0 leads to chip 1 and belongs to stall 0. -/
def unitAt (u : State) (vc : Nat) (b : List Byte) : State :=
  modPort u 0 fun p => { p with st := 4, rx := [(vc, { RxChan.clear with units := [{ bytes := b, from_ := 0, due := none }] })] }

/-- The board with an EXCHANGE that waits in context 0 over a plan of one local expert, and a SCATTER with the return header of its token
in a state. -/
def exchanging (slot : List Byte) : State :=
  let u := board 5 (dispBytes 1 2 0 0) (planMem 1 1 1 1 [(t0 + 0x8000, slot), (t0 + 0xA000,
    leBytes 8 (t0 + 0xE000) ++ leBytes 8 (t0 + 0xE100) ++ leBytes 8 (t0 + 0xE200))])
  modCtx u 0 fun x => { x with disp := { x.disp with
    exch := some { round := 0, plan := planBytes 1, rows := [], settled := [] }, waits := [{ cmd := 1, dir := 0, round := 0, dests := [] }]
    scat := some (0, planBytes 1) } }

/-- A record that may be placed at row 0 of expert 0: nothing is wrong with it, and its row is free; it is sound, as shown above. -/
theorem test_record_place :
    let u := unitAt (exchanging []) 2 record
    let i := roundInfo u (dPlan (planBytes 1))
    classifyRec u record = .place ∧ ownerOfPort u 0 = 0 ∧ (recHead record).holder = chipOnBoard u ∧
    (recHead record).state = 1 ∧ (recHead record).len = 1 ∧ record.length = (dPlan (planBytes 1)).recLen ∧ i.holder 0 = 0 ∧ i.rows 0 = 1 ∧
    recvEntry u (dPlan (planBytes 1)) 0 = (t0 + 0xE000, t0 + 0xE100, t0 + 0xE200) ∧ mayWrite u 0 (t0 + 0xE000) 32 = true ∧
    mayWrite u 0 (t0 + 0xE100) 64 = true ∧ gate u 0 (ddRes 0 [t0 + 0xA000]) = .go ∧ u.upsets = [] := by
  decide +kernel

/-- A record with no payload is a conflict at a row; one whose CRC is wrong is a mismatch; one for a stall that does not exist, or in the
fence, is counted. -/
theorem test_record_conflict :
    let h := header 0 0x28 0 43710
    let go := fun (u : State) (b : List Byte) => after (.dispatchRecordArrival 0 0) (unitAt u 2 b)
    (go (exchanging []) (header 0 0x28 0 0)).pwr.fold.isSome = true ∧
    rgetX (go { exchanging [] with regs := [] } h) .fryDrop 0 0 = 1#64 <<< 32 ∧
    rgetX (go { exchanging [] with tide := { live.tide with sampled := true } } h) .fryDrop 0 0 = 1 := by
  decide +kernel

/-- A return of state 2 fills the PENDING slot of its tag; where the slot is filled already it is a duplicate, where it has another tag
a conflict. -/
theorem test_return_arrival :
    let h := header 0 0x28 0 43710
    let go := fun (slot : List Byte) => after (.returnArrival 0 0) (unitAt (exchanging slot) 1 h)
    (ctxOf (go (header 0 0 0 0)) 0).disp.pendF = 1 ∧ readMem (go (header 0 0 0 0)) (t0 + 0x8018) 1 = [0x28] ∧
    rgetX (go (header 0 0x20 0 0)) .fryDrop 0 0 = 1#64 <<< 48 ∧
    (ctxOf (go (desc 32 [(8, 8, 2 ^ 64 - 1)])) 0).cause = some 0x4B ∧ (go (zeros 32)).pwr.fold.isSome = true := by
  decide +kernel

/-- Of two rows for one place the lower tag is kept (R444). -/
theorem test_settling :
    let row := fun (n : Nat) => (desc 32 [(0, 8, n), (8, 8, 2 ^ 64 - 1 - n)], zeros 0)
    let out := settleRows 1 [row 9, row 3]
    out.length = 2 ∧ (out.take 1).map (fun r => fieldAt r.1 0 8) = [3] ∧ (out.drop 1).map (fun r => (recHead r.1).state) = [2] := by
  decide +kernel

/-- PLACED raises the count of its chip; a report of 3 landed records is due 1 µs after the last landing. -/
theorem test_placed :
    let u := modDisp (board 5 [] []) 0 fun d => { d with landed := [(1, 3)], landAt := [(1, 4000000)] }
    let go := fun (step : Nat) => after (.placedMsg 0 0) (arrives u 5 (desc 16 [(0, 2, step), (4, 4, 7)]))
    let v := after (.placedTimer 0 0) u
    peerPos u 0 = some 1 ∧ Tab.getD 0 1 (ctxOf (go 5) 0).disp.placed = 7 ∧ (ctxOf (go 9) 0).disp.placed = [] ∧
    placedDue u 0 = [1] ∧ activeTo u 1 = [0] ∧ Tab.getD 0 1 (ctxOf v 0).disp.told = 3 := by
  decide +kernel

/-- A kill notice with NEXT 0 ends the step, NEXT 2 re-runs it, NEXT 1 with no fall-back ends it; one for the next step waits. -/
theorem test_kill_message :
    let go := fun (u : State) (step next : Nat) => after (.killMsg 0 0) (arrives u 4 (desc 16 [(0, 2, step), (2, 1, 4 * next), (3, 1, 0x31)]))
    let fb := rput busy .stlCtrl 9
    (ctxOf (go busy 5 0) 0).cause = some 0x31 ∧ ((ctxOf (go busy 5 2) 0).next.map fun n => (n.at_, n.number)) = some (9000000, 1) ∧
    hasFallback busy 0 = false ∧ (ctxOf (go busy 5 1) 0).cause = some 5 ∧
    hasFallback fb 0 = true ∧ ((ctxOf (go fb 5 1) 0).next.map (·.fallback)) = some true ∧
    (Tab.find 0 (go { busy with ctxs := [] } 6 0).heldKill).isSome = true ∧
    (go { busy with ctxs := [(0, { Ctx.clear with ranThisTide := true, lastStep := 7 })] } 6 0).heldKill = [] := by
  decide +kernel

theorem test_landed_message :
    let u := { busy with cmds := [{ cmdOf 0 0 0 with st := .running, left := 1 }] }
    let go := fun (step : Nat) => after (.landedMsg 0 0) (arrives u 6 (desc 16 [(0, 2, step), (4, 4, 1)]))
    (copyCmd u 0 1).isSome = true ∧ (go 5).cmds.map (·.st) = [.finished] ∧ (go 9).cmds.map (·.st) = [.running] := by
  decide +kernel

/-- The CRC of a WRITE unit of 64 zeros to 0x300 of tile 0 and its reach. -/
theorem test_write_unit :
    let h := desc 32 [(0, 1, 1), (2, 2, 5), (8, 8, t0 + 0x300), (16, 4, 64), (30, 2, 25627)]
    let u := unitAt (board 5 [] []) 3 (h ++ zeros 64)
    headUnit u 0 3 = some (h ++ zeros 64) ∧ (h ++ zeros 64).length = 32 + 64 ∧ unitForm (h ++ zeros 64) = true ∧
    unitRuns u (h ++ zeros 64) = true ∧ ownerOfPort u 0 = 0 ∧ mayWrite u 0 (t0 + 0x300) 64 = true ∧
    gate u 0 (ddRes 0 [t0 + 0x300]) = .go ∧ activeTo u 1 = [0] ∧
    crc16 (h.take 30) = 60440 ∧ crcMsb 16 0x1021 60440 (zeros 32) = 12589 ∧ crcMsb 16 0x1021 12589 (zeros 32) = 25627 := by
  decide +kernel

/-- A READ_REQ of the same span is answered on its port; with a wrong CRC it is a mismatch, of an ended attempt it is counted, out of
reach a violation. -/
theorem test_read_request :
    let q := fun (step a crc : Nat) => desc 32 [(0, 1, 2), (2, 2, step), (8, 8, a), (16, 4, 64), (30, 2, crc)]
    let go := fun (b : List Byte) => after (.readReq 0 0) (unitAt (board 5 [] []) 3 b)
    let far := desc 32 [(0, 1, 2), (2, 2, 5), (8, 8, 0x100000), (16, 4, 64)]
    let other := desc 32 [(0, 1, 2), (2, 2, 9), (8, 8, t0 + 0x300), (16, 4, 64)]
    let crcd := fun (b : List Byte) => patch b 30 (leBytes 2 (crc16 (b.take 30)))
    (portOf (unitAt (board 5 [] []) 3 (q 5 (t0 + 0x300) 63289)) 0).reads = [] ∧
    (Tab.getD (TxChan.clear 0) 3 (portOf (go (q 5 (t0 + 0x300) 63289)) 0).tx).units.map (·.reply) = [true] ∧
    (go (q 5 (t0 + 0x300) 0)).pwr.fold.isSome = true ∧ rgetX (go (crcd other)) .dklErr 0 0 = 1 ∧ (go (crcd far)).pwr.fold.isSome = true := by
  decide +kernel

theorem test_delayed_delivery :
    let u := modPort live 31 fun p => { p with rx := [(3, { RxChan.clear with units := [{ bytes := [1], from_ := 0, due := some 5000000 }] })] }
    (Tab.getD RxChan.clear 3 (portOf (after (.delayedDelivery 31 3 0) u) 31).rx).units.map (·.due) = [none] := by
  decide +kernel

/-! ### Media -/

/-- A Resample descriptor: conversion of a 16 × 16 picture of format 1, two rows, from 0x1000 to 0x2000 and 0x3000 of tile 0. -/
def rsBytes (w : Nat) : List Byte :=
  desc 128 [(0, 1, 1), (1, 1, 4), (2, 1, 1), (3, 1, 0x10), (8, 2, w), (10, 2, 16), (12, 2, w), (14, 2, 16), (18, 2, 2), (22, 2, 2),
    (28, 4, 128), (32, 8, t0 + 0x1000), (52, 4, 64), (56, 8, t0 + 0x2000), (64, 8, t0 + 0x3000), (72, 4, 64)]

/-- A command of 128 bytes of a media engine on the board of one chip. -/
def media (cls : Nat) (d : List Byte) : State :=
  let u := board cls d []
  { u with cmds := u.cmds.map fun m => { m with len := 128 } }

/-- 16 wide is in form, 15 wide is not; a null PROCESS finishes and writes nothing. -/
theorem test_process :
    let u := media 7 (rsBytes 16)
    let d := rsDesc (rsBytes 16)
    let v := after (.process 0 0 0) { u with cmds := u.cmds.map fun m => { m with null := true } }
    rsForm d (rsBytes 16) = true ∧ engineIdle u 7 0 = true ∧ (rsReads d).all (fun p => mayUse u 0 p.1 p.2) = true ∧
    (rsWrites d).all (fun p => mayWrite u 0 p.1 p.2) = true ∧ gate u 0 (mdRes 0 [d.inp, d.outY]) = .go ∧ u.upsets = [] ∧
    v.mem = u.mem ∧ v.cmds.map (·.st) = [.finished] ∧ rsForm (rsDesc (rsBytes 15)) (rsBytes 15) = false ∧
    (after (.process 0 0 0) (media 7 (rsBytes 15))).pwr.fold.isSome = true := by
  decide +kernel

/-- A stream of 64 × 64 samples with MAX_TG_BYTES 4,096. -/
def streamCfg : List (Nat × Nat × Nat) :=
  [(0, 2, 64), (2, 2, 64), (4, 1, 8), (8, 4, 60), (12, 4, 1), (16, 4, 1000000), (24, 2, 100), (27, 1, 1), (32, 4, 4096)]

/-- An encoder descriptor for slot 0: CONFIGURE with the stream, or ENCODE of its one superblock row into buffer 1 of pool 2. -/
def encBytes (op row : Nat) : List Byte :=
  desc 128 ((0, 1, op) :: if op = 1 then streamCfg.map fun f => (64 + f.1, f.2) else
    [(4, 2, row), (6, 2, 1), (8, 8, handle1), (24, 8, t0 + 0x4000)])

/-- Pool 3 of class 2 and pool 4 of class 3, both in the Loft, in the reserves of requester 8; buffer 1 of pool 3 is the stream table of
side 0 of slot 0 with the stream's configuration, its frame not begun. -/
def streaming (op row : Nat) (more : List (Nat × List Byte)) : State :=
  let u := media 8 (encBytes op row)
  let l := 0x100000000000
  let pool := fun (cls unit : Nat) => rput (rput u .grnPool (BitVec.ofNat 64 (cls * 2 ^ 61 + 4 * 2 ^ 40 + (l / 256 + 0x1000 * unit))) unit)
    .grnRsv (BitVec.ofNat 64 (unit * 2 ^ 48 + 2 ^ 20 + 4)) (64 + cls)
  let regs := (pool 2 3).regs ++ (pool 3 4).regs ++ stocked.regs
  { u with
    regs := regs
    mem := tileMem ([(l + 0x300000, [1, 1]), (l + 0x300010, desc 48 streamCfg)] ++ more) ++ u.mem
    bufs := [heldBuf 1 1, (bufKey false 3 1, { alloc := true, gen := 0, genC := 7, req := 8, c := 0, uid := 0 })]
    pub := [(0, { PubSlot.clear with h0 := 0x43000001, c0 := 0xBCFFFFFE, st0 := true })] }

/-- CONFIGURE of a free slot has a buffer for its table; while the urgent context stages the slot, 0x5A. -/
theorem test_configure :
    let u := streaming 1 0 []
    let w := { u with ctxs := u.ctxs ++ [(1, { runner 9 with staged := [0] })] }
    encIdle u 0 0 = true ∧ (pubOf u 0 0).sound = true ∧ encForm (encDesc (encBytes 1 0)) (encBytes 1 0) = true ∧
    slotBusy u 0 0 = false ∧ (streamStaged u 0 0).isSome = true ∧ slotBusy w 0 0 = true ∧
    (ctxOf (after (.configure 0 0 0) w) 0).cause = some 0x5A := by
  decide +kernel

/-- ENCODE fails with 0x59 where the row is not the next one, with 0x58 on an unconfigured table, with 0x5A where the slot is busy. -/
theorem test_encode_fails :
    let w := streaming 2 0 []
    let busy := { w with ctxs := w.ctxs ++ [(1, { runner 9 with staged := [0] })] }
    (ctxOf (after (.encode 0 0 0) (streaming 2 1 [])) 0).cause = some 0x59 ∧ (ctxOf (after (.encode 0 0 0) busy) 0).cause = some 0x5A ∧
    (ctxOf (after (.encode 0 0 0) { w with mem := w.mem.drop 2 }) 0).cause = some 0x58 ∧
    (ctxOf (after (.encode 0 0 0) { w with pub := [] }) 0).cause = some 0x58 := by
  decide +kernel

/-- What an ENCODE that writes its tile group needs. -/
theorem test_encode :
    let u := streaming 2 0 []
    let cfg := encCfg (desc 48 streamCfg)
    let d := encDesc (encBytes 2 0)
    encForm d (encBytes 2 0) = true ∧ encIdle u 0 0 = true ∧ cfgOk (desc 64 streamCfg) = true ∧
    slice (readMem u (keySpan u (keyOf 0x43000001)).1 64) 0 2 = [1, 1] ∧ encDemand cfg d ≤ 33554432 ∧ cfg.wholeTiles 0 1 = true ∧
    checkHandle u 0 (d.out % 2 ^ 32) (d.out / 2 ^ 32) d.outOff 4160 = .ok ∧ handleAddr u d.out = 0x300000 ∧
    mayWrite u 0 0x300000 4160 = true ∧ mayUse u 0 d.src 8 = true ∧ mayUse u 0 0 cfg.rowBytes = true ∧
    gate u 0 (mdRes 0 [0x300000, 0]) = .go ∧
    (streamStaged u 0 0).map (fun w => (allocRows 0 8 (classFor cfg.rowBytes) [(0, [])] w.1 []).isSome) = some true := by
  decide +kernel

/-! ### The host side -/

/-- Function 0 has an event ring of 64 entries at 0x4000, with TAIL and HEAD. -/
def ring (tail head : Nat) : State :=
  rput (rput (rput live .hifEvtCfg 0x601) .hifEvtBase 0x4000) .hifEvtPtr (BitVec.ofNat 64 (head * 2 ^ 32 + tail))

/-- An event at TAIL 65 goes to entry 1 of the second pass; a full ring counts it. -/
theorem test_events :
    let u := { ring 65 2 with host := { live.host with up := false } }
    let v := postEvent u 0 (zeros 32) 2
    (fnOf u 0).dropped = 0 ∧ u.regsOk ∧ bf (rget v .hifEvtPtr) 16 0 = 66 ∧
    v.host.queue.map (fun q => (q.addr, q.vec, q.bytes.getD 1 1)) = [(0x4020, some 2, 0)] ∧
    rfield (postEvent (ring 66 2) 0 (zeros 32) 2) .hifFnStat 47 32 = 1 ∧ (postEvent live 0 (zeros 32) 2).host.queue = [] := by
  unfold State.regsOk; decide +kernel

/-- NOTIFY of a stall's attempt is held, of BC8 posted, without bus mastering 0x63, with a reserved byte a violation. -/
theorem test_notify :
    let d := desc 64 [(0, 1, 2), (8, 8, 0x1234)]
    let u := queued 0 11 0 d
    let st := { queued 16 11 0 d with mem := memAt 0x200000 d, cmds := [{ cmdOf 16 11 0 with addr := 0x200000 }] }
    (ctxOf (after (.notifyC 0 0) u) 0).held.map (fun h => (h.note, h.cmd)) = [(some 0x1234, 1)] ∧
    (after (.notifyC 0 0) u).cmds.map (·.st) = [.held] ∧ (after (.notifyC 16 0) st).cmds.map (·.st) = [.finished] ∧
    (ctxOf (after (.notifyC 0 0) { u with host := { u.host with fns := [] } }) 0).cause = some 0x63 ∧
    (after (.notifyC 0 0) { u with cmds := u.cmds.map fun m => { m with null := true } }).cmds.map (·.st) = [.finished] ∧
    (after (.notifyC 0 0) (queued 0 11 0 (desc 64 [(0, 1, 2), (1, 1, 1)]))).pwr.fold.isSome = true := by
  decide +kernel

/-- The doorbell HEAD, the end of a holdoff, bus mastering, credits, PERST_N released. -/
theorem test_host_events :
    let m := { live with host := { live.host with fns := [(0, { Fn.clear with bme := true, unsignalled := [3] })] } }
    let w : HostTlp := { fn := 0, addr := 0, bytes := [1], urgent := false, vec := none, isMsix := false, drain := none, census := none }
    let q := { live with host := { live.host with credits := 0, queue := [w] } }
    let down := { live with host := { HostIf.reset with perst := true } }
    bf (rget (after (.evtHeadDb 0 7 0) live) .hifEvtPtr) 48 32 = 7 ∧
    rfield (after (.evtHeadDb 8 7 0) live) .hifFnStat 63 48 8 = 1 ∧ (fnOf live 8).bme = false ∧
    (after (.msixHoldoff 0 3 0) m).out = [Out.msix 0 3] ∧ (fnOf (after (.busMasterEnable 8 true 0) live) 8).bme = true ∧
    (after (.postedCreditReturn 2 0) q).host.credits = 1 ∧ (after (.postedCreditReturn 2 0) q).out.length = 1 ∧
    phase down ≠ 1 ∧ (after (.perstNRelease 5 3 true 0) down).host.up = true := by
  decide +kernel

/-- A host read of 4 bytes to 0x300 of tile 0 for context 0. -/
def reading : HostRd :=
  { fn := 0, tag := 9, c := 0, uid := 1, cmd := 1, dst := t0 + 0x300, len := 4, orphan := false, timedOut := none, delayed := none }

theorem test_read_completion :
    let u := { busy with host := { busy.host with reads := [reading] }, cmds := [{ cmdOf 0 0 0 with st := .running, left := 1 }] }
    let d := { u with host := { u.host with reads := [{ reading with delayed := some (5000000, [1, 2, 3, 4]) }] } }
    let v := after (.readCompletion 0 9 .ok [1, 2, 3, 4] 0) u
    hostReadOf u 0 9 = some reading ∧ squallOn u 6 0 = false ∧ readMem v (t0 + 0x300) 4 = [1, 2, 3, 4] ∧
    v.cmds.map (·.st) = [.finished] ∧ (hostReadOf (after (.readCompletion 0 9 .ok [1] 0) u) 0 9).map (·.len) = some 3 ∧
    (ctxOf (after (.readCompletion 0 9 .abort [] 0) u) 0).cause = some 0x61 ∧
    (ctxOf (after (.readCompletion 0 9 .poison [] 0) u) 0).cause = some 0x62 ∧
    (ctxOf (after (.completionTimeout 0 9 0) u) 0).cause = some 0x60 ∧ (after (.readCompletion 0 8 .ok [] 0) u).out = [Out.aer 0 8] ∧
    readMem (after (.hostDelayedLanding 0 9 0) d) (t0 + 0x300) 4 = [1, 2, 3, 4] := by
  decide +kernel

theorem test_host_resets :
    let u := { busy with ctxs := [(0, runner 1), (1, { runner 4 with committed := true }), (2, runner 2)] }
    let v := after (.functionLevelReset 0 0) u
    let h := after (.hostReset .perst 0) busy
    (ctxOf v 0).cause = some 0x65 ∧ (ctxOf v 1).st = .idle ∧ (ctxOf v 2).st = .running ∧ (fnOf v 0).bme = false ∧
    bf (rget busy .hifLink) 31 16 < 65535 ∧ h.pwr.fold = some (5000000, .hostReset) ∧ phase h = 6 ∧ h.host.up = false := by
  decide +kernel

/-! ### Images -/

/-- Bytes at the end of the staging store, one byte beyond it, and while a check runs. -/
theorem test_staging :
    let held := { live with img := { live.img with checking := some 0 } }
    let v := after (.stagingWrite .pf 4194302 [7, 8] 0) live
    stagingHeld live = false ∧ (live.img.staging.Pairwise fun x y => x.1 < y.1) ∧ v.img.staging = [(4194302, 7), (4194303, 8)] ∧
    (after (.stagingWrite .pf 4194303 [7, 8] 0) live).log.entries.map (fun e => (e.cls, e.code)) = [(2, 1)] ∧
    stagingHeld held = true ∧ (after (.stagingWrite .pf 0 [7] 0) held).log.entries.map (fun e => (e.cls, e.code)) = [(2, 2)] := by
  decide +kernel

/-- START of the physical function at phase 2, by another requester, in phase 0, and while a check runs; SEAL of an image in force. -/
theorem test_start_and_seal :
    let ready := rput live .pwrRstStatus (2#64 <<< 60)
    let open_ := { ready with img := { live.img with isSealed := false } }
    let running := { ready with img := { live.img with checking := some 0 } }
    ready.regsOk ∧ ready.takesWrite .pf .secImgCtrl 0 0 1 ∧ ready.takesWrite .pf .secImgCtrl 0 0 2 ∧ ready.takesWrite .bc8 .secImgCtrl 0 0 1 ∧
    acceptsImages ready = true ∧ (after (.startC .pf 0) ready).img.checking = some 5000000 ∧ phase (after (.startC .pf 0) ready) = 3 ∧
    (after (.startC .bc8 0) ready).log.entries.map (·.code) = [4] ∧
    acceptsImages live = false ∧ (after (.startC .pf 0) live).log.entries.map (·.code) = [2] ∧
    (after (.startC .pf 0) running).img = { running.img with writtenNow := (after (.startC .pf 0) running).img.writtenNow } ∧
    (after (.sealC .pf 0) open_).img.isSealed = true ∧ phase (after (.sealC .pf 0) open_) = 4 ∧
    (after (.sealC .pf 0) ready).log.entries.map (·.code) = [2] := by
  unfold State.regsOk State.takesWrite; decide +kernel

/-- An empty staging store is rejected. Acceptance rests on the signatures, which the model leaves open (Config.mldsaVerify). -/
theorem test_image_check :
    let u := { live with img := { live.img with checking := some 0 } }
    let v := { u with img := { u.img with checking := none } }
    checkImage v (stagedImage u) = some (1, 0xFF, 8) ∧ (after (.imageCheckEnd 0) u).img.checking = none ∧
    (after (.imageCheckEnd 0) u).plan = u.plan := by
  decide +kernel

/-- A partial image with no sections applies at this tick: it releases nothing. -/
theorem test_release_clear :
    let u := { sampled with now := 984000000, img := { live.img with applying := true, pending := some (zeros 128) } }
    let m := sectsAfter u (zeros 128)
    inFence u = true ∧ u.tide.cleared = false ∧ samplingPoint u + 4000000 ≤ u.now ∧ u.memOk ∧
    loftReleased u.img.sections m = [] ∧ poolReleased u.img.sections m = [] ∧ diesReleased u.img.sections m = [] ∧
    (after (.releaseClear 0) u).tide.cleared = true := by
  unfold State.memOk; decide +kernel

/-! ### Power, reset and health -/

/-- The supplies: the rise of PKG_PWROK, its fall, the faults of Table 19.2. -/
theorem test_supplies :
    let held := { State.reset with now := 5000000 }
    let r := after (.pkgPwrokRise 0) held
    let fault := after (.supplyFault 10 0) live
    held.regsOk ∧ held.pwr.pwrok = false ∧ held.pwr.inReset = true ∧ held.pwr.seqFault = false ∧
    r.pwr.c0 = 1005000000 ∧ r.pwr.coldDue = true ∧ live.pwr.pwrok = true ∧
    (after (.pkgPwrokFall 0) live).pwr.inReset = true ∧ (after (.pkgPwrokFall 0) live).tide.running = false ∧
    (after (.vauxFault 0) live).pwr.coldDue = false ∧ (after (.vauxFault 0) live).pwr.pwrok = true ∧
    (after (.seqFault 10 0) held).out = [Out.pin "SEQ_FAULT_N" false] ∧ phase fault = 1 ∧
    bf (rget fault .pwrRstStatus) 55 48 = 5 ∧ fault.pwr.c0 = 5000000 := by
  unfold State.regsOk; decide +kernel

/-- A cold reset that is due at C0, and one by PERST and its like. -/
theorem test_cold_reset :
    let due := { live with pwr := { live.pwr with inReset := true, coldDue := true, c0 := 5000000, coldCause := 1 } }
    due.pwr.c0 ≤ due.now ∧ bf (rget (after (.coldReset 0) due) .pwrRstStatus) 55 48 = 1 ∧
    bf (rget (after (.coldReset 0) live) .pwrRstStatus) 55 48 = 2 ∧ (after (.coldReset 0) live).img.isSealed = false ∧
    (after (.coldReset 0) { live with regs := Tab.put (Reg.addr .secStatus 0 0) (1#64 <<< 60) live.regs }).regs.length = 2 := by
  decide +kernel

/-- COLD with its key, without it and by BC8; FOLD with a reserved bit and without. -/
theorem test_reset_writes :
    let v : Word := 0x020000000000C3C3
    let f : Word := 0x0100000000000000
    reachable live .pf = true ∧ live.takesWrite .pf .pwrRstCtrl 0 0 v ∧ live.takesWrite .bc8 .pwrRstCtrl 0 0 v ∧
    live.takesWrite .pf .pwrRstCtrl 0 0 f ∧ live.takesWrite .pf .pwrRstCtrl 0 0 (f + 1) ∧
    bf (rget (after (.cold .pf v 0) live) .pwrRstStatus) 55 48 = 3 ∧ phase (after (.cold .pf (v - 1) 0) live) = 0 ∧
    (after (.cold .bc8 v 0) live).log.entries.map (·.code) = [4] ∧
    live.mayFold ∧ phase (after (.fold .pf f 0) busy) = 6 ∧ (ctxOf (after (.fold .pf f 0) busy) 2).st = .idle ∧
    (after (.fold .pf (f + 1) 0) busy).pwr.fold = none := by
  unfold State.takesWrite State.mayFold; decide +kernel

/-- The end of a cold reset: a compute die that fails may be fallow, the port root cannot. -/
theorem test_cold_reset_ends :
    let u := rput { live with pwr := { live.pwr with aligned := true }, host := HostIf.reset } .pwrRstStatus (1#64 <<< 60)
    phase u = 1 ∧ u.pwr.inReset = false ∧ u.sec.badSince = none ∧ phase (after (.coldResetReady [0, 31] true 0) u) = 2 ∧
    rget (after (.coldResetReady [0, 31] true 0) u) .pwrRstFailDies = 0x80000001 ∧ phase (after (.coldResetReady [32] true 0) u) = 8 ∧
    bitAt (rget (after (.coldResetReady [] false 0) u) .secStatus) 59 = true := by
  decide +kernel

/-- Alignment: its start on the next beat, its pass, its first failure, its fourth at a cold reset and at a fold reset. -/
theorem test_alignment :
    let u := rput { live with now := 5000001 } .pwrRstStatus (1#64 <<< 60)
    let driven := { u with now := 25000000, pwr := { u.pwr with alignAt := some 10000000, alignTries := 3 } }
    let fold := { driven with pwr := { driven.pwr with foldRun := true } }
    let once := { driven with pwr := { driven.pwr with alignTries := 0 } }
    phase u = 1 ∧ u.clk.refBad = false ∧ u.pwr.alignAt = none ∧ (after (.alignStart 0) u).pwr.alignAt = some 5010000 ∧
    (after (.alignCheckEnd none 0) driven).pwr.aligned = true ∧
    (after (.alignCheckEnd (some 59) 0) once).pwr.alignTries = 1 ∧ (after (.alignCheckEnd (some 59) 0) once).log = once.log ∧
    bf (rget (after (.alignCheckEnd (some 59) 0) once) .clkAlignStatus) 15 8 = 59 ∧
    phase (after (.alignCheckEnd (some 0) 0) driven) = 8 ∧ (after (.alignCheckEnd (some 0) 0) fold).pwr.badCheck = some 1 := by
  decide +kernel

/-- The logic reset of a fold reset 20 µs after its trigger, and what its three ends ask for. -/
theorem test_fold_reset :
    let u := { busy with now := 25000000, pwr := { live.pwr with fold := some (5000000, .requested) } }
    let done := { live with now := 90000000
                            pwr := { live.pwr with fold := some (5000000, .requested), foldRun := true, aligned := true }
                            img := { live.img with inForce := false } }
    let halted := { done with pwr := { done.pwr with aligned := false, badCheck := some 1 } }
    u.pwr.foldRun = false ∧ (after (.foldReset 0) u).pwr.foldRun = true ∧ (after (.foldReset 0) u).cmt = u.cmt ∧
    done.sec.waitEntropy = false ∧ haltedRow done none = none ∧ haltedRow done (some (16 * 3 + 7)) = none ∧ fallow done 3 = false ∧
    haltedRow halted none = some 1 ∧ haltedRow done (some 6) = some 6 ∧ phase (after (.foldDone none 0) halted) = 8 ∧
    done.img.isSealed = true ∧ done.img.waiting = none := by
  decide +kernel

/-- A chip in phase 5 with die 15 and port 31 fallow. -/
def folded : State :=
  { rput live .pwrRstStatus (5#64 <<< 60) with plan := { live.plan with fallowDies := 0x8000, fallowPorts := 0x80000000 } }

/-- TEST of a fallow die and port and of one in service, POWER_DOWN, the ends of a test, and a pass 60 s old. -/
theorem test_self_tests :
    let test : Word := 0x010000000000000F
    let down : Word := 0x020000000000005F
    let passed := rput { folded with now := 60000005000000, pwr := { live.pwr with passes := [(true, 31, 5000000), (false, 15, 9000000)] } }
      .pwrRstTestPorts 0x80000000
    let die := { folded with mem := [(t0 + 0xF * sramStride, 9)], pwr := { live.pwr with test := some (false, 15, 0) } }
    folded.takesWrite .pf .pwrRstTestCmd 0 0 test ∧ folded.takesWrite .pf .pwrRstTestCmd 0 0 down ∧
    testOk folded test = true ∧ testOk folded 0x010000000000005F = true ∧ testOk folded 0x010000000000000E = false ∧
    (after (.test .pf test 0) folded).pwr.test = some (false, 15, 5000000) ∧ (after (.test .pf (test - 1) 0) folded).pwr.test = none ∧
    passed.takesWrite .pf .pwrRstTestCmd 0 0 down ∧ (after (.powerDown .pf down 0) passed).pwr.passes = [(false, 15, 9000000)] ∧
    die.memOk ∧ (after (.selfTestDone 0 0) die).pwr.passes = [(false, 15, 5000000)] ∧ (after (.selfTestDone 0 0) die).mem = [] ∧
    bf (rget (after (.selfTestDone 3 0) die) .pwrRstTestLast) 62 61 = 2 ∧
    (after (.testPassExpire 71 0) passed).pwr.passes = [(false, 15, 9000000)] ∧
    rget (after (.testPassExpire 71 0) passed) .pwrRstTestPorts = 0 := by
  unfold State.takesWrite State.memOk; decide +kernel

/-- A rail that is late where its code rises, an unlocked media domain, and neither; a code that falls. -/
theorem test_voltage :
    let u := rput { sampled with now := 999000000 } .pwrVid 0x7F 3
    let low := rput { live with now := 1020000 } .pwrVid (0x10#64 <<< 16 ||| 0x20#64) 3
    let slow := { low with tide := { live.tide with tick := 1000000 } }
    inFence u = true ∧ u.tide.checked = false ∧ quadVid u 3 (rget u .clkAppliedCd) 0 < 0x7F ∧
    (after (.voltageRiseCheck [3] [40] 0) u).tide.heldDomains = [12, 13, 14, 15, 40] ∧
    (after (.voltageRiseCheck [3] [40] 0) u).log.entries.map (fun e => (e.cls, e.code)) = [(6, 3)] ∧
    (after (.voltageRiseCheck [] [] 0) u).log = u.log ∧ low.regsOk ∧ bf (rget (after (.vidFall 3 0) slow) .pwrVid 3) 6 0 = 0x10 := by
  unfold State.regsOk; decide +kernel

/-- The trips of die 38 and their end; THERMTRIP_N. -/
theorem test_trips :
    let v := after (.thermalTrip 38 0) busy
    let w := after (.thermtrip 39 0) busy
    busy.mayFold ∧ fallow busy 38 = false ∧ v.pwr.tripWait = true ∧ rget v .pwrTrip = 0x4000000000 ∧ v.pwr.fold.isSome = true ∧
    (after (.tripWaitEnd 0) v).pwr.tripWait = false ∧ bitAt (rget (after (.tripWaitEnd 0) v) .pwrStatus) 61 = false ∧
    w.out.head? = some (Out.pin "THERMTRIP_N" false) ∧ (portOf w 31).st = 0 := by
  unfold State.mayFold; decide +kernel

/-- The gate of the fallow die 15 opens, and it closes for a test; an edge receiver loses its lock. -/
theorem test_gates_and_edge_locks :
    let u := { folded with now := 20000000, pwr := { live.pwr with gated := [15] } }
    let v := { folded with now := 20000000, pwr := { live.pwr with test := some (false, 15, 0) } }
    let e := rput (modPort live 31 fun x => { x with st := 5, light := some 0 }) .clkLockStatus (1#64 <<< 35)
    wantsPower u 15 = false ∧ rampFits u = true ∧ (after (.powerGateRamp 15 false 0) u).pwr.gated = [] ∧ wantsPower v 15 = true ∧
    (after (.powerGateRamp 15 true 0) v).pwr.gated = [15] ∧ bitAt (rget (after (.powerGateRamp 15 true 0) v) .clkLockStatus) 15 = true ∧
    fallow e 31 = false ∧ bitAt (rget e .clkLockStatus) 35 = true ∧ (portOf (after (.edgeRxLockLost 3 0) e) 31).st = 9 ∧
    rget (after (.edgeRxLockLost 3 0) e) .clkLockLost = 0x800000000 := by
  decide +kernel

/-- The scrub of a fence corrects the single upset in the present step of Loft 0, and leaves the double one outside. -/
theorem test_scrub :
    let u := { sampled with now := 996500000, upsets := [(loftBase / 8, 1), ((loftBase + 0x2000000) / 8, 2)] }
    inFence u = true ∧ u.health.scrubbed = false ∧ u.upsets.Pairwise (fun a b => a.1 < b.1) ∧
    (∀ w ∈ u.upsets, w.2 = 2 → ∀ p ∈ scrubSpans u, 8 * w.1 < p.1 ∨ p.1 + p.2 ≤ 8 * w.1) ∧
    (after (.fenceScrub 0) u).upsets = [((loftBase + 0x2000000) / 8, 2)] ∧ (after (.fenceScrub 0) u).health.loftAt = 1 := by
  decide +kernel

/-- The sixth evaluation ends a powered hour; a snapshot is taken after 24. -/
theorem test_weathering :
    let u := { live with health := { live.health with evals := 5 } }
    let v := after (.weatheringEval [70000] 100 true [3] 0) u
    let day := rput { live with health := { live.health with snaps := [(1, [])] } } .hltAcc 25 0
    u.clk.telStopped = false ∧ rget v .hltAcc 0 = 1 ∧ rget v .hltAcc 2 = 1 ∧ rget v .hltAcc 3 = 3 ∧
    bf (rget v .hltWear 0) 63 48 = 65535 ∧ day.regsOk ∧ (after (.wearSnapshot 0) day).health.snaps.map (·.1) = [1, 25] := by
  unfold State.regsOk; decide +kernel

/-- A sensor read of the tide number, of a stall's overruns, of a temperature and of an identifier that Table 20.4 lacks. -/
theorem test_sensor_reads :
    mgmtUp live = true ∧ (after (.sensorRead 0x0160 0) live).out = [Out.mgmt 0x11 [0x60, 1, 0, 0, 0, 0, 0, 0, 0, 0]] ∧
    (after (.sensorRead 0x016F 0) live).out = [Out.mgmt 0x11 [0x6F, 1, 0, 0, 0, 0, 0, 0, 0, 0]] ∧
    (after (.sensorRead 0x0100 0) live).free = live.free + 1 ∧ (after (.sensorRead 0x0210 0) live).out = [Out.mgmt 0x11 [0x10, 2]] := by
  decide +kernel

/-! ### Links -/

/-- A fold that looks at its value before each byte, so that the kernel computes it byte by byte. -/
def steadyFold (f : Nat → Byte → Nat) (a : Nat) : List Byte → Nat
  | [] => a
  | b :: l => match f a b with
    | 0 => steadyFold f 0 l
    | n + 1 => steadyFold f (n + 1) l

theorem steadyFold_eq (f : Nat → Byte → Nat) (a : Nat) (l : List Byte) : steadyFold f a l = l.foldl f a := by
  induction l generalizing a with
  | nil => rfl
  | cons b l ih => cases h : f a b <;> simp [steadyFold, h, ih]

theorem crc64_eq (l : List Byte) : crc64 l = steadyFold (crcByteMsb 64 0x42F0E1EBA9EA3693) 0xFFFFFFFFFFFFFFFF l :=
  (steadyFold_eq ..).symm

/-- A flit of a header, a payload of zeros after its first bytes, and a CRC. -/
def flit (h : FlitHead) (extra : Nat) (b : List Byte) (crc : Nat) : List Byte :=
  leBytes 8 (h.word + extra) ++ (b ++ zeros (240 - b.length)) ++ leBytes 8 crc

/-- A header of a kind, a fill and a sequence number that acknowledges 4 more flits and carries the sum 9 of VC2. -/
def headOf (kind fill seq : Nat) : FlitHead :=
  { seq := seq, ack := 4, sum := 9, sumVc := 2, fill := fill, vc := 0, nak := false, crypt := false, phase := 0, kind := kind }

/-- The record of port 0 of chip 0, that advertises 16 flits on each channel and has accepted 7 flits of session 3. -/
def farRecord : List Byte :=
  desc 64 [(0, 8, 0x55), (11, 1, 1), (14, 1, 2), (16, 4, 3), (36, 2, 16), (38, 2, 16), (40, 2, 2047), (42, 2, 16), (48, 8, 7)]

/-- A record that advertises nothing. -/
def poorRecord : List Byte := desc 64 [(14, 1, 2)]

/-- The sound flits: by KIND, and those that break R508. -/
theorem test_flits_are_sound :
    let ok := fun (b : List Byte) => fieldAt b 248 8 = crc64 (b.take 248) ∧ b.length = 256
    ok (flit (headOf 0 0 0) 0 [] 0xA4D731BF21323F81) ∧ ok (flit (headOf 1 240 5) 0 [] 0x5EC79969EDCD68B) ∧ ok (flit (headOf 2 64 0) 0 farRecord 0x9753C96E129DB855) ∧
    ok (flit (headOf 2 64 0) 0 poorRecord 0x4301492BEBFBEF2D) ∧ ok (flit (headOf 3 0 0) 0 [] 0x9933511B615BC6BF) ∧ ok (flit (headOf 0 1 0) 0 [] 0x3609E9AEA10B725B) ∧
    ok (flit (headOf 1 241 5) 0 [] 0x9732A1871EE59B51) ∧ ok (flit (headOf 2 64 0) 1 [] 0x11E02EBFE330FA0C) ∧ ¬ok (flit (headOf 1 240 5) 0 [] 0) := by
  simp only [crc64_eq]; decide +kernel

/-- Port p in a state of a chip, lit, with ROLE 1 on port 0 and ROLE 2 on port 31. -/
def linkIn (p st : Nat) (f : Port → Port) : State :=
  modPort (rputX (rputX live .dklCfg 0 0 1) .dklCfg 3 7 2) p fun _ => f { Port.clear with st := st, light := some 0, since := 1 }

/-- A flit that has been sent and not acknowledged. -/
def sentFlit (ext : Nat) : TxFlit :=
  { ext := ext, vc := 2, fill := 240, crypt := false, phase := 0, payload := zeros 240, owners := [], cmds := [] }

/-- An ACTIVE port that has sent 20 flits and has 15 to 19 unacknowledged, of a session that was recorded as 3. -/
def upPort (x : Port) : Port :=
  { x with txExt := 20, oldest := 15, replayBuf := [sentFlit 15, sentFlit 16, sentFlit 17, sentFlit 18, sentFlit 19], session := 6
           far := farRecord, rxExt := 5, nonce := [1], ackDue := some 5000000 }

/-- What the port of a state sends: an identity, IDLE, a replayed flit, a new flit of VC3. -/
theorem test_flit_tx :
    let z := fun (st : Nat) (f : Port → Port) => portOf (flushNotices (linkIn 31 st f)) 31
    let bytes : TxUnit := { bytes := [1], started := false, safety := false, reply := false, c := 0, uid := 1, cmd := 1 }
    sendsFlits (z 3 id) = true ∧ (z 3 id).st = 3 ∧ sendsFlits (z 5 id) = true ∧ sendsFlits (z 2 fun x => { x with adapted := some 0 }) = true ∧
    (z 2 id).qualified = false ∧ sendsFlits (z 6 fun x => { x with adapted := some 0, qualified := true }) = true ∧
    (z 4 id).replayAt = none ∧ chooseVc (z 4 id) = none ∧
    (z 4 fun x => { upPort x with replayAt := some 19 }).replayBuf.find? (·.ext == 19) = some (sentFlit 19) ∧
    chooseVc (z 4 fun x => { upPort x with tx := [(3, { TxChan.clear 16 with units := [bytes], count := 15 })] }) = some (3, 0) := by
  decide +kernel

/-- What the flits that are sound, as shown above, meet at the port. -/
theorem test_flits_arrive :
    let hd := fun (b : List Byte) => fieldAt b 0 8
    let u := linkIn 0 4 upPort
    let w := headerEffects (modPort u 0 fun x => { x with goodAt := u.now }) 0 (headOf 1 240 5)
    flitHead (hd (flit (headOf 0 0 0) 0 [] 0)) = headOf 0 0 0 ∧ flitHead (hd (flit (headOf 1 240 5) 0 [] 0)) = headOf 1 240 5 ∧
    flitHead (hd (flit (headOf 2 64 0) 0 farRecord 0)) = headOf 2 64 0 ∧ flitHead (hd (flit (headOf 3 0 0) 0 [] 0)) = headOf 3 0 0 ∧
    flitHead (hd (flit (headOf 2 64 0) 1 [] 0)) = headOf 2 64 0 ∧
    headerBad u 0 (headOf 0 0 0).word = false ∧ headerBad u 0 (headOf 1 240 5).word = false ∧ headerBad u 0 (headOf 2 64 0).word = false ∧
    headerBad u 0 (headOf 0 1 0).word = true ∧ headerBad u 0 (headOf 1 241 5).word = true ∧ headerBad u 0 ((headOf 2 64 0).word + 1) = true ∧
    receivesFlits (portOf u 0) = true ∧ (portOf u 0).light.isSome = true ∧ (portOf w 0).st = 4 ∧ (portOf w 0).rxExt = 5 ∧
    (portOf (receiveData w 0 (headOf 1 240 5) (zeros 240)) 0).rxExt = 6 ∧ (portOf (receiveData w 0 (headOf 1 240 6) (zeros 240)) 0).nak = true ∧
    (portOf (receiveData w 0 (headOf 1 240 2052) (zeros 240)) 0).st = 8 ∧ (portOf (receiveData w 0 (headOf 1 240 2053) (zeros 240)) 0).st = 8 ∧
    receiveData w 0 (headOf 1 240 2054) (zeros 240) = w := by
  unfold flit; decide +kernel

/-- The record of the far end: a first one, the second that ends IDENT, and what each of R532 to R534 makes of it. -/
theorem test_ident :
    let go := fun (st : Nat) (f : Port → Port) (r : List Byte) => portOf (receiveCtrl (linkIn 0 st f) 0 r) 0
    let heard := fun (x : Port) => { x with heard := farRecord, since := 0 }
    let flitOf := flit (headOf 2 64 0) 0 farRecord 0
    (slice flitOf 8 240).take 64 = farRecord ∧ (slice (flit (headOf 2 64 0) 0 poorRecord 0) 8 240).take 64 = poorRecord ∧
    receivesFlits { Port.clear with st := 6, qualified := true } = true ∧
    (go 2 (fun x => { x with qualified := true }) farRecord).st = 3 ∧ go 7 id farRecord = portOf (linkIn 0 7 id) 0 ∧
    (go 3 id farRecord).heard = farRecord ∧ (go 3 id farRecord).rxOk = false ∧
    (go 3 heard farRecord).st = 4 ∧ (Tab.getD (TxChan.clear 0) 2 (go 3 heard farRecord).tx).adv = 2047 ∧
    (go 3 (fun x => { x with heard := poorRecord }) poorRecord).st = 8 ∧ identCause (linkIn 0 3 heard) 0 farRecord = 0 ∧
    identCause (rputX (linkIn 0 3 heard) .dklCfg 0 0 0) 0 farRecord = 4 ∧
    (go 3 (fun x => { heard x with far := poorRecord }) farRecord).cause = 11 ∧
    (go 3 (fun x => { heard x with far := patch farRecord 16 [9], session := 6 }) farRecord).st = 3 ∧
    (go 3 (fun x => { heard (upPort x) with oldest := 8 }) farRecord).cause = 10 ∧
    (go 3 (fun x => { heard (upPort x) with oldest := 7 }) farRecord).replayAt = some 7 := by
  unfold flit; decide +kernel

/-- An acknowledgement of flit 18, one of nothing, the timer of 2 µs, and the ninth replay in succession. -/
theorem test_acknowledgement :
    let u := linkIn 31 4 upPort
    let v := linkIn 31 4 fun x => { upPort x with consReplay := 8 }
    (portOf (receiveAck u 31 18) 31).oldest = 19 ∧ (portOf (receiveAck u 31 18) 31).replayBuf = [sentFlit 19] ∧
    (portOf (receiveAck u 31 20) 31).oldest = 15 ∧ ackExpiry u 31 = some 5000000 ∧
    (portOf (after (.ackTimeout 31 0) u) 31).replayAt = some 15 ∧ (portOf (after (.ackTimeout 31 0) v) 31).st = 6 := by
  decide +kernel

/-- Training: adaptation, the spans of TRAIN and RETRAIN, the time-outs. -/
theorem test_training :
    let u := { linkIn 31 2 id with now := 2000000001 }
    let tried := { linkIn 31 3 (fun x => { x with tries := 2 }) with now := 100000001 }
    let slow := { linkIn 31 6 (fun x => { x with retrain := true, retrainAt := 1 }) with now := 200000001 }
    let at_ := fun (st d : Nat) => { linkIn 31 st (fun x => { x with adapted := some 1 }) with now := d }
    (portOf (after (.receiverAdapted 31 0) u) 31).adapted = some 2000000001 ∧
    (portOf (after (.rxQualify 31 0) (at_ 2 209715201)) 31).qualified = true ∧
    (portOf (after (.rxQualify 31 0) (at_ 6 26214401)) 31).qualified = true ∧
    (portOf (after (.trainTimeout 31 0) u) 31).tries = 1 ∧ (portOf (after (.trainTimeout 31 0) tried) 31).cause = 8 ∧
    (portOf (after (.retrainTimeout 31 0) slow) 31).st = 2 := by
  decide +kernel

/-- What starts a retrain, the fourth in succession, and the writes of DKL_CTRL. -/
theorem test_retrain :
    let u := { linkIn 31 5 upPort with now := 5000000 }
    let late := linkIn 31 4 fun x => { upPort x with consRetrain := 3 }
    let hold := linkIn 31 7 id
    let idle := linkIn 31 1 id
    reachable u .pf = true ∧ u.takesWrite .pf .dklCtrl 3 7 1 ∧ hold.takesWrite .pf .dklCtrl 3 7 2 ∧
    (portOf (after (.rxSilence 31 0) u) 31).st = 6 ∧ (portOf (after (.codewordLockLost 31 0) u) 31).st = 6 ∧
    (portOf (after (.prbsRx 31 0) late) 31).cause = 9 ∧ (portOf (after (.retrain .pf 31 0) u) 31).st = 6 ∧
    (after (.retrain .pf 31 0) idle).log.entries.map (·.code) = [2] ∧ (portOf (after (.reprobe .pf 31 0) hold) 31).st = 1 ∧
    (after (.reprobe .pf 31 0) idle).log.entries.map (·.code) = [2] := by
  unfold State.takesWrite; decide +kernel

/-- Darkness of an ACTIVE port and of one in TRAIN, the return of the light with and without lock, and 50 µs of darkness. -/
theorem test_darkness :
    let dark := linkIn 31 9 fun x => { upPort x with light := none, back := 4, losAt := 2 }
    let off := linkIn 31 1 fun x => { x with light := none }
    (portOf (after (.lossOfSignal 31 0) (linkIn 31 4 upPort)) 31).st = 9 ∧ (portOf (after (.lossOfSignal 31 0) (linkIn 31 2 id)) 31).st = 2 ∧
    (portOf (after (.signalReturn 31 true 0) dark) 31).replayAt = some 15 ∧ (portOf (after (.signalReturn 31 false 0) dark) 31).st = 6 ∧
    (portOf (after (.signalReturn 31 true 0) off) 31).light = some 5000000 ∧
    (portOf (after (.losTimeout 31 0) { dark with now := 50000003 }) 31).st = 1 ∧
    (portOf (after (.losTimeout 31 0) { dark with now := 50000002 }) 31).st = 9 := by
  decide +kernel

/-! ### Breakwater -/

/-- A SAFETY section: PERMIT every 100 µs, expected in 300 µs, a round trip of 200 µs, a hold of 5 ms, a brake test every 30 minutes 10 µs
into bay 0, light on every port, 4 hours of degraded mode. -/
def safetySection : List Byte :=
  desc 32 [(2, 2, 100), (4, 2, 300), (6, 2, 200), (8, 2, 5), (10, 2, 30), (12, 1, 0), (13, 1, 4), (14, 4, 10), (18, 4, 0xFFFFFFFF)]

/-- The chip at 200 ms, with a SAFETY section, every contact closed for 199 ms, and port 31 a spare at a light level. -/
def litUp (level st : Nat) (f : Port → Port) (g : BwPort → BwPort) : State :=
  let u := linkIn 31 st f
  modBwPort { u with
    now := 200000000000
    plan := { live.plan with safety := safetySection }
    bw := { live.bw with closed := (List.range 8).map fun k => (k, 1000000000) } } 31 fun b => g { b with level := level }

/-- The way up: PROBE, a grant without and with a passed test; and what brings a port down. -/
theorem test_light :
    let off := litUp 0 0 id id
    let dim := litUp 1 1 id id
    let tested := litUp 1 1 id fun b => { b with tested := true, passed := some 0 }
    let dark := litUp 2 2 (fun x => { x with light := none, losAt := 1 }) id
    let old := { litUp 2 2 id (fun b => { b with passed := some 0 }) with now := 5400000000001000 }
    off.img.inForce = true ∧ lightAllowed off 31 = true ∧ (portOf (after (.portProbeStart 31 0) off) 31).st = 1 ∧
    mayGrant dim 31 = true ∧ (bwPortOf (after (.fullPowerGrant 31 0) dim) 31).test = some (200000000000, false) ∧
    mayGrant tested 31 = true ∧ (portOf (after (.fullPowerGrant 31 0) tested) 31).st = 2 ∧
    (bwPortOf (after (.aprReduce 31 0) dark) 31).level = 1 ∧ channelBad dim .h 3 = false ∧
    rget (after (.overPower 31 .h 0) dim) .bwrIntlk = 0x8000 ∧ (portOf (after (.overPower 31 .p 0) dim) 31).st = 0 ∧
    (bwPortOf (after (.channelDiscrepancy 3 0) dim) 31).level = 0 ∧ (after (.channelDiscrepancy 3 0) dim).bw.disagree = some 3 ∧
    overdue old 31 = true ∧ overdue { old with now := 5400000000000000 } 31 = false ∧
    (bwPortOf (after (.brakeTestOverdue 31 0) old) 31).level = 1 := by
  decide +kernel

/-- A PERMIT is sent, one is missing for 300 µs, a hold ends. -/
theorem test_permit_timers :
    let u := litUp 2 4 id fun b => { b with seq := 0xFFFFFFFF, permitAt := 199700000000, holdTill := some 200000000000 }
    let v := after (.permitSend 31 0) u
    (bwPortOf v 31).seq = 0 ∧ (bwPortOf v 31).permitDue = 200100000000 ∧ (bwPortOf v 31).sent = [(0xFFFFFFFF, 200000000000)] ∧
    (Tab.getD (TxChan.clear 0) 0 (portOf v 31).tx).units.map (·.safety) = [true] ∧
    (bwPortOf (after (.permitLoss 31 0) u) 31).held = 5 ∧ (bwPortOf (after (.shutdownHoldEnd 31 0) u) 31).holdTill = none := by
  decide +kernel

/-- A safety message to port 31 from port 9 of chip 2, with its CRCs of the two channels changed by a and b. -/
def safetyTo (msg seq a b : Nat) : List Byte :=
  let head := desc 24 [(0, 1, msg), (2, 2, 2), (4, 1, 9), (5, 1, 31), (8, 4, seq), (12, 4, 6), (18, 2, 5)]
  desc 16 [(0, 1, 7)] ++ (head ++ leBytes 4 (crc32c head ^^^ a) ++ leBytes 4 (hCrc head ^^^ b))

/-- Port 31 with that message first in VC0; 3 has been accepted, and 6 was sent 200 µs ago. -/
def permitted (msg seq a b rejects : Nat) : State :=
  litUp 2 4 (fun x => { x with
      far := desc 64 [(8, 2, 2), (10, 1, 9)]
      rx := [(0, { RxChan.clear with units := [{ bytes := safetyTo msg seq a b, from_ := 0, due := none }] })] })
    fun b => { b with acc := some 3, sent := [(6, 199800000000)], rejects := List.replicate rejects 190000000000 }

/-- A PERMIT that both channels accept, one that H rejects, the third rejection, and one outside the window. -/
theorem test_permit :
    let go := fun (u : State) => after (.permit 31 0) u
    MessageAt (permitted 1 1003 0 0 0) 31 7 (safetyTo 1 1003 0 0) ∧
    safetyAccepts (permitted 1 1003 0 0 0) 31 ((safetyTo 1 1003 0 0).drop 16) = (true, true) ∧
    timely (permitted 1 1003 0 0 0) 31 6 = true ∧ (bwPortOf (go (permitted 1 1003 0 0 0)) 31).acc = some 1003 ∧
    (bwPortOf (go (permitted 1 1003 0 0 0)) 31).permitAt = 200000000000 ∧
    safetyAccepts (permitted 1 4 0 1 0) 31 ((safetyTo 1 4 0 1).drop 16) = (true, false) ∧
    rget (go (permitted 1 4 0 1 0)) .bwrPort 31 = 0x10000 ∧ (bwPortOf (go (permitted 1 4 0 1 0)) 31).level = 2 ∧
    (bwPortOf (go (permitted 1 4 0 1 2)) 31).level = 1 ∧ (bwPortOf (go (permitted 1 4 0 1 2)) 31).held = 5 ∧
    safetyAccepts (permitted 1 1004 0 0 0) 31 ((safetyTo 1 1004 0 0).drop 16) = (false, false) := by
  unfold MessageAt; decide +kernel

/-- A SHUTDOWN that one channel accepts, and one that none does. -/
theorem test_shutdown :
    let go := fun (u : State) => after (.shutdown 31 0) u
    MessageAt (permitted 2 4 1 0 0) 31 7 (safetyTo 2 4 1 0) ∧ fieldAt ((safetyTo 2 4 1 0).drop 16) 0 1 = 2 ∧
    safetyAccepts (permitted 2 4 1 0 0) 31 ((safetyTo 2 4 1 0).drop 16) = (false, true) ∧
    (bwPortOf (go (permitted 2 4 1 0 0)) 31).holdTill = some 205000000000 ∧ (portOf (go (permitted 2 4 1 0 0)) 31).st = 0 ∧
    rget (go (permitted 2 4 1 0 0)) .bwrPort 31 = 0x10001 ∧
    safetyAccepts (permitted 2 4 1 1 0) 31 ((safetyTo 2 4 1 1).drop 16) = (false, false) ∧
    (bwPortOf (go (permitted 2 4 1 1 0)) 31).level = 2 := by
  unfold MessageAt; decide +kernel

/-- Pulses on receptacle 3: right ones, the first wrong one of P, the second; a contact that opens. -/
theorem test_interlocks :
    let u := litUp 2 4 id id
    let once := { u with bw := { u.bw with wrong := [(6, 1)] } }
    let bad := rput u .bwrStatus (1#64 <<< 61)
    u.bw.closed.Pairwise (fun a b => a.1 < b.1) ∧ (after (.interlockPulse 3 true true 0) once).bw.wrong = [] ∧
    (after (.interlockPulse 3 false true 0) u).bw.wrong = [(6, 1)] ∧
    rget (after (.interlockPulse 3 false true 0) once) .bwrIntlk = 0x4000 ∧
    (bwPortOf (after (.interlockPulse 3 false true 0) once) 31).level = 0 ∧ channelBad bad .p 3 = true ∧
    (after (.interlockPulse 3 false true 0) bad).bw.wrong = [] ∧
    Tab.find 7 (after (.interlockOpen 3 .h 0) u).bw.closed = none ∧ (bwPortOf (after (.interlockOpen 3 .h 0) u) 31).level = 0 := by
  decide +kernel

/-- A brake test of port 31: its start, its first and second checks, and a failure. -/
theorem test_brake :
    let u := { litUp 2 4 id id with now := 10000000 }
    let on := fun (second : Bool) (at_ : Nat) =>
      { litUp 3 4 id (fun b => { b with was := 2, test := some (10000000, second) }) with now := at_ }
    brakePort u 3 = some 31 ∧ u.tide.bay = fieldAt u.plan.safety 12 1 ∧ bayOccurs u u.tide.bay = true ∧ brakeMoment u ≤ u.now ∧
    u.now + 60000000 ≤ bayEndAt u u.tide.bay ∧ (bwPortOf (after (.brakeTestStart 3 0) u) 31).test = some (10000000, false) ∧
    checkPort (on false 16000000) 3 = some 31 ∧ checkPort (on true 55999999) 3 = none ∧
    (bwPortOf (after (.brakeTestCheck 3 true true 0) (on false 16000000)) 31).test = some (10000000, true) ∧
    (bwPortOf (after (.brakeTestCheck 3 true true 0) (on true 56000000)) 31).passed = some 56000000 ∧
    (bwPortOf (after (.brakeTestCheck 3 true true 0) (on true 56000000)) 31).level = 2 ∧
    inLockout (after (.brakeTestCheck 3 true false 0) (on true 56000000)) = true ∧
    (portOf (after (.brakeTestCheck 3 true false 0) (on true 56000000)) 31).st = 0 := by
  decide +kernel

/-! ### Lock-out -/

/-- The chip with port 31 up, an attempt in context 0, and a committed one in context 1. -/
def lit : State :=
  { litUp 2 4 id id with ctxs := [(0, runner 1), (1, { runner 2 with committed := true })] }

/-- A chip with channels faulty as bits of BWR_STATUS, degraded since 1 ms. -/
def faulty (bits : Nat) (now : Nat) : State :=
  let u := rput lit .bwrStatus (BitVec.ofNat 64 bits)
  { u with now := now, bw := { u.bw with degradedAt := some 1000000000 } }

/-- A fault of one channel of edge die 3, told of by the clock monitor too; the same of the other one; a ROM check that fails. -/
theorem test_channel_faults :
    let told := { lit with clk := { lit.clk with told := 2 } }
    let v := after (.channelFault .h 3 0) told
    let w := after (.channelFault .p 3 0) (faulty (2 ^ 57) 5000000)
    rget v .bwrStatus = 0x0240000000000000 ∧ v.bw.degradedAt = some 200000000000 ∧ v.out = [Out.pin "SAFE_FAULT_N" false] ∧
    inLockout w = true ∧ rfield w .bwrStatus 31 24 = 2 ∧ degraded (after (.romCrcCheck false 0) lit) = true ∧
    (after (.channelFault .p 4 0) (faulty (2 ^ 58) 5000000)).out = [] := by
  decide +kernel

/-- The self-tests after a disagreement on edge die 3, with each of their four outcomes. -/
theorem test_channel_self_tests :
    let u := { lit with bw := { lit.bw with disagree := some 3 } }
    let go := fun (p h : Bool) => after (.channelSelfTestDone p [true, true, true, h] 0) u
    rfield (go true true) .bwrStatus 31 24 = 5 ∧ rget (go false true) .bwrStatus = 0x2000000000000000 ∧
    rget (go true false) .bwrStatus = 0x0200000000000000 ∧ rfield (go false false) .bwrStatus 31 24 = 2 := by
  decide +kernel

/-- Degraded mode 10 minutes before its 4 hours are over, and at their end. -/
theorem test_degraded_limit :
    let u := faulty (2 ^ 57) 13801000000000000
    let w := faulty (2 ^ 57) 14401000000000000
    degraded u = true ∧ u.bw.degradedAt = some 1000000000 ∧ (after (.degradedWarning 0) u).bw.warned = true ∧
    (after (.degradedWarning 0) u).log.entries.map (fun e => (e.cls, e.code)) = [(6, 2)] ∧
    rfield (after (.degradedExpired 0) w) .bwrStatus 31 24 = 3 := by
  decide +kernel

/-- Into lock-out: a pin with and without SF's supply, the command, and the entry 16 µs later. -/
theorem test_into_lockout :
    let v : Word := 0x0100000000000000
    let u := rput lit .bwrStatus 0xFFFF
    let w := { lit with bw := { lit.bw with entry := some (4, 199984000000) } }
    rget (after (.externalStop 0 0) u) .bwrStatus = 0x8000000007000000 ∧
    inLockout (after (.externalStop 1 0) { lit with bw := { lit.bw with sfOn := false } }) = true ∧
    reachable lit .pf = true ∧ lit.takesWrite .pf .bwrCmd 0 0 v ∧ lit.takesWrite .bc8 .bwrCmd 0 0 v ∧
    rfield (after (.lockout .bc8 v 0) lit) .bwrStatus 31 24 = 4 ∧ (after (.lockout .pf v 0) lit).bw.entry = some (4, 200000000000) ∧
    (ctxOf (after (.lockoutEntry 0) w) 0).cause = some lockMark ∧ (ctxOf (after (.lockoutEntry 0) w) 1).st = .running ∧
    (bwPortOf (after (.lockoutEntry 0) w) 31).level = 0 ∧
    (after (.lockoutEntry 0) w).log.entries.map (fun e => (e.cls, e.code)) = [(5, 4)] := by
  unfold State.takesWrite; decide +kernel

/-- A chip in lock-out 3, and the same with a reset of scope 0 armed at 2 s, whose challenge is 7. -/
def lockedUp : State := rput lit .bwrStatus 0x8000000004000003

def armedAt (now : Nat) : State :=
  let u := rput lockedUp .bwrResetStatus 0x8000000700000000
  { u with now := now, bw := { u.bw with armAt := some 2000000000000 } }

/-- BC8 may only command LOCKOUT; ARM with its key of scope 4, with another key, and with a scope that does not exist. -/
theorem test_arm :
    let key : Word := 0x02040000FFFC0000
    reachable lockedUp .bc8 = true ∧ lockedUp.takesWrite .pf .bwrCmd 0 0 key ∧ lockedUp.bw.sfOn = true ∧
    (after (.arm .bc8 key 0) lockedUp).log.entries.map (·.code) = [4] ∧
    (after (.confirm .bc8 0x0300000000000000 true true true 0) lockedUp).bw.confirm = none ∧
    (after (.abortC .bc8 0x0400000000000000 0) (armedAt 5000000000000)).bw.armAt.isSome = true ∧
    (after (.arm .pf key 0) lockedUp).bw.armAt = some 200000000000 ∧
    rfield (after (.arm .pf (key + 0x10000) 0) lockedUp) .bwrResetStatus 59 56 = 5 ∧
    rfield (after (.arm .pf (key + 0x1000000000000) 0) lockedUp) .bwrResetStatus 59 56 = 5 ∧
    (after (.abortC .pf 0x0400000000000000 0) (armedAt 5000000000000)).bw.armAt = none ∧
    (after (.armTimeout 0) (armedAt 62000000000001)).bw.armAt = none ∧
    (after (.armTimeout 0) (armedAt 62000000000000)).bw.armAt.isSome = true := by
  unfold State.takesWrite; decide +kernel

/-- CONFIRM 1 s after ARM, before it, without SAFE_PERMIT, with another key, and with nothing armed. -/
theorem test_confirm :
    let v : Word := 0x03000000FFF80000
    let go := fun (now : Nat) (v : Word) (permit : Bool) => after (.confirm .pf v permit true true 0) (armedAt now)
    (armedAt 3000000000000).takesWrite .pf .bwrCmd 0 0 v ∧ (go 3000000000000 v true).bw.confirm = some 0 ∧
    (go 62000000000000 v true).bw.confirm = some 0 ∧ rfield (go 2999999999999 v true) .bwrResetStatus 59 56 = 2 ∧
    rfield (go 62000000000001 v true) .bwrResetStatus 59 56 = 2 ∧ rfield (go 3000000000000 v false) .bwrResetStatus 59 56 = 2 ∧
    rfield (go 3000000000000 (v + 0x10000) true) .bwrResetStatus 59 56 = 5 ∧ (go 3000000000000 (v + 0x10000) true).bw.confirm = none ∧
    rfield (after (.confirm .pf v true true true 0) lockedUp) .bwrResetStatus 59 56 = 2 := by
  unfold State.takesWrite; decide +kernel

/-- The self-tests of a confirmed reset of scope 0 and of scope 4, passed and failed. -/
theorem test_reset_ends :
    let u := fun (scope : Nat) => { rput (armedAt 5000000000000) .bwrIntlk 0xCCCC with bw := { lit.bw with confirm := some scope } }
    let go := fun (scope : Nat) (h : Bool) => after (.resetSelfTestDone true [true, true, true, h] 0) (u scope)
    inLockout (go 0 true) = false ∧ rget (go 0 true) .bwrIntlk = 0 ∧ rfield (go 0 true) .bwrResetStatus 59 56 = 1 ∧
    rfield (go 0 false) .bwrResetStatus 59 56 = 3 ∧ inLockout (go 0 false) = true ∧ rget (go 4 true) .bwrIntlk = 0x0CCC ∧
    inLockout (go 4 true) = true ∧ rfield (go 4 false) .bwrResetStatus 59 56 = 3 ∧ rget (go 4 false) .bwrIntlk = 0xCCCC := by
  decide +kernel

/-- The supply of the safety die is lost, and comes back with PKG_PWROK high and low. -/
theorem test_safety_supply :
    let v := after (.sfPowerLoss 0) lit
    let low := { v with pwr := { v.pwr with pwrok := false } }
    (bwPortOf v 31).level = 0 ∧ v.bw.sfOn = false ∧ v.out.head? = some (Out.pin "LOCKOUT_N" false) ∧
    rget (after (.sfPowerOn true 0) v) .bwrStatus = 0x8000000006000001 ∧ inLockout (after (.sfPowerOn false 0) low) = false ∧
    (after (.sfPowerOn false 0) low).bw.sfOn = true := by
  decide +kernel

/-! ### Security -/

/-- A part in a lifecycle, with its identity, with or without a session. -/
def part (cycle : Nat) (session : Bool) : State :=
  { busy with fuse := { live.fuse with lifecycle := cycle }, sec := { live.sec with session := session, deviceId := true } }

/-- The same part after its entropy source has failed at 5 µs. -/
def starved (cycle : Nat) (session : Bool) : State :=
  { part cycle session with sec := { (part cycle session).sec with badSince := some 5000000, held := [(true, []), (false, [1])] } }

/-- The entropy source: a failure of each kind, the tests that pass again, 100 ms without, a reseed. -/
theorem test_entropy :
    let u := starved 2 false
    let late := { u with now := 100005000000 }
    u.regsOk ∧ rget (after (.entropyTestFail true 0) busy) .secEntropy = 1 ∧ rget (after (.entropyTestFail false 0) busy) .secEntropy = 0x10000 ∧
    bitAt (rget (after (.entropyTestFail true 0) busy) .secStatus) 58 = true ∧ (after (.entropyTestFail true 0) u).sec.badSince = some 5000000 ∧
    (after (.entropyStartupPass 0) u).out.length = 2 ∧ (after (.entropyStartupPass 0) u).sec.held = [] ∧ late.mayFold ∧
    (after (.entropyRecoveryTimeout 0) late).pwr.fold = some (100005000000, .chipLoss) ∧ (after (.entropyRecoveryTimeout 0) u).pwr.fold = none ∧
    (after (.drbgReseed 0) busy).sec.seededAt = 5000000 := by
  unfold State.regsOk State.mayFold; decide +kernel

/-- A glitch: the keys and HBM are gone, the step has ended, a cold reset follows in 10 µs. -/
theorem test_tamper :
    let u := { part 2 true with mem := [(0x100, 1), (t0, 2)], sec := { (part 2 true).sec with lmk := [1] } }
    let v := after (.supplyGlitch 0) u
    v.sec.lmk = [] ∧ v.sec.session = false ∧ v.mem = [(t0, 2)] ∧ v.pwr.c0 = 15000000 ∧ v.pwr.coldCause = 4 ∧ (ctxOf v 0).cause = some 0x68 ∧
    rfield v .secStatus 47 32 = 1 := by
  decide +kernel

/-- SPDM: what is answered, what waits for random values, what is refused. -/
theorem test_spdm :
    let u := part 2 false
    let folding := { u with pwr := { u.pwr with fold := some (5000000, .requested) } }
    let out := fun (i : Instr) (u : State) => (after i u).out.map fun o => match o with | .mgmt c b => (c, b.length) | _ => (0, 0)
    mgmtUp u = true ∧ out (.getMeasurements [] 0) folding = [(0x7F, 1)] ∧ out (.getMeasurements [] 0) live = [(0x7F, 1)] ∧
    (out (.getMeasurements [1] 0) u).map (·.1) = [0x60] ∧ out (.keyExchange [] 0) live = [(0x7F, 1)] ∧ retired u = false ∧
    out (.keyExchange [] 0) (part 3 false) = [(0x7F, 1)] ∧ out (.keyExchange [] 0) (part 2 true) = [(0x7F, 1)] ∧
    (after (.keyExchange [] 0) u).sec.session = true ∧ (after (.keyExchange [9] 0) (starved 2 false)).sec.held.length = 3 ∧
    (after (.spdmSessionEnd 0) (part 2 true)).sec.session = false := by
  decide +kernel

/-- An ECDSA key for slot 3. -/
def slotMsg (n len : Nat) : List Byte := [1, BitVec.ofNat 8 n] ++ zeros len

/-- Key slots and K_T in lifecycle 1, and in no session; KEYS and PRODUCTION. -/
theorem test_provisioning :
    let u := part 1 true
    let keyed := { u with fuse := { u.fuse with mldsaProg := 2, ecdsaProg := 2 } }
    let v := after (.programSlot (slotMsg 3 97) true 0) u
    let w := after (.programSlot (slotMsg 3 97) false 0) u
    let err := [Out.mgmt 0x7F [5]]
    v.fuse.ecdsaProg.testBit 3 = true ∧ v.fuse.ecdsaRev = 0 ∧ w.fuse.ecdsaRev = 8 ∧ (after (.programSlot (slotMsg 4 97) true 0) u).out = err ∧
    (after (.programSlot (slotMsg 3 96) true 0) u).out = err ∧ (after (.programSlot (slotMsg 3 97) true 0) (part 1 false)).out = err ∧
    (after (.exportKt [] 0) (part 2 true)).out = err ∧ rfield u .secStatus 61 60 ≠ 2 ∧ (after (.exportKt [] 0) u).out ≠ err ∧
    (after (.exportKt [] 0) (rput u .secStatus (2#64 <<< 60))).out = err ∧
    (after (.setProduction [] 0) keyed).fuse.lifecycle = 2 ∧ (after (.setProduction [] 0) u).out = err := by
  decide +kernel

/-- A nonce in a session, one that waits, and one in lifecycle 3; DEBUG_ENTER and RETIRE without a valid token, and in no session. A valid
token rests on the signatures, which the model leaves open (Config.mldsaVerify). -/
theorem test_nonce_and_tokens :
    let err := [Out.mgmt 0x7F [5]]
    (after (.getNonce [] 0) (part 0 true)).sec.nonces.length = 1 ∧ (after (.getNonce [] 0) (starved 0 true)).sec.held.length = 3 ∧
    (after (.getNonce [] 0) (part 3 true)).out = err ∧ tokenValid (part 2 true) [1] 3 = false ∧
    (after (.retire [1] 0) (part 2 true)).out = err ∧ (after (.debugEnter [1] 0) (part 2 true)).out = err ∧
    (after (.debugEnter [1] 0) (part 1 false)).out = err ∧ (after (.retire [1] 0) (part 0 true)).out = err := by
  decide +kernel

/-! ### Well-formed commands -/

/-- One term for each check: a number just beyond its range, a flit one byte short. Registers, clocks and the Beacon. -/
theorem test_ill_formed_1 : ([
      .tidBayStartWrite .pf 16 0 0, .tidBayOwnWrite .pf 16 true 0 0, .evtCfgWrite .pf 9 0 0, .bcnHoldsRead .pf 8 0,
      .grnHeldRead .pf 1024 0, .hauBytesRead .pf 32 0, .talDropRead .pf 8 0, .mtxTileBusyRead .pf 16 0 0, .mtxTileBusyRead .pf 0 8 0,
      .vecUnitBusyRead .pf 16 0 0, .vecUnitBusyRead .pf 0 8 0, .mtxLooseRead .pf 8 0, .sfuBusyRead .pf 16 0 0, .sfuBusyRead .pf 0 2 0,
      .sfuEccRead .pf 16 0 0, .sfuEccRead .pf 0 2 0, .winVerdictRead .pf 8 0, .winDropsRead .pf 8 0, .winCensusRead .pf 8 0,
      .fryDropRead .pf 2 0 0, .fryDropRead .pf 0 8 0, .glnDoneRead .pf 2 0 0, .glnDoneRead .pf 0 8 0, .dklErrRead .pf 4 0 0,
      .dklErrRead .pf 0 8 0, .dklFecRead .pf 4 0 0, .dklFecRead .pf 0 8 0, .medRsBusyRead .pf 2 0, .medEncBytesRead .pf 2 0 0,
      .medEncBytesRead .pf 0 4 0, .medEncCappedRead .pf 2 0 0, .medEncCappedRead .pf 0 4 0, .hifFnStatRead .pf 9 0, .hltEccRead .pf 8 0,
      .hltHbmRead .pf 12 0, .pllLockLost 60 0, .edgeRxLockLost 4 0, .killComplete 17 0, .engineStopTimeout 17 0, .vidFall 4 0,
      .bayStart 16 0, .blackoutEnd 8 0, .deadlineKill 17 0, .stepDb 8 [] 0, .stepStart 17 0, .attemptStart 17 0, .primaryResume 8 0,
      .hostTransferDrained 8 0, .slotPost 17 0 0, .slotPost 0 4 0, .nopC 17 .a 0, .add 17 .a 0, .addi 17 .a 0, .sub 17 .a 0,
      .subi 17 .a 0, .mul 17 .a 0, .muli 17 .a 0, .mulhu 17 .a 0, .mulhui 17 .a 0, .mulResultReady 17 0, .andC 17 .a 0, .andi 17 .a 0,
      .orC 17 .a 0, .ori 17 .a 0, .xorC 17 .a 0, .xori 17 .a 0, .shl 17 .a 0, .shli 17 .a 0, .shr 17 .a 0, .shri 17 .a 0] : List Instr).all (fun i => !wellFormed i) = true := by
  decide +kernel

/-- The checks that follow in the table's order. -/
theorem test_ill_formed_2 : ([
      .sar 17 .a 0, .sari 17 .a 0, .minC 17 .a 0, .mini 17 .a 0, .maxC 17 .a 0, .maxi 17 .a 0, .minu 17 .a 0, .minui 17 .a 0,
      .maxu 17 .a 0, .maxui 17 .a 0, .clz 17 .a 0, .cmpeq 17 .a 0, .cmpne 17 .a 0, .cmplt 17 .a 0, .cmpltu 17 .a 0, .cmpge 17 .a 0,
      .cmpgeu 17 .a 0, .cmpeqi 17 .a 0, .cmpnei 17 .a 0, .cmplti 17 .a 0, .cmpltui 17 .a 0, .cmpgei 17 .a 0, .cmpgeui 17 .a 0,
      .pand 17 .a 0, .por 17 .a 0, .pxor 17 .a 0, .pandn 17 .a 0, .sel 17 .a 0, .mfs 17 .a 0, .ld 17 .a 0, .ldDataUsable 17 0,
      .st 17 .a 0, .stLands 17 0, .movhi 17 .a 0, .controlNop 17 0, .br 17 0, .jmpr 17 0, .call 17 0, .ret 17 0, .loop 17 0,
      .loopBackEdge 17 0, .fetch 17 0, .fetchComplete 17 0, .drain 17 0, .commit 17 0, .endC 17 0, .waittick 17 0, .alloc 17 0,
      .release 17 0, .stage 17 0, .resolve 17 0, .kvStage 17 0, .kvGrow 17 0, .kvTrim 17 0, .granaryServe 8 0, .copy 17 0 0, .copy 0 32 0,
      .fill 17 0 0, .fill 0 32 0, .copy2d 17 0 0, .copy2d 0 32 0, .toHost 17 0 0, .toHost 0 32 0, .fromHost 17 0 0, .fromHost 0 32 0,
      .stewardHaulResume 32 0, .tallyAdd 17 0, .tallyReset 17 0, .remoteAdd 17 0, .tallyRead 17 0] : List Instr).all (fun i => !wellFormed i) = true := by
  decide +kernel

/-- The checks that follow in the table's order. -/
theorem test_ill_formed_3 : ([
      .remoteAddMsg 32 0, .gemm 17 0 0 0, .gemm 0 128 0 0, .grouped 17 0 0 0, .grouped 0 128 0 0, .split 17 0 0 0, .split 0 128 0 0,
      .combine 17 0 0 0, .combine 0 128 0 0, .worklistClaim 17 0 true 0, .worklistClaim 0 128 true 0, .looseAdd 17 0 0, .program 17 0 0 0,
      .program 0 128 0 0, .route 17 0 0, .route 0 2 0, .histogram 17 0 0, .histogram 0 2 0, .scatter 17 0 0, .scatter 0 2 0, .census 17 0,
      .censusMsg 32 0, .censusTimeout 17 0, .verdictDb 8 0 [] 0, .answerWindowExpire 17 0, .verdictMsg 32 0, .verdictLost 17 0,
      .exchange 17 0 0, .exchange 0 2 0, .returnC 17 0 0, .returnC 0 2 0, .dispatchRecordArrival 32 0, .returnArrival 32 0,
      .gleanerCombine 17 0 0, .gleanerCombine 0 2 0, .placedMsg 32 0, .placedTimer 17 0, .landedMsg 32 0, .killMsg 32 0, .writeUnit 32 0,
      .readReq 32 0, .process 17 0 0, .process 0 2 0, .configure 17 0 0, .configure 0 8 0, .encode 17 0 0, .encode 0 8 0, .notifyC 17 0,
      .evtHeadDb 9 0 0, .msixHoldoff 9 0 0, .msixHoldoff 0 8 0, .readCompletion 9 0 .ok [] 0, .readCompletion 0 16384 .ok [] 0,
      .completionTimeout 9 0 0, .completionTimeout 0 16384 0, .functionLevelReset 9 0, .flitTx 32 0, .dataFlitRx 32 (zeros 256) 0,
      .dataFlitRx 0 (zeros 255) 0, .idleFlitRx 32 (zeros 256) 0, .idleFlitRx 0 (zeros 255) 0, .ctrlFlitRx 32 (zeros 256) 0,
      .ctrlFlitRx 0 (zeros 255) 0, .ackTimeout 32 0, .portProbeStart 32 0, .rxQualify 32 0, .trainTimeout 32 0, .rxSilence 32 0,
      .codewordLockLost 32 0, .prbsRx 32 0] : List Instr).all (fun i => !wellFormed i) = true := by
  decide +kernel

/-- The checks that follow in the table's order. -/
theorem test_ill_formed_4 : ([
      .retrainTimeout 32 0, .retrain .pf 32 0, .reprobe .pf 32 0, .lossOfSignal 32 0, .signalReturn 32 true 0, .losTimeout 32 0,
      .fullPowerGrant 32 0, .aprReduce 32 0, .interlockPulse 4 true true 0, .interlockOpen 4 .p 0, .overPower 32 .p 0,
      .channelDiscrepancy 32 0, .channelFault .p 4 0, .brakeTestStart 4 0, .brakeTestCheck 4 true true 0, .permitSend 32 0, .permit 32 0,
      .shutdown 32 0, .permitLoss 32 0, .shutdownHoldEnd 32 0, .externalStop 2 0, .seqFault 12 0, .supplyFault 12 0, .testPassExpire 72 0,
      .powerGateRamp 16 true 0, .delayedDelivery 32 0 0, .delayedDelivery 0 4 0, .thermalTrip 40 0, .thermtrip 40 0,
      .brakeTestOverdue 32 0, .hbmTemperatureReport 12 0 0, .busMasterEnable 9 true 0, .receiverAdapted 32 0, .hostDelayedLanding 9 0 0,
      .hostDelayedLanding 0 16384 0] : List Instr).all (fun i => !wellFormed i) = true := by
  decide +kernel

/-- The highest numbers of some ranges. -/
theorem test_well_formed : ([.hltHbmRead .pf 11 0, .hifFnStatRead .pf 8 0, .slotPost 16 3 0, .testPassExpire 71 0, .fill 16 31 0,
      .ctrlFlitRx 31 (zeros 256) 0] : List Instr).all wellFormed = true := by
  decide +kernel

end Sys2Proof.Tests
end

section
/-! SUPPORT and PROOFS. The registers' addresses (O5). -/

namespace Sys2Proof.Machine

/-! ### Register addresses (R8, R24) -/

/-- Two registers can have no address in common: they lie in windows of different classes, or one ends before the other
begins, or their entries alternate at one stride. -/
def Reg.apart (r r' : Reg) : Bool :=
  let f := r.info
  let g := r'.info
  f.win != g.win || decide (f.base + f.stride * (f.count - 1) < g.base) ||
    decide (g.base + g.stride * (g.count - 1) < f.base) ||
    (f.stride == g.stride && f.base % f.stride != g.base % f.stride)

/-- The list of all registers names each register. -/
theorem Reg.mem_all (r : Reg) : r ∈ Reg.all := by
  cases r <;> decide

/-- Any two registers of the table lie apart. -/
theorem Reg.apart_of_ne {r r' : Reg} (h : r ≠ r') : r.apart r' = true := by
  have table : Reg.all.all (fun r => Reg.all.all fun r' => r == r' || r.apart r') = true := by decide +kernel
  have pair := List.all_eq_true.1 (List.all_eq_true.1 table r r.mem_all) r' r'.mem_all
  simpa [h] using pair

/-- Every register has a stride, and its last entry lies in its window of 16 MiB. -/
theorem Reg.fits (r : Reg) : 0 < r.info.stride ∧ r.info.base + r.info.stride * (r.info.count - 1) < 0x1000000 := by
  cases r <;> decide

/-- The offset of an entry of a register is at most that of the last one. -/
theorem Reg.offset_le_last {r : Reg} {i : Nat} (h : i < r.info.count) :
    r.info.base + r.info.stride * i ≤ r.info.base + r.info.stride * (r.info.count - 1) :=
  Nat.add_le_add_left (Nat.mul_le_mul_left _ (by omega)) _

/-- The window index of a die of a class names the class and the die (Table 1.1). -/
theorem winOf_dies (w : Win) : ∀ d < w.dies.2, winOf (w.dies.1 + d) = some (w, d) := by
  cases w <;> decide

/-- An offset of a register's entry that is an offset of another's too belongs to one register with one index. -/
theorem Reg.offset_unique {r r' : Reg} {i i' : Nat} (hw : r'.info.win = r.info.win) (hi : i < r.info.count)
    (hi' : i' < r'.info.count) (ho : r'.info.base + r'.info.stride * i' = r.info.base + r.info.stride * i) :
    r' = r ∧ i' = i := by
  have hr : r' = r := by
    refine Decidable.byContradiction fun hne => ?_
    have last := Reg.offset_le_last hi
    have last' := Reg.offset_le_last hi'
    have h := Reg.apart_of_ne hne
    simp only [Reg.apart, hw, bne_self_eq_false, Bool.false_or, Bool.or_eq_true, decide_eq_true_eq, Bool.and_eq_true,
      beq_iff_eq, bne_iff_ne] at h
    rcases h with (before | after) | ⟨stride, base⟩
    · omega
    · omega
    · have := congrArg (· % r'.info.stride) ho
      simp only [Nat.add_mul_mod_self_left] at this
      rw [← stride, Nat.add_mul_mod_self_left] at this
      exact base this
  subst hr
  exact ⟨rfl, Nat.eq_of_mul_eq_mul_left r'.fits.1 (by omega)⟩

/-- A search finds what some element of the list gives, where no element gives anything else. -/
theorem findSome?_eq_some_of_unique {α β : Type} {l : List α} {f : α → Option β} {a : α} {b : β} (ha : a ∈ l)
    (hab : f a = some b) (h : ∀ x y, f x = some y → y = b) : l.findSome? f = some b := by
  cases hf : l.findSome? f with
  | none => rw [List.findSome?_eq_none_iff] at hf; simp [hf a ha] at hab
  | some y =>
    obtain ⟨x, -, hx⟩ := List.exists_of_findSome?_eq_some hf
    rw [h x y hx]

/-- The offset of an entry of a register names that register and index in the register's window class. -/
theorem Reg.atOffset_eq (r : Reg) {i : Nat} (hi : i < r.info.count) :
    Reg.atOffset r.info.win (r.info.base + r.info.stride * i) = some (r, i) := by
  refine findSome?_eq_some_of_unique r.mem_all ?_ fun r' p h => ?_
  · have := r.fits.1
    simp [Nat.mul_div_cancel_left i this, hi]
  · simp only [Option.ite_none_right_eq_some, Option.some.injEq] at h
    obtain ⟨⟨hw, hb, hm, hc⟩, rfl⟩ := h
    have hdiv := Nat.mul_div_cancel' (Nat.dvd_of_mod_eq_zero hm)
    obtain ⟨rfl, hi'⟩ := Reg.offset_unique hw hi hc (by omega)
    rw [hi']

/-- The address of an entry of a register decodes to the register, the die number and the index (R8, R24). -/
theorem Reg.decode_addr {r : Reg} {d i : Nat} (h : r.inRange d i) : Reg.decode (r.addr d i) = some (r, d, i) := by
  obtain ⟨hd, hi⟩ := h
  have hlt : r.info.base + r.info.stride * i < 0x1000000 := Nat.lt_of_le_of_lt (Reg.offset_le_last hi) r.fits.2
  have hdiv : r.addr d i / 0x1000000 = r.info.win.dies.1 + d := by unfold Reg.addr; omega
  have hmod : r.addr d i % 0x1000000 = r.info.base + r.info.stride * i := by unfold Reg.addr; omega
  rw [Reg.decode, hdiv, hmod, winOf_dies _ d hd]
  dsimp only
  rw [Reg.atOffset_eq r hi]
  rfl

/-- Settles O5: an address names its die's window by division, and within a window class no two registers share an
offset. -/
theorem registerAddressesDecode : Obligations.RegisterAddressesDecode := fun _ _ _ h => Reg.decode_addr h

end Sys2Proof.Machine
end

section
/-! SUPPORT and PROOFS. The write of a register with no check of its own (O6). -/

namespace Sys2Proof.Machine

/-! ### What a write leaves, bit by bit (R10, Table 0.2) -/

/-- A bit is writable where it is RW, or RWS before sealing, in an index that is not RO. -/
theorem Reg.bitAt_writable (s : State) (r : Reg) (i b : Nat) :
    bitAt (r.writable s i) b = true ↔
      r.roIndex i = false ∧ (bitAt r.info.rw b = true ∨ (s.img.isSealed = false ∧ bitAt r.info.rws b = true)) := by
  unfold Reg.writable bitAt
  cases r.roIndex i <;> cases s.img.isSealed <;> simp

/-- The value that a write leaves has the bits that R10 gives. -/
theorem bitAt_writtenValue (s : State) (r : Reg) (i : Nat) (old v : Word) {b : Nat} (hb : b < 64) :
    bitAt (writtenValue s r i old v) b = writtenBit s r i old v b := by
  have hval : bitAt (writtenValue s r i old v) b =
      ((if bitAt (r.writable s i) b = true then bitAt v b else bitAt old b) && !(bitAt r.info.w1c b && bitAt v b)) := by
    cases hw : bitAt (r.writable s i) b <;> rw [bitAt, BitVec.getLsbD_eq_getElem hb] at hw <;>
      simp [writtenValue, bitAt, hb, hw, Bool.or_comm]
  simp only [hval, writtenBit, Reg.bitAt_writable]
  split <;> rfl

/-- What a write leaves depends on the state through sealing alone. -/
theorem writtenBit_congr {s s' : State} (h : s'.img.isSealed = s.img.isSealed) (r : Reg) (i : Nat) (old v : Word) (b : Nat) :
    writtenBit s' r i old v b = writtenBit s r i old v b := by
  simp only [writtenBit, h]

/-! ### The log of an access error -/

/-- An access error changes the log and the counter of suppressed entries only. -/
theorem logAccess_frame (s : State) (src : Src) (code addr who : Nat) :
    logAccess s src code addr who =
      { s with regs := (logAccess s src code addr who).regs, log := (logAccess s src code addr who).log } := by
  unfold logAccess
  dsimp only
  split <;> rfl

/-- An access error leaves each register its one home. -/
theorem regsOk_logAccess {s : State} (h : s.regsOk) (src : Src) (code addr who : Nat) :
    (logAccess s src code addr who).regsOk := by
  unfold logAccess
  dsimp only
  split
  · exact regsOk_rputX h _ _ _ _
  · exact h

/-! ### The write -/

/-- A register with no check and no effect of its own is written by the plain write. -/
theorem writeRegister_of_plain {r : Reg} (h : r.plain = true) (q : Requester) (d i : Nat) (v : Word) (s : State) :
    writeRegister q r d i v s = plainWrite q r d i v (fun _ => true) s := by
  unfold writeRegister
  split
  all_goals simp_all [Reg.plain]

/-- Every entry of a register lies on 8 bytes within the forty windows. -/
theorem Reg.addr_bounds {r : Reg} {d i : Nat} (h : r.inRange d i) : r.addr d i % 8 = 0 ∧ r.addr d i < 0x28000000 := by
  obtain ⟨hd, hi⟩ := h
  have hlast := Nat.lt_of_le_of_lt (Reg.offset_le_last hi) r.fits.2
  have aligned : r.info.base % 8 = 0 ∧ r.info.stride % 8 = 0 := by cases r <;> decide
  have window : r.info.win.dies.1 + r.info.win.dies.2 ≤ 40 := by cases r.info.win <;> decide
  have hstride : r.info.stride * i % 8 = 0 := by rw [Nat.mul_mod, aligned.2, Nat.zero_mul]
  unfold Reg.addr
  omega

/-- A write at a register's own address is the write of that register. -/
theorem writeAddress_regAddr {r : Reg} {d i : Nat} (h : r.inRange d i) (q : Requester) (v : Word) (s : State) :
    writeAddress q (regAddr r d i) v s = writeRegister q r d i v s := by
  obtain ⟨aligned, inside⟩ := Reg.addr_bounds h
  have hoff : regAddr r d i - regBase = r.addr d i := by unfold regAddr; omega
  have hok : ¬(regAddr r d i % 8 ≠ 0 ∨ inRegion (regAddr r d i) = false) := by
    unfold inRegion regAddr regBase
    simp only [Bool.and_eq_false_iff, decide_eq_false_iff_not]
    omega
  rw [writeAddress, if_neg hok, hoff]
  dsimp only
  rw [Reg.decode_addr h]

/-- REGISTER_WRITE at a plain register's address, by a requester that reaches the device, is the plain write. -/
theorem exec_registerWrite_of_plain {r : Reg} {d i : Nat} (hp : r.plain = true) (h : r.inRange d i) {q : Requester}
    {s : State} {t : Nat} (hq : reachable (s.at t) q = true) (v : Word) :
    exec (.registerWrite q (regAddr r d i) v t) s = .next (plainWrite q r d i v (fun _ => true) (s.at t)) := by
  rw [← writeRegister_of_plain hp, ← writeAddress_regAddr h]
  exact whenEnabled_of_true (en := fun u => reachable u q) hq

/-- The state that remembers the writer keeps each register's one home. -/
theorem regsOk_noteWrite {s : State} (h : s.regsOk) (q : Requester) (r : Reg) (d i : Nat) :
    (s.noteWrite q r d i).regsOk := h

/-- What a write leaves: the bits of R10 in its register, every other register, and nothing else but the note of it. -/
theorem afterWrite_spec {s : State} (h : s.regsOk) (q : Requester) (r : Reg) (d i : Nat) (v : Word) :
    (∀ b < 64, bitAt (rgetX (s.afterWrite q r d i v) r d i) b = writtenBit s r i (rgetX s r d i) v b) ∧
    s.otherRegs (s.afterWrite q r d i v) r d i ∧
    s.afterWrite q r d i v = { s.noteWrite q r d i with regs := (s.afterWrite q r d i v).regs } := by
  refine ⟨fun b hb => ?_, fun r' d' i' hne => rgetX_rputX_ne _ hne _, rfl⟩
  rw [State.afterWrite, storeReg, rmod, rgetX_rputX_same (regsOk_noteWrite h q r d i), bitAt_writtenValue _ _ _ _ _ hb]
  exact writtenBit_congr rfl r i _ v b

/-- A write with a reserved bit set is the write that follows an access error with code 0x01. -/
theorem plainWrite_of_reserved {s : State} {q : Requester} {r : Reg} {d i : Nat} {v : Word}
    (hf : fallow s (r.info.win.dies.1 + d) = false) (hm : mayWriteReg q r i = true) (hw : r.hasWritable s i = true)
    (hv : v &&& ~~~r.fields ≠ 0) :
    plainWrite q r d i v (fun _ => true) s = (logAccess s r.src 0x01 (regAddr r d i) (reqCode q)).afterWrite q r d i v := by
  unfold plainWrite guardedWrite
  dsimp only
  rw [hf, hm, hw, if_neg hv]
  rfl

/-- Settles O6: the write is the stored value of R10 on the state, or on the state with the access error logged. -/
theorem registerWriteChangesWritableBitsOnly : Obligations.RegisterWriteChangesWritableBitsOnly := by
  intro s q r d i v t u w hp hr hok hq
  have hexec := exec_registerWrite_of_plain hp hr hq v
  have huok : u.regsOk := hok
  refine ⟨fun htakes => ⟨_, hexec, ?_⟩, fun hf hm hw hv => ⟨_, hexec, ?_⟩⟩
  · have hplain : plainWrite q r d i v (fun _ => true) u = u.afterWrite q r d i v := by
      rw [plainWrite, guardedWrite_of_takes htakes]
      rfl
    rw [hplain]
    exact afterWrite_spec huok q r d i v
  · rw [plainWrite_of_reserved hf hm hw hv]
    obtain ⟨bits, others, frame⟩ := afterWrite_spec (regsOk_logAccess huok r.src 0x01 (regAddr r d i) (reqCode q)) q r d i v
    refine ⟨fun b hb => ?_, others, frame⟩
    rw [bits b hb]
    exact writtenBit_congr (by rw [logAccess_frame]) r i _ v b

end Sys2Proof.Machine
end

section
/-! PROOFS. The register writes with a check of their own (O10), refuted. -/

namespace Sys2Proof.Machine

/-- EVT_CFG_WRITE by a requester that reaches the device is the write of the ring configuration (R623). -/
theorem exec_evtCfgWrite {q : Requester} {f t : Nat} {s : State} (hq : reachable (s.at t) q = true) (hf : f < 9) (v : Word) :
    exec (.evtCfgWrite q f v t) s = .next (writeEvtCfg q f v (s.at t)) :=
  whenEnabled_of_true (t := t) (s := s) (en := fun u => reachable u q && decide (f < 9)) (by simp [hq, hf])

/-- A state with the host's link up whose register list names HIF_EVT_CFG of the physical function twice, first with ENABLE 0 and
then with ENABLE 1, and holds TAIL 5 in its HIF_EVT_PTR. -/
def ringListedTwice : State :=
  { State.reset with
    host := { HostIf.reset with up := true }
    pwr := { Power.reset with inReset := false }
    regs := [(Reg.hifEvtCfg.addr 0 8, 0), (Reg.hifEvtCfg.addr 0 8, 1), (Reg.hifEvtPtr.addr 0 8, 5)] }

/-- The write of 0 over the first of the two entries uncovers the second, whose ENABLE the ring's effect then takes for a rise:
it clears TAIL and HEAD. -/
theorem writeEvtCfg_ringListedTwice :
    rget (writeEvtCfg .pf 8 0 ringListedTwice) .hifEvtPtr 8 = 0 := by decide +kernel

/-- The stored value of R10 alone leaves TAIL and HEAD. -/
theorem afterWrite_ringListedTwice :
    rget (ringListedTwice.afterWrite .pf .hifEvtCfg 0 8 0) .hifEvtPtr 8 = 5 := by decide +kernel

/-- The physical function may write the ring configuration there. -/
theorem takesWrite_ringListedTwice : ringListedTwice.takesWrite .pf .hifEvtCfg 0 8 0 := by
  unfold State.takesWrite
  decide +kernel

/-- Refutes O10: in a state whose register list names HIF_EVT_CFG_8 twice (the statement does not ask for `State.regsOk`), a write of
0, which does not set ENABLE, still clears TAIL and HEAD, because reading the register back gives its second entry. -/
theorem not_checkedWritesStoreOrReject : ¬ Obligations.CheckedWritesStoreOrReject := by
  intro h
  obtain ⟨writes, -⟩ := h
  obtain ⟨-, -, -, -, -, -, -, ring⟩ := writes ringListedTwice .pf 0 8 0 (by decide +kernel)
  obtain ⟨stores, -⟩ := ring (by decide) takesWrite_ringListedTwice
  have stored := stores fun enable => absurd enable (by decide)
  rw [if_neg fun c => absurd c.2 (by decide)] at stored
  have acts := exec_evtCfgWrite (q := .pf) (f := 8) (s := ringListedTwice) (t := 0) (by decide +kernel) (by decide) 0
  rw [acts, Host.Outcome.next.injEq] at stored
  have tail := congrArg (rget · .hifEvtPtr 8) stored
  exact absurd (writeEvtCfg_ringListedTwice.symm.trans (tail.trans afterWrite_ringListedTwice)) (by decide)

end Sys2Proof.Machine
end

section
/-! SUPPORT and PROOFS. Step failure is confined to its context (O18). -/

namespace Sys2Proof.Machine

/-! ### What an operation on one context leaves -/

/-- What acts in context c leaves the moment, the log and every other context. -/
structure ActsIn (c : Nat) (s s' : State) : Prop where
  now : s'.now = s.now
  log : s'.log = s.log
  others : ∀ d, d ≠ c → ctxOf s' d = ctxOf s d

/-- What ends work in context c leaves the commit table, the publication slots and the stalls too. -/
structure EndsIn (c : Nat) (s s' : State) : Prop extends ActsIn c s s' where
  cmt : s'.cmt = s.cmt
  pub : s'.pub = s.pub
  stalls : s'.stalls = s.stalls

/-- To do nothing acts in every context. -/
theorem ActsIn.refl (c : Nat) (s : State) : ActsIn c s s := ⟨rfl, rfl, fun _ _ => rfl⟩

/-- Two acts in a context are one. -/
theorem ActsIn.trans {c : Nat} {s s' s'' : State} (h : ActsIn c s s') (k : ActsIn c s' s'') : ActsIn c s s'' :=
  ⟨k.now.trans h.now, k.log.trans h.log, fun d hd => (k.others d hd).trans (h.others d hd)⟩

/-- To do nothing ends work in every context. -/
theorem EndsIn.refl (c : Nat) (s : State) : EndsIn c s s := ⟨ActsIn.refl c s, rfl, rfl, rfl⟩

/-- Two ends of work in a context are one. -/
theorem EndsIn.trans {c : Nat} {s s' s'' : State} (h : EndsIn c s s') (k : EndsIn c s' s'') : EndsIn c s s'' :=
  ⟨h.toActsIn.trans k.toActsIn, k.cmt.trans h.cmt, k.pub.trans h.pub, k.stalls.trans h.stalls⟩

/-- A fold of steps that each keep a preorder keeps it. -/
theorem foldl_keeps {α : Type} {R : State → State → Prop} (refl : ∀ s, R s s)
    (trans : ∀ {s s' s''}, R s s' → R s' s'' → R s s'') {f : State → α → State} (step : ∀ s x, R s (f s x)) (l : List α)
    (s : State) : R s (l.foldl f s) := by
  induction l generalizing s with
  | nil => exact refl s
  | cons x l ih => exact trans (step s x) (ih (f s x))

/-- A change of a context ends nothing elsewhere. -/
theorem endsIn_modCtx (s : State) (c : Nat) (f : Ctx → Ctx) : EndsIn c s (modCtx s c f) :=
  ⟨⟨rfl, rfl, fun _ hd => ctxOf_modCtx_ne s c f hd⟩, rfl, rfl, rfl⟩

/-- A write of memory touches no context. -/
theorem endsIn_writeMem (c : Nat) (s : State) (a : Nat) (bs : List Byte) : EndsIn c s (writeMem s a bs) := by
  unfold writeMem injectOnWrite
  dsimp only
  split
  · exact EndsIn.refl c s
  · split <;> exact ⟨⟨rfl, rfl, fun _ _ => rfl⟩, rfl, rfl, rfl⟩

/-- The stores that land change memory and their own context (R162). -/
theorem endsIn_landStores (s : State) (c : Nat) : EndsIn c s (landStores s c) := by
  unfold landStores modBcn
  refine EndsIn.trans (foldl_keeps (EndsIn.refl c) EndsIn.trans (fun s p => ?_) (ctxOf s c).bcn.sts s) (endsIn_modCtx _ c _)
  split
  · exact endsIn_writeMem c s _ _
  · exact EndsIn.refl c s

/-- Dropped work is in no context (R162). -/
theorem endsIn_dropWork (c : Nat) (s : State) (uid : Nat) : EndsIn c s (dropWork s uid) := by
  unfold dropWork
  split
  · exact EndsIn.refl c s
  · exact ⟨⟨rfl, rfl, fun _ _ => rfl⟩, rfl, rfl, rfl⟩

/-- A kill notice is one of the notices and nothing else (R166). -/
theorem sendNotice_frame (s : State) (c next cause : Nat) :
    sendNotice s c next cause = { s with notices := (sendNotice s c next cause).notices } := by
  unfold sendNotice
  dsimp only
  split <;> rfl

/-- A kill notice touches no context. -/
theorem endsIn_sendNotice (s : State) (c next cause : Nat) : EndsIn c s (sendNotice s c next cause) := by
  rw [sendNotice_frame]
  exact ⟨⟨rfl, rfl, fun _ _ => rfl⟩, rfl, rfl, rfl⟩

/-! ### The end of an attempt -/

/-- A stopped attempt is killed from this moment on with the cause given, and nothing ends elsewhere (R162). -/
theorem stopAttempt_spec (s : State) (c : Nat) (cause : Option Nat) (next : Option NextAttempt) :
    EndsIn c s (stopAttempt s c cause next) ∧
    (ctxOf (stopAttempt s c cause next) c).st = .killing ∧ (ctxOf (stopAttempt s c cause next) c).cause = cause ∧
    (ctxOf (stopAttempt s c cause next) c).killT = s.now := by
  have work := (endsIn_dropWork c s (ctxOf s c).uid).trans (endsIn_landStores (dropWork s (ctxOf s c).uid) c)
  unfold stopAttempt
  refine ⟨work.trans (endsIn_modCtx _ c _), ?_⟩
  simp [work.now]

/-! ### The commit-table entry -/

/-- The first word of an entry holds STEP, STATUS and CAUSE in their fields. -/
theorem cmtWord_fields (tide cause variant attempt : Nat) (echo urgent drained : Bool) (status step : Nat) :
    bf (cmtWord tide cause variant attempt echo urgent drained status step) 11 0 = step % 4096 ∧
    bf (cmtWord tide cause variant attempt echo urgent drained status step) 28 26 = status % 8 ∧
    bf (cmtWord tide cause variant attempt echo urgent drained status step) 47 40 = cause % 256 := by
  have he := echo.toNat_le
  have hu := urgent.toNat_le
  have hd := drained.toNat_le
  simp only [bf, bitsOf, cmtWord, word, BitVec.toNat_ofNat, Nat.shiftRight_eq_div_pow]
  omega

/-- A written outcome changes the commit table only. -/
theorem writeOutcome_frame (s : State) (c status cause : Nat) :
    writeOutcome s c status cause = { s with cmt := (writeOutcome s c status cause).cmt } := by
  unfold writeOutcome
  dsimp only
  split <;> rfl

/-- R175 leaves the entry unchanged: for DUPLICATE, ECHO_MISMATCH and an echo run. -/
theorem writeOutcome_of_exempt {s : State} {c cause : Nat}
    (h : cause = 0x07 ∨ cause = 0x08 ∨ (ctxOf s c).req.echo = true) (status : Nat) : writeOutcome s c status cause = s :=
  if_pos h

/-- The outcome is written, sound, into the entry of the step, and no other entry changes (R157, R161). -/
theorem writeOutcome_cmt {s : State} {c status cause : Nat} (h7 : cause ≠ 0x07) (h8 : cause ≠ 0x08)
    (he : (ctxOf s c).req.echo = false) (hs : status < 8) :
    let x := ctxOf s c
    let key := 64 * (c / 2) + x.req.step % 64
    let m := (writeOutcome s c status cause).cmt
    (∃ e, Tab.find key m = some e ∧ bf e.w 28 26 = status ∧ bf e.w 47 40 = cause % 256 ∧ bf e.w 11 0 = x.req.step % 4096 ∧
      e.mask = 0 ∧ e.sound = true) ∧
    ∀ k, k ≠ key → Tab.find k m = Tab.find k s.cmt := by
  intro x key m
  have hm : m = (setCmt s (stallNo c) (x.req.step % 64)
      (cmtWord (tideNo s) cause (variantNow x) x.attempt false x.req.urgent false status x.req.step) 0).cmt := by
    simp only [m, writeOutcome, h7, h8, he, false_or, Bool.false_eq_true, if_false, x]
  obtain ⟨hstep, hstatus, hcause⟩ :=
    cmtWord_fields (tideNo s) cause (variantNow x) x.attempt false x.req.urgent false status x.req.step
  rw [Nat.mod_eq_of_lt hs] at hstatus
  rw [hm]
  refine ⟨⟨_, Tab.find_put_same _ _ _, hstatus, hcause, hstep, rfl, ?_⟩, fun k hk => Tab.find_put_ne hk _ _⟩
  simp [CmtEntry.sound]

/-! ### Step failure -/

/-- The state of a step failure before its attempt stops: the entry logged, the outcome written and the notice sent. -/
def failNoted (u : State) (src : Src) (c cause a : Nat) : State :=
  let s := writeOutcome (logRaw u (some c) 3 src cause a 0) c 2 cause
  if noticeCause cause then sendNotice s c 0 cause else s

/-- Before the attempt stops only the log, the commit table and the notices have changed. -/
theorem failNoted_frame (u : State) (src : Src) (c cause a : Nat) :
    failNoted u src c cause a =
      { u with
        log := (logRaw u (some c) 3 src cause a 0).log
        cmt := (writeOutcome (logRaw u (some c) 3 src cause a 0) c 2 cause).cmt
        notices := (failNoted u src c cause a).notices } := by
  unfold failNoted
  dsimp only
  split
  · rw [sendNotice_frame, writeOutcome_frame]
    rfl
  · rw [writeOutcome_frame]
    rfl

/-- An uncommitted step in progress that fails is noted and stopped. -/
theorem stepFail_of_uncommitted {u : State} {c : Nat} (hc : (ctxOf u c).committed = false) (hs : (ctxOf u c).st ≠ .idle)
    (hn : (ctxOf u c).cause = none) (src : Src) (cause a : Nat) :
    stepFail u src c cause a = stopAttempt (failNoted u src c cause a) c (some cause) none := by
  simp [stepFail, failNoted, hc, hs, hn]

/-- Settles O18: the entry, the log and the notice are written on the state as it was, and the stop acts in the context alone. -/
theorem stepFailureIsConfined : Obligations.StepFailureIsConfined := by
  intro u src c cause a x v key
  refine ⟨fun h => if_pos h, fun hc hs hn => ?_⟩
  obtain ⟨ends, hst, hcause, hkill⟩ := stopAttempt_spec (failNoted u src c cause a) c (some cause) none
  rw [← stepFail_of_uncommitted hc hs hn src cause a] at ends hst hcause hkill
  have noted := failNoted_frame u src c cause a
  have hctx : ∀ d, ctxOf (failNoted u src c cause a) d = ctxOf u d := fun d => by rw [noted]; rfl
  have hcmt : v.cmt = (writeOutcome (logRaw u (some c) 3 src cause a 0) c 2 cause).cmt := ends.cmt.trans (by rw [noted])
  refine ⟨hst, hcause, hkill.trans (by rw [noted]), fun d hd => (ends.others d hd).trans (hctx d), ends.pub.trans (by rw [noted]),
    ends.stalls.trans (by rw [noted]), ?_, fun h => ?_, fun h7 h8 he => ?_⟩
  · have hlog : v.log = (logRaw u (some c) 3 src cause a 0).log := ends.log.trans (by rw [noted])
    rw [hlog]
    exact ⟨_, rfl, rfl, rfl, rfl⟩
  · rw [hcmt, writeOutcome_of_exempt (s := logRaw u (some c) 3 src cause a 0) h, logRaw_cmt]
  · rw [hcmt]
    exact writeOutcome_cmt (s := logRaw u (some c) 3 src cause a 0) (status := 2) h7 h8 he (by decide)

end Sys2Proof.Machine
end

section
/-! SUPPORT and PROOFS. A chip loss begins a fold reset (O19). -/

namespace Sys2Proof.Machine

/-! ### Fields of a register (R5) -/

/-- The bits of a register with a field replaced. -/
theorem bitAt_setBf (w : Word) {hi lo : Nat} (v : Nat) {b : Nat} (hb : b < 64) :
    bitAt (setBf w hi lo v) b = if lo ≤ b ∧ b < hi + 1 then v.testBit (b - lo) else bitAt w b := by
  have mask : (maskOf hi lo).getLsbD b = (decide (lo ≤ b) && decide (b - lo < hi + 1 - lo)) := by
    simp only [maskOf, word, BitVec.getLsbD_ofNat, hb, Nat.testBit_mul_two_pow, Nat.testBit_two_pow_sub_one, decide_true,
      Bool.true_and]
  have hlt : b - lo < 64 := by omega
  simp only [bitAt, setBf, word, BitVec.getLsbD_or, BitVec.getLsbD_and, BitVec.getLsbD_not, BitVec.getLsbD_shiftLeft,
    BitVec.getLsbD_ofNat, Nat.testBit_mod_two_pow, mask, hb, hlt, decide_true, Bool.true_and]
  by_cases hlo : lo ≤ b
  · by_cases hhi : b < hi + 1
    · have : b - lo < hi + 1 - lo := by omega
      simp [hlo, hhi, this]
    · have : ¬b - lo < hi + 1 - lo := by omega
      simp [hlo, hhi, this]
  · simp [hlo, Nat.lt_of_not_le hlo]

/-- The bits of a field. -/
theorem testBit_bf (w : Word) (hi lo k : Nat) : (bf w hi lo).testBit k = (decide (k < hi + 1 - lo) && bitAt w (lo + k)) := by
  simp only [bf, bitsOf, bitAt, Nat.testBit_mod_two_pow, Nat.testBit_shiftRight, BitVec.getLsbD]

/-- A field just replaced reads the new value. -/
theorem bf_setBf_same (w : Word) {hi lo : Nat} (v : Nat) (hhi : hi < 64) :
    bf (setBf w hi lo v) hi lo = v % 2 ^ (hi + 1 - lo) := by
  refine Nat.eq_of_testBit_eq fun k => ?_
  rw [testBit_bf, Nat.testBit_mod_two_pow]
  by_cases hk : k < hi + 1 - lo
  · rw [bitAt_setBf w v (by omega), if_pos (by omega), Nat.add_sub_cancel_left]
  · simp [hk]

/-- A field that another field's replacement does not meet stays. -/
theorem bf_setBf_apart (w : Word) {hi lo hi' lo' : Nat} (v : Nat) (hhi' : hi' < 64)
    (hap : hi < lo' ∨ hi' < lo) : bf (setBf w hi lo v) hi' lo' = bf w hi' lo' := by
  refine Nat.eq_of_testBit_eq fun k => ?_
  rw [testBit_bf, testBit_bf]
  by_cases hk : k < hi' + 1 - lo'
  · rw [bitAt_setBf w v (by omega), if_neg (by omega)]
  · simp [hk]

/-! ### Registers read back without the form of the list -/

/-- Different registers have no address in common: an address decodes to one (R8, R24). -/
theorem Reg.addr_ne {r r' : Reg} {d i d' i' : Nat} (hne : r ≠ r') (h : r.inRange d i) (h' : r'.inRange d' i') :
    r.addr d i ≠ r'.addr d' i' := by
  intro ha
  have same := Reg.decode_addr h
  rw [ha, Reg.decode_addr h'] at same
  exact hne (by simpa using congrArg (Option.map Prod.fst) same.symm)

/-- A register written with another value than at reset is read back, whatever the list held. -/
theorem rgetX_rputX_of_ne_reset (s : State) {r : Reg} (d i : Nat) {v : Word} (hv : v ≠ r.info.reset) :
    rgetX (rputX s r d i v) r d i = v := by
  simp [rgetX, rputX, regsPut, if_neg hv]

/-- A write of another register leaves PHASE. -/
theorem phase_rputX {r : Reg} {d i : Nat} (hr : r ≠ .pwrRstStatus) (h : r.inRange d i) (s : State) (v : Word) :
    phase (rputX s r d i v) = phase s := by
  unfold phase rfield
  rw [rgetX_rputX_ne s (Reg.addr_ne hr.symm ⟨by decide, by decide⟩ h)]

/-- PHASE 6 with the cause of a fold reset beside it reads 6. -/
theorem phase_rsetField_setPhase (s : State) (cause : FoldCause) :
    phase (rsetField (setPhase s 6) .pwrRstStatus 59 56 cause.code) = 6 := by
  have six : ∀ w : Word, bf (setBf w 63 60 6) 63 60 = 6 := fun w => bf_setBf_same w 6 (by decide)
  have kept : ∀ w : Word, bf (setBf (setBf w 63 60 6) 59 56 cause.code) 63 60 = 6 := fun w =>
    (bf_setBf_apart _ _ (by decide) (.inl (by decide))).trans (six w)
  have nonzero : ∀ w : Word, bf w 63 60 = 6 → w ≠ Reg.pwrRstStatus.info.reset := fun w h h0 => by
    rw [h0] at h
    exact absurd h (by decide)
  unfold setPhase phase rfield rsetField rmod
  rw [rgetX_rputX_of_ne_reset _ 0 0 (nonzero _ (six _)), rgetX_rputX_of_ne_reset _ 0 0 (nonzero _ (kept _)), kept]

/-! ### What an event leaves (R623-R629) -/

/-- What posts to function fn changes its ring's pointers and counters, the stalls' drains, the host interface and the outputs. -/
structure Posts (fn : Nat) (s s' : State) : Prop where
  frame : s' = { s with regs := s'.regs, stalls := s'.stalls, host := s'.host, out := s'.out }
  others : ∀ r d i, r.addr d i ≠ Reg.hifEvtPtr.addr 0 fn → r.addr d i ≠ Reg.hifFnStat.addr 0 fn →
    rgetX s' r d i = rgetX s r d i

/-- To do nothing posts nothing. -/
theorem Posts.refl (fn : Nat) (s : State) : Posts fn s s := ⟨rfl, fun _ _ _ _ _ => rfl⟩

/-- Two postings to a function are one. -/
theorem Posts.trans {fn : Nat} {s s' s'' : State} (h : Posts fn s s') (k : Posts fn s' s'') : Posts fn s s'' := by
  refine ⟨?_, fun r d i hp hs => (k.others r d i hp hs).trans (h.others r d i hp hs)⟩
  have frame := k.frame
  rw [h.frame] at frame
  exact frame

/-- The state that differs from another in nothing but the stalls, the host interface and the outputs. -/
theorem Posts.of_regs {fn : Nat} {s s' : State} (hr : s'.regs = s.regs)
    (h : s' = { s with stalls := s'.stalls, host := s'.host, out := s'.out }) : Posts fn s s' :=
  ⟨by rw [hr]; exact h, fun r d i _ _ => by unfold rgetX; rw [hr]⟩

/-- Both branches of a choice post. -/
theorem Posts.ite {fn : Nat} {p : Prop} [Decidable p] {s a b : State} (h : Posts fn s a) (k : Posts fn s b) :
    Posts fn s (if p then a else b) := by
  split
  · exact h
  · exact k

/-- A TLP that waits to leave is in the host interface. -/
theorem posts_hostEnqueue (fn : Nat) (s : State) (x : HostTlp) : Posts fn s (hostEnqueue s x) := Posts.of_regs rfl rfl

/-- A changed function is in the host interface. -/
theorem posts_modFn (fn : Nat) (s : State) (f : Nat) (g : Fn → Fn) : Posts fn s (modFn s f g) := Posts.of_regs rfl rfl

/-- A vector is signalled or held in the host interface (R626). -/
theorem posts_signalVec (fn : Nat) (s : State) (f vec : Nat) : Posts fn s (signalVec s f vec) := by
  unfold signalVec
  exact Posts.ite (posts_modFn fn s _ _)
    (Posts.ite ((posts_modFn fn s _ _).trans (posts_hostEnqueue fn _ _)) (posts_modFn fn s _ _))

/-- A write that leaves is an output, and may drain a step and signal a vector. -/
theorem posts_hostSendOne (fn : Nat) (s : State) : Posts fn s (hostSendOne s) := by
  unfold hostSendOne
  split
  · exact Posts.refl fn s
  · split
    · exact Posts.refl fn s
    · dsimp only
      split
      · split <;> exact Posts.of_regs rfl rfl
      · refine Posts.trans ?_ (posts_signalVec fn _ _ _)
        split <;> exact Posts.of_regs rfl rfl

/-- Every write that may leave does so. -/
theorem posts_hostFlush (fn : Nat) (s : State) : Posts fn s (hostFlush s) :=
  foldl_keeps (Posts.refl fn) Posts.trans (fun s _ => posts_hostSendOne fn s) _ s

/-- A record written into a ring advances its TAIL (R623). -/
theorem posts_ringWrite (fn : Nat) (s : State) (rec : List Byte) (vec : Nat) (census : Option Nat) :
    Posts fn s (ringWrite s fn rec vec census) := by
  have tail : ∀ v : Nat, Posts fn s (rsetField s .hifEvtPtr 16 0 v fn) := fun v =>
    ⟨rfl, fun r d i hp _ => rgetX_rputX_ne s hp _⟩
  exact (tail _).trans (posts_hostEnqueue fn _ _)

/-- An OVERFLOW event is a record of its ring (R624). -/
theorem posts_ringOverflow (fn : Nat) (s : State) : Posts fn s (ringOverflow s fn) := by
  unfold ringOverflow
  exact Posts.ite (Posts.refl fn s) ((posts_modFn fn s _ _).trans (posts_ringWrite fn _ _ _ _))

/-- An event is written, or dropped and counted (R624). -/
theorem posts_postEvent (s : State) (fn : Nat) (rec : List Byte) (vec : Nat) (census : Option Nat) :
    Posts fn s (postEvent s fn rec vec census) := by
  have count : ∀ w : State, Posts fn w (rbump w .hifFnStat 47 32 fn) := fun w =>
    ⟨rfl, fun r d i _ hs => rgetX_rputX_ne w hs _⟩
  have room := posts_ringOverflow fn s
  unfold postEvent
  exact Posts.ite (Posts.refl fn s)
    (Posts.ite (room.trans ((count _).trans (posts_modFn fn _ _ _)))
      (room.trans ((posts_ringWrite fn _ _ _ _).trans (posts_hostFlush fn _))))

/-- An event of the physical function is in its own ring (Table 16.6). -/
theorem posts_postPf (s : State) (type result data vec : Nat) : Posts 8 s (postPf s type result data vec) :=
  posts_postEvent s 8 _ vec none

/-- An event leaves PHASE. -/
theorem Posts.phase {fn : Nat} {s s' : State} (h : Posts fn s s') (hfn : fn < 9) : phase s' = phase s := by
  unfold Machine.phase rfield
  rw [h.others _ _ _ (Reg.addr_ne (by decide) ⟨by decide, by decide⟩ ⟨by decide, hfn⟩)
    (Reg.addr_ne (by decide) ⟨by decide, by decide⟩ ⟨by decide, hfn⟩)]


/-! ### A context at the trigger of a fold reset (R746) -/

/-- What changes neither the moment, the log nor the contexts acts in no context. -/
theorem ActsIn.of_eq {c : Nat} {s s' : State} (hn : s'.now = s.now) (hl : s'.log = s.log) (hc : s'.ctxs = s.ctxs) :
    ActsIn c s s' :=
  ⟨hn, hl, fun d _ => by unfold ctxOf; rw [hc]⟩

/-- An event touches no context. -/
theorem Posts.actsIn {fn : Nat} {s s' : State} (h : Posts fn s s') (c : Nat) : ActsIn c s s' :=
  ActsIn.of_eq (by rw [h.frame]) (by rw [h.frame]) (by rw [h.frame])

/-- An OUTCOME event touches no context (R627). -/
theorem actsIn_postOutcome (s : State) (c : Nat) (req : StepReq) (attempt variant status cause : Nat) :
    ActsIn c s (postOutcome s c req attempt variant status cause) :=
  (posts_postEvent s (stallNo c) _ _ _).actsIn c

/-- An emptied side is a slot's (R161). -/
theorem actsIn_unstage (c : Nat) (s : State) (n uid j : Nat) : ActsIn c s (unstage s n uid j) := by
  unfold unstage
  dsimp only
  split
  · split
    · exact ActsIn.of_eq rfl rfl rfl
    · exact ActsIn.refl c s
  · exact ActsIn.of_eq rfl rfl rfl

/-- A buffer that returns is in no context (R246). -/
theorem actsIn_freeBuf (c : Nat) (s : State) (k : Nat) : ActsIn c s (freeBuf s k) := by
  unfold freeBuf
  dsimp only
  split
  · exact ActsIn.of_eq rfl rfl rfl
  · exact ActsIn.refl c s

/-- The buffers that return are in no context (R161). -/
theorem actsIn_freeHeldBy (c : Nat) (s : State) (uid : Nat) : ActsIn c s (freeHeldBy s uid) := by
  unfold freeHeldBy
  split
  · exact ActsIn.refl c s
  · refine foldl_keeps (ActsIn.refl c) ActsIn.trans (fun s kb => ?_) _ s
    split
    · exact actsIn_freeBuf c s _
    · exact ActsIn.refl c s

/-- What an attempt gives back changes its own context only (R161). -/
theorem actsIn_releaseAttempt (s : State) (c : Nat) : ActsIn c s (releaseAttempt s c) := by
  unfold releaseAttempt
  dsimp only
  refine ActsIn.trans (ActsIn.trans ?_ (endsIn_modCtx _ c _).toActsIn) (actsIn_freeHeldBy c _ _)
  split
  · exact ActsIn.refl c s
  · exact foldl_keeps (ActsIn.refl c) ActsIn.trans (fun s j => actsIn_unstage c s _ _ j) _ s

/-- At a chip loss the context is emptied, and nothing else in the log or another context changes. -/
theorem foldContext_spec (s : State) (c : Nat) :
    ActsIn c s (foldContext s .chipLoss c) ∧ (ctxOf (foldContext s .chipLoss c) c).st = .idle := by
  unfold foldContext
  dsimp only
  refine ⟨ActsIn.trans (ActsIn.trans (ActsIn.trans ?_ (endsIn_dropWork c _ _).toActsIn) (actsIn_releaseAttempt _ c))
    ⟨rfl, rfl, fun d hd => ctxOf_setCtx_ne _ c _ hd⟩, by rw [ctxOf_setCtx_same]; rfl⟩
  split
  · exact (endsIn_sendNotice s c 0 0).toActsIn.trans (ActsIn.of_eq rfl rfl rfl)
  · split
    · exact actsIn_postOutcome s c _ _ _ _ _
    · exact ActsIn.refl c s

/-- Every context of a list is emptied, and an idle one stays idle. -/
theorem foldContexts_spec (l : List Nat) (s : State) :
    let v := l.foldl (fun s c => foldContext s .chipLoss c) s
    v.now = s.now ∧ v.log = s.log ∧ ∀ d, d ∈ l ∨ (ctxOf s d).st = .idle → (ctxOf v d).st = .idle := by
  induction l generalizing s with
  | nil => exact ⟨rfl, rfl, fun d h => h.resolve_left List.not_mem_nil⟩
  | cons c l ih =>
    obtain ⟨acts, emptied⟩ := foldContext_spec s c
    obtain ⟨now, log, idle⟩ := ih (foldContext s .chipLoss c)
    refine ⟨now.trans acts.now, log.trans acts.log, fun d h => idle d ?_⟩
    by_cases hd : d = c
    · exact .inr (hd ▸ emptied)
    · rw [acts.others d hd]
      exact h.imp_left fun hm => (List.mem_cons.1 hm).resolve_left hd

/-! ### The images that a reset discards (R137) -/

/-- At most one entry has been written to a log (R777). -/
def Log.OneMore (l l' : Log) : Prop := l' = l ∨ ∃ e, l'.entries = (e :: l.entries).take 8192

/-- An entry written is one more. -/
theorem oneMore_logRaw (s : State) (c : Option Nat) (cls : Nat) (src : Src) (code d0 d1 : Nat) :
    s.log.OneMore (logRaw s c cls src code d0 d1).log := .inr ⟨_, rfl⟩

/-- The newest entry of a log is still in it after one more. -/
theorem Log.OneMore.newest_mem {l l' : Log} (h : l.OneMore l') {e : LogEntry} {es : List LogEntry}
    (he : l.entries = (e :: es).take 8192) : e ∈ l'.entries := by
  obtain ⟨n, hn⟩ : ∃ n, 8192 = n + 2 := ⟨8190, rfl⟩
  rw [hn] at he
  rcases h with rfl | ⟨x, hx⟩
  · simp [he]
  · rw [hn] at hx
    simp [hx, he]

/-- What reports images leaves the moment and the contexts, and writes one entry at most. -/
structure Reports (s s' : State) : Prop where
  now : s'.now = s.now
  ctxs : s'.ctxs = s.ctxs
  log : s.log.OneMore s'.log

/-- An event after a report writes no entry. -/
theorem Reports.post {fn : Nat} {s s' s'' : State} (h : Reports s s') (k : Posts fn s' s'') : Reports s s'' := by
  rw [k.frame]
  exact ⟨h.now, h.ctxs, h.log⟩

/-- A shown code is in its register (R121). -/
theorem reports_showImage (s : State) (r : Reject) : Reports s (showImage s r) :=
  ⟨rputX_now .., rputX_ctxs .., .inl (rputX_log ..)⟩

/-- A reported code is shown, logged where it is a rejection, and posted (R121). -/
theorem reports_reportImage (s : State) (r : Reject) : Reports s (reportImage s r) := by
  unfold reportImage
  refine Reports.post ?_ (posts_postPf _ 0x10 r.1 0 1)
  split
  · exact reports_showImage s r
  · have one := oneMore_logRaw (showImage s r) none 6 .sec 0x05 r.1 (r.2.1 + 256 * r.2.2)
    have shown : (showImage s r).log = s.log := rputX_log ..
    exact ⟨(logRaw_now ..).trans (rputX_now ..), (logRaw_ctxs ..).trans (rputX_ctxs ..), shown ▸ one⟩

/-- A rejected boot image changes PHASE besides (Table 19.4). -/
theorem reports_rejectImage (s : State) (r : Reject) : Reports s (rejectImage s r) := by
  have report := reports_reportImage s r
  unfold rejectImage backToWaiting setPhase
  split
  · refine ⟨?_, ?_, ?_⟩
    · rw [rsetField_now, report.now]
    · rw [rsetField_ctxs, report.ctxs]
    · rw [rsetField_log]
      exact report.log
  · exact report

/-- The images that a reset discards are reported once (R137). -/
theorem reports_discardImages (s : State) (waiting : Bool) : Reports s (discardImages s waiting) := by
  unfold discardImages
  dsimp only
  split
  · have report := reports_rejectImage
      { s with img := { s.img with
          checking := none, pending := none, applying := false, changes := 0, applyTide := 0
          waiting := if waiting then none else s.img.waiting } } (0x17, 0xFF, 0)
    exact ⟨report.now, report.ctxs, report.log⟩
  · exact ⟨rfl, rfl, .inl rfl⟩

/-! ### The trigger -/

/-- The contexts at the trigger of a chip loss, emptied one by one. -/
def foldedContexts (s : State) : State := (List.range 16).foldl (fun s c => foldContext s .chipLoss c) s

/-- PHASE 6 and the cause of the fold reset shown, with its time 0 now. -/
def foldBegun (s : State) (cause : FoldCause) : State :=
  let v := rsetField (setPhase s 6) .pwrRstStatus 59 56 cause.code
  { v with pwr := { v.pwr with fold := some (v.now, cause), foldRun := false, badCheck := none } }

/-- A chip loss that may trigger a fold reset empties the contexts, discards the images and begins it. -/
theorem triggerFold_of_mayFold {s : State} (h : s.mayFold) :
    triggerFold s .chipLoss = foldBegun (discardImages (foldedContexts s) true) .chipLoss := by
  obtain ⟨hfold, hreset, hcold, hphase1, hphase8⟩ := h
  have allowed : ¬(s.pwr.fold.isSome ∨ s.pwr.inReset ∨ s.pwr.coldDue ∨ phase s = 1 ∨ phase s = 8) := by
    simp [hfold, hreset, hcold, hphase1, hphase8]
  unfold triggerFold
  rw [if_neg allowed]
  dsimp only [foldBegun, foldedContexts]

/-- A fold reset that begins is timed and shown, and leaves the contexts and the log. -/
theorem foldBegun_spec (s : State) (cause : FoldCause) :
    (foldBegun s cause).pwr.fold = some (s.now, cause) ∧ phase (foldBegun s cause) = 6 ∧
    (foldBegun s cause).ctxs = s.ctxs ∧ (foldBegun s cause).log = s.log := by
  refine ⟨?_, phase_rsetField_setPhase s cause, ?_, ?_⟩ <;>
    simp only [foldBegun, setPhase, rsetField_now, rsetField_ctxs, rsetField_log]

/-- A chip loss that may trigger a fold reset begins one now: PHASE 6, every context idle, and at most one entry more. -/
theorem triggerFold_chipLoss_spec {s : State} (h : s.mayFold) :
    let v := triggerFold s .chipLoss
    v.pwr.fold = some (s.now, .chipLoss) ∧ phase v = 6 ∧ (∀ c < 16, (ctxOf v c).st = .idle) ∧ s.log.OneMore v.log := by
  obtain ⟨now, log, idle⟩ := foldContexts_spec (List.range 16) s
  have report := reports_discardImages (foldedContexts s) true
  obtain ⟨begun, six, ctxs, begunLog⟩ := foldBegun_spec (discardImages (foldedContexts s) true) .chipLoss
  rw [triggerFold_of_mayFold h]
  refine ⟨?_, six, fun c hc => ?_, ?_⟩
  · rw [begun, report.now, foldedContexts, now]
  · rw [ctxOf, ctxs, report.ctxs]
    exact idle c (.inl (List.mem_range.2 hc))
  · rw [begunLog, ← log]
    exact report.log

/-! ### Chip loss (R14, R759) -/

/-- The state of a chip loss before its fold reset: HLT_LOSS counted and shown, and the event posted. -/
def lossShown (s : State) (src : Src) (code seq : Nat) : State :=
  let s := rbump s .hltLoss 63 48
  let s := rsetField (rsetField (rsetField s .hltLoss 47 40 code) .hltLoss 39 32 src.code) .hltLoss 23 0 seq
  postPf s 0x12 0 (seq % 2 ^ 24 % 8192) 3

/-- A loss is shown, and then a fold reset is triggered or, during one, an uncorrectable error or a mismatch is held as a failed
check (R759, R795). -/
theorem lossEffects_eq (s : State) (src : Src) (code seq : Nat) :
    lossEffects s src code seq =
      let v := lossShown s src code seq
      if v.pwr.fold.isSome then
        if code = 0x02 ∨ code = 0x03 then { v with pwr := { v.pwr with badCheck := some (v.pwr.badCheck.getD 3) } } else v
      else triggerFold v .chipLoss := rfl

/-- What shows a loss changes registers, stalls, the host interface and the outputs. -/
theorem lossShown_frame (s : State) (src : Src) (code seq : Nat) :
    let v := lossShown s src code seq
    v = { s with regs := v.regs, stalls := v.stalls, host := v.host, out := v.out } :=
  (posts_postPf _ _ _ _ _).frame

/-- What shows a loss leaves PHASE. -/
theorem phase_lossShown (s : State) (src : Src) (code seq : Nat) : phase (lossShown s src code seq) = phase s := by
  have hltLoss : ∀ (w : State) (v : Word), phase (rputX w .hltLoss 0 0 v) = phase w :=
    phase_rputX (by decide) ⟨by decide, by decide⟩
  unfold lossShown
  rw [(posts_postPf _ _ _ _ _).phase (by decide)]
  simp only [rbump, rsetField, rmod, hltLoss]

/-- Settles O19: the loss is logged and shown, which neither ends a fold reset nor hinders one, and the trigger empties the
contexts. -/
theorem chipLossBeginsAFoldReset : Obligations.ChipLossBeginsAFoldReset := by
  intro u src code d0 d1 v
  have shown := lossShown_frame (logRaw u none 4 src code d0 d1) src code u.log.seq
  have hphase : phase (lossShown (logRaw u none 4 src code d0 d1) src code u.log.seq) = phase u :=
    phase_lossShown (logRaw u none 4 src code d0 d1) src code u.log.seq
  have hv : v = lossEffects (logRaw u none 4 src code d0 d1) src code u.log.seq := rfl
  rw [lossEffects_eq] at hv
  generalize lossShown (logRaw u none 4 src code d0 d1) src code u.log.seq = w at shown hphase hv
  dsimp only at shown hv
  have hpwr : w.pwr = u.pwr := by rw [shown]; rfl
  refine ⟨fun hfold hreset hcold hphase1 hphase8 => ?_, fun hfold => ?_⟩
  · rw [hpwr, hfold, if_neg (by decide)] at hv
    obtain ⟨fold, six, idle, log⟩ := triggerFold_chipLoss_spec (s := w)
      ⟨hpwr ▸ hfold, hpwr ▸ hreset, hpwr ▸ hcold, hphase ▸ hphase1, hphase ▸ hphase8⟩
    rw [← hv] at fold six idle log
    have hnow : w.now = u.now := by rw [shown]; rfl
    have hlog : w.log = (logRaw u none 4 src code d0 d1).log := by rw [shown]
    exact ⟨hnow ▸ fold, six, idle, _, log.newest_mem (congrArg Log.entries hlog), rfl, rfl, rfl⟩
  · rw [hpwr, if_pos hfold] at hv
    have hctxs : w.ctxs = u.ctxs := by rw [shown]; rfl
    have hcmt : w.cmt = u.cmt := by rw [shown]; rfl
    have hmem : w.mem = u.mem := by rw [shown]; rfl
    rw [hv]
    split
    · exact ⟨rfl, hctxs, hcmt, hmem⟩
    · exact ⟨congrArg Power.fold hpwr, hctxs, hcmt, hmem⟩

end Sys2Proof.Machine
end

section
/-! SUPPORT. Operations that write some registers and leave the others. -/

namespace Sys2Proof.Machine

/-! ### What an operation on registers leaves -/

/-- What changes registers of a list leaves every other register, and each register its one home. -/
structure ChangesRegs (rs : List Reg) (s s' : State) : Prop where
  regsOk : s.regsOk → s'.regsOk
  others : ∀ {r d i}, r ∉ rs → r.inRange d i → rgetX s' r d i = rgetX s r d i

/-- What writes registers of a list changes nothing else but the log. -/
structure WritesRegs (rs : List Reg) (s s' : State) : Prop extends ChangesRegs rs s s' where
  frame : s' = { s with regs := s'.regs, log := s'.log }

section
variable {rs rs' : List Reg} {s s' s'' : State}

/-- The state with the same registers. -/
theorem ChangesRegs.of_eq (h : s'.regs = s.regs) : ChangesRegs rs s s' :=
  ⟨fun ok => by unfold State.regsOk; rw [h]; exact ok, fun _ _ => by unfold rgetX; rw [h]⟩

/-- The registers of two changes are those of either. -/
theorem ChangesRegs.trans (h : ChangesRegs rs s s') (k : ChangesRegs rs' s' s'') : ChangesRegs (rs ++ rs') s s'' := by
  refine ⟨fun ok => k.regsOk (h.regsOk ok), fun hr hin => ?_⟩
  obtain ⟨hrs, hrs'⟩ := not_or.1 (mt List.mem_append.2 hr)
  exact (k.others hrs' hin).trans (h.others hrs hin)

/-- A field of another register stays. -/
theorem ChangesRegs.rfield (h : ChangesRegs rs s s') {r : Reg} {d i : Nat} (hr : r ∉ rs) (hin : r.inRange d i) (hi lo : Nat) :
    Machine.rfield s' r hi lo i d = Machine.rfield s r hi lo i d := by
  unfold Machine.rfield
  rw [h.others hr hin]

/-- To do nothing writes nothing. -/
theorem WritesRegs.refl (rs : List Reg) (s : State) : WritesRegs rs s s := ⟨ChangesRegs.of_eq rfl, rfl⟩

/-- The registers of two writes are those of either. -/
theorem WritesRegs.trans (h : WritesRegs rs s s') (k : WritesRegs rs' s' s'') : WritesRegs (rs ++ rs') s s'' := by
  refine ⟨h.toChangesRegs.trans k.toChangesRegs, ?_⟩
  have frame := k.frame
  rw [h.frame] at frame
  exact frame

/-- Two writes of the same registers are one. -/
theorem WritesRegs.then (h : WritesRegs rs s s') (k : WritesRegs rs s' s'') : WritesRegs rs s s'' :=
  ⟨⟨(h.trans k).regsOk, fun hr => (h.trans k).others (by simpa using hr)⟩, (h.trans k).frame⟩

/-- Both branches of a choice write. -/
theorem WritesRegs.ite {p : Prop} [Decidable p] (h : WritesRegs rs s s') (k : WritesRegs rs s s'') :
    WritesRegs rs s (if p then s' else s'') := by
  split
  · exact h
  · exact k

/-- A fold of writes over a list is one. -/
theorem WritesRegs.foldl {α : Type} {f : State → α → State} {l : List α} (h : ∀ s, ∀ x ∈ l, WritesRegs rs s (f s x)) :
    WritesRegs rs s (l.foldl f s) :=
  List.foldlRecOn l f (motive := WritesRegs rs s) (WritesRegs.refl rs s) fun s' hs x hx => hs.then (h s' x hx)

/-- Memory stays. -/
theorem WritesRegs.mem (h : WritesRegs rs s s') : s'.mem = s.mem := by rw [h.frame]
/-- The clocks stay. -/
theorem WritesRegs.clk (h : WritesRegs rs s s') : s'.clk = s.clk := by rw [h.frame]
/-- The tide stays. -/
theorem WritesRegs.tide (h : WritesRegs rs s s') : s'.tide = s.tide := by rw [h.frame]
/-- The power and reset state stays. -/
theorem WritesRegs.pwr (h : WritesRegs rs s s') : s'.pwr = s.pwr := by rw [h.frame]

end

/-- A register of the list is written. -/
theorem writesRegs_rputX {rs : List Reg} {r : Reg} {d i : Nat} (hr : r ∈ rs) (hin : r.inRange d i) (s : State) (v : Word) :
    WritesRegs rs s (rputX s r d i v) :=
  ⟨⟨fun ok => regsOk_rputX ok r d i v,
    fun hr' hin' => rgetX_rputX_ne s (Reg.addr_ne (ne_of_mem_of_not_mem hr hr').symm hin' hin) v⟩, rfl⟩

/-- A field of a register of the list is written. -/
theorem writesRegs_rsetField {rs : List Reg} {r : Reg} {d i : Nat} (hr : r ∈ rs) (hin : r.inRange d i) (s : State)
    (hi lo v : Nat) : WritesRegs rs s (rsetField s r hi lo v i d) :=
  writesRegs_rputX hr hin s _

/-- A counter of a register of the list is raised. -/
theorem writesRegs_rbump {rs : List Reg} {r : Reg} {d i : Nat} (hr : r ∈ rs) (hin : r.inRange d i) (s : State)
    (hi lo n : Nat) : WritesRegs rs s (rbump s r hi lo i n d) :=
  writesRegs_rputX hr hin s _

/-- An entry of the log is in no register. -/
theorem writesRegs_logRaw (rs : List Reg) (s : State) (c : Option Nat) (cls : Nat) (src : Src) (code d0 d1 : Nat) :
    WritesRegs rs s (logRaw s c cls src code d0 d1) :=
  ⟨ChangesRegs.of_eq rfl, rfl⟩

/-- An access error counts in LOG_STATUS where its entry is suppressed (R779). -/
theorem writesRegs_logAccess {rs : List Reg} (hr : .logStatus ∈ rs) (s : State) (src : Src) (code addr who : Nat) :
    WritesRegs rs s (logAccess s src code addr who) := by
  unfold logAccess
  exact WritesRegs.ite (writesRegs_rbump hr ⟨by decide, by decide⟩ s _ _ _) ⟨ChangesRegs.of_eq rfl, rfl⟩

/-! ### Fields read back -/

section
variable {s : State} {r : Reg} {hi lo d i : Nat}

/-- A field just written is read back. -/
theorem rfield_rsetField_same (ok : s.regsOk) (hhi : hi < 64) (v : Nat) :
    rfield (rsetField s r hi lo v i d) r hi lo i d = v % 2 ^ (hi + 1 - lo) := by
  rw [rfield, rsetField, rmod, rgetX_rputX_same ok, bf_setBf_same _ v hhi]

/-- A field written leaves a field of its register that it does not meet. -/
theorem rfield_rsetField_apart {hi' lo' : Nat} (ok : s.regsOk) (hhi' : hi' < 64) (hap : hi < lo' ∨ hi' < lo) (v : Nat) :
    rfield (rsetField s r hi lo v i d) r hi' lo' i d = rfield s r hi' lo' i d := by
  rw [rfield, rsetField, rmod, rgetX_rputX_same ok, bf_setBf_apart _ v hhi' hap, rfield]

/-- A field is less than its width allows. -/
theorem rfield_lt (s : State) (r : Reg) (hi lo i d : Nat) : rfield s r hi lo i d < 2 ^ (hi + 1 - lo) :=
  Nat.mod_lt _ (Nat.two_pow_pos _)

end

end Sys2Proof.Machine
end

section
/-! PROOFS. The deadline monitor (O17). -/

namespace Sys2Proof.Machine

/-- DEADLINE_KILL at K, where none of the cases of R81 takes it away, is the kill. -/
theorem exec_deadlineKill {s : State} {c t : Nat} (hc : c < 16) (applies : deadlineApplies (s.at t) c = true)
    (hk : killTime (s.at t) c ≤ (s.at t).now) : exec (.deadlineKill c t) s = .next (deadlineKill (s.at t) c) :=
  (whenEnabled_of_true (by simp only [hc, applies, hk, decide_true, Bool.and_self]) : execDeadlineKill c t s = _)

/-- The fall-back attempt that follows the deadline kill of a context (R80). -/
def fallbackAttempt (s : State) (c : Nat) : NextAttempt :=
  { at_ := killTime s c + ns 4000, fallback := true, number := (ctxOf s c).attempt + 1, first := false, notice := false,
    monitor := true }

/-- A deadline kill tells the group and stops the attempt, or ends the step that would need a fifth attempt (R80, R165). -/
theorem deadlineKill_eq (s : State) (c : Nat) :
    deadlineKill s c = if 3 ≤ (ctxOf s c).attempt then stepFail s .stl c 0x06
      else stopAttempt (sendNotice s c 1 0) c none (some (fallbackAttempt s c)) := rfl

/-- A stopped attempt is followed by the one given. -/
theorem stopAttempt_next (s : State) (c : Nat) (cause : Option Nat) (next : Option NextAttempt) :
    (ctxOf (stopAttempt s c cause next) c).next = next := by
  simp [stopAttempt]

/-- Settles O17: the notice and the stop act in the context alone. -/
theorem deadlineKillStartsTheFallback : Obligations.DeadlineKillStartsTheFallback := by
  intro s c t u x hc applies hk
  have hexec := exec_deadlineKill hc applies hk
  rw [deadlineKill_eq] at hexec
  refine ⟨fun h => ⟨_, hexec, ?_⟩, fun h => by rwa [if_pos h] at hexec⟩
  rw [if_neg (Nat.not_le.2 h)]
  have notice := endsIn_sendNotice u c 1 0
  obtain ⟨stop, hst, hcause, hkill⟩ := stopAttempt_spec (sendNotice u c 1 0) c none (some (fallbackAttempt u c))
  have ends := notice.trans stop
  exact ⟨hst, hkill.trans notice.now, hcause, ⟨_, stopAttempt_next _ _ _ _, rfl, rfl, rfl⟩, ends.others, ends.pub, ends.cmt,
    ends.log⟩

end Sys2Proof.Machine
end

section
/-! PROOFS. Bays, the refresh plan and the temperature reports (O16). -/

namespace Sys2Proof.Machine

/-- BAY_START of the next bay of a running tide, at its start. -/
theorem exec_bayStart {s : State} {j t : Nat} (running : (s.at t).tide.running = true) (sampled : (s.at t).tide.sampled = false)
    (next : j = (s.at t).tide.bay + 1) (occurs : bayOccurs (s.at t) j = true) (start : bayStartAt (s.at t) j ≤ (s.at t).now) :
    exec (.bayStart j t) s = .next { s.at t with tide := { (s.at t).tide with bay := j } } :=
  (whenEnabled_of_true (by simp only [running, sampled, ← next, occurs, start, Bool.not_false, beq_self_eq_true, decide_true,
    Bool.and_self]) : execBayStart j t s = _)

/-- When slot j of the tide begins (R86). -/
def slotAt (s : State) (j : Nat) : Nat := s.tide.tick + j * refSpacing s

/-- When the blackout of slot j ends: BLACKOUT after the slot, or after a blackout of its bank that runs longer (R86). -/
def blackoutUntil (s : State) (j : Nat) : Nat :=
  (match s.tide.blackouts.find? (·.1 == j % 8) with | some b => max (slotAt s j) b.2 | none => slotAt s j) + refBlackout s

/-- REFRESH_SLOT of the next slot, whose blackout ends by the expected tick. -/
theorem exec_refreshSlot {s : State} {t : Nat} (running : (s.at t).tide.running = true)
    (slot : slotAt (s.at t) (s.at t).tide.slots ≤ (s.at t).now)
    (fits : slotAt (s.at t) (s.at t).tide.slots + refBlackout (s.at t) ≤ (s.at t).tide.expected) :
    let u := s.at t
    let j := u.tide.slots
    exec (.refreshSlot j t) s = .next { u with tide := { u.tide with
      slots := j + 1, blackouts := u.tide.blackouts.filter (·.1 != j % 8) ++ [(j % 8, blackoutUntil u j)] } } := by
  unfold slotAt at slot fits
  exact (whenEnabled_of_true (by simp only [running, slot, fits, beq_self_eq_true, decide_true, Bool.and_self]) :
    execRefreshSlot (s.at t).tide.slots t s = _)

/-- A blackout lasts BLACKOUT at least, and no longer where its bank has none that runs. -/
theorem blackoutUntil_spec (s : State) (j : Nat) :
    slotAt s j + refBlackout s ≤ blackoutUntil s j ∧
    ((∀ b ∈ s.tide.blackouts, b.1 ≠ j % 8) → blackoutUntil s j = slotAt s j + refBlackout s) := by
  unfold blackoutUntil
  split
  next b found =>
    have bank := List.find?_some found
    refine ⟨Nat.add_le_add_right (Nat.le_max_left _ _) _, fun none => ?_⟩
    exact absurd (beq_iff_eq.1 bank) (none b (List.mem_of_find?_eq_some found))
  next => exact ⟨Nat.le_refl _, fun _ => rfl⟩

/-- BLACKOUT_END of a bank whose blackout is over. -/
theorem exec_blackoutEnd {s : State} {j t : Nat} (ends : ∃ b ∈ (s.at t).tide.blackouts, b.1 = j ∧ b.2 ≤ (s.at t).now) :
    exec (.blackoutEnd j t) s =
      .next { s.at t with tide := { (s.at t).tide with blackouts := (s.at t).tide.blackouts.filter (·.1 != j) } } :=
  (whenEnabled_of_true (by simpa only [List.any_eq_true, Bool.and_eq_true, beq_iff_eq, decide_eq_true_eq] using ends) :
    execBlackoutEnd j t s = _)

/-- HLT_HBM of stack n with a reported temperature, and the peak it gives (R88). -/
def temperatureShown (s : State) (n temp : Nat) : State :=
  let s := rsetField s .hltHbm 7 0 temp n
  rsetField s .hltHbm 15 8 (max (rfield s .hltHbm 15 8 n) (temp % 256)) n

/-- A report writes HLT_HBM alone. -/
theorem writesRegs_temperatureShown {n : Nat} (hn : n < 12) (s : State) (temp : Nat) :
    WritesRegs [.hltHbm] s (temperatureShown s n temp) :=
  have hin : Reg.hltHbm.inRange 0 n := ⟨by decide, hn⟩
  (writesRegs_rsetField List.mem_cons_self hin s _ _ _).then (writesRegs_rsetField List.mem_cons_self hin _ _ _ _)

/-- HLT_HBM shows the temperature reported and the highest one. -/
theorem temperatureShown_fields {s : State} (ok : s.regsOk) (n : Nat) {temp : Nat} (ht : temp < 256) :
    rfield (temperatureShown s n temp) .hltHbm 7 0 n = temp ∧
    rfield (temperatureShown s n temp) .hltHbm 15 8 n = max (rfield s .hltHbm 15 8 n) temp := by
  have ok' : (rsetField s .hltHbm 7 0 temp n).regsOk := regsOk_rputX ok _ _ _ _
  have peak := rfield_lt s .hltHbm 15 8 n 0
  unfold temperatureShown
  rw [rfield_rsetField_apart ok' (by decide) (by decide), rfield_rsetField_same ok (by decide),
    rfield_rsetField_same ok' (by decide), rfield_rsetField_apart ok (by decide) (by decide)]
  omega

/-- The HOT_C in force is not a field of HLT_HBM. -/
theorem hotLimit_temperatureShown {n : Nat} (hn : n < 12) (s : State) (temp : Nat) :
    hotLimit (temperatureShown s n temp) = hotLimit s := by
  have writes := writesRegs_temperatureShown hn s temp
  unfold hotLimit
  rw [writes.tide, writes.rfield (by decide) ⟨by decide, by decide⟩]

/-- HBM_TEMPERATURE_REPORT of a stack shows the temperature, and selects the hot band above HOT_C. -/
theorem exec_hbmTemperatureReport {s : State} {n temp t : Nat} (up : (s.at t).pwr.inReset = false) (hn : n < 12)
    (present : fallow (s.at t) (16 + n) = false) :
    let u := s.at t
    exec (.hbmTemperatureReport n temp t) s = .next { temperatureShown u n temp with
      tide := { u.tide with hotSeen := u.tide.hotSeen || decide (hotLimit u < temp) } } := by
  intro u
  have hexec : exec (.hbmTemperatureReport n temp t) s = .next (let v := temperatureShown u n temp
      if hotLimit v < temp then { v with tide := { v.tide with hotSeen := true } } else v) :=
    (whenEnabled_of_true (by simp only [up, hn, present, Bool.not_false, decide_true, Bool.and_self]) :
      execHbmTemperatureReport n temp t s = _)
  dsimp only at hexec
  rw [hotLimit_temperatureShown hn] at hexec
  rw [hexec]
  by_cases hot : hotLimit u < temp
  · rw [if_pos hot, decide_eq_true hot, Bool.or_true]
    rfl
  · rw [if_neg hot, decide_eq_false hot, Bool.or_false]
    rfl

/-- Settles O16, clause by clause: each event is enabled, and its effect is the one named. -/
theorem baysAndRefreshFollowTheirPlans : Obligations.BaysAndRefreshFollowTheirPlans := by
  intro s j temp t u spacing blackout slot
  refine ⟨exec_bayStart, fun running hslot fits => ?_, exec_blackoutEnd, fun up hj present ok ht => ?_⟩
  · obtain ⟨lasts, alone⟩ := blackoutUntil_spec u u.tide.slots
    exact ⟨_, exec_refreshSlot running hslot fits, rfl, ⟨_, rfl, lasts, alone⟩, rfl⟩
  · obtain ⟨shown, peak⟩ := temperatureShown_fields (s := u) ok j ht
    exact ⟨_, exec_hbmTemperatureReport up hj present, shown, peak, rfl, rfl⟩

end Sys2Proof.Machine
end

section
/-! PROOFS. The sampling point and the external edges (O15). -/

namespace Sys2Proof.Machine

/-- SAMPLING_POINT of a running tide, 20,000 ns before its expected tick (R66). -/
theorem exec_samplingPoint {s : State} {t : Nat} (running : (s.at t).tide.running = true)
    (sampled : (s.at t).tide.sampled = false) (fold : (s.at t).pwr.fold = none)
    (point : (s.at t).tide.expected - 20000000 ≤ (s.at t).now) : exec (.samplingPoint t) s = .next (samplePoint (s.at t)) :=
  (whenEnabled_of_true (by
    have : samplingPoint (s.at t) ≤ (s.at t).now := point
    simp only [running, sampled, fold, this, Bool.not_false, Option.isNone_none, decide_true, Bool.and_self]) :
    execSamplingPoint t s = _)

/-- What the coming tick applies is what the registers hold (R67). -/
def HoldsSamples (s : State) : Prop :=
  s.tide.sCtrl = rget s .tidCtrl ∧ s.tide.sPeriod = rget s .tidPeriod ∧ s.tide.sBayCfg = rget s .tidBayCfg ∧
  s.tide.sRef = rget s .tidRefPlan ∧ s.clk.sampledCd = rget s .clkSetpointCd ∧ s.clk.sampledMd = rget s .clkSetpointMd ∧
  s.clk.cancel = false ∧ (∀ b < 16, s.tide.sStarts.getD b 0 = rget s .tidBayStart b) ∧
  ∀ n < 8, s.tide.sDl.getD n 0 = rget s .tidDl n

/-- A list over the first numbers, read at one of them. -/
theorem getD_map_range {α : Type} (f : Nat → α) (d : α) {i n : Nat} (h : i < n) : ((List.range n).map f).getD i d = f i := by
  simp [h]

/-- Sampling takes every field from its register. -/
theorem holdsSamples_sampleFields (s : State) : HoldsSamples (sampleFields s) :=
  ⟨rfl, rfl, rfl, rfl, rfl, rfl, rfl, fun _ hb => getD_map_range _ _ hb, fun _ hn => getD_map_range _ _ hn⟩

/-- The VID codes of the coming tick are in PWR_VID (R820). -/
theorem changesRegs_sampleVid (s : State) (dies : Nat) :
    ChangesRegs [.pwrVid] s (sampleVid s dies) ∧ (sampleVid s dies).tide = s.tide ∧ (sampleVid s dies).clk = s.clk := by
  have writes : WritesRegs [.pwrVid]
      { s with pwr := { s.pwr with vidWas := (List.range 4).map fun q => rfield s .pwrVid 6 0 q } } (sampleVid s dies) :=
    WritesRegs.foldl fun v q hq =>
      have hin : Reg.pwrVid.inRange 0 q := ⟨by decide, List.mem_range.1 hq⟩
      (writesRegs_rsetField List.mem_cons_self hin v _ _ _).then (writesRegs_rsetField List.mem_cons_self hin _ _ _ _)
  exact ⟨⟨writes.regsOk, writes.others⟩, writes.tide, writes.clk⟩

/-- The VID codes leave what was sampled and the registers that it was sampled from. -/
theorem HoldsSamples.sampleVid {s : State} (h : HoldsSamples s) (dies : Nat) : HoldsSamples (sampleVid s dies) := by
  obtain ⟨regs, tide, clk⟩ := changesRegs_sampleVid s dies
  obtain ⟨ctrl, period, cfg, ref, cd, md, cancel, starts, dl⟩ := h
  have ct0 : ∀ {r : Reg}, r ∉ [Reg.pwrVid] → r.inRange 0 0 → rget (Machine.sampleVid s dies) r = rget s r := regs.others
  unfold HoldsSamples
  rw [tide, clk]
  iterate 6 rw [ct0 (by decide) ⟨by decide, by decide⟩]
  exact ⟨ctrl, period, cfg, ref, cd, md, cancel,
    fun b hb => (starts b hb).trans (regs.others (by decide) ⟨by decide, hb⟩).symm,
    fun n hn => (dl n hn).trans (regs.others (by decide) ⟨by decide, hn⟩).symm⟩

/-- The sampling point ends with the samples and the VID codes (R67). -/
theorem holdsSamples_samplePoint (s : State) : HoldsSamples (samplePoint s) := by
  unfold samplePoint
  exact (holdsSamples_sampleFields _).sampleVid _

/-- TIDE_IN_EDGE of a chip that is not in reset (R62). -/
theorem exec_tideInEdge {s : State} {t : Nat} (up : (s.at t).pwr.inReset = false) :
    exec (.tideInEdge t) s = .next (tideInEdge (s.at t)) :=
  (whenEnabled_of_true (by simp only [up, Bool.not_false]) : execTideInEdge t s = _)

/-- An edge in a running tide of external mode that captures none: early it is counted, the first in the window of 5,000 ns
either side is taken, and any other is ignored (R62, R63). -/
theorem tideInEdge_of_external {s : State} (running : s.tide.running = true) (ext : bitAt (rget s .tidStatus) 32 = true)
    (capture : s.tide.capture = false) :
    tideInEdge s =
      if s.now + ns 5000 < s.tide.expected then rbump s .tidExtStatus 15 0
      else if s.now ≤ s.tide.expected + ns 5000 ∧ s.tide.edgeTick = none ∧ s.tide.realign = false then
        { s with tide := { s.tide with edgeTick := some (beatUp s.now + ns 20) } }
      else s := by
  simp only [tideInEdge, running, ext, capture, Bool.not_true, Bool.false_eq_true, if_false, Bool.and_eq_true,
    decide_eq_true_eq, Option.isNone_iff_eq_none, Bool.not_eq_true', and_assoc]

/-- TIDE_OUT_END, 1,000 ns after TIDE_OUT rose (R65). -/
theorem exec_tideOutEnd {s : State} {t r : Nat} (since : (s.at t).tide.outSince = some r) (ends : r + 1000000 ≤ (s.at t).now) :
    let u := s.at t
    exec (.tideOutEnd t) s =
      .next { u with tide := { u.tide with outSince := none }, out := Out.pin "TIDE_OUT" false :: u.out } :=
  (whenEnabled_of_true (by rw [since]; exact decide_eq_true ends) : execTideOutEnd t s = _)

/-- Settles O15: the sampling point ends with the samples, and an edge is early, in its window or late. -/
theorem samplingAndEdgesComeInTheirWindow : Obligations.SamplingAndEdgesComeInTheirWindow := by
  refine ⟨?_, fun s t => ⟨?_, fun r => exec_tideOutEnd⟩⟩
  · intro s t u running sampled fold point
    exact ⟨_, exec_samplingPoint running sampled fold point, holdsSamples_samplePoint _⟩
  · intro up running ext capture
    have hexec := exec_tideInEdge (t := t) up
    rw [tideInEdge_of_external running ext capture] at hexec
    refine ⟨fun early => ?_, fun from_ upto realign => ⟨fun first => ?_, fun later => ?_⟩, fun late => ?_⟩
    · rwa [if_pos early] at hexec
    · rwa [if_neg (Nat.not_lt.2 from_), if_pos ⟨upto, first, realign⟩] at hexec
    · rwa [if_neg (Nat.not_lt.2 from_), if_neg fun h => later h.2.1] at hexec
    · rwa [if_neg (by omega), if_neg fun h => absurd h.1 (Nat.not_le.2 late)] at hexec

end Sys2Proof.Machine
end

section
/-! SUPPORT. The tick's own registers and the tide it opens (R45, R58, R68). -/

namespace Sys2Proof.Machine

/-! ### The multipliers that switch at a tick (R45, R822) -/

/-- A multiplier code is 4 bits wide. -/
theorem codeWidth (d : Nat) : 2 ^ (4 * d + 3 + 1 - 4 * d) = 16 := by
  have width : 4 * d + 3 + 1 - 4 * d = 4 := by omega
  exact congrArg (2 ^ ·) width

/-- The multiplier code of one domain with another's replaced. -/
theorem cdCode_setBf (w : Word) {d e : Nat} (hd : d < 16) (v : Nat) :
    cdCode (setBf w (4 * e + 3) (4 * e) v) d = if d = e then v % 16 else cdCode w d := by
  unfold cdCode
  split
  next h => subst h; rw [bf_setBf_same w v (by omega), codeWidth]
  next h => exact bf_setBf_apart w v (by omega) (by omega)

/-- A multiplier code is less than 16. -/
theorem cdCode_lt (w : Word) (d : Nat) : cdCode w d < 16 :=
  Nat.lt_of_lt_of_eq (Nat.mod_lt _ (Nat.two_pow_pos _)) (codeWidth d)

/-- A bounded step lies within its bound of where it begins, and no higher than where it begins or ends (R822). -/
theorem slewStep_bounds (m cur tgt : Nat) :
    slewStep m cur tgt ≤ cur + m ∧ cur ≤ slewStep m cur tgt + m ∧ slewStep m cur tgt ≤ max cur tgt := by
  unfold slewStep
  split <;> omega

/-- Code b lies within 2 of code a. -/
def withinStage (a b : Nat) : Prop := b ≤ a + 2 ∧ a ≤ b + 2

/-- A stage moves the code of each compute domain at most 2 (R822). -/
theorem withinStage_slewCd (held : List Nat) (s : State) (tgt cur : Word) :
    ∀ d < 16, withinStage (cdCode cur d) (cdCode (slewCd held s tgt cur) d) := by
  have stay : ∀ d, withinStage (cdCode cur d) (cdCode cur d) := fun d => ⟨by omega, by omega⟩
  refine List.foldlRecOn _ _ (motive := fun w => ∀ d < 16, withinStage (cdCode cur d) (cdCode w d)) (fun d _ => stay d) ?_
  intro w hw e _
  dsimp only
  split
  next => exact hw
  next =>
    intro d hd
    rw [cdCode_setBf w hd]
    split
    next h =>
      subst h
      obtain ⟨up, down, most⟩ := slewStep_bounds 2 (cdCode cur d) (cdCode tgt d)
      have := cdCode_lt cur d
      have := cdCode_lt tgt d
      rw [Nat.mod_eq_of_lt (by omega)]
      exact ⟨up, down⟩
    next => exact hw d hd

/-- The multipliers are in their two registers. -/
theorem writesRegs_switchMultipliers (s : State) : WritesRegs [.clkAppliedCd, .clkAppliedMd] s (switchMultipliers s) := by
  unfold switchMultipliers
  exact WritesRegs.ite (WritesRegs.refl _ s)
    ((writesRegs_rputX (by decide) ⟨by decide, by decide⟩ s _).then (writesRegs_rputX (by decide) ⟨by decide, by decide⟩ _ _))

/-- A cancelled change switches nothing (R52). -/
theorem switchMultipliers_of_cancel {s : State} (h : s.clk.cancel = true) : switchMultipliers s = s := if_pos h

/-- The compute codes move one stage at most. -/
theorem withinStage_switchMultipliers {s : State} (ok : s.regsOk) :
    ∀ d < 16, withinStage (cdCode (rget s .clkAppliedCd) d) (cdCode (rget (switchMultipliers s) .clkAppliedCd) d) := by
  cases h : s.clk.cancel with
  | true => rw [switchMultipliers_of_cancel h]; exact fun d _ => ⟨by omega, by omega⟩
  | false =>
    have switched : rget (switchMultipliers s) .clkAppliedCd =
        slewCd s.tide.heldDomains s s.clk.sampledCd (rget s .clkAppliedCd) := by
      simp only [switchMultipliers, h, Bool.false_eq_true, if_false]
      rw [rget, rgetX_rputX_ne _ (Reg.addr_ne (by decide) ⟨by decide, by decide⟩ ⟨by decide, by decide⟩),
        rgetX_rputX_same ok]
    rw [switched]
    exact withinStage_slewCd _ s _ _

/-! ### The registers of a tick -/

/-- The state whose multipliers a tick has switched; a first tick switches none (R744). -/
def tickSwitched (s : State) (first : Bool) : State := if first then s else switchMultipliers s

/-- The number of the tide that a tick opens: one more, but 0 at the first tick after a boot (R60). -/
def tickNumber (s : State) (first : Bool) : Nat :=
  if first && s.tide.k == 0 && s.tide.tick == s.pwr.c0 && tideNo s == 0 then 0 else tideNo s + 1

/-- TID_STATUS with the period, the mode, a flywheel tick and the hot band (Table of TID_STATUS). -/
def tickStatus (p : Nat) (ext fly hot : Bool) : Word :=
  word (p + ext.toNat * 2 ^ 32 + fly.toNat * 2 ^ 33 + hot.toNat * 2 ^ 34)

/-- The state whose registers a tick has written. -/
def tickRegs (s : State) (fly first : Bool) : State :=
  let s := tickSwitched s first
  let v := rput s .tidNumber (word (tickNumber s first))
  rput v .tidStatus (tickStatus (bf s.tide.sPeriod 26 0) (bitAt s.tide.sCtrl 0) fly
    (if first then v.tide.hot else v.tide.hotSeen))

/-- A tick leaves the registers that it writes. -/
theorem tickCore_regs (s : State) (tk : Nat) (fly first : Bool) : (tickCore s tk fly first).regs = (tickRegs s fly first).regs :=
  rfl

/-- Beside its registers a tick changes the tide, per-tide counts and the outputs. -/
theorem tickCore_frame (s : State) (tk : Nat) (fly first : Bool) :
    ∃ tide log img stalls ctxs out, tickCore s tk fly first =
      { tickRegs s fly first with tide := tide, log := log, img := img, stalls := stalls, ctxs := ctxs, out := out } := by
  unfold tickCore
  exact ⟨_, _, _, _, _, _, rfl⟩

/-- A register after a tick is the one written. -/
theorem rgetX_tickCore (s : State) (tk : Nat) (fly first : Bool) (r : Reg) (d i : Nat) :
    rgetX (tickCore s tk fly first) r d i = rgetX (tickRegs s fly first) r d i := by
  unfold rgetX
  rw [tickCore_regs]

/-- The switched multipliers are in their two registers. -/
theorem writesRegs_tickSwitched (s : State) (first : Bool) :
    WritesRegs [.clkAppliedCd, .clkAppliedMd] s (tickSwitched s first) :=
  WritesRegs.ite (WritesRegs.refl _ s) (writesRegs_switchMultipliers s)

/-- A tick writes the multipliers, the tide number and the tide's status. -/
theorem writesRegs_tickRegs (s : State) (fly first : Bool) :
    WritesRegs [.clkAppliedCd, .clkAppliedMd, .tidNumber, .tidStatus] s (tickRegs s fly first) :=
  (writesRegs_tickSwitched s first).trans (rs' := [.tidNumber, .tidStatus])
    ((writesRegs_rputX (by decide) ⟨by decide, by decide⟩ _ _).then (writesRegs_rputX (by decide) ⟨by decide, by decide⟩ _ _))

/-- Of the registers a tick changes no others. -/
theorem changesRegs_tickCore (s : State) (tk : Nat) (fly first : Bool) :
    ChangesRegs [.clkAppliedCd, .clkAppliedMd, .tidNumber, .tidStatus] s (tickCore s tk fly first) :=
  (writesRegs_tickRegs s fly first).toChangesRegs.trans (rs' := []) (ChangesRegs.of_eq (tickCore_regs s tk fly first))

/-- A tick leaves memory. -/
theorem tickCore_mem (s : State) (tk : Nat) (fly first : Bool) : (tickCore s tk fly first).mem = s.mem := by
  obtain ⟨tide, log, img, stalls, ctxs, out, frame⟩ := tickCore_frame s tk fly first
  rw [frame, ← (writesRegs_tickRegs s fly first).mem]

/-- The tide number after a tick (R60). -/
theorem tidNumber_tickCore {s : State} (ok : s.regsOk) (tk : Nat) (fly first : Bool) :
    rget (tickCore s tk fly first) .tidNumber = word (tickNumber s first) := by
  have switched := writesRegs_tickSwitched s first
  have tide : tideNo (tickSwitched s first) = tideNo s :=
    congrArg BitVec.toNat (switched.others (by decide) ⟨by decide, by decide⟩)
  have number : tickNumber (tickSwitched s first) first = tickNumber s first := by
    rw [tickNumber, tide, switched.tide, switched.pwr, tickNumber]
  rw [rget, rgetX_tickCore, tickRegs,
    rgetX_rputX_ne _ (Reg.addr_ne (by decide) ⟨by decide, by decide⟩ ⟨by decide, by decide⟩),
    rgetX_rputX_same (switched.regsOk ok), number]

/-- The period that TID_STATUS shows. -/
theorem bf_tickStatus {p : Nat} (hp : p < 2 ^ 27) (ext fly hot : Bool) : bf (tickStatus p ext fly hot) 26 0 = p := by
  have := ext.toNat_le
  have := fly.toNat_le
  have := hot.toNat_le
  simp only [bf, bitsOf, tickStatus, word, BitVec.toNat_ofNat, Nat.shiftRight_zero]
  omega

/-- The period in force after a tick is the one sampled (R57, R67). -/
theorem periodNs_tickCore {s : State} (ok : s.regsOk) (tk : Nat) (fly first : Bool) :
    periodNs (tickCore s tk fly first) = bf s.tide.sPeriod 26 0 := by
  have switched := writesRegs_tickSwitched s first
  have fits : bf s.tide.sPeriod 26 0 < 2 ^ 27 := Nat.mod_lt _ (Nat.two_pow_pos _)
  rw [periodNs, rfield, rgetX_tickCore, tickRegs, rgetX_rputX_same (regsOk_rputX (switched.regsOk ok) _ _ _ _),
    switched.tide, bf_tickStatus fits]

/-- The compute codes after a tick are those switched. -/
theorem clkAppliedCd_tickCore (s : State) (tk : Nat) (fly first : Bool) :
    rget (tickCore s tk fly first) .clkAppliedCd = rget (tickSwitched s first) .clkAppliedCd := by
  rw [rget, rgetX_tickCore, tickRegs,
    rgetX_rputX_ne _ (Reg.addr_ne (by decide) ⟨by decide, by decide⟩ ⟨by decide, by decide⟩),
    rgetX_rputX_ne _ (Reg.addr_ne (by decide) ⟨by decide, by decide⟩ ⟨by decide, by decide⟩)]

end Sys2Proof.Machine
end

section
/-! PROOFS. The ticks of internal mode (O13). -/

namespace Sys2Proof.Machine

/-- The timer counts afresh from a tick: a first one, or one at which the period or the mode changes (R58). -/
def tickFresh (s : State) (first : Bool) : Bool :=
  first || decide (bf s.tide.sPeriod 26 0 ≠ periodNs s) || decide (bitAt s.tide.sCtrl 0 ≠ bitAt (rget s .tidStatus) 32)

/-- The switched multipliers do not make the timer count afresh. -/
theorem tickFresh_tickSwitched (s : State) (first : Bool) : tickFresh (tickSwitched s first) first = tickFresh s first := by
  have switched := writesRegs_tickSwitched s first
  have status : rgetX (tickSwitched s first) .tidStatus 0 0 = rgetX s .tidStatus 0 0 :=
    switched.others (by decide) ⟨by decide, by decide⟩
  rw [tickFresh, periodNs, rfield, rget, status, switched.tide]
  rfl

/-- From when the timer counts after a tick, and how many ticks it has counted (R58). -/
theorem tickCore_count (s : State) (tk : Nat) (fly first : Bool) :
    (tickCore s tk fly first).tide.t0 = (if tickFresh s first then tk else s.tide.t0) ∧
    (tickCore s tk fly first).tide.k = (if tickFresh s first then 0 else s.tide.k + 1) := by
  have t0 : (tickCore s tk fly first).tide.t0 =
    if tickFresh (tickSwitched s first) first then tk else (tickSwitched s first).tide.t0 := rfl
  have k : (tickCore s tk fly first).tide.k =
    if tickFresh (tickSwitched s first) first then 0 else (tickSwitched s first).tide.k + 1 := rfl
  rw [t0, k, tickFresh_tickSwitched, (writesRegs_tickSwitched s first).tide]
  exact ⟨rfl, rfl⟩

/-- In internal mode the next tick is the next of the count (R58). -/
theorem tickCore_expected {s : State} (internal : bitAt s.tide.sCtrl 0 = false) (tk : Nat) (fly first : Bool) :
    let v := (tickCore s tk fly first).tide
    v.expected = nextInternal v.t0 (v.k + 1) (bf s.tide.sPeriod 26 0) := by
  have switched : (tickSwitched s first).tide = s.tide := (writesRegs_tickSwitched s first).tide
  intro v
  have hv : v.expected = (if bitAt (tickSwitched s first).tide.sCtrl 0 then
      match (if fly then (tickSwitched s first).tide.captured else none) with
      | some e => (realignTick e (bf (tickSwitched s first).tide.sPeriod 26 0) tk, true)
      | none => (tk + ns (bf (tickSwitched s first).tide.sPeriod 26 0), false)
    else (nextInternal v.t0 (v.k + 1) (bf (tickSwitched s first).tide.sPeriod 26 0), false)).1 := rfl
  rw [hv, switched, internal]
  rfl

/-- The next tick of internal mode lies on the first beat edge at or after its nominal instant, counted from t0 (R58). -/
theorem nextInternal_spec (t0 k p : Nat) :
    nextInternal t0 k p = t0 + (k * p + 9) / 10 * 10000 ∧ (t0 % 10000 = 0 → nextInternal t0 k p % 10000 = 0) ∧
    t0 + k * p * 1000 ≤ nextInternal t0 k p ∧ nextInternal t0 k p ≤ t0 + k * p * 1000 + 9000 := by
  have edge : nextInternal t0 k p = t0 + (k * p + 9) / 10 * 10000 := rfl
  rw [edge]
  generalize k * p = n
  omega

/-- Settles O13: the count after the tick, and the beat edge of its next instant. -/
theorem internalTicksFallOnBeatEdges : Obligations.InternalTicksFallOnBeatEdges := by
  intro u tk first v p internal
  obtain ⟨t0, k⟩ := tickCore_count u tk false first
  obtain ⟨due, onEdge, after, within⟩ := nextInternal_spec v.tide.t0 (v.tide.k + 1) p
  rw [← tickCore_expected internal tk false first] at due onEdge after within
  refine ⟨fun h => ?_, fun ⟨hfirst, hp, hext⟩ => ?_, due, onEdge, after, within⟩
  · have fresh : tickFresh u first = true := by
      simpa only [tickFresh, internal, Bool.or_eq_true, decide_eq_true_eq, or_assoc, ne_eq, Bool.false_eq, Bool.not_eq_false]
        using h
    rw [fresh, if_pos rfl] at t0 k
    exact ⟨t0, k⟩
  · have counts : tickFresh u first = false := by
      simp only [tickFresh, hfirst, internal, hext, ← hp, p, ne_eq, not_true, decide_false, Bool.or_self]
    rw [counts, if_neg Bool.false_ne_true] at t0 k
    exact ⟨t0, k⟩

end Sys2Proof.Machine
end

section
/-! PROOFS. The ticks that close a tide, and the first tick (O14). -/

namespace Sys2Proof.Machine

/-! ### The tide that a tick opens -/

/-- What a tick makes of the tide: the sampled values are in force and bay 0 and slot 0 begin (R67, R68, R88). -/
theorem tickCore_tide (s : State) (tk : Nat) (fly first : Bool) :
    let v := (tickCore s tk fly first).tide
    (v.tick = tk ∧ v.running = true ∧ v.sampled = false ∧ v.bay = 0 ∧ v.slots = 0) ∧
    (v.starts = s.tide.sStarts ∧ v.own = s.tide.sOwn ∧ v.dl = s.tide.sDl ∧ v.refPlan = s.tide.sRef ∧
      v.bays = bf s.tide.sBayCfg 3 0 + 1) ∧
    (v.hot = (if first then s.tide.hot else s.tide.hotSeen) ∧ v.hotSeen = false) := by
  rw [← (writesRegs_tickRegs s fly first).tide]
  exact ⟨⟨rfl, rfl, rfl, rfl, rfl⟩, ⟨rfl, rfl, rfl, rfl, rfl⟩, rfl, rfl⟩

/-- A flywheel tick is one more of its run (R64). -/
theorem flyRun_tickCore (s : State) (tk : Nat) (first : Bool) : (tickCore s tk true first).tide.flyRun = s.tide.flyRun + 1 := by
  rw [← (writesRegs_tickSwitched s first).tide]
  rfl

/-! ### The tick that closes a tide -/

/-- State s' is what the tick at tk makes of a tide that closes in state s (R58, R60, R67, R68, R88). -/
def ClosesTide (s : State) (tk : Nat) (s' : State) : Prop :=
  s'.tide.tick = tk ∧ s'.tide.running = true ∧ s'.tide.sampled = false ∧ s'.tide.bay = 0 ∧ s'.tide.slots = 0 ∧
  s'.tide.starts = s.tide.sStarts ∧ s'.tide.own = s.tide.sOwn ∧ s'.tide.dl = s.tide.sDl ∧
  s'.tide.refPlan = s.tide.sRef ∧ s'.tide.bays = bf s.tide.sBayCfg 3 0 + 1 ∧
  s'.tide.hot = s.tide.hotSeen ∧ s'.tide.hotSeen = false ∧
  rget s' .tidNumber = rget s .tidNumber + 1 ∧ periodNs s' = bf s.tide.sPeriod 26 0 ∧
  (s.clk.cancel = true → rget s' .clkAppliedCd = rget s .clkAppliedCd) ∧
  (∀ d < 16, withinStage (cdCode (rget s .clkAppliedCd) d) (cdCode (rget s' .clkAppliedCd) d)) ∧
  s'.mem = s.mem

/-- A tide number that rises by one wraps at 64 bits (R60). -/
theorem word_tideNo_add_one (s : State) : word (tideNo s + 1) = rget s .tidNumber + 1 := by
  refine BitVec.eq_of_toNat_eq ?_
  simp [word, tideNo, BitVec.toNat_add]

/-- A tick that is no first one closes the tide. -/
theorem closesTide_tickCore {s : State} (ok : s.regsOk) (tk : Nat) (fly : Bool) : ClosesTide s tk (tickCore s tk fly false) := by
  obtain ⟨⟨tick, running, sampled, bay, slots⟩, ⟨starts, own, dl, plan, bays⟩, hot, hotSeen⟩ := tickCore_tide s tk fly false
  have number : rget (tickCore s tk fly false) .tidNumber = rget s .tidNumber + 1 :=
    (tidNumber_tickCore ok tk fly false).trans (word_tideNo_add_one s)
  have codes : rget (tickCore s tk fly false) .clkAppliedCd = rget (switchMultipliers s) .clkAppliedCd :=
    clkAppliedCd_tickCore s tk fly false
  refine ⟨tick, running, sampled, bay, slots, starts, own, dl, plan, bays, hot, hotSeen, number,
    periodNs_tickCore ok tk fly false, fun cancel => ?_, ?_, tickCore_mem s tk fly false⟩
  · rw [codes, switchMultipliers_of_cancel cancel]
  · rw [codes]
    exact withinStage_switchMultipliers ok

section
variable {rs : List Reg} {s v w : State} {tk : Nat}

/-- What writes other registers before the tick does not change what the tick closes. -/
theorem ClosesTide.of_writes (h : WritesRegs rs s v) (hn : .tidNumber ∉ rs) (hc : .clkAppliedCd ∉ rs)
    (closes : ClosesTide v tk w) : ClosesTide s tk w := by
  have number : rget v .tidNumber = rget s .tidNumber := h.others hn ⟨by decide, by decide⟩
  have codes : rget v .clkAppliedCd = rget s .clkAppliedCd := h.others hc ⟨by decide, by decide⟩
  unfold ClosesTide at closes
  rw [h.tide, h.clk, h.mem, number, codes] at closes
  exact closes

/-- What writes other registers after the tick does not change what it has closed. -/
theorem ClosesTide.writes (closes : ClosesTide s tk v) (h : WritesRegs rs v w) (hn : .tidNumber ∉ rs)
    (hs : .tidStatus ∉ rs) (hc : .clkAppliedCd ∉ rs) : ClosesTide s tk w := by
  have number : rget w .tidNumber = rget v .tidNumber := h.others hn ⟨by decide, by decide⟩
  have period : periodNs w = periodNs v := h.rfield hs ⟨by decide, by decide⟩ _ _
  have codes : rget w .clkAppliedCd = rget v .clkAppliedCd := h.others hc ⟨by decide, by decide⟩
  unfold ClosesTide
  rw [h.tide, h.mem, number, period, codes]
  exact closes

end

/-- An injection that is disarmed is in HLT_INJECT and the log (R800). -/
theorem writesRegs_disarmFallow (s : State) : WritesRegs [.hltInject, .logStatus] s (disarmFallow s) := by
  unfold disarmFallow
  exact WritesRegs.ite
    ((writesRegs_rsetField (by decide) ⟨by decide, by decide⟩ s _ _ _).then (writesRegs_logAccess (by decide) _ _ _ _ _))
    (WritesRegs.refl _ s)

/-- Where no image is applied, only an injection may be disarmed at the tick: no port becomes fallow. -/
theorem tickImage_of_no_image {s : State} (h : s.img.applying = false) : tickImage s = disarmFallow s := by
  have pending : applyPending s = s := by simp only [applyPending, h, Bool.not_false, if_true]
  have ports : (List.range 32).foldl (fun v p => if portFallow v p && !portFallow s p then cutOff v p else v) s = s :=
    List.foldlRecOn _ _ (motive := fun v => v = s) rfl fun v hv p _ => by rw [hv, Bool.and_not_self, if_neg Bool.false_ne_true]
  unfold tickImage
  dsimp only
  rw [pending, ports]

/-- The power of the tide is in PWR_STATUS and PWR_PEAK. -/
theorem writesRegs_tidePower (power : Nat) (s : State) : WritesRegs [.pwrStatus, .pwrPeak] s (tidePower power s) :=
  have status := fun (v : State) (hi lo n : Nat) =>
    writesRegs_rsetField (rs := [.pwrStatus, .pwrPeak]) (r := .pwrStatus) (d := 0) (i := 0) (by decide)
      ⟨by decide, by decide⟩ v hi lo n
  ((status s _ _ _).then (status _ _ _ _)).then (writesRegs_rsetField (by decide) ⟨by decide, by decide⟩ _ _ _ _)

/-- The counts that restart at a tick are in no register. -/
theorem changesRegs_tickCounts (s : State) : ChangesRegs [] s (tickCounts s) := ChangesRegs.of_eq rfl

/-- The counts that restart at a tick leave the tide. -/
theorem tickCounts_tide (s : State) : (tickCounts s).tide = s.tide := rfl

/-- The counts that restart at a tick do not change what it has closed. -/
theorem ClosesTide.tickCounts {s v : State} {tk : Nat} (closes : ClosesTide s tk v) : ClosesTide s tk (tickCounts v) := closes

/-- Where no image is applied the tick closes the tide. -/
theorem closesTide_closeTide {s : State} (ok : s.regsOk) (image : s.img.applying = false) (tk : Nat) (fly : Bool) (power : Nat) :
    ClosesTide s tk (closeTide tk fly power s) := by
  have before := writesRegs_disarmFallow s
  rw [closeTide, tickImage_of_no_image image]
  have closes := (closesTide_tickCore (before.regsOk ok) tk fly).writes (writesRegs_tidePower power _) (by decide) (by decide)
    (by decide)
  exact (closes.of_writes before (by decide) (by decide)).tickCounts

/-- The registers that the tick that closes a tide may change, where no image is applied. -/
def closeRegs : List Reg :=
  [.hltInject, .logStatus, .clkAppliedCd, .clkAppliedMd, .tidNumber, .tidStatus, .pwrStatus, .pwrPeak]

/-- Of the registers the tick that closes a tide changes no others. -/
theorem changesRegs_closeTide {s : State} (image : s.img.applying = false) (tk : Nat) (fly : Bool) (power : Nat) :
    ChangesRegs closeRegs s (closeTide tk fly power s) := by
  rw [closeTide, tickImage_of_no_image image]
  exact (((writesRegs_disarmFallow s).toChangesRegs.trans (changesRegs_tickCore _ tk fly false)).trans
    (writesRegs_tidePower power _).toChangesRegs).trans (changesRegs_tickCounts _)

/-- The run of the flywheel that the tick that closes a tide ends with. -/
theorem flyRun_closeTide {s : State} (image : s.img.applying = false) (tk power : Nat) :
    (closeTide tk true power s).tide.flyRun = s.tide.flyRun + 1 := by
  rw [closeTide, tickImage_of_no_image image, tickCounts_tide, (writesRegs_tidePower power _).tide, flyRun_tickCore,
    (writesRegs_disarmFallow s).tide]

/-- TIDE_TICK where the tide is due (R58, R62). -/
theorem exec_tideTick {s : State} {t tk : Nat} (power : Nat) (sampled : (s.at t).tide.sampled = true)
    (hdue : tickDue (s.at t) = some tk) (hnow : tk ≤ (s.at t).now) :
    exec (.tideTick power t) s = .next (closeTide tk false power (s.at t)) := by
  have hexec : exec (.tideTick power t) s = .next (closeTide ((tickDue (s.at t)).getD (s.at t).now) false power (s.at t)) :=
    (whenEnabled_of_true (by rw [sampled, hdue]; exact decide_eq_true hnow) : execTideTick power t s = _)
  rwa [hdue] at hexec

/-- FLYWHEEL_TICK where the flywheel is due (R64). -/
theorem exec_flywheelTick {s : State} {t tk : Nat} (power : Nat) (sampled : (s.at t).tide.sampled = true)
    (hdue : flyDue (s.at t) = some tk) (hnow : tk ≤ (s.at t).now) :
    exec (.flywheelTick power t) s = .next (closeTide tk true power (countFlywheel (s.at t))) := by
  have hexec : exec (.flywheelTick power t) s =
      .next (closeTide ((flyDue (s.at t)).getD (s.at t).now) true power (countFlywheel (s.at t))) :=
    (whenEnabled_of_true (by rw [sampled, hdue]; exact decide_eq_true hnow) : execFlywheelTick power t s = _)
  rwa [hdue] at hexec

/-- A flywheel tick is counted in TID_EXT_STATUS and logged (R64). -/
theorem writesRegs_countFlywheel (s : State) : WritesRegs [.tidExtStatus] s (countFlywheel s) :=
  (writesRegs_rbump (by decide) ⟨by decide, by decide⟩ s _ _ _).then (writesRegs_logRaw _ _ _ _ _ _ _ _)

/-- The flywheel ticks counted, up to 0xFFFF (R64). -/
theorem flywheels_countFlywheel {s : State} (ok : s.regsOk) :
    rfield (countFlywheel s) .tidExtStatus 31 16 = min (rfield s .tidExtStatus 31 16 + 1) 0xFFFF := by
  have counted : rfield (countFlywheel s) .tidExtStatus 31 16 = _ :=
    rfield_rsetField_same ok (by decide) (satAdd 16 (rfield s .tidExtStatus 31 16) 1)
  rw [counted, satAdd]
  omega

/-- The tick of the flywheel closes the tide, is counted and is one more of its run (R64). -/
theorem closeTide_countFlywheel {s : State} (ok : s.regsOk) (image : s.img.applying = false) (tk power : Nat) :
    let v := closeTide tk true power (countFlywheel s)
    ClosesTide s tk v ∧ v.tide.flyRun = s.tide.flyRun + 1 ∧
    rfield v .tidExtStatus 31 16 = min (rfield s .tidExtStatus 31 16 + 1) 0xFFFF := by
  intro v
  have counts := writesRegs_countFlywheel s
  have image' : (countFlywheel s).img.applying = false := image
  refine ⟨(closesTide_closeTide (counts.regsOk ok) image' tk true power).of_writes counts (by decide) (by decide), ?_, ?_⟩
  · rw [flyRun_closeTide image', counts.tide]
  · rw [(changesRegs_closeTide image' tk true power).rfield (by decide) ⟨by decide, by decide⟩, flywheels_countFlywheel ok]

/-! ### The first tick (R744) -/

/-- The state at a first tick, with a flywheel tick counted and, in external mode, capture begun. -/
def captureBegun (s : State) (fly : Bool) : State :=
  let s := if fly then countFlywheel s else s
  { s with tide := { s.tide with capture := bitAt s.tide.sCtrl 0 } }

/-- The state whose first tick has come with PHASE 5 shown and no other first tick waited for. -/
def enterService (s : State) : State :=
  let s := tickCounts (setPhase s 5)
  { s with pwr := { s.pwr with readyAt := none } }

/-- The state that a first tick puts in service, before BC8 starts. -/
def inService (s : State) (tk : Nat) (fly : Bool) : State := enterService (tickCore (captureBegun s fly) tk fly true)

/-- BC8 starts at the first tick after a fold reset where GO is 1 and it does not run (R218). -/
theorem firstTick_eq (s : State) :
    firstTick s =
      let w := inService s (((firstTickDue s).orElse fun _ => firstFlyDue s).getD s.now) (firstTickDue s).isNone
      if bitAt (rget w .bcnStwCtrl) 0 && !bitAt (rget w .bcnStwCtrl) 1 && rfield w .pwrRstStatus 47 32 != 0 then startSteward w
      else w := rfl

/-- FIRST_TICK of a sealed chip whose first tick is due, or its flywheel's (R744). -/
theorem exec_firstTick {s : State} {t tk : Nat} (hphase : phase (s.at t) = 4) (fold : (s.at t).pwr.fold = none)
    (hdue : firstTickDue (s.at t) = some tk ∨ (firstTickDue (s.at t) = none ∧ firstFlyDue (s.at t) = some tk))
    (hnow : tk ≤ (s.at t).now) :
    exec (.firstTick t) s = .next (firstTick (s.at t)) ∧
    ((firstTickDue (s.at t)).orElse fun _ => firstFlyDue (s.at t)).getD (s.at t).now = tk := by
  have now : decide (tk ≤ (s.at t).now) = true := decide_eq_true hnow
  have enabled : (due (firstTickDue (s.at t)) (s.at t).now || due (firstFlyDue (s.at t)) (s.at t).now) = true := by
    rcases hdue with h | ⟨-, h⟩
    · rw [h, due, now, Bool.true_or]
    · rw [h, Bool.or_eq_true]
      exact .inr now
  refine ⟨(whenEnabled_of_true (by rw [hphase, fold, enabled]; rfl) : execFirstTick t s = _), ?_⟩
  rcases hdue with h | ⟨h, h'⟩
  · rw [h]
    rfl
  · rw [h, h']
    rfl

/-- Before the tick only the flywheel's count, the log and capture have changed. -/
theorem captureBegun_spec (s : State) (fly : Bool) :
    let v := captureBegun s fly
    ChangesRegs [.tidExtStatus] s v ∧ v.mem = s.mem ∧ v.pwr = s.pwr ∧ v.tide.k = s.tide.k ∧ v.tide.tick = s.tide.tick := by
  have counts : WritesRegs [.tidExtStatus] s (if fly then countFlywheel s else s) :=
    WritesRegs.ite (writesRegs_countFlywheel s) (WritesRegs.refl _ s)
  unfold captureBegun
  generalize (if fly = true then countFlywheel s else s) = v at counts
  exact ⟨⟨counts.regsOk, counts.others⟩, counts.mem, counts.pwr, by rw [← counts.tide], by rw [← counts.tide]⟩

/-- A chip that enters service shows PHASE 5 and leaves FOLD_COUNT beside it and every other register. -/
theorem enterService_spec {s : State} (ok : s.regsOk) :
    let v := enterService s
    ChangesRegs [.pwrRstStatus] s v ∧ phase v = 5 ∧ rfield v .pwrRstStatus 47 32 = rfield s .pwrRstStatus 47 32 ∧
    v.tide = s.tide ∧ v.mem = s.mem ∧ v.pwr.readyAt = none := by
  have writes : WritesRegs [.pwrRstStatus] s (setPhase s 5) :=
    writesRegs_rsetField List.mem_cons_self ⟨by decide, by decide⟩ s _ _ _
  exact ⟨⟨writes.regsOk, writes.others⟩, rfield_rsetField_same ok (by decide) 5,
    rfield_rsetField_apart ok (by decide) (by decide) 5, writes.tide, writes.mem, rfl⟩

/-- The number of the tide that a first tick opens: 0 after a boot, one more after a fold reset (R60). -/
theorem word_tickNumber_first (s : State) :
    (word (tickNumber s true)).toNat =
      if s.tide.k = 0 ∧ s.tide.tick = s.pwr.c0 ∧ tideNo s = 0 then 0 else (tideNo s + 1) % 2 ^ 64 := by
  unfold tickNumber
  simp only [Bool.true_and, Bool.and_eq_true, beq_iff_eq, and_assoc, word, BitVec.toNat_ofNat]
  split
  next => rfl
  next => rfl

/-- A chip put in service: its timer runs from the tick on, and its tide number, BCN_STW_CTRL and FOLD_COUNT read so. -/
theorem inService_spec {s : State} (ok : s.regsOk) (tk : Nat) (fly : Bool) :
    let w := inService s tk fly
    (phase w = 5 ∧ w.tide.running = true ∧ w.tide.tick = tk ∧ w.pwr.readyAt = none ∧ w.mem = s.mem ∧
      (tideNo w = if s.tide.k = 0 ∧ s.tide.tick = s.pwr.c0 ∧ tideNo s = 0 then 0 else (tideNo s + 1) % 2 ^ 64)) ∧
    rget w .bcnStwCtrl = rget s .bcnStwCtrl ∧ rfield w .pwrRstStatus 47 32 = rfield s .pwrRstStatus 47 32 := by
  obtain ⟨begun, begunMem, begunPwr, begunK, begunTick⟩ := captureBegun_spec s fly
  have ticked := changesRegs_tickCore (captureBegun s fly) tk fly true
  obtain ⟨⟨tick, running, -⟩, -⟩ := tickCore_tide (captureBegun s fly) tk fly true
  have number := tidNumber_tickCore (begun.regsOk ok) tk fly true
  have mem := (tickCore_mem (captureBegun s fly) tk fly true).trans begunMem
  obtain ⟨entered, five, folds, tide, enteredMem, ready⟩ := enterService_spec (ticked.regsOk (begun.regsOk ok))
  have changes := (begun.trans ticked).trans entered
  have begunNo : tideNo (captureBegun s fly) = tideNo s :=
    congrArg BitVec.toNat (begun.others (by decide) ⟨by decide, by decide⟩)
  intro w
  refine ⟨⟨five, ?_, ?_, ready, enteredMem.trans mem, ?_⟩, changes.others (by decide) ⟨by decide, by decide⟩, ?_⟩
  · exact (congrArg Tide.running tide).trans running
  · exact (congrArg Tide.tick tide).trans tick
  · have opened : rget w .tidNumber = _ := (entered.others (by decide) ⟨by decide, by decide⟩).trans number
    rw [tideNo, opened, word_tickNumber_first, begunK, begunTick, begunPwr, begunNo]
  · exact folds.trans ((begun.trans ticked).rfield (by decide) ⟨by decide, by decide⟩ _ _)

/-- Settles O14: the tick closes the tide it is due for, and a first tick puts the chip in service. -/
theorem ticksCloseTheTideAndStartTheTimer : Obligations.TicksCloseTheTideAndStartTheTimer := by
  refine ⟨?_, ?_⟩
  · intro s power t u closes ok sampled image
    exact ⟨fun tk hdue hnow => ⟨_, exec_tideTick power sampled hdue hnow, closesTide_closeTide (s := u) ok image tk false power⟩,
      fun tk hdue hnow => ⟨_, exec_flywheelTick power sampled hdue hnow, closeTide_countFlywheel (s := u) ok image tk power⟩⟩
  · intro s t tk u ok hphase fold hdue hnow
    obtain ⟨hexec, htk⟩ := exec_firstTick hphase fold hdue hnow
    obtain ⟨service, ctrl, folds⟩ := inService_spec (s := u) ok tk (firstTickDue u).isNone
    obtain ⟨five, running, tick, ready, mem, number⟩ := service
    rw [firstTick_eq, htk] at hexec
    dsimp only at hexec
    rw [ctrl, folds] at hexec
    refine ⟨_, five, running, tick, ready, mem, number, fun stays => ?_, fun go idle hfolds => ?_⟩
    · rwa [if_neg (by rcases stays with h | h | h <;> simp [h])] at hexec
    · rwa [if_pos (by simp [go, idle, hfolds])] at hexec

end Sys2Proof.Machine
end

section
/-! SUPPORT. The staging store, START and SEAL (R120, R125, R126, R622). -/

namespace Sys2Proof.Machine

/-! ### The staging store (R622) -/

/-- One byte of a staging write; a zero byte is not listed. -/
def stageByte (off : Nat) (m : Tab Byte) (x : Byte × Nat) : Tab Byte :=
  if x.1 = 0#8 then Tab.del (off + x.2) m else Tab.put (off + x.2) x.1 m

/-- A store that is not held takes a write that lies in it, byte by byte. -/
theorem stagingWrite_of_free {s : State} {off : Nat} {bytes : List Byte} (free : stagingHeld s = false)
    (fits : off + bytes.length ≤ 4194304) (q : Requester) :
    stagingWrite q off bytes s =
      { s with img := { s.img with staging := bytes.zipIdx.foldl (stageByte off) s.img.staging } } := by
  rw [stagingWrite, free, if_neg Bool.false_ne_true, if_neg (Nat.not_lt.2 fits)]
  rfl

/-- A staged byte leaves every other byte of the store. -/
theorem getD_stageByte_ne {off a : Nat} {x : Byte × Nat} (ne : a ≠ off + x.2) (m : Tab Byte) :
    Tab.getD 0#8 a (stageByte off m x) = Tab.getD 0#8 a m := by
  unfold stageByte
  split
  · rw [Tab.getD, Tab.find_del_ne ne, Tab.getD]
  · exact getD_put_ne ne _ _ m

/-- A staged byte is read back. -/
theorem getD_stageByte_same {m : Tab Byte} (rising : m.Pairwise fun a b => a.1 < b.1) (off : Nat) (x : Byte × Nat) :
    Tab.getD 0#8 (off + x.2) (stageByte off m x) = x.1 := by
  unfold stageByte
  split
  next zero => rw [Tab.getD, find_del_same rising, zero, Option.getD_none]
  next => rw [Tab.getD, Tab.find_put_same, Option.getD_some]

/-- The store stays a rising table. -/
theorem rising_stageByte {m : Tab Byte} (rising : m.Pairwise fun a b => a.1 < b.1) (off : Nat) (x : Byte × Nat) :
    (stageByte off m x).Pairwise fun a b => a.1 < b.1 := by
  unfold stageByte
  split
  · exact rising.sublist (Tab.del_sublist _ m)
  · exact Tab.rising_put rising

/-- Staged bytes leave every byte of the store outside them. -/
theorem getD_stageBytes_outside (off : Nat) {a : Nat} (bytes : List Byte) {k : Nat}
    (outside : a < off + k ∨ off + k + bytes.length ≤ a) (m : Tab Byte) :
    Tab.getD 0#8 a ((bytes.zipIdx k).foldl (stageByte off) m) = Tab.getD 0#8 a m := by
  induction bytes generalizing k m with
  | nil => rfl
  | cons b bytes ih =>
    rw [List.length_cons] at outside
    rw [List.zipIdx_cons, List.foldl_cons, ih (by omega), getD_stageByte_ne (by dsimp only; omega)]

/-- Staged bytes are read back. -/
theorem getD_stageBytes_inside (off : Nat) (bytes : List Byte) {k : Nat} {m : Tab Byte}
    (rising : m.Pairwise fun a b => a.1 < b.1) {i : Nat} (inside : i < bytes.length) :
    Tab.getD 0#8 (off + (k + i)) ((bytes.zipIdx k).foldl (stageByte off) m) = bytes.getD i 0#8 := by
  induction bytes generalizing k m i with
  | nil => exact absurd inside (Nat.not_lt_zero i)
  | cons b bytes ih =>
    rw [List.zipIdx_cons, List.foldl_cons]
    cases i with
    | zero =>
      rw [getD_stageBytes_outside off bytes (by omega)]
      exact getD_stageByte_same rising off (b, k)
    | succ i =>
      rw [List.getD_cons_succ, ← ih (k := k + 1) (rising_stageByte rising off (b, k)) (Nat.lt_of_succ_lt_succ inside)]
      congr 1
      omega

/-- STAGING_WRITE of the physical function that reaches the device. -/
theorem exec_stagingWrite {s : State} {t : Nat} (reach : reachable (s.at t) .pf = true) (off : Nat) (bytes : List Byte) :
    exec (.stagingWrite .pf off bytes t) s = .next (stagingWrite .pf off bytes (s.at t)) :=
  (whenEnabled_of_true (by simp only [reach, decide_true, Bool.and_self]) : execStagingWrite .pf off bytes t s = _)

/-! ### PHASE -/

/-- A phase that differs from that of a reset register is read back, whatever the list of registers held. -/
theorem phase_setPhase (s : State) {p : Nat} (hp : p % 16 ≠ bf Reg.pwrRstStatus.info.reset 63 60) :
    phase (setPhase s p) = p % 16 := by
  have field : bf (setBf (rget s .pwrRstStatus) 63 60 p) 63 60 = p % 16 := bf_setBf_same _ p (by decide)
  have ne : setBf (rget s .pwrRstStatus) 63 60 p ≠ Reg.pwrRstStatus.info.reset := fun h => hp (by rw [← field, h])
  rw [setPhase, rsetField, rmod, phase, rfield, rgetX_rputX_of_ne_reset s 0 0 ne, field]

/-! ### START (R120, R139) -/

/-- START by a requester that reaches the device and may write SEC_IMG_CTRL. -/
theorem exec_startC {s : State} {q : Requester} {t : Nat} (reach : reachable (s.at t) q = true)
    (takes : (s.at t).takesWrite q .secImgCtrl 0 0 1) :
    exec (.startC q t) s = .next (writeStart q ((s.at t).noteWrite q .secImgCtrl 0 0)) := by
  have hexec : exec (.startC q t) s = .next (writeSecImgCtrl q 1 (s.at t)) :=
    (whenEnabled_of_true (en := fun u => reachable u q) reach : execStartC q t s = _)
  rw [hexec, writeSecImgCtrl, guardedWrite_of_takes takes]
  rfl

/-- A device that takes no images answers START with an access error. -/
theorem startCheck_of_not_accepts {s : State} (h : acceptsImages s = false) (q : Requester) :
    startCheck q s = logAccess s .sec 0x02 (regAddr .secImgCtrl 0 0) (reqCode q) := by
  rw [startCheck, h]
  rfl

/-- During a check, or with an image pending, START is refused with BUSY. -/
theorem startCheck_of_busy {s : State} (h : acceptsImages s = true)
    (busy : s.img.checking.isSome = true ∨ s.img.pending.isSome = true) (q : Requester) :
    startCheck q s = reportImage s (0x15, 0xFF, 0) := by
  rw [startCheck, h, if_neg (by decide), if_pos (by rw [Bool.or_eq_true]; exact busy)]

/-- The state in which a check has begun. -/
def checkBegun (s : State) : State := { s with img := { s.img with checking := some s.now } }

/-- A check begins; a chip that waits for its boot image shows so. -/
theorem startCheck_of_ready {s : State} (h : acceptsImages s = true) (checking : s.img.checking = none)
    (pending : s.img.pending = none) (q : Requester) :
    startCheck q s = if phase s = 2 then setPhase (checkBegun s) 3 else checkBegun s := by
  rw [startCheck, h, if_neg (by decide), checking, pending, if_neg (by decide)]
  rfl

/-- START begins a check at this moment: PHASE 3 where the chip waited in PHASE 2, and the plan, memory and log stay. -/
theorem startCheck_spec {s : State} (accepts : acceptsImages s = true) (checking : s.img.checking = none)
    (pending : s.img.pending = none) (q : Requester) :
    let v := startCheck q s
    v.img = { s.img with checking := some s.now } ∧ phase v = (if phase s = 2 then 3 else phase s) ∧ v.plan = s.plan ∧
    v.mem = s.mem ∧ v.log = s.log := by
  dsimp only
  rw [startCheck_of_ready accepts checking pending]
  split
  · exact ⟨rfl, phase_setPhase _ (by decide), rfl, rfl, rfl⟩
  · exact ⟨rfl, rfl, rfl, rfl, rfl⟩

/-! ### SEAL (R125, R126) -/

/-- SEAL by a requester that reaches the device and may write SEC_IMG_CTRL. -/
theorem exec_sealC {s : State} {q : Requester} {t : Nat} (reach : reachable (s.at t) q = true)
    (takes : (s.at t).takesWrite q .secImgCtrl 0 0 2) :
    exec (.sealC q t) s = .next (writeSeal q ((s.at t).noteWrite q .secImgCtrl 0 0)) := by
  have hexec : exec (.sealC q t) s = .next (writeSecImgCtrl q 2 (s.at t)) :=
    (whenEnabled_of_true (en := fun u => reachable u q) reach : execSealC q t s = _)
  rw [hexec, writeSecImgCtrl, guardedWrite_of_takes takes]
  rfl

/-- SEAL with no image that waits for it is an access error. -/
theorem writeSeal_of_not_waiting {s : State}
    (h : s.img.inForce = false ∨ s.img.isSealed = true ∨ s.img.checking.isSome = true) (q : Requester) :
    writeSeal q s = logAccess s .sec 0x02 (regAddr .secImgCtrl 0 0) (reqCode q) := by
  have refused : (s.img.inForce && !s.img.isSealed && s.img.checking.isNone) = false := by
    rcases h with inForce | isSealed | checking
    · rw [inForce, Bool.false_and, Bool.false_and]
    · rw [isSealed, Bool.not_true, Bool.and_false, Bool.false_and]
    · rw [← Option.not_isSome, checking, Bool.not_true, Bool.and_false]
  rw [writeSeal, refused]
  rfl

/-- An image in force that is not sealed is sealed, while no check runs. -/
theorem writeSeal_of_waiting {s : State} (inForce : s.img.inForce = true) (unsealed : s.img.isSealed = false)
    (checking : s.img.checking = none) (q : Requester) : writeSeal q s = sealBoot s := by
  rw [writeSeal, inForce, unsealed, checking]
  rfl

/-- The sampling of the fields changes the log, the clocks and the tide. -/
theorem sampleFields_frame (s : State) :
    let v := sampleFields s
    v = { s with log := v.log, clk := v.clk, tide := v.tide } := by
  unfold sampleFields
  split <;> rfl

/-- ADVANCE_SVN is in the fuses. -/
theorem advanceSvn_frame (s : State) : advanceSvn s = { s with fuse := (advanceSvn s).fuse } := by
  unfold advanceSvn
  split <;> rfl

/-- The state at a boot seal before PHASE shows it: the image sealed and measured, the fields sampled, the fuses blown. -/
def sealMeasured (s : State) : State :=
  measureImage (sampleFirst (advanceSvn (blowRevokes { s with img := { s.img with isSealed := true } })))

/-- Then PHASE shows the seal, the first tick is waited for and the multipliers begin to rise (R126). -/
theorem sealBoot_eq (s : State) :
    sealBoot s =
      let v := setPhase (sealMeasured s) 4
      { v with pwr := { v.pwr with readyAt := some v.now, rampEnd := 0 }, clk := { v.clk with ramp := true, rampAt := v.now } } := by
  unfold sealBoot sealMeasured
  rfl

/-- Before PHASE shows it, a boot seal changes the image's seal, the fuses, the log, the clocks, the tide and the security state. -/
theorem sealMeasured_frame (s : State) :
    let v := sealMeasured s
    v = { s with img := { s.img with isSealed := true }, fuse := v.fuse, log := v.log, clk := v.clk, tide := v.tide, sec := v.sec } := by
  have sampled := sampleFields_frame (advanceSvn (blowRevokes { s with img := { s.img with isSealed := true } }))
  unfold sealMeasured measureImage measureStalls sampleFirst
  dsimp only at sampled ⊢
  rw [sampled, advanceSvn_frame]
  rfl

/-- A boot seal seals the image, shows PHASE 4 and waits for the first tick; the plan, memory and contexts stay. -/
theorem sealBoot_spec (s : State) :
    let v := sealBoot s
    v.img = { s.img with isSealed := true } ∧ phase v = 4 ∧ v.pwr.readyAt = some s.now ∧ v.plan = s.plan ∧ v.mem = s.mem ∧
    v.ctxs = s.ctxs := by
  have four : phase (setPhase (sealMeasured s) 4) = 4 := phase_setPhase _ (by decide)
  have frame := sealMeasured_frame s
  rw [sealBoot_eq]
  generalize sealMeasured s = w at four frame
  exact ⟨(congrArg State.img frame :), four, congrArg some (congrArg State.now frame :), (congrArg State.plan frame :),
    (congrArg State.mem frame :), (congrArg State.ctxs frame :)⟩

end Sys2Proof.Machine
end

section
/-! SUPPORT. The end of a check (R121 to R125). -/

namespace Sys2Proof.Machine

/-- IMAGE_CHECK_END while a check runs that no fold reset has discarded. -/
theorem exec_imageCheckEnd {s : State} {t : Nat} (checking : (s.at t).img.checking.isSome = true)
    (fold : (s.at t).pwr.fold = none ∨ (s.at t).pwr.foldRun = true) :
    exec (.imageCheckEnd t) s = .next (checkEnd (s.at t)) := by
  have open_ : ((s.at t).pwr.fold.isNone || (s.at t).pwr.foldRun) = true := by
    rw [Bool.or_eq_true, Option.isNone_iff_eq_none]
    exact fold
  exact (whenEnabled_of_true (by rw [checking, open_]; rfl) : execImageCheckEnd t s = _)

/-- The state whose check has ended. -/
def checkDone (s : State) : State := { s with img := { s.img with checking := none } }

/-- What becomes of an accepted image: pending, waiting for a fold reset, or in force at boot (R121, R128, R134). -/
def acceptImage (s : State) (b : List Byte) : State :=
  if imgPartial b then
    { s with img := { s.img with pending := some b, applyTide := imgTide b, changes := imgChanges b, applying := false } }
  else if s.img.isSealed then { s with img := { s.img with waiting := some b } }
  else applyBoot s b

/-- What a check ends with: the first fault of the image, or the keys that cannot be drawn for it (R121, R717). -/
def checkVerdict (s : State) : Option Reject :=
  checkImage (checkDone s) (stagedImage s) <|>
    rejectIf (s.sec.badSince.isSome && needsKeys (checkDone s) (stagedImage s)) 0x18

/-- A check that finds a fault ends in its rejection. -/
theorem checkEnd_of_rejected {s : State} {r : Reject} (h : checkImage (checkDone s) (stagedImage s) = some r) :
    checkEnd s = rejectImage (checkDone s) r := by
  have verdict : checkVerdict s = some r := by rw [checkVerdict, h]; rfl
  unfold checkVerdict checkDone at verdict
  unfold checkEnd checkDone
  dsimp only
  rw [verdict]

/-- A check that finds none, and for which the keys can be drawn, ends in acceptance, reported first. -/
theorem checkEnd_of_accepted {s : State} (h : checkImage (checkDone s) (stagedImage s) = none)
    (keys : ¬(s.sec.badSince.isSome = true ∧ needsKeys (checkDone s) (stagedImage s) = true)) :
    checkEnd s = acceptImage (reportImage (checkDone s) (0, 0xFF, 0)) (stagedImage s) := by
  have drawn : (s.sec.badSince.isSome && needsKeys (checkDone s) (stagedImage s)) = false := by
    rwa [← Bool.not_eq_true, Bool.and_eq_true]
  have verdict : checkVerdict s = none := by rw [checkVerdict, h, drawn]; rfl
  unfold checkVerdict checkDone at verdict
  unfold checkEnd checkDone acceptImage
  dsimp only
  rw [verdict]

/-- An event leaves the images, the plan and memory. -/
theorem Posts.keeps {fn : Nat} {s s' : State} (h : Posts fn s s') : s'.img = s.img ∧ s'.plan = s.plan ∧ s'.mem = s.mem := by
  rw [h.frame]
  exact ⟨rfl, rfl, rfl⟩

/-- A code shown and, for a rejection, logged (R121). -/
def reportLogged (s : State) (r : Reject) : State :=
  if r.1 = 0 then showImage s r else logRaw (showImage s r) none 6 .sec 0x05 r.1 (r.2.1 + 256 * r.2.2)

/-- What shows and logs a code changes SEC_IMG_STATUS and the log. -/
theorem writesRegs_reportLogged (s : State) (r : Reject) : WritesRegs [.secImgStatus] s (reportLogged s r) :=
  have shown : WritesRegs [.secImgStatus] s (showImage s r) := writesRegs_rputX (by decide) ⟨by decide, by decide⟩ s _
  WritesRegs.ite shown (shown.then (writesRegs_logRaw _ _ _ _ _ _ _ _))

/-- A report leaves the images, the plan and memory. -/
theorem reportImage_keeps (s : State) (r : Reject) :
    let v := reportImage s r
    v.img = s.img ∧ v.plan = s.plan ∧ v.mem = s.mem := by
  obtain ⟨img, plan, mem⟩ := (posts_postPf (reportLogged s r) 0x10 r.1 0 1).keeps
  have logged := (writesRegs_reportLogged s r).frame
  exact ⟨img.trans (congrArg State.img logged :), plan.trans (congrArg State.plan logged :), mem.trans (congrArg State.mem logged :)⟩

/-- Register values that are written are no image state. -/
theorem writeRegs_img (s : State) (l : List (Reg × Nat × Nat × Word)) : (writeRegs s l).img = s.img :=
  List.foldlRecOn l _ (motive := fun v : State => v.img = s.img) rfl fun _ h _ _ => h

/-- The registers that an image fills are no image state. -/
theorem writeImageRegs_img (s : State) (m : Tab (List Byte)) : (writeImageRegs s m).img = s.img := by
  rw [writeImageRegs, writeRegs_img]

/-- The multipliers of re-admitted dies are no image state. -/
theorem readmitClocks_img (s : State) (oldDies newDies : Nat) : (readmitClocks s oldDies newDies).img = s.img := by
  refine List.foldlRecOn _ _ (motive := fun v : State => v.img = s.img) rfl fun v h d _ => ?_
  dsimp only
  split
  · exact h
  · exact h

/-- Sections that come into force bring their plan; the image is the active one. -/
theorem takeSections_spec (s : State) (b : List Byte) (m : Tab (List Byte)) :
    let v := takeSections s b m
    v.plan = planOf m (imgTarget b) ∧ v.img.active = b ∧ v.img.inForce = true ∧ v.img.isSealed = s.img.isSealed := by
  refine ⟨rfl, rfl, rfl, ?_⟩
  simp only [takeSections, rsetField_img, readmitClocks_img]
  rfl

/-- A full image accepted at boot with its registers, sections and link master key, before it is sealed (R125, R714). -/
def bootTaken (s : State) (b : List Byte) : State :=
  let s := takeSections (writeImageRegs s (sectsOf b)) b (sectsOf b)
  { s with sec := { s.sec with lmk := lmkOf s (sect (sectsOf b) 12) } }

/-- A boot image is sealed at once unless SEAL_ON_CMD is set. -/
theorem applyBoot_eq (s : State) (b : List Byte) :
    applyBoot s b = if imgSealOnCmd b then bootTaken s b else sealBoot (bootTaken s b) := rfl

/-- A boot image is in force, and sealed in PHASE 4 unless SEAL_ON_CMD is set. -/
theorem applyBoot_spec {s : State} (unsealed : s.img.isSealed = false) (b : List Byte) :
    let v := applyBoot s b
    v.img.inForce = true ∧ v.img.active = b ∧ v.plan = planOf (sectsOf b) (imgTarget b) ∧ v.img.isSealed = !imgSealOnCmd b ∧
    (imgSealOnCmd b = false → phase v = 4) := by
  obtain ⟨plan, active, inForce, isSealed⟩ := takeSections_spec (writeImageRegs s (sectsOf b)) b (sectsOf b)
  have still : (bootTaken s b).img.isSealed = false :=
    isSealed.trans ((congrArg Images.isSealed (writeImageRegs_img s _)).trans unsealed)
  intro v
  have hv : v = applyBoot s b := rfl
  rw [applyBoot_eq] at hv
  cases onCmd : imgSealOnCmd b with
  | true =>
    rw [onCmd, if_pos rfl] at hv
    rw [hv]
    exact ⟨inForce, active, plan, still, fun h => absurd h (by decide)⟩
  | false =>
    rw [onCmd, if_neg Bool.false_ne_true] at hv
    obtain ⟨img, four, -, samePlan, -, -⟩ := sealBoot_spec (bootTaken s b)
    rw [hv, img, samePlan]
    exact ⟨inForce, active, plan, rfl, fun _ => four⟩

/-- A partial image is pending, a full one waits where an image is sealed, and is in force where none is. -/
theorem checkEnd_accepted {s : State} (h : checkImage (checkDone s) (stagedImage s) = none)
    (keys : ¬(s.sec.badSince.isSome = true ∧ needsKeys (checkDone s) (stagedImage s) = true)) :
    let b := stagedImage s
    let v := checkEnd s
    (imgPartial b = true → v.img.pending = some b ∧ v.img.applyTide = imgTide b ∧ v.img.checking = none ∧ v.plan = s.plan ∧
      v.mem = s.mem) ∧
    (imgPartial b = false → s.img.isSealed = true → v.img.waiting = some b ∧ v.img.checking = none ∧ v.plan = s.plan ∧
      v.mem = s.mem) ∧
    (imgPartial b = false → s.img.isSealed = false → v.img.inForce = true ∧ v.img.active = b ∧
      v.plan = planOf (sectsOf b) (imgTarget b) ∧ v.img.isSealed = !imgSealOnCmd b ∧ (imgSealOnCmd b = false → phase v = 4)) := by
  obtain ⟨img, plan, mem⟩ := reportImage_keeps (checkDone s) (0, 0xFF, 0)
  rw [checkEnd_of_accepted h keys]
  generalize reportImage (checkDone s) (0, 0xFF, 0) = w at img plan mem
  generalize stagedImage s = b
  have sealed_ : w.img.isSealed = s.img.isSealed := (congrArg Images.isSealed img :)
  have ended : w.img.checking = none := (congrArg Images.checking img :)
  refine ⟨fun partial_ => ?_, fun full isSealed => ?_, fun full unsealed => ?_⟩
  · rw [acceptImage, if_pos partial_]
    exact ⟨rfl, rfl, ended, plan, mem⟩
  · rw [acceptImage, full, if_neg Bool.false_ne_true, if_pos (sealed_.trans isSealed)]
    exact ⟨rfl, ended, plan, mem⟩
  · have still := sealed_.trans unsealed
    rw [acceptImage, full, if_neg Bool.false_ne_true, still, if_neg Bool.false_ne_true]
    exact applyBoot_spec still b

end Sys2Proof.Machine
end

section
/-! SUPPORT. What an applying image releases is cleared (R133). -/

namespace Sys2Proof.Machine

/-- A span of keys taken out of a table is not found. -/
theorem Tab.find_delRange_inside {α : Type} {a lo hi : Nat} (h : lo ≤ a ∧ a < hi) (m : Tab α) :
    find a (delRange lo hi m) = none := by
  induction m with
  | nil => rfl
  | cons c m ih =>
    unfold delRange at ih ⊢
    rw [List.filter_cons]
    split
    next kept =>
      have ne : c.1 ≠ a := fun eq => by simp [eq, h] at kept
      rw [find, if_neg ne, ih]
    next => exact ih

/-- A span of keys taken out of a table leaves every other key. -/
theorem Tab.find_delRange_outside {α : Type} {a lo hi : Nat} (h : a < lo ∨ hi ≤ a) (m : Tab α) :
    find a (delRange lo hi m) = find a m := by
  induction m with
  | nil => rfl
  | cons c m ih =>
    unfold delRange at ih ⊢
    rw [List.filter_cons]
    split
    next => rw [find, find, ih]
    next gone =>
      have ne : c.1 ≠ a := fun eq => by
        have within : lo ≤ c.1 ∧ c.1 < hi := by simpa using gone
        omega
      rw [ih, find, if_neg ne]

/-- Address a lies in a span. -/
def inSpan (p : Nat × Nat) (a : Nat) : Prop := p.1 ≤ a ∧ a < p.1 + p.2

section
variable {s : State} {p : Nat × Nat} {a : Nat}

/-- A cleared span changes memory and the upset words. -/
theorem clearSpan_frame (s : State) (p : Nat × Nat) :
    clearSpan s p = { s with mem := (clearSpan s p).mem, upsets := (clearSpan s p).upsets } := rfl

/-- A cleared span keeps the form of memory. -/
theorem memOk_clearSpan (ok : s.memOk) (p : Nat × Nat) : (clearSpan s p).memOk := by
  unfold State.memOk clearSpan
  dsimp only
  split
  · exact memPuts_wf ok _ _
  · exact delRange_wf ok _ _

/-- A cleared span leaves every byte outside it. -/
theorem readByte_clearSpan_outside (h : a < p.1 ∨ p.1 + p.2 ≤ a) : readByte (clearSpan s p) a = readByte s a := by
  have mem : memGet (clearSpan s p).mem a = memGet s.mem a := by
    unfold clearSpan
    dsimp only
    split
    · exact memGet_memPuts_outside _ _ (by rwa [zeros, List.length_replicate])
    · rw [memGet, Tab.find_delRange_outside h, memGet]
  have epoch : keyEpoch (clearSpan s p) a = keyEpoch s a := rfl
  rw [readByte, mem, epoch, readByte]

/-- Every byte of a cleared span that lies in one kind of memory reads 0. -/
theorem readByte_clearSpan_inside (ok : s.memOk) (h : inSpan p a) (kind : isHbm a = isHbm p.1) :
    readByte (clearSpan s p) a = 0#8 := by
  obtain ⟨from_, below⟩ := h
  have mem : memGet (clearSpan s p).mem a = some 0#8 := by
    unfold clearSpan
    dsimp only
    split
    next =>
      obtain ⟨i, rfl⟩ := Nat.exists_eq_add_of_le from_
      refine memGet_memPuts_inside _ ok ?_
      rw [zeros, List.getElem?_replicate, if_pos (by omega)]
    next notHbm =>
      rw [memGet, Tab.find_delRange_inside ⟨from_, below⟩]
      dsimp only
      rw [memDefault, kind, if_neg notHbm]
  rw [readByte, mem, Option.getD_some]

end

/-- Cleared spans change memory and the upset words. -/
theorem clearSpans_frame (s : State) (l : List (Nat × Nat)) :
    let v := l.foldl clearSpan s
    v = { s with mem := v.mem, upsets := v.upsets } := by
  refine List.foldlRecOn l clearSpan (motive := fun v : State => v = { s with mem := v.mem, upsets := v.upsets }) rfl
    fun v h p _ => ?_
  rw [clearSpan_frame, h]

/-- Cleared spans leave every byte outside all of them. -/
theorem readByte_clearSpans_outside {l : List (Nat × Nat)} {a : Nat} (h : ∀ p ∈ l, a < p.1 ∨ p.1 + p.2 ≤ a) (s : State) :
    readByte (l.foldl clearSpan s) a = readByte s a :=
  List.foldlRecOn l clearSpan (motive := fun v => readByte v a = readByte s a) rfl fun _ same p hp =>
    (readByte_clearSpan_outside (h p hp)).trans same

/-- Every byte of cleared spans reads 0: the last span that covers it clears it. -/
theorem readByte_clearSpans_inside {l : List (Nat × Nat)} {s : State} (ok : s.memOk)
    (kind : ∀ p ∈ l, ∀ a, p.1 ≤ a → a < p.1 + p.2 → isHbm a = isHbm p.1) {a : Nat} (h : ∃ p ∈ l, inSpan p a) :
    readByte (l.foldl clearSpan s) a = 0#8 := by
  induction l generalizing s with
  | nil =>
    obtain ⟨p, hp, -⟩ := h
    exact absurd hp List.not_mem_nil
  | cons p l ih =>
    rw [List.foldl_cons]
    by_cases later : ∃ p ∈ l, inSpan p a
    · exact ih (memOk_clearSpan ok p) (fun p hp => kind p (List.mem_cons_of_mem _ hp)) later
    · have inside : inSpan p a := by
        obtain ⟨p', hp', inside⟩ := h
        rcases List.mem_cons.1 hp' with rfl | hp'
        · exact inside
        · exact absurd ⟨p', hp', inside⟩ later
      have last : ∀ p ∈ l, a < p.1 ∨ p.1 + p.2 ≤ a := fun p hp => by
        have : ¬inSpan p a := fun inside => later ⟨p, hp, inside⟩
        unfold inSpan at this
        omega
      rw [readByte_clearSpans_outside last, readByte_clearSpan_inside ok inside (kind p List.mem_cons_self a inside.1 inside.2)]

/-- The spans that an image releases (R133). -/
def releasedSpans (s : State) (b : List Byte) : List (Nat × Nat) :=
  loftReleased s.img.sections (sectsAfter s b) ++ poolReleased s.img.sections (sectsAfter s b) ++
    (diesReleased s.img.sections (sectsAfter s b)).map sramSpan

/-- The clearing of what the applying image releases, done once in a tide. -/
theorem clearReleased_of_applying {s : State} {b : List Byte} (applying : s.img.applying = true)
    (cleared : s.tide.cleared = false) (pending : s.img.pending = some b) :
    clearReleased s =
      let v := (releasedSpans s b).foldl clearSpan s
      { v with tide := { v.tide with cleared := true } } := by
  unfold clearReleased releasedSpans
  rw [pending]
  dsimp only
  rw [applying, cleared, if_pos (by decide)]

/-- What the applying image releases reads 0, and every other byte, the plan and the registers stay. -/
theorem clearReleased_spec {s : State} {b : List Byte} (applying : s.img.applying = true)
    (cleared : s.tide.cleared = false) (pending : s.img.pending = some b) (ok : s.memOk)
    (kind : ∀ p ∈ releasedSpans s b, ∀ a, p.1 ≤ a → a < p.1 + p.2 → isHbm a = isHbm p.1) :
    let v := clearReleased s
    v.tide.cleared = true ∧ (∀ p ∈ releasedSpans s b, ∀ a, p.1 ≤ a → a < p.1 + p.2 → readByte v a = 0#8) ∧
    (∀ a, (∀ p ∈ releasedSpans s b, a < p.1 ∨ p.1 + p.2 ≤ a) → readByte v a = readByte s a) ∧ v.plan = s.plan ∧
    v.regs = s.regs := by
  rw [clearReleased_of_applying applying cleared pending]
  generalize releasedSpans s b = spans at kind
  have inside := fun p hp a from_ below => readByte_clearSpans_inside (a := a) ok kind ⟨p, hp, from_, below⟩
  have outside := fun a away => readByte_clearSpans_outside (l := spans) (a := a) away s
  have frame := clearSpans_frame s spans
  generalize spans.foldl clearSpan s = v at inside outside frame
  exact ⟨rfl, inside, outside, (congrArg State.plan frame :), (congrArg State.regs frame :)⟩

/-- RELEASE_CLEAR of an applying image, 4,000 ns after the sampling point. -/
theorem exec_releaseClear {s : State} {t : Nat} (fence : inFence (s.at t) = true) (applying : (s.at t).img.applying = true)
    (cleared : (s.at t).tide.cleared = false) (late : samplingPoint (s.at t) + 4000000 ≤ (s.at t).now) :
    exec (.releaseClear t) s = .next (clearReleased (s.at t)) :=
  (whenEnabled_of_true (by
    simp only [fence, applying, cleared, late, Bool.not_false, decide_true, Bool.and_self]) :
    execReleaseClear t s = _)

end Sys2Proof.Machine
end

section
/-! PROOFS. The life of an image (O54). -/

namespace Sys2Proof.Machine

/-- Settles O54: each command reaches its operation, and the operation's lemma for the case says what it leaves. -/
theorem imagesAreCheckedBeforeTheyApply : Obligations.ImagesAreCheckedBeforeTheyApply := by
  intro s q off t bytes
  dsimp only
  refine ⟨fun reach => ?staging, fun reach takes => ?start, fun reach takes => ?sealing, fun checking fold => ?check,
    fun im fence applying cleared late pending ok => ?release⟩
  case staging =>
    have hexec := exec_stagingWrite reach off bytes
    refine ⟨fun held => ?_, fun free beyond => ?_, fun free fits rising => ?_⟩
    · rwa [stagingWrite, if_pos held] at hexec
    · rwa [stagingWrite, free, if_neg Bool.false_ne_true, if_pos beyond] at hexec
    · rw [stagingWrite_of_free free fits] at hexec
      refine ⟨_, hexec, fun i hi => ?_, fun a outside => getD_stageBytes_outside off bytes outside _, rfl⟩
      rw [← getD_stageBytes_inside off bytes (k := 0) rising hi, Nat.zero_add]
  case start =>
    let w := (s.at t).noteWrite q .secImgCtrl 0 0
    have hexec : exec (.startC q t) s = .next (writeStart q w) := exec_startC reach takes
    refine ⟨fun other => ?_, fun pf refuses => ?_, fun pf accepts busy => ?_, fun pf accepts idle none_ _ => ?_⟩
    · rwa [writeStart, if_neg other] at hexec
    · rwa [writeStart, if_pos pf, startCheck_of_not_accepts (s := w) refuses] at hexec
    · rwa [writeStart, if_pos pf, startCheck_of_busy (s := w) accepts busy] at hexec
    · rw [writeStart, if_pos pf] at hexec
      obtain ⟨img, shown, plan, mem, log⟩ := startCheck_spec (s := w) accepts idle none_ q
      exact ⟨_, hexec, (congrArg Images.checking img :), shown, plan, mem, (congrArg Images.staging img :), log⟩
  case sealing =>
    let w := (s.at t).noteWrite q .secImgCtrl 0 0
    have hexec : exec (.sealC q t) s = .next (writeSeal q w) := exec_sealC reach takes
    refine ⟨fun inForce unsealed idle _ => ?_, fun refused => ?_⟩
    · rw [writeSeal_of_waiting (s := w) inForce unsealed idle] at hexec
      obtain ⟨img, four, ready, plan, mem, ctxs⟩ := sealBoot_spec w
      exact ⟨_, hexec, congrArg Images.isSealed img, four, ready, plan, mem, ctxs⟩
    · rwa [writeSeal_of_not_waiting (s := w) refused] at hexec
  case check =>
    have hexec := exec_imageCheckEnd checking fold
    refine ⟨fun r rejected => ?_, fun accepted keys => ?_⟩
    · exact hexec.trans (congrArg _ (checkEnd_of_rejected (s := s.at t) rejected))
    · obtain ⟨pending, waiting, boot⟩ := checkEnd_accepted (s := s.at t) accepted keys
      exact ⟨fun partial_ => ⟨_, hexec, pending partial_⟩, fun full isSealed => ⟨_, hexec, waiting full isSealed⟩,
        fun full unsealed _ => ⟨_, hexec, boot full unsealed⟩⟩
  case release =>
    intro kind
    have released := clearReleased_spec (s := s.at t) applying cleared pending ok
    unfold releasedSpans at released
    exact ⟨_, exec_releaseClear fence applying cleared late, released kind⟩

end Sys2Proof.Machine
end

section
/-! SUPPORT and PROOFS. The issue of a word (O26). -/

namespace Sys2Proof.Machine

/-! ### The end of a hold (Table of BCN_HOLDS) -/

/-- What counts a hold changes BCN_HOLDS and what the stalls carry to their next hold, and nothing else. -/
structure CountsHold (s v : State) : Prop where
  frame : v = { s with regs := v.regs, stalls := v.stalls }
  regs : ∀ r d i, r ≠ .bcnHolds → r.inRange d i → rgetX v r d i = rgetX s r d i
  stalls : ∀ n, stallOf v n = { stallOf s n with holdRest := (stallOf v n).holdRest }

/-- To do nothing counts no hold. -/
theorem CountsHold.refl (s : State) : CountsHold s s := ⟨rfl, fun _ _ _ _ _ => rfl, fun _ => rfl⟩

/-- A count of BCN_HOLDS and a rest carried in a stall count a hold. -/
theorem countsHold_modStall {n : Nat} (hn : n < 8) (s : State) (lo k : Nat) (m : Tab Nat) :
    CountsHold s (modStall (rbump s .bcnHolds (lo + 15) lo n k) n fun x => { x with holdRest := m }) := by
  refine ⟨rfl, fun r d i hr hin => ?_, fun j => ?_⟩
  · exact rgetX_rputX_ne s (Reg.addr_ne hr hin ⟨by decide, hn⟩) _
  · by_cases hj : j = n
    · subst hj
      rw [stallOf_modStall_same]
      rfl
    · rw [stallOf_modStall_ne _ _ _ hj]
      rfl

/-- The end of a hold is counted. -/
theorem countsHold_countHold {c : Nat} (hc : c < 17) (s : State) : CountsHold s (countHold s c) := by
  unfold countHold
  dsimp only
  split
  · exact CountsHold.refl s
  · split
    · exact CountsHold.refl s
    · exact countsHold_modStall (by omega) s _ _ _

/-- The contexts of a state whose hold is counted. -/
theorem CountsHold.ctxOf {s v : State} (h : CountsHold s v) (d : Nat) : Machine.ctxOf v d = Machine.ctxOf s d := by
  rw [h.frame]
  rfl

/-- A count and a change of a context's Beacon part touch no other context, and nothing else but the count. -/
theorem CountsHold.modBcn {s v : State} (h : CountsHold s v) (c : Nat) (f : Bcn → Bcn) :
    let w := Machine.modBcn v c f
    (∀ d, d ≠ c → Machine.ctxOf w d = Machine.ctxOf s d) ∧
    w = { s with ctxs := w.ctxs, regs := w.regs, stalls := w.stalls } ∧
    (∀ r d i, r ≠ .bcnHolds → r.inRange d i → rgetX w r d i = rgetX s r d i) ∧
    ∀ n, stallOf w n = { stallOf s n with holdRest := (stallOf w n).holdRest } := by
  refine ⟨fun d hd => (ctxOf_modBcn_ne v c f hd).trans (h.ctxOf d), ?_, h.regs, h.stalls⟩
  exact congrArg (fun x : State => { x with ctxs := (Machine.modBcn v c f).ctxs }) h.frame

/-- A record in BCN_EXC touches no context. -/
theorem ctxOf_recordExc (s : State) (c code field d : Nat) : ctxOf (recordExc s c code field) d = ctxOf s d := by
  unfold recordExc
  dsimp only
  split
  · rfl
  · rw [ctxOf, rputX_ctxs, ctxOf]

/-! ### The word of a context that may issue (R192, R200, R205, R214) -/

section
variable {u : State} {c : Nat} (ready : ((ctxOf u c).bcn.iss.isSome || !mayIssue u c) = false)
include ready

/-- A wait-equal that has been passed ends the step. -/
theorem tryIssue_of_passed {h tal : Nat} (hold : wordHold u c = (h, some tal)) :
    tryIssue u c = stepFail (talErr u 0x31 (ctxOf u c).req.step tal) .tal c 0x31 tal := by
  simp only [tryIssue, ready, hold, Bool.false_eq_true, if_false]

/-- A word that holds is in its hold, which is counted when it is a new one. -/
theorem tryIssue_of_hold {h : Nat} (hold : wordHold u c = (h, none)) (holds : h ≠ 0) :
    tryIssue u c =
      if (ctxOf u c).bcn.hold = h then u else modBcn (countHold u c) c fun b => { b with hold := h, holdAt := u.now } := by
  obtain ⟨k, rfl⟩ := Nat.exists_eq_succ_of_ne_zero holds
  simp only [tryIssue, ready, hold, Bool.false_eq_true, if_false]

variable (free : wordHold u c = (0, none))
include free

/-- A word that nothing holds and that raises a condition of Table 5.11 is an exception. -/
theorem tryIssue_of_exc {code field : Nat} (exc : wordExc u c = some (code, field)) :
    tryIssue u c = raiseExc u c code field := by
  simp only [tryIssue, ready, free, exc, Bool.false_eq_true, if_false]

/-- A sound word with a field that reaches what it may not is a protection violation. -/
theorem tryIssue_of_breach {a : Nat} (exc : wordExc u c = none) (reach : wordReach u c = some a) :
    tryIssue u c = violation u .bcn a := by
  simp only [tryIssue, ready, free, exc, reach, Bool.false_eq_true, if_false]

/-- A word that nothing holds back issues. -/
theorem tryIssue_of_free (exc : wordExc u c = none) (reach : wordReach u c = none) :
    tryIssue u c = modBcn (countHold u c) c fun b =>
      { b with hold := 0, iss := some { at_ := u.now, sc := b.sc, pd := b.pd, lcs := b.lcs, loops := b.loops, done := [] } } := by
  simp only [tryIssue, ready, free, exc, reach, Bool.false_eq_true, if_false]

end

/-- Settles O26: each answer of the checks is one branch of the issue, and a counted hold is the only other change. -/
theorem wordsIssueWithTheirRegisters : Obligations.WordsIssueWithTheirRegisters := by
  intro u c
  dsimp only
  intro hc idle may
  have ready : ((ctxOf u c).bcn.iss.isSome || !mayIssue u c) = false := by rw [idle, may]; rfl
  have counts := countsHold_countHold hc u
  refine ⟨fun free exc reach => ?issues, fun h holds hold => ?holds, fun h tal hold => tryIssue_of_passed ready hold,
    fun code field free exc stall => ?lost, fun code field free exc bc8 => ?stopped,
    fun a free exc reach => tryIssue_of_breach ready free exc reach⟩
  case issues =>
    rw [tryIssue_of_free ready free exc reach]
    refine ⟨?_, counts.modBcn c _⟩
    rw [ctxOf_modBcn_same, counts.ctxOf]
  case holds =>
    rw [tryIssue_of_hold ready hold holds]
    refine ⟨fun same => if_pos same, fun other => ?_⟩
    rw [if_neg other]
    refine ⟨?_, counts.modBcn c _⟩
    rw [ctxOf_modBcn_same, counts.ctxOf]
  case lost =>
    rw [tryIssue_of_exc ready free exc, raiseExc, if_neg stall, ctxOf_recordExc]
  case stopped =>
    rw [tryIssue_of_exc ready free exc, raiseExc, if_pos bc8, ctxOf_recordExc]

end Sys2Proof.Machine
end

section
/-! SUPPORT. The fields of an issued word (R192), and the results, loads and fetches of a context that wait for their moment. -/

namespace Sys2Proof.Machine

/-! ### The Beacon part of a context -/

/-- A change of the Beacon part depends on what it makes of the present one. -/
theorem modBcn_congr {s : State} {c : Nat} {f g : Bcn → Bcn} (h : f (ctxOf s c).bcn = g (ctxOf s c).bcn) :
    modBcn s c f = modBcn s c g := by
  unfold modBcn modCtx
  dsimp only
  rw [h]

/-- A change of the Beacon part is in the contexts. -/
theorem modBcn_frame (s : State) (c : Nat) (f : Bcn → Bcn) : modBcn s c f = { s with ctxs := (modBcn s c f).ctxs } := rfl

/-- The word of a context is the one at its program counter. -/
theorem lw_eq (s : State) (c : Nat) : wordAt (ctxOf s c).bcn = s.lw c := rfl

/-- A field carried out leaves the word. -/
@[simp] theorem lw_carried (s : State) (c k : Nat) : (s.carried c k).lw c = s.lw c := by
  simp only [State.lw, State.carried, ctxOf_modBcn_same]
  rfl

/-- A field carried out leaves the mode of the loops. -/
@[simp] theorem floodLoops_carried (s : State) (c k d : Nat) : floodLoops (s.carried c k) d = floodLoops s d := rfl

/-- A field carried out leaves the activity of its word. -/
@[simp] theorem active_carried (s : State) (c k d : Nat) (i : Issue) (pred : Nat) (neg : Bool) :
    (s.carried c k).active d i pred neg = s.active d i pred neg := rfl

/-! ### One field of a word -/

/-- A field in its turn takes its effect on the state in which it counts as carried out. -/
theorem doField_of_turn {u : State} {c field : Nat} {want : LongWord → Bool} {i : Issue} (wanted : want (u.lw c) = true)
    (issued : (ctxOf (tryIssue u c) c).bcn.iss = some i) (todo : i.done.contains field = false)
    (eff : Issue → State → State) : doField u c field want eff = eff i ((tryIssue u c).carried c field) := by
  unfold doField
  rw [lw_eq, wanted, Bool.not_true, if_neg Bool.false_ne_true]
  dsimp only
  rw [issued]
  dsimp only
  rw [todo, if_neg Bool.false_ne_true]
  rfl

/-- An active scalar field in its turn takes its effect. -/
theorem scalarCmd_of_active {u : State} {c sop : Nat} {f : Fld} {i : Issue} (turn : ScalarTurn u c f sop i)
    (on : (tryIssue u c).active c i ((tryIssue u c).fieldOf c f).pred ((tryIssue u c).fieldOf c f).neg = true)
    (eff off : Issue → SField → State → State) :
    scalarCmd sop c f eff off u = eff i ((tryIssue u c).fieldOf c f) ((tryIssue u c).carried c (fldNo f)) := by
  obtain ⟨code, issued, todo⟩ := turn
  unfold scalarCmd
  rw [doField_of_turn (by rw [code]; exact BEq.rfl) issued todo, lw_eq, lw_carried]
  exact if_pos on

/-! ### What waits for its moment -/

/-- The first of a list that is due is found, and taken out it leaves those before and after it. -/
theorem first_due {α : Type} [DecidableEq α] (moment : α → Nat) {now : Nat} {l pre post : List α} {a : α}
    (split : l = pre ++ a :: post) (early : ∀ q ∈ pre, now < moment q) (due : moment a ≤ now) :
    (l.any fun p => decide (moment p ≤ now)) = true ∧ (l.find? fun p => decide (moment p ≤ now)) = some a ∧
    l.erase a = pre ++ post := by
  have absent : a ∉ pre := fun h => Nat.not_lt.2 due (early a h)
  have none_ : (pre.find? fun p => decide (moment p ≤ now)) = none :=
    List.find?_eq_none.2 fun q hq => by simpa using early q hq
  subst split
  refine ⟨List.any_eq_true.2 ⟨a, by simp, decide_eq_true due⟩, ?_, ?_⟩
  · rw [List.find?_append, none_, Option.none_or, List.find?_cons_of_pos (p := fun p => decide (moment p ≤ now)) (decide_eq_true due)]
  · rw [List.erase_append_right _ absent, List.erase_cons_head]

/-! ### Reads of sound memory -/

/-- A read of memory in which no word is upset goes on with its bytes. -/
theorem withBytes_of_sound {s : State} (sound : s.upsets = []) (src : Src) (a len : Nat) (k : List Byte → State → State) :
    withBytes s src a len k = k (readMem s a len) s := by
  unfold withBytes
  rw [sound]
  rfl

end Sys2Proof.Machine
end

section
/-! PROOFS. The scalar operations with two operands (O27). -/

namespace Sys2Proof.Machine

/-! ### The commands, by their code (Table 5.7) -/

/-- Each two-operand command is the operation of its code, which tells the form and the function. -/
theorem exec_twoOperand {m : Instr} {c t sop : Nat} {f : Fld} {imm : Bool} {g : Word → Word → Word}
    (h : twoOperand m = some (c, f, t, sop, imm, g)) (s : State) :
    exec m s = .next (aluCmd sop c f (s.at t)) ∧ imm = sopImm sop ∧ g = alu (sop % 0x20) := by
  unfold twoOperand at h
  split at h <;> cases h <;> exact ⟨rfl, rfl, rfl⟩

/-- Each multiply is the multiplication of its code. -/
theorem exec_multiplyOp {m : Instr} {c t sop : Nat} {f : Fld} {imm : Bool} {g : Word → Word → Word}
    (h : multiplyOp m = some (c, f, t, sop, imm, g)) (s : State) :
    exec m s = .next (mulCmd sop c f (s.at t)) ∧ imm = sopImm sop ∧ g = alu (sop % 0x20) := by
  unfold multiplyOp at h
  split at h <;> cases h <;> exact ⟨rfl, rfl, rfl⟩

/-- Each compare is the comparison of its code. -/
theorem exec_compareOp {m : Instr} {c t sop : Nat} {f : Fld} {imm : Bool} {g : Word → Word → Bool}
    (h : compareOp m = some (c, f, t, sop, imm, g)) (s : State) :
    exec m s = .next (cmpCmd sop c f (s.at t)) ∧ imm = sopImm sop ∧ g = compare_ (0x10 + (sop % 0x20 - 0x10)) := by
  unfold compareOp at h
  split at h <;> cases h <;> refine ⟨rfl, rfl, ?_⟩ <;> funext a b
  case h_3 | h_4 => exact decide_not
  all_goals rfl

/-- Each operation on predicates is that of its code. -/
theorem exec_predicateOp {m : Instr} {c t sop : Nat} {f : Fld} {g : Bool → Bool → Bool}
    (h : predicateOp m = some (c, f, t, sop, g)) (s : State) :
    exec m s = .next (pdCmd sop c f (s.at t)) ∧ g = predOp sop := by
  unfold predicateOp at h
  split at h <;> cases h <;> exact ⟨rfl, rfl⟩

/-- The second operand of a field is the immediate in the immediate form. -/
theorem opB_of_code {fd : SField} {sop : Nat} (code : fd.sop = sop) (i : Issue) :
    opB i fd = if sopImm sop = true then fd.imm else scGet i.sc fd.srcb := by
  rw [opB, code]

/-! ### Multiplies that wait -/

/-- The first product that is due is written into its register. -/
theorem exec_mulResultReady {s : State} {c t : Nat} {p : PendReg} {pre post : List PendReg}
    (split : (ctxOf (s.at t) c).bcn.muls = pre ++ p :: post) (early : ∀ q ∈ pre, (s.at t).now < q.at_)
    (due : p.at_ ≤ (s.at t).now) :
    exec (.mulResultReady c t) s = .next (putSc (modBcn (s.at t) c fun b => { b with muls := pre ++ post }) c p.reg p.val) := by
  obtain ⟨some_, found, rest⟩ := first_due PendReg.at_ split early due
  have event : exec (.mulResultReady c t) s = .next (mulReady (s.at t) c) :=
    (whenEnabled_of_true some_ : execMulResultReady c t s = _)
  rw [event, mulReady, found]
  dsimp only
  rw [modBcn_congr (g := fun b => { b with muls := pre ++ post }) (by rw [rest])]

/-- Settles O27: each command is the operation of its code, whose effect an active field in its turn takes. -/
theorem scalarOperationsWriteTheirResult : Obligations.ScalarOperationsWriteTheirResult := by
  refine ⟨fun s m c f t sop imm g i => ?twoOperand, fun s c t => ⟨fun m f sop imm g i => ?multiply, fun p pre post split early due =>
    exec_mulResultReady split early due⟩, fun s m c f t sop i => ?predicates⟩
  case twoOperand =>
    intro u v fd op turn code on
    obtain ⟨hexec, rfl, rfl⟩ := exec_twoOperand op s
    rw [hexec, aluCmd, scalarCmd_of_active turn on, opB_of_code code]
  case multiply =>
    intro op turn code on
    obtain ⟨hexec, rfl, rfl⟩ := exec_multiplyOp op s
    rw [hexec, mulCmd, scalarCmd_of_active turn on, opB_of_code code]
  case predicates =>
    intro u v fd turn code on dst
    refine ⟨fun imm g op => ?_, fun g op srca srcb => ?_⟩
    · obtain ⟨hexec, rfl, rfl⟩ := exec_compareOp op s
      rw [hexec, cmpCmd, scalarCmd_of_active turn on, opB_of_code code, Nat.mod_eq_of_lt dst]
    · obtain ⟨hexec, rfl⟩ := exec_predicateOp op s
      rw [hexec, pdCmd, scalarCmd_of_active turn on, Nat.mod_eq_of_lt dst, Nat.mod_eq_of_lt srca, Nat.mod_eq_of_lt srcb]

end Sys2Proof.Machine
end

section
/-! SUPPORT and PROOFS. Loads and stores (O30). -/

namespace Sys2Proof.Machine

/-! ### Bytes, least significant first (R6) -/

/-- As many bytes are made as are asked for. -/
@[simp] theorem length_leBytes (n v : Nat) : (leBytes n v).length = n := by
  induction n generalizing v with
  | zero => rfl
  | succ n ih => rw [leBytes, List.length_cons, ih]

/-- Bytes read as the number they were made of. -/
theorem leNat_leBytes {n v : Nat} (h : v < 256 ^ n) : leNat (leBytes n v) = v := by
  induction n generalizing v with
  | zero => rw [leBytes, leNat, Nat.lt_one_iff.1 h]
  | succ n ih =>
    have rest : v / 256 < 256 ^ n := Nat.div_lt_of_lt_mul (by rwa [Nat.mul_comm, ← Nat.pow_succ])
    rw [leBytes, leNat, ih rest, BitVec.toNat_ofNat]
    omega

/-- A span just written is read back. -/
theorem readMem_writeMem_same {s : State} (ok : s.memOk) (a : Nat) (bs : List Byte) :
    readMem (writeMem s a bs) a bs.length = bs := by
  refine List.ext_getElem (by simp [readMem]) fun i hi hi' => ?_
  have written : bs[i]? = some bs[i] := List.getElem?_eq_getElem hi'
  simpa [readMem] using readByte_writeMem_inside ok (a := a) written

/-- A write that no injection disturbs changes memory and the upsets only (R793). -/
theorem writeMem_frame {s : State} (calm : bf (rget s .hltInject) 63 62 = 0) (a : Nat) (bs : List Byte) :
    writeMem s a bs = { s with mem := (writeMem s a bs).mem, upsets := (writeMem s a bs).upsets } := by
  have quiet : ∀ x, bf (rget { s with upsets := x } .hltInject) 63 62 = 0 := fun _ => calm
  unfold writeMem
  split
  · rfl
  · unfold injectOnWrite
    dsimp only
    rw [quiet, if_neg (by simp)]

/-! ### What waits, when its moment has come -/

/-- A load from sound memory reads its 8 bytes and nothing else. -/
theorem ldRead_of_sound {c a : Nat} {s : State} (sound : s.upsets = []) (memory : c = 16 → unitOf a ≠ .regs) :
    ldRead c s a = (word (leNat (readMem s a 8)), s) := by
  rw [ldRead, if_neg fun h => memory h.1 h.2, withBytes_of_sound sound]

/-- The first load of a context that is due puts the bytes at its address into its register, where it writes one. -/
theorem exec_ldDataUsable {s : State} {c t : Nat} {p : PendReg} {pre post : List PendReg}
    (split : (ctxOf (s.at t) c).bcn.lds = pre ++ p :: post) (early : ∀ q ∈ pre, (s.at t).now < q.at_)
    (due : p.at_ ≤ (s.at t).now) (sound : (s.at t).upsets = []) (memory : c = 16 → unitOf p.val.toNat ≠ .regs) :
    exec (.ldDataUsable c t) s =
      let w := modBcn (s.at t) c fun b => { b with lds := pre ++ post }
      .next (if p.write = true then putSc w c p.reg (word (leNat (readMem (s.at t) p.val.toNat 8))) else w) := by
  obtain ⟨some_, found, rest⟩ := first_due PendReg.at_ split early due
  have event : exec (.ldDataUsable c t) s = .next (ldUsable (ldRead c) (s.at t) c) :=
    (whenEnabled_of_true some_ : execLdDataUsable c t s = _)
  rw [event, ldUsable, found]
  dsimp only
  rw [modBcn_congr (g := fun b => { b with lds := pre ++ post }) (by rw [rest]),
    ldRead_of_sound (s := modBcn (s.at t) c _) sound memory]
  rfl

/-- The oldest store of a context, when due, writes its value at its address. -/
theorem exec_stLands {s : State} {c t : Nat} {p : PendSt} {rest : List PendSt}
    (oldest : (ctxOf (s.at t) c).bcn.sts = p :: rest) (due : p.at_ ≤ (s.at t).now) (memory : c = 16 → unitOf p.addr ≠ .regs) :
    exec (.stLands c t) s =
      .next (writeMem (modBcn (s.at t) c fun b => { b with sts := rest }) p.addr (leBytes 8 p.val.toNat)) := by
  have event : exec (.stLands c t) s = .next (stLand (stWrite c) (s.at t) c) :=
    (whenEnabled_of_true (by rw [oldest]; exact decide_eq_true due) : execStLands c t s = _)
  rw [event, stLand, oldest]
  dsimp only
  rw [if_pos due, stWrite, if_neg fun h => memory h.1 h.2]

/-- A store that lands is read back, and nothing but its bytes and its context's list of stores changes. -/
theorem stored_spec {u : State} (ok : u.memOk) (calm : bf (rget u .hltInject) 63 62 = 0) (c a : Nat) (v : Word)
    (rest : List PendSt) :
    let s' := writeMem (modBcn u c fun b => { b with sts := rest }) a (leBytes 8 v.toNat)
    leNat (readMem s' a 8) = v.toNat ∧ (∀ x, x < a ∨ a + 8 ≤ x → readByte s' x = readByte u x) ∧
    (ctxOf s' c).bcn.sts = rest ∧ (ctxOf s' c).bcn.sc = (ctxOf u c).bcn.sc ∧ (∀ d, d ≠ c → ctxOf s' d = ctxOf u d) ∧
    s'.regs = u.regs ∧ s'.log = u.log := by
  intro s'
  have frame := writeMem_frame (s := modBcn u c fun b => { b with sts := rest }) calm a (leBytes 8 v.toNat)
  have ctx : ∀ d, ctxOf s' d = ctxOf (modBcn u c fun b => { b with sts := rest }) d := fun d => by
    unfold ctxOf
    rw [(congrArg State.ctxs frame :)]
  have back := readMem_writeMem_same (s := modBcn u c fun b => { b with sts := rest }) ok a (leBytes 8 v.toNat)
  rw [length_leBytes] at back
  refine ⟨?_, fun x outside => ?_, ?_, ?_, fun d hd => ?_, (congrArg State.regs frame :), (congrArg State.log frame :)⟩
  · rw [back, leNat_leBytes v.isLt]
  · exact readByte_writeMem_outside _ (by rwa [length_leBytes])
  · rw [ctx, ctxOf_modBcn_same]
  · rw [ctx, ctxOf_modBcn_same]
  · rw [ctx, ctxOf_modBcn_ne _ _ _ hd]

/-- Settles O30: an active access takes what `crossAt` lets through, and each access that waits has its effect when due. -/
theorem loadsAndStoresReachMemory : Obligations.LoadsAndStoresReachMemory := by
  refine ⟨fun s c f t i => ?access, fun s c t => ⟨fun p pre post => exec_ldDataUsable,
    fun p rest oldest due ok memory calm => ⟨_, exec_stLands oldest due memory, stored_spec ok calm c p.addr p.val rest⟩⟩⟩
  case access =>
    intro u v w fd a ldLatency stLatency on
    refine ⟨fun turn => ?load, fun turn => ?store⟩
    case load =>
      have hexec : exec (.ld c f t) s = .next (ldCmd c f u) := rfl
      rw [hexec, ldCmd, scalarCmd_of_active turn on]
      dsimp only
      refine ⟨fun x cross => ?_, fun blocked => ?_⟩
      · rw [show crossAt _ _ (ldAddr _ _) _ = _ from cross]
        rfl
      · rw [show crossAt _ _ (ldAddr _ _) _ = _ from blocked]
        rfl
    case store =>
      have hexec : exec (.st c f t) s = .next (stCmd c f u) := rfl
      rw [hexec, stCmd, scalarCmd_of_active turn on]
      dsimp only
      refine ⟨fun x cross => ?_, fun blocked => ?_⟩
      · rw [show crossAt _ _ (ldAddr _ _) _ = _ from cross]
        rfl
      · rw [show crossAt _ _ (ldAddr _ _) _ = _ from blocked]
        rfl

end Sys2Proof.Machine
end

section
/-! SUPPORT and PROOFS. The control operations and the end of a word (O31). -/

namespace Sys2Proof.Machine

/-- The control field of a context's word, as decoded. -/
def State.controlOf (s : State) (c : Nat) : CField := cfield (lwControl (s.lw c))

/-- What the end of a context's present word does to its loops in progress (R199). -/
def wordEnd (s : State) (c : Nat) : List Nat × Tab LoopCtr × Option Nat :=
  endwStep (floodLoops s c) (ctxOf s c).bcn.pc (ctxOf s c).bcn.loops (ctxOf s c).bcn.lcs

/-- A word whose registers it has read ends at its issue and `delay` cycles, and everything else stays (R192, Table 5.10). -/
theorem retire_spec {v : State} {c : Nat} {i : Issue} (issued : (ctxOf v c).bcn.iss = some i) (next delay : Nat)
    (loops : List Nat) (lcs : Tab LoopCtr) :
    let w := retire v c loops lcs next delay
    (ctxOf w c).bcn = { (ctxOf v c).bcn with pc := next, iss := none, ready := i.at_ + delay * 625, loops := loops, lcs := lcs } ∧
    (∀ d, d ≠ c → ctxOf w d = ctxOf v d) ∧ w = { v with ctxs := w.ctxs } := by
  refine ⟨?_, fun d hd => ctxOf_modBcn_ne v c _ hd, modBcn_frame v c _⟩
  rw [retire, ctxOf_modBcn_same, issued]

/-! ### A control field in its turn -/

section
variable {u : State} {c cop : Nat} {i : Issue} (turn : ControlTurn u c cop i) (noBack : (wordEnd (tryIssue u c) c).2.2 = none)
  (eff : Issue → CField → State → State × Option (Nat × Nat))
include turn noBack

/-- A word that takes no back-edge: what its control field makes of the state, and the end of the word where its attempt goes on. -/
theorem controlCmd_of_turn {r : State × Option (Nat × Nat)}
    (effect : (if (tryIssue u c).active c i (u.controlOf c).pred (u.controlOf c).neg = true
      then eff i (u.controlOf c) (tryIssue u c) else (tryIssue u c, none)) = r) :
    let v := tryIssue u c
    let next := r.2.getD ((ctxOf v c).bcn.pc + 1, 1)
    controlCmd cop c eff u =
      if (ctxOf r.1 c).bcn.iss.isNone = true then r.1 else retire r.1 c (wordEnd v c).1 (wordEnd v c).2.1 next.1 next.2 := by
  obtain ⟨code, issued, fields⟩ := turn
  unfold wordEnd at noBack ⊢
  unfold State.active State.controlOf at effect
  unfold controlCmd
  rw [lw_eq, if_neg (Decidable.not_not.2 code)]
  dsimp only
  rw [issued]
  dsimp only
  rw [fields, Bool.not_true, if_neg Bool.false_ne_true, noBack]
  dsimp only
  rw [effect]
  obtain ⟨w, _ | ⟨p, d⟩⟩ := r <;> rfl

/-- An inactive control field goes on in order. -/
theorem controlCmd_of_inactive (off : (tryIssue u c).active c i (u.controlOf c).pred (u.controlOf c).neg = false) :
    let v := tryIssue u c
    controlCmd cop c eff u = retire v c (wordEnd v c).1 (wordEnd v c).2.1 ((ctxOf v c).bcn.pc + 1) 1 := by
  have issued := turn.2.1
  intro v
  rw [controlCmd_of_turn turn noBack eff (if_neg (Bool.not_eq_true _ ▸ off))]
  dsimp only
  rw [issued, if_neg (by simp)]
  rfl

/-- A control field whose effect keeps the attempt in its word ends the word: where the effect says, or in order. -/
theorem controlCmd_of_effect (stays : (ctxOf (eff i (u.controlOf c) (tryIssue u c)).1 c).bcn.iss = some i) :
    let v := tryIssue u c
    let r := eff i (u.controlOf c) v
    let next := r.2.getD ((ctxOf v c).bcn.pc + 1, 1)
    controlCmd cop c eff u =
      if v.active c i (u.controlOf c).pred (u.controlOf c).neg = true then
        retire r.1 c (wordEnd v c).1 (wordEnd v c).2.1 next.1 next.2
      else retire v c (wordEnd v c).1 (wordEnd v c).2.1 ((ctxOf v c).bcn.pc + 1) 1 := by
  intro v r next
  split
  case isTrue on =>
    rw [controlCmd_of_turn turn noBack eff (if_pos on)]
    rw [stays, if_neg (by simp)]
  case isFalse off => exact controlCmd_of_inactive turn noBack eff (Bool.not_eq_true _ ▸ off)

/-- A control field without an effect of its own goes on in order. -/
theorem controlCmd_of_nothing :
    let v := tryIssue u c
    controlCmd cop c (fun _ _ s => (s, none)) u = retire v c (wordEnd v c).1 (wordEnd v c).2.1 ((ctxOf v c).bcn.pc + 1) 1 := by
  intro v
  rw [controlCmd_of_effect turn noBack (fun _ _ s => (s, none)) turn.2.1]
  exact ite_self _

end

/-- Settles O31: every control operation is the control field's turn with its own effect, which keeps the attempt in its word. -/
theorem controlOperationsGoOn : Obligations.ControlOperationsGoOn := by
  refine ⟨fun s c t cop i => ?_, fun v c next delay loops lcs i issued => retire_spec issued next delay loops lcs⟩
  intro u v b f e on next turn noBack
  have issued : (ctxOf v c).bcn.iss = some i := turn.2.1
  have keeps (g : Bcn → Bcn) (same : (g b).iss = b.iss) : (ctxOf (modBcn v c g) c).bcn.iss = some i := by
    rw [ctxOf_modBcn_same, ← issued]
    exact same
  refine ⟨?nop, ?drain, ?waittick, ?br, ?jmpr, ?call, ?ret, ?fetch, ?commit, ?endC⟩ <;> rintro rfl
  case nop | drain | waittick => exact congrArg Host.Outcome.next (controlCmd_of_nothing turn noBack)
  case br | jmpr =>
    exact (congrArg Host.Outcome.next (controlCmd_of_effect turn noBack _ issued)).trans (apply_ite Host.Outcome.next ..)
  case call | ret =>
    exact (congrArg Host.Outcome.next (controlCmd_of_effect turn noBack _ (keeps _ rfl))).trans (apply_ite Host.Outcome.next ..)
  case fetch | commit | endC =>
    exact fun off => congrArg Host.Outcome.next (controlCmd_of_inactive turn noBack _ off)

end Sys2Proof.Machine
end

section
/-! SUPPORT and PROOFS. LOOP and its back-edge (O32). -/

namespace Sys2Proof.Machine

/-- The trip count that a LOOP reads (R208). -/
def tripOf (i : Issue) (f : CField) : Nat := (scGet i.sc f.tripReg).toNat

/-- The state in which a LOOP has opened its loop for a number of iterations (R208). -/
def loopOpened (v : State) (c : Nat) (f : CField) (on : Bool) (n : Nat) : State :=
  let b := (ctxOf v c).bcn
  retire v c (f.lc :: b.loops)
    (Tab.put f.lc { index := 0, trip := n, bound := f.bound, endw := f.endw, start := b.pc + 1, off := !on } b.lcs) (b.pc + 1) 1

/-- The state in which a LOOP has gone on after its ENDW word (R210). -/
def loopSkipped (v : State) (c : Nat) (f : CField) : State :=
  retire v c (ctxOf v c).bcn.loops (ctxOf v c).bcn.lcs (f.endw + 1) 4

section
variable {u : State} {c : Nat} {i : Issue} (turn : ControlTurn u c 0x05 i) (hc : c < 16)
include turn hc

/-- LOOP in its turn on a stall's Beacon: a trip count above BOUND, a loop skipped, or a loop opened. -/
theorem loopCmd_of_turn {on : Bool} (active : (tryIssue u c).active c i (u.controlOf c).pred (u.controlOf c).neg = on) :
    let v := tryIssue u c
    let f := u.controlOf c
    let n := if on = true then min (tripOf i f) f.bound else 0
    loopCmd c u =
      if on = true ∧ f.bound < tripOf i f then stepFail v .bcn c 0x21
      else if floodLoops v c = true ∧ n = 0 then loopSkipped v c f
      else loopOpened v c f on n := by
  obtain ⟨code, issued, fields⟩ := turn
  have stall : (c != 16) = true := bne_iff_ne.2 (Nat.ne_of_lt hc)
  unfold State.active at active
  unfold loopCmd
  rw [lw_eq, if_neg (Decidable.not_not.2 code)]
  dsimp only
  rw [issued]
  dsimp only
  rw [fields, Bool.not_true, if_neg Bool.false_ne_true]
  unfold State.controlOf at active ⊢
  rw [active, stall, if_neg (Nat.ne_of_lt hc)]
  simp only [Bool.and_true, Bool.and_eq_true, decide_eq_true_eq, beq_iff_eq]
  rfl

/-- A trip count within BOUND: the loop is skipped in Flood mode where it has no iteration, and opened elsewhere. -/
theorem loopCmd_of_within {on : Bool} (active : (tryIssue u c).active c i (u.controlOf c).pred (u.controlOf c).neg = on)
    (within : on = true → tripOf i (u.controlOf c) ≤ (u.controlOf c).bound) :
    let v := tryIssue u c
    let f := u.controlOf c
    let n := if on = true then tripOf i f else 0
    loopCmd c u = if floodLoops v c = true ∧ n = 0 then loopSkipped v c f else loopOpened v c f on n := by
  intro v f n
  have count : (if on = true then min (tripOf i f) f.bound else 0) = n := by
    cases on
    · rfl
    · exact Nat.min_eq_left (within rfl)
  rw [loopCmd_of_turn turn hc active, if_neg fun h => Nat.not_lt.2 (within h.1) h.2, count]

end

/-- An innermost loop with iterations left takes the back-edge at its ENDW word (R199). -/
theorem endwStep_of_left {flood : Bool} {pc k : Nat} {ks : List Nat} {lcs : Tab LoopCtr} {l : LoopCtr}
    (found : Tab.find k lcs = some l) (atEnd : l.endw = pc) (left : l.index + 1 < loopCount flood l) :
    endwStep flood pc (k :: ks) lcs = (k :: ks, Tab.put k { l with index := l.index + 1 } lcs, some l.start) := by
  have counter : lcOf lcs k = l := by simp [lcOf, Tab.getD, found]
  rw [endwStep, counter, if_neg (Decidable.not_not.2 atEnd), if_pos left]

/-- The back-edge of a word that takes one and whose control field has no effect of its own. -/
theorem backEdgeCmd_of_back {u : State} {c : Nat} {i : Issue} {loops : List Nat} {lcs : Tab LoopCtr} {tgt : Nat}
    (issued : (ctxOf (tryIssue u c) c).bcn.iss = some i) (fields : fieldsDone (u.lw c) i = true)
    (back : wordEnd (tryIssue u c) c = (loops, lcs, some tgt))
    (plain : (tryIssue u c).active c i (u.controlOf c).pred (u.controlOf c).neg = false ∨ (u.controlOf c).cop < 6) :
    backEdgeCmd c u = retire (tryIssue u c) c loops lcs tgt 1 := by
  unfold State.active State.controlOf at plain
  unfold wordEnd at back
  unfold backEdgeCmd
  rw [lw_eq]
  dsimp only
  rw [issued]
  dsimp only
  rw [back, fields]
  refine if_neg ?_
  simp only [Bool.not_true, Bool.false_or, Bool.and_eq_true, Bool.or_eq_true, beq_iff_eq, not_and]
  intro on
  have := plain.resolve_left (by simp only [Bool.and_eq_false_iff]; simp [on])
  omega

/-- Settles O32: a LOOP is refused, opened or skipped by its trip count, and an ENDW word goes back while iterations are left. -/
theorem loopsRunTheirBound : Obligations.LoopsRunTheirBound := by
  intro s c t i u v b f trip on opened
  have loop : exec (.loop c t) s = .next (loopCmd c u) := rfl
  have edge : exec (.loopBackEdge c t) s = .next (backEdgeCmd c u) := rfl
  refine ⟨fun turn hc => ?loops, fun k ks l issued fields loops found atEnd left plain => ?back⟩
  case loops =>
    rw [loop]
    have within (fits : on = true → trip ≤ f.bound) {n : Nat} (count : (if on = true then trip else 0) = n) :
        loopCmd c u = if floodLoops v c = true ∧ n = 0 then loopSkipped v c f else opened n := by
      rw [← count]
      exact loopCmd_of_within turn hc rfl fits
    refine ⟨fun active above => ?above, fun active fits neap => ?opens, fun inactive neap => ?nulls,
      fun active fits flood some_ => ?runs, fun flood none_ => ?skips⟩
    case above => rw [loopCmd_of_turn turn hc active, if_pos ⟨rfl, above⟩]
    case opens => rw [within (fun _ => fits) (if_pos active), if_neg (by simp [neap])]
    case nulls => rw [within (by simp [inactive]) (if_neg (by simp [inactive])), if_neg (by simp [neap])]
    case runs => rw [within (fun _ => fits) (if_pos active), if_neg fun h => some_ h.2]
    case skips =>
      have zero : (if on = true then trip else 0) = 0 := by
        rcases none_ with inactive | none_
        · rw [inactive]
          rfl
        · rw [none_, ite_self]
      have fits : on = true → trip ≤ f.bound := fun active => (if_pos active ▸ zero) ▸ Nat.zero_le _
      rw [within fits zero, if_pos ⟨flood, rfl⟩]
      rfl
  case back =>
    have end_ : wordEnd v c = _ := (congrArg (endwStep _ _ · _) loops).trans (endwStep_of_left found atEnd left)
    rw [edge, backEdgeCmd_of_back issued fields end_ plain, loops]

end Sys2Proof.Machine
end

section
/-! SUPPORT and PROOFS. FETCH (O33). -/

namespace Sys2Proof.Machine

/-- A step failure of an uncommitted attempt that runs takes the word out of its issue cycle (R162). -/
theorem iss_stepFail {s : State} {c : Nat} (uncommitted : (ctxOf s c).committed = false) (runs : (ctxOf s c).st = .running)
    (sound : (ctxOf s c).cause = none) (src : Src) (cause a : Nat) : (ctxOf (stepFail s src c cause a) c).bcn.iss = none := by
  rw [stepFail_of_uncommitted uncommitted (by rw [runs]; decide) sound, stopAttempt, ctxOf_modCtx_same]

/-- The effect of an active FETCH (R198): the copy to come, or the end of the step where no bay takes the access. -/
def fetchStart (c : Nat) (i : Issue) (f : CField) (s : State) : State × Option (Nat × Nat) :=
  let a := (scGet i.sc f.freg).toNat
  match crossAt s c a i.at_ with
  | none => (stepFail s .bcn c 0x02 a, none)
  | some x =>
    (modBcn s c fun b => { b with fetches := b.fetches ++
      [{ dst := f.dstw, count := f.count, addr := a, at_ := x + cyc (fetchCycles a f.count) }] }, none)

/-- FETCH is the control field's turn with that effect. -/
theorem exec_fetch (c t : Nat) (s : State) : exec (.fetch c t) s = .next (controlCmd 0x06 c (fetchStart c) (s.at t)) := rfl

/-- The first FETCH of a context that is due copies its words, and no word of sound memory changes. -/
theorem exec_fetchComplete {s : State} {c t : Nat} {p : PendFetch} {pre post : List PendFetch}
    (split : (ctxOf (s.at t) c).bcn.fetches = pre ++ p :: post) (early : ∀ q ∈ pre, (s.at t).now < q.at_)
    (due : p.at_ ≤ (s.at t).now) (sound : (s.at t).upsets = []) :
    exec (.fetchComplete c t) s = .next (modBcn (s.at t) c fun y =>
      { y with fetches := pre ++ post, words := loadWords (readMem (s.at t) p.addr (64 * p.count)) p.dst y.words }) := by
  obtain ⟨some_, found, rest⟩ := first_due PendFetch.at_ split early due
  refine (whenEnabled_of_true some_ : execFetchComplete c t s = _).trans (congrArg _ ?_)
  rw [found]
  dsimp only
  rw [withBytes_of_sound sound]
  exact modBcn_congr (by rw [rest])

/-- Settles O33: the effect of an active FETCH is the copy to come, or the end of the step with its word; a copy that is due is
one read of memory. -/
theorem fetchFillsTheWordStore : Obligations.FetchFillsTheWordStore := by
  intro s c t i u v b f e a
  refine ⟨fun turn noBack on => ⟨fun x cross => ?copies, fun blocked uncommitted runs sound => ?fails⟩,
    fun p pre post => exec_fetchComplete⟩
  case copies =>
    have start : fetchStart c i f v = (modBcn v c fun y => { y with fetches := y.fetches ++
        [{ dst := f.dstw, count := f.count, addr := a, at_ := x + cyc (fetchCycles a f.count) }] }, none) := by
      rw [fetchStart, cross]
    have issued : (ctxOf v c).bcn.iss = some i := turn.2.1
    rw [exec_fetch, controlCmd_of_turn turn noBack _ ((if_pos on).trans start)]
    dsimp only
    rw [ctxOf_modBcn_same, issued]
    rfl
  case fails =>
    have start : fetchStart c i f v = (stepFail v .bcn c 0x02 a, none) := by
      rw [fetchStart, blocked]
    rw [exec_fetch, controlCmd_of_turn turn noBack _ ((if_pos on).trans start)]
    dsimp only
    rw [iss_stepFail uncommitted runs sound]
    rfl

end Sys2Proof.Machine
end

section
/-! SUPPORT and PROOFS. The steward's start (O35). -/

namespace Sys2Proof.Machine

/-- STEWARD_GO of a requester that reaches the device and may write: refused before sealing, else stored, and outside a fold reset
the start. -/
theorem exec_stewardGo {s : State} {q : Requester} {v : Word} {t : Nat} (reach : reachable (s.at t) q = true)
    (takes : (s.at t).takesWrite q .bcnStwCtrl 0 0 v) (go : bitAt v 0 = true) :
    exec (.stewardGo q v t) s = .next
      (if (s.at t).img.isSealed = true then
        if (s.at t).pwr.fold = none then startSteward ((s.at t).afterWrite q .bcnStwCtrl 0 0 v)
        else (s.at t).afterWrite q .bcnStwCtrl 0 0 v
      else (s.at t).rejectsWrite q .bcnStwCtrl 0) := by
  refine (whenEnabled_of_true (by rw [reach, go]; rfl) : execStewardGo q v t s = _).trans (congrArg _ ?_)
  rw [writeStwCtrl, guardedWrite_of_takes takes]
  simp only [go, Bool.not_true, Bool.false_or, Bool.true_and, Option.isNone_iff_eq_none]
  rfl

/-- BC8 running and not halted, its context clear, and its first issue at the next beat edge (R188, R216, R218). -/
def stewardBegun (s : State) : State :=
  modCtx (rmod s .bcnStwCtrl fun w => setBit (setBit w 1 true) 2 false) 16 fun _ =>
    { Ctx.clear with st := .running, startT := s.now, bcn := { Bcn.clear with ready := beatUp s.now } }

/-- The start with a program in the steward's extents and sound memory loads its first 256 words. -/
theorem startSteward_of_extent {s : State} (extent : inExtentOf s 8 (rfield s .bcnStwEntry 47 0) 16384 = true)
    (sound : s.upsets = []) :
    startSteward s = modBcn (stewardBegun s) 16 fun b =>
      { b with words := loadWords (readMem s (rfield s .bcnStwEntry 47 0) 16384) 0 [] } := by
  have inside : inExtentOf (stewardBegun s) 8 (rfield s .bcnStwEntry 47 0) 16384 = true := extent
  have start : startSteward s =
      if !inExtentOf (stewardBegun s) 8 (rfield s .bcnStwEntry 47 0) 16384 then
        violation (stewardBegun s) .bcn (rfield s .bcnStwEntry 47 0)
      else withBytes (stewardBegun s) .bcn (rfield s .bcnStwEntry 47 0) 16384 fun bytes s =>
        modBcn s 16 fun b => { b with words := loadWords bytes 0 [] } := rfl
  rw [start, inside, Bool.not_true, if_neg Bool.false_ne_true, withBytes_of_sound (s := stewardBegun s) sound]
  rfl

/-- What a start leaves. -/
theorem startSteward_spec {s : State} (ok : s.regsOk) (extent : inExtentOf s 8 (rfield s .bcnStwEntry 47 0) 16384 = true)
    (sound : s.upsets = []) :
    let v := startSteward s
    bitAt (rget v .bcnStwCtrl) 1 = true ∧ bitAt (rget v .bcnStwCtrl) 2 = false ∧ (ctxOf v 16).bcn.pc = 0 ∧
    (ctxOf v 16).bcn.words = loadWords (readMem s (rfield s .bcnStwEntry 47 0) 16384) 0 [] ∧
    (ctxOf v 16).bcn.ready = (s.now + 9999) / 10000 * 10000 ∧ (∀ d, d ≠ 16 → ctxOf v d = ctxOf s d) ∧ v.mem = s.mem := by
  intro v
  have began : v = _ := startSteward_of_extent extent sound
  have ctrl : rget v .bcnStwCtrl = setBit (setBit (rget s .bcnStwCtrl) 1 true) 2 false := by
    rw [began]
    exact rgetX_rputX_same ok .bcnStwCtrl 0 0 _
  rw [ctrl]
  refine ⟨?_, ?_, ?_, ?_, ?_, fun d hd => ?_, ?_⟩
  · rw [setBit, bitAt_setBf _ _ (by decide), if_neg (by decide), setBit, bitAt_setBf _ _ (by decide), if_pos (by decide)]
    rfl
  · rw [setBit, bitAt_setBf _ _ (by decide), if_pos (by decide)]
    rfl
  all_goals rw [began]
  · rw [ctxOf_modBcn_same, stewardBegun, ctxOf_modCtx_same]
    rfl
  · rw [ctxOf_modBcn_same]
  · rw [ctxOf_modBcn_same, stewardBegun, ctxOf_modCtx_same]
    rfl
  · rw [ctxOf_modBcn_ne _ _ _ hd, stewardBegun, ctxOf_modCtx_ne _ _ _ hd]
    rfl
  · rfl

/-- Settles O35: the write's check refuses it before sealing, and after it the stored write leaves the entry point, memory and the
extents as they were for the start. -/
theorem goStartsTheSteward : Obligations.GoStartsTheSteward := by
  intro s q v t u a ok reach takes go
  have hexec := exec_stewardGo reach takes go
  refine ⟨fun unsealed => ?_, fun isSealed fold extent sound => ?_⟩
  · rw [hexec, if_neg (by rw [unsealed]; exact Bool.false_ne_true)]
  · rw [if_pos isSealed, if_pos fold] at hexec
    obtain ⟨-, others, frame⟩ := afterWrite_spec (s := u) ok q .bcnStwCtrl 0 0 v
    have written : (u.afterWrite q .bcnStwCtrl 0 0 v).regsOk := regsOk_rputX (regsOk_noteWrite ok q .bcnStwCtrl 0 0) ..
    have entry : rfield (u.afterWrite q .bcnStwCtrl 0 0 v) .bcnStwEntry 47 0 = a :=
      congrArg (bf · 47 0) (others _ _ _ (by decide))
    have started := startSteward_spec written (entry ▸ extent) sound
    rw [entry] at started
    exact ⟨_, hexec, started⟩

end Sys2Proof.Machine
end

section
/-! SUPPORT and PROOFS. The slots of a word (O36). -/

namespace Sys2Proof.Machine

/-- A slot of a word in its turn, after the slots before it that are not NOPs (R192). -/
theorem exec_slotPost {s : State} {c k t : Nat} {i : Issue} (hk : k < 4) (same : (s.at t).lw c = (tryIssue (s.at t) c).lw c)
    (some_ : lwSlot ((tryIssue (s.at t) c).lw c) k ≠ 0)
    (before : ∀ j < k, lwSlot ((tryIssue (s.at t) c).lw c) j = 0 ∨
      ∃ i0, (ctxOf (s.at t) c).bcn.iss = some i0 ∧ i0.done.contains (j + 3) = true)
    (issued : (ctxOf (tryIssue (s.at t) c) c).bcn.iss = some i) (todo : i.done.contains (k + 3) = false) :
    exec (.slotPost c k t) s = .next (slotEffect c k i ((tryIssue (s.at t) c).carried c (k + 3))) := by
  have post : exec (.slotPost c k t) s = .next (slotCmd c k (s.at t)) := rfl
  rw [post, slotCmd, doField_of_turn ?_ issued todo]
  rw [same]
  simp only [Bool.and_eq_true, decide_eq_true_eq, bne_iff_ne, ne_eq, List.all_eq_true, List.mem_range, Bool.or_eq_true, beq_iff_eq]
  refine ⟨⟨hk, some_⟩, fun j hj => (before j hj).imp id ?_⟩
  rintro ⟨i0, earlier, done⟩
  rw [earlier]
  exact done

/-- A field carried out leaves the attempt uncommitted or committed as it is. -/
theorem committed_carried (s : State) (c k : Nat) : (ctxOf (s.carried c k) c).committed = (ctxOf s c).committed := by
  rw [State.carried, ctxOf_modBcn_same]

/-- A field carried out leaves the attempt. -/
theorem uid_carried (s : State) (c k : Nat) : (ctxOf (s.carried c k) c).uid = (ctxOf s c).uid := by
  rw [State.carried, ctxOf_modBcn_same]

/-- A signal that adds nothing is none. -/
theorem issueSignal_zero (s : State) (c at_ tal : Nat) : issueSignal s c at_ tal 0 = s := if_pos rfl

/-- A signal that adds comes 2 cycles later. -/
theorem issueSignal_of_ne {add : Nat} (h : add ≠ 0) (s : State) (c at_ tal : Nat) :
    issueSignal s c at_ tal add =
      { s with
        sigs := s.sigs ++ [{ id := s.nextId, c := c, uid := (ctxOf s c).uid, tal := tal, add := add, at_ := at_ + cyc 2 }]
        nextId := s.nextId + 1 } := if_neg h

/-- What a slot adds to its tally by itself: nothing without a signal operation (R206). -/
def slotSignal (f : SlotF) : Nat := if f.sigOp = 0 then 0 else f.sigAdd

/-- The slot of a context's word, as decoded. -/
def State.slotOf (v : State) (c k : Nat) : SlotF := slotF (lwSlot (v.lw c) k)

/-- A slot is silent where it is empty, or inactive in Flood mode (R211, R212). -/
def SlotSilent (v : State) (c k : Nat) (i : Issue) : Prop :=
  (v.slotOf c k).empty = true ∨ (v.active c i (v.slotOf c k).pred (v.slotOf c k).neg = false ∧ floodLoops v c = true)

section
variable {v : State} {c k : Nat} {i : Issue}

/-- A silent slot gives its signal alone. -/
theorem slotEffect_of_silent (silent : SlotSilent v c k i) :
    slotEffect c k i v = issueSignal v c i.at_ (v.slotOf c k).sigTal (slotSignal (v.slotOf c k)) := by
  unfold slotEffect
  dsimp only
  split
  · rfl
  case isFalse full =>
    obtain ⟨off, flood⟩ := silent.resolve_left full
    refine if_pos ?_
    rw [flood, Bool.and_true]
    exact congrArg Bool.not off

variable (speaks : ¬SlotSilent v c k i)
include speaks

/-- A slot that is not silent is refused after the commit point, with its signal as it is (R843), and else posts its command, with the
signal of SIG_OP 2 (R204, R206). -/
theorem slotEffect_of_speaks :
    let f := v.slotOf c k
    let a := slotAddr i.sc f
    let w := postCmd v c i.at_ f a (!v.active c i f.pred f.neg)
    slotEffect c k i v =
      if (decide (c < 16) && (ctxOf v c).committed) = true then
        issueSignal (logAccess v .stl 0x05 a (stallReqCode (stallNo c))) c i.at_ f.sigTal (slotSignal f)
      else if f.sigOp = 2 then issueSignal w c i.at_ f.sigTal f.sigAdd else w := by
  obtain ⟨full, on⟩ := not_or.1 speaks
  refine (if_neg full).trans (if_neg fun h => on ?_)
  obtain ⟨off, flood⟩ := Bool.and_eq_true_iff.1 h
  exact ⟨(Bool.not_eq_true' _).mp off, flood⟩

/-- After the commit point a post is an access error, and its signal stays. -/
theorem slotEffect_of_committed (hc : c < 16) (committed : (ctxOf v c).committed = true) :
    slotEffect c k i v =
      issueSignal (logAccess v .stl 0x05 (slotAddr i.sc (v.slotOf c k)) (0x10 + c / 2)) c i.at_ (v.slotOf c k).sigTal
        (slotSignal (v.slotOf c k)) := by
  have code : stallReqCode (stallNo c) = 0x10 + c / 2 := if_neg (by unfold stallNo; omega)
  rw [slotEffect_of_speaks speaks, if_pos (by simp [hc, committed]), code]

/-- Before it a slot posts its command. -/
theorem slotEffect_of_posts (may : c = 16 ∨ (ctxOf v c).committed = false) :
    let f := v.slotOf c k
    let w := postCmd v c i.at_ f (slotAddr i.sc f) (!v.active c i f.pred f.neg)
    slotEffect c k i v = if f.sigOp = 2 then issueSignal w c i.at_ f.sigTal f.sigAdd else w := by
  refine (slotEffect_of_speaks speaks).trans (if_neg ?_)
  rcases may with rfl | uncommitted
  · simp
  · simp [uncommitted]

end

/-- Settles O36: a slot in its turn is silent, refused or posts, and its signal follows. -/
theorem slotsPostTheirCommands : Obligations.SlotsPostTheirCommands := by
  intro s c k t i u v w f on a delay posted signal silent hk same some_ before issued todo
  rw [exec_slotPost hk same some_ before issued todo]
  have slot : w.slotOf c k = f := by rw [State.slotOf, lw_carried]
  have quiet_iff : SlotSilent w c k i ↔ silent := by
    rw [SlotSilent, slot, active_carried, floodLoops_carried]
  have committed_eq : (ctxOf w c).committed = (ctxOf v c).committed := committed_carried v c _
  have uid : (ctxOf w c).uid = (ctxOf v c).uid := uid_carried v c _
  rw [← quiet_iff, ← committed_eq]
  refine ⟨fun speaks may op => ?posts, fun speaks may op adds => ?postsAndSignals, fun speaks hc committed op => ?refused,
    fun quiet nothing => ?nothing, fun quiet op adds => ?signals⟩
  case posts =>
    rw [slotEffect_of_posts speaks may, slot, if_neg op, postCmd, uid]
    rfl
  case postsAndSignals =>
    rw [slotEffect_of_posts speaks may, slot, if_pos op, issueSignal_of_ne adds, show (ctxOf (postCmd w ..) c).uid = _ from uid, postCmd,
      uid]
    rfl
  case refused =>
    rw [slotEffect_of_committed speaks hc committed, slot, slotSignal, if_pos op, issueSignal_zero]
    rfl
  case nothing =>
    have zero : slotSignal f = 0 := by
      rcases nothing with op | adds
      · exact if_pos op
      · rw [slotSignal, adds, ite_self]
    rw [slotEffect_of_silent quiet, slot, zero, issueSignal_zero]
  case signals =>
    rw [slotEffect_of_silent quiet, slot, slotSignal, if_neg op, issueSignal_of_ne adds, uid]
    rfl

end Sys2Proof.Machine
end

section
/-! SUPPORT and PROOFS. The completion of commands and their signals (O37). -/

namespace Sys2Proof.Machine

/-- Nothing of the Granary's waits to be written: nothing is. -/
theorem flushGrWrites_of_none {s : State} (none_ : s.grWrites = []) : flushGrWrites s = s := by
  simp only [flushGrWrites, none_, List.filter_nil, List.foldl_nil]
  rw [← none_]

/-- A finished command may complete from the first core cycle at or after its work is done. -/
theorem completable_of_found {s : State} {id : Nat} {m : Cmd} (found : s.cmds.find? (·.id == id) = some m)
    (finished : m.st = .finished) (whole : m.left = 0) (due : (m.doneAt + 624) / 625 * 625 ≤ s.now) : completable s id = true := by
  refine List.any_eq_true.2 ⟨m, List.mem_of_find?_eq_some found, ?_⟩
  have named : (m.id == id) = true := List.find?_some (p := fun x : Cmd => x.id == id) found
  have now : cyc (cdiv m.doneAt 625) ≤ s.now := due
  simp only [named, finished, whole, now, BEq.rfl, decide_true, Bool.and_self]

/-- The completion of a command that is no census leaves its queue and gives its signal where its attempt still runs. -/
theorem completeCmd_of_found {s : State} {id : Nat} {m : Cmd} (found : s.cmds.find? (·.id == id) = some m)
    (census : m.cls = 11 → fieldAt m.desc 0 1 ≠ 1) :
    let w := { s with cmds := s.cmds.filter (·.id ≠ id) }
    completeCmd s id =
      if m.sigAdd ≠ 0 ∧ runningCtx s m.c = true ∧ (ctxOf s m.c).uid = m.uid then tallyAdd w m.c m.sigTal m.sigAdd m.unfixed
      else w := by
  have plain (p : Prop) : ¬(m.cls = 11 ∧ fieldAt m.desc 0 1 = 1 ∧ p) := fun h => census h.1 h.2.1
  unfold completeCmd
  rw [found]
  dsimp only
  rw [if_neg (plain _)]
  rfl

/-- A signal that is due leaves its list and adds to its tally where its attempt still runs. -/
theorem exec_tallySignal {s : State} {id t : Nat} {g : PendSig} (found : (s.at t).sigs.find? (·.id == id) = some g)
    (due : g.at_ ≤ (s.at t).now) :
    let u := s.at t
    let w := { u with sigs := u.sigs.filter (·.id ≠ id) }
    exec (.tallySignal id t) s = .next
      (if runningCtx u g.c = true ∧ (ctxOf u g.c).uid = g.uid then tallyAdd w g.c g.tal g.add else w) := by
  have named : (g.id == id) = true := List.find?_some (p := fun x : PendSig => x.id == id) found
  have event : (s.at t).sigs.any (fun g => g.id == id && decide (g.at_ ≤ (s.at t).now)) = true :=
    List.any_eq_true.2 ⟨g, List.mem_of_find?_eq_some found, by rw [named, decide_eq_true due]; rfl⟩
  refine (whenEnabled_of_true event : execTallySignal id t s = _).trans (congrArg _ ?_)
  rw [found]
  rfl

/-- Settles O37: a command that completes, or a signal whose moment has come, adds where its attempt still runs. -/
theorem commandsCompleteWithTheirSignal : Obligations.CommandsCompleteWithTheirSignal := by
  intro s id t u
  refine ⟨fun m found finished whole due census flushed => ?complete, fun g found due => ?signal⟩
  case complete =>
    intro w
    have hexec : exec (.commandComplete id t) s = _ :=
      (whenEnabled_of_true (completable_of_found found finished whole due) : execCommandComplete id t s = _)
    rw [hexec, flushGrWrites_of_none flushed, completeCmd_of_found found census]
    refine ⟨fun silent => ?_, fun adds runs same => ?_, fun gone => ?_⟩
    · exact congrArg _ (if_neg fun h => h.1 silent)
    · exact congrArg _ (if_pos ⟨adds, runs, same⟩)
    · exact congrArg _ (if_neg fun h => gone.elim (fun stopped => Bool.false_ne_true (stopped.symm.trans h.2.1)) fun other => other h.2.2)
  case signal =>
    intro w
    rw [exec_tallySignal found due]
    refine ⟨fun runs same => ?_, fun gone => ?_⟩
    · exact congrArg _ (if_pos ⟨runs, same⟩)
    · exact congrArg _ (if_neg fun h => gone.elim (fun stopped => Bool.false_ne_true (stopped.symm.trans h.1)) fun other => other h.2)

end Sys2Proof.Machine
end

section
/-! SUPPORT and PROOFS. Engines take their descriptors (O38). -/

namespace Sys2Proof.Machine

/-! ### What an engine makes of the oldest command of its queue (R145, R167, R204, R205) -/

/-- No urgent command of a Flood stall stands in front of a queue (R167). -/
def FirstOfQueue (u : State) (c cls inst : Nat) : Prop :=
  c < 16 → c % 2 = 0 → floodCtx u c = true → headCmd u (c + 1) cls inst = none

/-- The test that `takeCmd` makes of it. -/
theorem not_firstOfQueue_iff {u : State} {c cls inst : Nat} :
    (c < 16 && c % 2 = 0 && floodCtx u c && (headCmd u (c + 1) cls inst).isSome) = true ↔ ¬FirstOfQueue u c cls inst := by
  simp only [FirstOfQueue, Bool.and_eq_true, decide_eq_true_eq, Classical.not_imp, ← Option.ne_none_iff_isSome, and_assoc, ne_eq]

section
variable {u : State} {c cls inst op size : Nat} {valid : Nat → Bool} {m : Cmd} {src : Src}
  {k : Cmd → List Byte → State → State}

/-- An empty queue gives nothing to take. -/
theorem takeCmd_of_none (none_ : headCmd u c cls inst = none) : takeCmd u src c cls inst op size valid k = u := by
  rw [takeCmd, none_]

variable (head : headCmd u c cls inst = some m)
include head

/-- A primary command behind an urgent one waits. -/
theorem takeCmd_of_not_first (urgent : ¬FirstOfQueue u c cls inst) : takeCmd u src c cls inst op size valid k = u := by
  rw [takeCmd, head]
  exact if_pos (not_firstOfQueue_iff.2 urgent)

variable (first : FirstOfQueue u c cls inst)
include first

/-- A descriptor that the context may not read, or that is shorter than the format, is a protection violation. -/
theorem takeCmd_of_unreadable (bad : mayRead u c m.addr m.len = false ∨ m.len < size) :
    takeCmd u src c cls inst op size valid k = violation u src m.addr := by
  rw [takeCmd, head]
  dsimp only
  rw [if_neg fun h => not_firstOfQueue_iff.1 h first]
  exact if_pos (by simpa using bad)

variable (readable : mayRead u c m.addr m.len = true) (long : size ≤ m.len)
include readable long

/-- A descriptor that the context may read, by its operation. -/
theorem takeCmd_of_readable :
    takeCmd u src c cls inst op size valid k =
      if leNat (readMem u m.addr 1) = op then withBytes u src m.addr m.len (k m)
      else if valid (leNat (readMem u m.addr 1)) = true then u
      else violation u src m.addr := by
  rw [takeCmd, head]
  dsimp only
  rw [if_neg fun h => not_firstOfQueue_iff.1 h first]
  exact if_neg (by simp [readable, Nat.not_lt.2 long])

end

/-- A read that meets an uncorrectable word is a chip loss (R767). -/
theorem withBytes_of_uncorrectable {u : State} {src : Src} {a len : Nat} {k : List Byte → State → State} {x : Nat × Nat}
    (hit : u.upsets.find? (fun y => decide (a < 8 * y.1 + 8) && decide (8 * y.1 < a + len) && y.2 == 2) = some x) :
    withBytes u src a len k = countUncorrected u src (8 * x.1) := by
  have found : (u.upsets.filter fun y => decide (a < 8 * y.1 + 8) && decide (8 * y.1 < a + len)).find? (·.2 == 2) = some x := by
    rw [List.find?_filter, ← hit]
    congr
    funext y
    simp only [Bool.decide_and, Bool.decide_eq_true]
  unfold withBytes
  dsimp only
  rw [found]

/-! ### The Granary's operations (R251, R254) -/

/-- Each Granary command is the operation of its code. -/
theorem exec_granaryOp {i : Instr} {c op t : Nat} (h : granaryOp i = some (c, op, t)) (s : State) :
    exec i s = .next (grnCmd op c (s.at t)) := by
  unfold granaryOp at h
  split at h <;> cases h <;> rfl

/-- The first byte of what is read is the byte at the address. -/
theorem fieldAt_readMem_zero (u : State) (a : Nat) {len : Nat} (h : 1 ≤ len) :
    fieldAt (readMem u a len) 0 1 = leNat (readMem u a 1) := by
  rw [fieldAt, slice, List.drop_zero, readMem, ← List.map_take, List.take_range, Nat.min_eq_left h, readMem]

/-- A command offered to the Granary is taken with its descriptor. -/
theorem grnCmd_of_offered {u : State} {c op : Nat} {m : Cmd} {b : List Byte} (offered : Offered u c 10 0 op 64 m b) :
    grnCmd op c u = grnTake c m b u ∧ fieldAt b 0 1 = op := by
  obtain ⟨head, first, readable, long, code, rfl, sound⟩ := offered
  refine ⟨?_, (fieldAt_readMem_zero u m.addr (by omega)).trans code⟩
  rw [grnCmd, takeCmd_of_readable head first readable long, if_pos code, withBytes_of_sound sound]

/-- Settles O38: what an engine takes follows its queue and the descriptor; the Granary's request is what the descriptor says. -/
theorem enginesTakeTheirDescriptors : Obligations.EnginesTakeTheirDescriptors := by
  refine ⟨fun u src c cls inst op size valid k m => ?takes, fun s i c op t m b => ?granary⟩
  case takes =>
    intro v code first
    refine ⟨takeCmd_of_none, fun head => ⟨takeCmd_of_not_first head, fun isFirst => takeCmd_of_unreadable head isFirst,
      fun isFirst readable long => ?_⟩⟩
    have taken := takeCmd_of_readable (op := op) (valid := valid) (src := src) (k := k) head isFirst readable long
    refine ⟨fun other known => ?_, fun other unknown => ?_, fun x same hit => ?_, fun same sound => ?_⟩
    · exact taken.trans ((if_neg other).trans (if_pos known))
    · exact taken.trans ((if_neg other).trans (if_neg (Bool.not_eq_true _ ▸ unknown)))
    · exact taken.trans ((if_pos same).trans (withBytes_of_uncorrectable hit))
    · exact taken.trans ((if_pos same).trans (withBytes_of_sound sound ..))
  case granary =>
    intro u q isOp offered
    obtain ⟨taken, code⟩ := grnCmd_of_offered offered
    rw [exec_granaryOp isOp, taken, grnTake]
    refine ⟨fun bad => ?_, fun ok => ?_⟩
    · rw [bad]
      rfl
    · rw [ok]
      dsimp only
      rw [code]
      rfl

end Sys2Proof.Machine
end

section
/-! SUPPORT and PROOFS. The rows that Haul moves on the chip (O40). -/

namespace Sys2Proof.Machine

/-! ### Memory that nothing disturbs (R793) -/

/-- A write of undisturbed memory leaves it so: no word is upset, and no injection is armed. -/
theorem undisturbed_writeMem {s : State} (calm : s.undisturbed) (a : Nat) (bs : List Byte) : (writeMem s a bs).undisturbed := by
  obtain ⟨ok, sound, unarmed⟩ := calm
  have quiet : ∀ x, bf (rget { s with upsets := x } .hltInject) 63 62 = 0 := fun _ => unarmed
  refine ⟨memOk_writeMem ok a bs, ?_, ?_⟩
  · unfold writeMem
    split
    · exact sound
    · unfold injectOnWrite
      dsimp only
      rw [quiet, if_neg (by simp), sound, List.filter_nil]
  · rw [writeMem_frame unarmed]
    exact unarmed

/-! ### One row (R268) -/

/-- The bytes that a row of a COPY or a FILL writes: what its source holds, or the pattern over and over. -/
def rowBytes (fill : Option (List Byte)) (s : State) (r : Nat × Nat × Nat) : List Byte :=
  match fill with
  | some pat => (List.replicate (r.2.2 / 8) pat).flatten
  | none => readMem s r.1 r.2.2

/-- A row that is not null writes its bytes before the rows after it move. That all of them move when the mover takes the command is
the model's choice (log entry 17). -/
theorem copyRows_cons {s : State} (sound : s.upsets = []) (fill : Option (List Byte)) (r : Nat × Nat × Nat)
    (rest : List (Nat × Nat × Nat)) :
    copyRows fill false (r :: rest) s = copyRows fill false rest (writeMem s r.2.1 (rowBytes fill s r)) := by
  obtain ⟨a, dst, len⟩ := r
  cases fill with
  | some pat => rfl
  | none =>
    rw [copyRows]
    exact withBytes_of_sound sound ..

/-- A null command moves nothing. -/
theorem copyRows_null {s : State} (sound : s.upsets = []) (fill : Option (List Byte)) (rows : List (Nat × Nat × Nat)) :
    copyRows fill true rows s = s := by
  induction rows with
  | nil => rfl
  | cons r rest ih =>
    cases fill with
    | some pat => exact ih
    | none =>
      rw [copyRows, withBytes_of_sound sound]
      exact ih

/-- A row writes no more than its length, where the pattern of a fill has its 8 bytes. -/
theorem length_rowBytes_le {fill : Option (List Byte)} (eight : ∀ pat, fill = some pat → pat.length = 8) (s : State)
    (r : Nat × Nat × Nat) : (rowBytes fill s r).length ≤ r.2.2 := by
  cases fill with
  | none => simp [rowBytes, readMem]
  | some pat =>
    have whole := Nat.div_mul_le_self r.2.2 8
    simpa [rowBytes, eight pat rfl] using whole

/-- Byte j of a copied row is the source's byte j. -/
theorem getElem?_rowBytes_none (s : State) {r : Nat × Nat × Nat} {j : Nat} (h : j < r.2.2) :
    (rowBytes none s r)[j]? = some (readByte s (r.1 + j)) := by
  simp [rowBytes, readMem, h]

/-- A list of 8 bytes repeated has its byte `j % 8` at j. -/
theorem getElem?_flatten_replicate_eight {pat : List Byte} (eight : pat.length = 8) {k j : Nat} (h : j < 8 * k) :
    ((List.replicate k pat).flatten)[j]? = some (pat.getD (j % 8) 0) := by
  induction k generalizing j with
  | zero => omega
  | succ k ih =>
    rw [List.replicate_succ, List.flatten_cons]
    by_cases first : j < 8
    · have byte : pat[j]? = some pat[j] := List.getElem?_eq_getElem (by omega)
      rw [List.getElem?_append_left (by omega), Nat.mod_eq_of_lt first, List.getD_eq_getElem?_getD, byte, Option.getD_some]
    · rw [List.getElem?_append_right (by omega), eight, ih (by omega), ← Nat.mod_eq_sub_mod (by omega)]

/-! ### The rows of a command, in order -/

/-- A row's destination meets neither the destination nor the source of a row that is moved after it. -/
def rowClear (r q : Nat × Nat × Nat) : Prop :=
  (r.2.1 + r.2.2 ≤ q.2.1 ∨ q.2.1 + q.2.2 ≤ r.2.1) ∧ (q.1 + q.2.2 ≤ r.2.1 ∨ r.2.1 + r.2.2 ≤ q.1)

section
variable {fill : Option (List Byte)} (eight : ∀ pat, fill = some pat → pat.length = 8)
include eight

/-- A byte outside a row's destination is left when the row is written. -/
theorem readByte_writeRow_outside {a : Nat} {r : Nat × Nat × Nat} (s : State) (h : a < r.2.1 ∨ r.2.1 + r.2.2 ≤ a) :
    readByte (writeMem s r.2.1 (rowBytes fill s r)) a = readByte s a := by
  have short := length_rowBytes_le eight s r
  exact readByte_writeMem_outside s (by omega)

/-- What a later row writes does not depend on an earlier one that is clear of it. -/
theorem rowBytes_writeRow {r q : Nat × Nat × Nat} (s : State) (clear : rowClear r q) :
    rowBytes fill (writeMem s r.2.1 (rowBytes fill s r)) q = rowBytes fill s q := by
  cases hf : fill with
  | some pat => rfl
  | none =>
    obtain ⟨-, source⟩ := clear
    refine List.map_congr_left fun j hj => ?_
    have inside := List.mem_range.1 hj
    rw [← hf]
    exact readByte_writeRow_outside eight s (by omega)

/-- A byte outside every destination row stays (R268). -/
theorem readByte_copyRows_outside {a : Nat} {rows : List (Nat × Nat × Nat)} {s : State} (calm : s.undisturbed)
    (outside : ∀ r ∈ rows, a < r.2.1 ∨ r.2.1 + r.2.2 ≤ a) : readByte (copyRows fill false rows s) a = readByte s a := by
  induction rows generalizing s with
  | nil => rfl
  | cons r rest ih =>
    obtain ⟨here, later⟩ := List.forall_mem_cons.1 outside
    rw [copyRows_cons calm.2.1, ih (undisturbed_writeMem calm _ _) later, readByte_writeRow_outside eight s here]

/-- Every byte that a row writes is there when all rows have been moved, where each is clear of those after it (R268). -/
theorem readByte_copyRows_inside {rows : List (Nat × Nat × Nat)} {s : State} (calm : s.undisturbed)
    (clear : rows.Pairwise rowClear) : ∀ r ∈ rows, ∀ (j : Nat) (b : Byte), (rowBytes fill s r)[j]? = some b →
      readByte (copyRows fill false rows s) (r.2.1 + j) = b := by
  induction rows generalizing s with
  | nil => exact fun r hr => absurd hr List.not_mem_nil
  | cons r rest ih =>
    obtain ⟨first, others⟩ := List.pairwise_cons.1 clear
    have after := undisturbed_writeMem calm r.2.1 (rowBytes fill s r)
    rw [copyRows_cons calm.2.1]
    refine List.forall_mem_cons.2 ⟨fun j b written => ?_, fun q hq j b written => ?_⟩
    · have short := length_rowBytes_le eight s r
      obtain ⟨inside, -⟩ := List.getElem?_eq_some_iff.1 written
      rw [readByte_copyRows_outside eight after fun q hq => ?_]
      · exact readByte_writeMem_inside calm.1 written
      · obtain ⟨apart, -⟩ := first q hq
        omega
    · exact ih after others q hq j b (by rw [rowBytes_writeRow eight s (first q hq)]; exact written)

end

/-! ### A move on the chip (R264 to R269) -/

/-- The pattern of a FILL, which the descriptor gives in place of a source. -/
def haulFill (d : HaulDesc) : Option (List Byte) := if d.op = 2 then some (leBytes 8 d.src) else none

/-- The pattern of a FILL has 8 bytes. -/
theorem length_haulFill (d : HaulDesc) : ∀ pat, haulFill d = some pat → pat.length = 8 := by
  unfold haulFill
  split <;> rintro pat ⟨⟩
  exact length_leBytes 8 d.src

/-- Row i of a command is one of its rows, and each of its rows is one of these. -/
theorem mem_haulRows {d : HaulDesc} {src dst : Nat} {r : Nat × Nat × Nat} :
    r ∈ haulRows d src dst ↔ ∃ i < d.rows, (src + i * d.srcStride, dst + i * d.dstStride, d.len) = r := by
  simp [haulRows]

/-- Rows of which each two are clear are moved as if at once. -/
theorem pairwise_haulRows {d : HaulDesc} {src dst : Nat}
    (clear : ∀ i k, i < k → k < d.rows →
      rowClear (src + i * d.srcStride, dst + i * d.dstStride, d.len) (src + k * d.srcStride, dst + k * d.dstStride, d.len)) :
    (haulRows d src dst).Pairwise rowClear := by
  rw [haulRows, List.pairwise_map]
  exact List.pairwise_lt_range.imp_of_mem fun _ hk lt => clear _ _ lt (List.mem_range.1 hk)

/-- A command of a stall whose rows it may use moves them where a bay lets it, and beyond that only counts the bytes and ends. -/
theorem haulLocal_of_go {u : State} {c m : Nat} {x : Cmd} {d : HaulDesc} {src dst : Nat} (hc : c < 16)
    (go : gate u (c / 2) (haulRes m (if d.op = 2 then none else placeOf src) (placeOf dst)) = .go)
    (may : ∀ r ∈ haulRows d src dst, (d.op ≠ 2 → mayUse u c r.1 r.2.2 = true) ∧ mayWrite u c r.2.1 r.2.2 = true) :
    let sp := if d.op = 2 then none else placeOf src
    haulLocal c m x d src dst u =
      finishCmd (haulCount (copyRows (haulFill d) x.null (haulRows d src dst) u) m (if x.null = true then 0 else d.rows * d.len)) x.id
        (max (afterBlackout u src u.now) (afterBlackout u dst u.now) + haulTime m d sp (placeOf dst)) := by
  intro sp
  have none_ : ((haulRows d src dst).find? fun r => (d.op != 2 && !mayUse u c r.1 r.2.2) || !mayWrite u c r.2.1 r.2.2) = none :=
    List.find?_eq_none.2 fun r hr => by
      obtain ⟨use, write⟩ := may r hr
      simpa [write] using use
  have stall : ¬(c = 16) := by omega
  unfold haulLocal
  dsimp only
  rw [none_]
  dsimp only
  rw [gated, if_neg stall, stallNo, go]
  dsimp only
  rw [if_neg (by simp [stall])]
  rfl

/-- Settles O40: the command is the move of its rows in order, each clear of those after it. -/
theorem haulMovesItsRows : Obligations.HaulMovesItsRows := by
  intro u c m x d src dst v row srow apart sp calm hc go may
  have eight := length_haulFill d
  have moved : v = _ := haulLocal_of_go hc go fun r hr => by
    obtain ⟨i, hi, rfl⟩ := mem_haulRows.1 hr
    exact may i hi
  have bytes : ∀ a, readByte v a = readByte (copyRows (haulFill d) x.null (haulRows d src dst) u) a := fun a => by
    rw [moved]
    rfl
  have null : x.null = true → copyRows (haulFill d) x.null (haulRows d src dst) u = u := fun h => by
    rw [h]
    exact copyRows_null calm.2.1 ..
  have inside : x.null = false → (∀ i k, i < k → k < d.rows → rowClear (srow i, row i, d.len) (srow k, row k, d.len)) →
      ∀ i < d.rows, ∀ (j : Nat) (b : Byte), (rowBytes (haulFill d) u (srow i, row i, d.len))[j]? = some b →
        readByte v (row i + j) = b := fun h clear i hi j b written => by
    rw [bytes, h]
    exact readByte_copyRows_inside eight calm (pairwise_haulRows clear) _ (mem_haulRows.2 ⟨i, hi, rfl⟩) j b written
  refine ⟨fun h => ?null, fun a outside => ?frame, fun h => ⟨fun copy one j hj => ?copy, fun fill one whole j hj => ?fill,
    fun copy2d clear i hi j hj => ?copy2d⟩⟩
  case null =>
    rw [moved, null h]
    rfl
  case frame =>
    rw [bytes]
    cases h : x.null with
    | true => rw [← h, null h]
    | false =>
      refine readByte_copyRows_outside eight calm fun r hr => ?_
      obtain ⟨i, hi, rfl⟩ := mem_haulRows.1 hr
      exact outside i hi
  case copy =>
    have source : haulFill d = none := if_neg (by omega)
    have first := inside h (by omega) 0 (by omega) j _ (by rw [source]; exact getElem?_rowBytes_none u hj)
    simpa [row, srow] using first
  case fill =>
    have pattern : haulFill d = some (leBytes 8 d.src) := if_pos fill
    have first := inside h (by omega) 0 (by omega) j _
      (by rw [pattern]; exact getElem?_flatten_replicate_eight (length_leBytes 8 d.src) (by dsimp only; omega))
    simpa [row] using first
  case copy2d =>
    have source : haulFill d = none := if_neg (by omega)
    refine inside h (fun i k lt hk => ⟨?_, ?_⟩) i hi j _ (by rw [source]; exact getElem?_rowBytes_none u hj)
    · exact (clear i (by omega) k hk).1 (by omega)
    · exact (clear k hk i (by omega)).2

end Sys2Proof.Machine
end

section
/-! SUPPORT and PROOFS. The Granary's slots (O39). -/

namespace Sys2Proof.Machine

/-! ### The lowest free index of a reserve (R249) -/

/-- The index found is the first free one of the range. -/
theorem lowestFree_of_first {s : State} {arena : Bool} {unit ix len lo : Nat} (from_ : lo ≤ ix) (before : ix < lo + len)
    (free : (bufOf s (bufKey arena unit ix)).alloc = false)
    (taken : ∀ i, lo ≤ i → i < ix → (bufOf s (bufKey arena unit i)).alloc = true) :
    lowestFree s arena unit lo len = some ix := by
  induction len generalizing lo with
  | zero => omega
  | succ len ih =>
    by_cases here : lo = ix
    · rw [lowestFree, here, free]
      rfl
    · rw [lowestFree, if_pos (taken lo (Nat.le_refl lo) (by omega))]
      exact ih (by omega) (by omega) fun i hi => taken i (by omega)

/-- A range in which every index is taken has none. -/
theorem lowestFree_of_full {s : State} {arena : Bool} {unit len lo : Nat}
    (taken : ∀ i, lo ≤ i → i < lo + len → (bufOf s (bufKey arena unit i)).alloc = true) :
    lowestFree s arena unit lo len = none := by
  induction len generalizing lo with
  | zero => rfl
  | succ len ih =>
    rw [lowestFree, if_pos (taken lo (Nat.le_refl lo) (by omega))]
    exact ih fun i hi hi' => taken i (by omega) (by omega)

/-! ### Buffers taken and returned (R246, R249, R252) -/

/-- The buffers where one is allocated to an attempt of a context, charged to a requester. -/
def bufsTaken (s : State) (key r c uid : Nat) : Tab Buf :=
  Tab.put key { bufOf s key with alloc := true, req := r, c := c, uid := uid } s.bufs

/-- A buffer taken is allocated, and PEAK is in a register. -/
theorem takeBuf_frame (s : State) (key r k c uid : Nat) :
    takeBuf s key r k c uid = { s with bufs := bufsTaken s key r c uid, regs := (takeBuf s key r k c uid).regs } := by
  unfold takeBuf
  dsimp only
  split <;> rfl

/-- An allocation takes the buffer that it answers. -/
theorem allocBuf_frame {s v : State} {r c uid fuel k key : Nat} (h : allocBuf s r c uid fuel k = some (key, v)) :
    v = { s with bufs := bufsTaken s key r c uid, regs := v.regs } := by
  induction fuel generalizing k with
  | zero => cases h
  | succ fuel ih =>
    unfold allocBuf at h
    dsimp only at h
    split at h
    · cases h
      exact takeBuf_frame ..
    · split at h
      · exact ih h
      · cases h

/-- The lowest free index of the reserve is allocated (R249). -/
theorem allocBuf_of_first {s : State} {r c uid fuel k ix : Nat}
    (first : lowestFree s false (bf (rsv s r k) 52 48) (bf (rsv s r k) 39 20) (bf (rsv s r k) 19 0) = some ix) :
    allocBuf s r c uid (fuel + 1) k =
      some (bufKey false (bf (rsv s r k) 52 48) ix, takeBuf s (bufKey false (bf (rsv s r k) 52 48) ix) r k c uid) := by
  rw [allocBuf]
  dsimp only
  rw [first]

/-- A full reserve without a chain allocates nothing (R249). -/
theorem allocBuf_of_full {s : State} {r c uid fuel k : Nat}
    (full : lowestFree s false (bf (rsv s r k) 52 48) (bf (rsv s r k) 39 20) (bf (rsv s r k) 19 0) = none)
    (unchained : bf (rsv s r k) 40 40 = 0) : allocBuf s r c uid (fuel + 1) k = none := by
  rw [allocBuf]
  dsimp only
  rw [full, unchained]
  rfl

/-- A handle that is sound names an allocated buffer of its generation (R247). -/
theorem alloc_of_checkHandle {s : State} {n h hc off len : Nat} (sound : checkHandle s n h hc off len = .ok) :
    (bufOf s (keyOf h)).alloc = true ∧ (bufOf s (keyOf h)).gen = bitsOf h 23 21 := by
  unfold checkHandle at sound
  dsimp only at sound
  split at sound
  · cases sound
  · split at sound
    · cases sound
    · rename_i out
      split at sound
      · cases sound
      · split at sound
        · cases sound
        · rename_i gen
          exact ⟨eq_true_of_ne_false fun free => out (.inr (.inr (.inr (.inr free)))), Decidable.not_not.1 gen⟩

/-- The buffer of a sound handle that is not null returns: it is free, and of the next generation (R246, R252). -/
theorem freeHandle_of_sound {s : State} {n h hc off len : Nat} (sound : checkHandle s n h hc off len = .ok) (nonnull : h ≠ 0) :
    let b := bufOf s (keyOf h)
    let g := (b.gen + 1) % 8
    freeHandle s h = { s with bufs := Tab.put (keyOf h) { b with alloc := false, gen := g, genC := 7 - g, uid := 0 } s.bufs } := by
  obtain ⟨held, gen⟩ := alloc_of_checkHandle sound
  rw [freeHandle, if_neg (by simp [nonnull, gen]), freeBuf]
  exact if_pos held

/-- A handle that returns changes the buffers only. -/
theorem freeHandle_frame (s : State) (h : Nat) : freeHandle s h = { s with bufs := (freeHandle s h).bufs } := by
  unfold freeHandle freeBuf
  dsimp only
  split
  · rfl
  · split <;> rfl

/-! ### A step failure keeps buffers (R161) -/

/-- A write of memory changes no buffer. -/
@[simp] theorem bufs_writeMem (s : State) (a : Nat) (bs : List Byte) : (writeMem s a bs).bufs = s.bufs := by
  unfold writeMem injectOnWrite
  dsimp only
  split
  · rfl
  · split <;> rfl

/-- An attempt that stops keeps its buffers until its kill completes (R162). -/
theorem bufs_stopAttempt (s : State) (c : Nat) (cause : Option Nat) (next : Option NextAttempt) :
    (stopAttempt s c cause next).bufs = s.bufs := by
  have dropped : (dropWork s (ctxOf s c).uid).bufs = s.bufs := by
    unfold dropWork
    split <;> rfl
  refine Eq.trans ?_ dropped
  unfold stopAttempt landStores
  refine foldl_keeps (R := fun s s' => s'.bufs = s.bufs) (fun _ => rfl) (fun h k => k.trans h) (fun s p => ?_) _ _
  split
  · exact bufs_writeMem ..
  · rfl

/-- A step that fails changes no buffer and no publication slot. -/
theorem stepFail_keeps (s : State) (src : Src) (c cause a : Nat) :
    (stepFail s src c cause a).bufs = s.bufs ∧ (stepFail s src c cause a).pub = s.pub := by
  have noted := failNoted_frame s src c cause a
  unfold stepFail
  dsimp only
  split
  · exact ⟨rfl, rfl⟩
  · exact ⟨(bufs_stopAttempt (failNoted s src c cause a) c _ _).trans (by rw [noted]),
      (stopAttempt_spec (failNoted s src c cause a) c _ _).1.pub.trans (by rw [noted])⟩

/-- An uncommitted step that runs is killed with the cause of its failure (R161). -/
theorem stepFail_of_running {s : State} {c : Nat} (uncommitted : (ctxOf s c).committed = false) (runs : (ctxOf s c).st = .running)
    (none_ : (ctxOf s c).cause = none) (src : Src) (cause a : Nat) :
    (ctxOf (stepFail s src c cause a) c).st = .killing ∧ (ctxOf (stepFail s src c cause a) c).cause = some cause := by
  obtain ⟨-, killing, why, -⟩ := stopAttempt_spec (failNoted s src c cause a) c (some cause) none
  rw [stepFail_of_uncommitted uncommitted (by rw [runs]; decide) none_]
  exact ⟨killing, why⟩

/-! ### A rotation slot (R251, R789) -/

/-- The state in which a stall has used the slot of this cycle. -/
def slotUsed (u : State) (n : Nat) : State := { u with grLast := Tab.put n (cycleOf u.now) u.grLast }

/-- GRANARY_SERVE in a slot of a stall with a request is that slot. -/
theorem exec_granaryServe {s : State} {n t : Nat} {q : GrReq} (slot : grnSlotNow (s.at t) n = true)
    (next : grnNext (s.at t) n = some q) : exec (.granaryServe n t) s = .next (serveSlot (s.at t) n) :=
  (whenEnabled_of_true (by rw [slot, next]; rfl) : execGranaryServe n t s = _)

section
variable {u : State} {n : Nat} {q : GrReq} (next : grnNext u n = some q) (flushed : u.grWrites = [])
include next flushed

/-- A request that Squall does not defer, or defers no longer, is served. -/
theorem serveSlot_of_served (served : floodOf u n = false ∨ squallOn u 5 n = false ∨ Tab.find q.cmd u.grDefer = some 0) :
    serveSlot u n = serveOne (slotUsed u n) q := by
  have free : grnDeferral u n q = (0, u) := by
    unfold grnDeferral
    by_cases on : (floodOf u n && squallOn u 5 n) = true
    · obtain ⟨flood, squalls⟩ := Bool.and_eq_true_iff.1 on
      rw [if_pos on, (served.resolve_left (by simp [flood])).resolve_left (by simp [squalls])]
    · exact if_neg on
  rw [serveSlot, next]
  dsimp only
  rw [free]
  exact congrArg (serveOne · q) (flushGrWrites_of_none (s := slotUsed u n) flushed)

/-- A request that Squall still defers has one slot less to wait, and nothing else is done (R789). What a deferred slot does is the
model's choice (log entry 49). -/
theorem serveSlot_of_deferred {k : Nat} (flood : floodOf u n = true) (squalls : squallOn u 5 n = true)
    (rest : Tab.find q.cmd u.grDefer = some (k + 1)) :
    serveSlot u n = { slotUsed u n with grDefer := Tab.put q.cmd k u.grDefer } := by
  have deferred : grnDeferral u n q = (k + 1, u) := by
    rw [grnDeferral, flood, squalls, rest]
    rfl
  rw [serveSlot, next]
  dsimp only
  rw [deferred]
  dsimp only
  rw [if_neg (Nat.succ_ne_zero k)]
  exact congrArg (fun v : State => { v with grDefer := Tab.put q.cmd k v.grDefer })
    (flushGrWrites_of_none (s := slotUsed u n) flushed)

end

/-- A record to be written is one of the Granary's writes. -/
theorem grnResult_frame (s : State) (q : GrReq) (off : Nat) (bytes : List Byte) :
    grnResult s q off bytes = { s with grWrites := (grnResult s q off bytes).grWrites } := by
  unfold grnResult
  split <;> rfl

/-! ### What a slot does for each operation (Table 6.5) -/

section
variable {s : State} {q : GrReq} (uncommitted : (ctxOf s q.c).committed = false)
include uncommitted

/-- A slot of an ALLOC whose allocation succeeds leaves the record of the buffer to be written 40 cycles later; beyond that the
request and its command go on. -/
theorem serveOne_alloc_of_some {v : State} {key : Nat} (act : q.null = false) (op : q.op = 1)
    (found : allocBuf s q.order q.c q.uid 8 q.cls = some (key, v)) :
    ∃ reqs cmds, serveOne s q = { v with
      grReqs := reqs, cmds := cmds
      grWrites := v.grWrites ++ [{ cmd := q.cmd, uid := q.uid, addr := q.result + 16 * q.served, bytes := resultRec v key,
                                   at_ := v.now + cyc 40 }] } := by
  rw [serveOne, uncommitted, if_neg Bool.false_ne_true, if_pos ⟨op, act⟩, found]
  dsimp only
  rw [grnResult, act, if_neg Bool.false_ne_true]
  split <;> exact ⟨_, _, rfl⟩

/-- A slot of an ALLOC whose allocation fails ends the step with cause 0x28 (R250). -/
theorem serveOne_alloc_of_none (act : q.null = false) (op : q.op = 1) (none_ : allocBuf s q.order q.c q.uid 8 q.cls = none) :
    serveOne s q = allocFail s q.c q.order q.cls 0x28 := by
  rw [serveOne, uncommitted, if_neg Bool.false_ne_true, if_pos ⟨op, act⟩, none_]

/-- RELEASE, STAGE and RESOLVE take one slot. -/
theorem serveOne_of_single (op : q.op = 2 ∨ q.op = 3 ∨ q.op = 4) (fresh : q.served = 0) :
    serveOne s q = serveLast s q := by
  have single : grnSlots s q = 1 := by
    unfold grnSlots
    rcases op with h | h | h <;> rw [h] <;> rfl
  rw [serveOne, uncommitted, if_neg Bool.false_ne_true, if_neg (by omega), if_neg (by omega)]

end

/-- RELEASE of a sound handle that no slot and no table publishes returns its buffer (R252, R255). -/
theorem serveLast_release {s : State} {q : GrReq} (act : q.null = false) (op : q.op = 2)
    (sound : checkHandle s (stallNo q.c) (q.handle % 2 ^ 32) (q.handle / 2 ^ 32) 0 0 = .ok)
    (unpublished : handlePublished s (stallNo q.c) (q.handle % 2 ^ 32) = false) :
    serveLast s q = grnDone (freeHandle s (q.handle % 2 ^ 32)) q := by
  rw [serveLast, act, op, if_neg Bool.false_ne_true]
  dsimp only
  rw [sound, unpublished]
  rfl

/-- RESOLVE of a sound handle leaves its record to be written (R254). -/
theorem serveLast_resolve {s : State} {q : GrReq} (act : q.null = false) (op : q.op = 4)
    (sound : checkHandle s (stallNo q.c) (q.handle % 2 ^ 32) (q.handle / 2 ^ 32) 0 0 = .ok) :
    serveLast s q = grnDone (grnResult s q 0 (resultRec s (keyOf (q.handle % 2 ^ 32)))) q := by
  rw [serveLast, act, op, if_neg Bool.false_ne_true]
  dsimp only
  rw [withHandle, sound]
  rfl

/-- STAGE is served in its one slot (R156). -/
theorem serveLast_stage {s : State} {q : GrReq} (act : q.null = false) (op : q.op = 3) : serveLast s q = serveStage s q := by
  rw [serveLast, act, op]
  rfl

/-- A STAGE of a slot that the attempt has staged answers the buffer it has (R156). -/
theorem serveStage_of_staged {s : State} {q : GrReq} (plain : (pubOf s (stallNo q.c) q.slot).kv = false)
    (staged : (ctxOf s q.c).staged.contains q.slot = true) :
    let p := pubOf s (stallNo q.c) q.slot
    serveStage s q = grnDone (grnResult s q 0 (resultRec s (keyOf (p.handle (!p.side))) ++ nullRec)) q := by
  intro p
  rw [serveStage]
  dsimp only
  rw [plain, if_neg Bool.false_ne_true, if_pos staged]

/-- The slots that an attempt has staged, with one more. -/
def stagedToo (j : Nat) (x : Ctx) : Ctx := { x with staged := x.staged ++ [j] }

/-- The state in which a slot is staged with a buffer, and the one that the staged side held has returned (R156). -/
def slotStaged (v : State) (q : GrReq) (p : PubSlot) (key : Nat) : State :=
  let w := freeHandle v (p.handle (!p.side))
  modCtx (setPub w (stallNo q.c) q.slot (p.withSide (!p.side) (handleOf w key))) q.c (stagedToo q.slot)

/-- A STAGE that finds a buffer stages the slot with it, and its records are to be written (R156). -/
theorem serveStage_of_found {s v : State} {q : GrReq} {key : Nat} (plain : (pubOf s (stallNo q.c) q.slot).kv = false)
    (unstaged : (ctxOf s q.c).staged.contains q.slot = false)
    (found : allocBuf s (16 * stallNo q.c + 10) q.c q.uid 8 q.cls = some (key, v)) :
    ∃ bytes, serveStage s q = grnDone (grnResult (slotStaged v q (pubOf s (stallNo q.c) q.slot) key) q 0 bytes) q := by
  rw [serveStage]
  dsimp only
  rw [plain, if_neg Bool.false_ne_true, unstaged, if_neg Bool.false_ne_true, found]
  exact ⟨_, rfl⟩

/-- A slot staged with a buffer just allocated: the staged side is in the slots, the slot's number in the context. -/
theorem slotStaged_spec {s v : State} {r c uid fuel k key : Nat} (found : allocBuf s r c uid fuel k = some (key, v)) (q : GrReq)
    (p : PubSlot) :
    let s' := slotStaged v q p key
    (∃ h, s'.pub = (setPub s (stallNo q.c) q.slot (p.withSide (!p.side) h)).pub) ∧
    s'.ctxs = (modCtx s q.c (stagedToo q.slot)).ctxs ∧ s'.mem = s.mem := by
  have frame := (freeHandle_frame v (p.handle (!p.side))).trans
    (congrArg (fun x : State => { x with bufs := (freeHandle v (p.handle (!p.side))).bufs }) (allocBuf_frame found))
  unfold slotStaged
  rw [frame]
  exact ⟨⟨_, rfl⟩, rfl, rfl⟩

/-- A side of a slot that is replaced leaves the current side and the other side's handle. -/
theorem handle_withSide_other (p : PubSlot) (h : Nat) :
    (p.withSide (!p.side) h).side = p.side ∧ (p.withSide (!p.side) h).handle p.side = p.handle p.side := by
  cases hs : p.side <;> simp [PubSlot.withSide, PubSlot.handle, hs]

/-- The lowest free index does not depend on the slots used. -/
theorem lowestFree_slotUsed (u : State) (n : Nat) (arena : Bool) (unit lo len : Nat) :
    lowestFree (slotUsed u n) arena unit lo len = lowestFree u arena unit lo len := by
  induction len generalizing lo with
  | zero => rfl
  | succ len ih =>
    rw [lowestFree, lowestFree, ih]
    rfl

/-- Whether an allocation succeeds does not depend on the slots used. -/
theorem isSome_allocBuf_slotUsed (u : State) (n r c uid fuel k : Nat) :
    (allocBuf (slotUsed u n) r c uid fuel k).isSome = (allocBuf u r c uid fuel k).isSome := by
  induction fuel generalizing k with
  | zero => rfl
  | succ fuel ih =>
    have reserve : rsv (slotUsed u n) r k = rsv u r k := rfl
    rw [allocBuf, allocBuf]
    dsimp only
    rw [reserve, lowestFree_slotUsed]
    split
    · rfl
    · split
      · exact ih _
      · rfl

/-! ### The slots of the statements -/

/-- A slot of an ALLOC takes the lowest free buffer, and its record is to be written 40 cycles later (R249, R251). -/
theorem serveOne_alloc_spec {s : State} {q : GrReq} {ix : Nat} (uncommitted : (ctxOf s q.c).committed = false)
    (act : q.null = false) (op : q.op = 1) (flushed : s.grWrites = [])
    (first : lowestFree s false (bf (rsv s q.order q.cls) 52 48) (bf (rsv s q.order q.cls) 39 20) (bf (rsv s q.order q.cls) 19 0) =
      some ix) :
    let key := bufKey false (bf (rsv s q.order q.cls) 52 48) ix
    let s' := serveOne s q
    (bufOf s' key).alloc = true ∧ (bufOf s' key).uid = q.uid ∧ (bufOf s' key).req = q.order ∧
    (bufOf s' key).gen = (bufOf s key).gen ∧ (∀ k, k ≠ key → bufOf s' k = bufOf s k) ∧ s'.mem = s.mem ∧ s'.ctxs = s.ctxs ∧
    s'.pub = s.pub ∧
    ∃ r, s'.grWrites = [r] ∧ r.addr = q.result + 16 * q.served ∧ r.at_ = s.now + 25000 ∧ r.uid = q.uid := by
  intro key s'
  have found := allocBuf_of_first (c := q.c) (uid := q.uid) (fuel := 7) first
  obtain ⟨reqs, cmds, served⟩ : ∃ reqs cmds, s' = _ := serveOne_alloc_of_some uncommitted act op found
  have frame := allocBuf_frame found
  have bufs : s'.bufs = bufsTaken s key q.order q.c q.uid := (congrArg State.bufs served :).trans (congrArg State.bufs frame :)
  have taken : bufOf s' key = { bufOf s key with alloc := true, req := q.order, c := q.c, uid := q.uid } := by
    rw [bufOf, bufs, bufsTaken, getD_put_same]
  refine ⟨by rw [taken], by rw [taken], by rw [taken], by rw [taken], fun k hk => ?_,
    (congrArg State.mem served :).trans (congrArg State.mem frame :), (congrArg State.ctxs served :).trans (congrArg State.ctxs frame :),
    (congrArg State.pub served :).trans (congrArg State.pub frame :), ?_⟩
  · rw [bufOf, bufs, bufsTaken, getD_put_ne hk]
    rfl
  · have waiting := (congrArg State.grWrites frame :).trans flushed
    have now := (congrArg State.now frame :)
    exact ⟨_, by rw [served]; exact congrArg (· ++ _) waiting, rfl, congrArg (· + 25000) now, rfl⟩

/-- An allocation that fails changes no buffer and no slot, and ends the step that runs with its cause (R250). -/
theorem allocFail_spec (s : State) (c r k cause : Nat) (uncommitted : (ctxOf s c).committed = false) :
    let s' := allocFail s c r k cause
    s'.bufs = s.bufs ∧ s'.pub = s.pub ∧
    ((ctxOf s c).st = .running → (ctxOf s c).cause = none → (ctxOf s' c).st = .killing ∧ (ctxOf s' c).cause = some cause) := by
  obtain ⟨bufs, pub⟩ := stepFail_keeps (rmod s .grnStatus fun w =>
    setBf (setBf (setBit w (if cause = 0x28 then stallNo c else 8 + stallNo c) true) 22 16 r) 26 24 k) .grn c cause 0
  exact ⟨bufs, pub, fun runs none_ => stepFail_of_running (s := rmod s .grnStatus _) uncommitted runs none_ .grn cause 0⟩

/-- The buffer of a sound handle that returns is free and of the next generation, and no other changes (R246, R252). -/
theorem bufOf_freeHandle {s : State} {n h hc off len : Nat} (sound : checkHandle s n h hc off len = .ok) (nonnull : h ≠ 0) :
    (bufOf (freeHandle s h) (keyOf h)).alloc = false ∧
    (bufOf (freeHandle s h) (keyOf h)).gen = ((bufOf s (keyOf h)).gen + 1) % 8 ∧
    ∀ k, k ≠ keyOf h → bufOf (freeHandle s h) k = bufOf s k := by
  rw [freeHandle_of_sound sound nonnull]
  refine ⟨?_, ?_, fun k hk => getD_put_ne hk ..⟩ <;> rw [bufOf, getD_put_same]

/-- A first STAGE of a slot leaves the current side, the memory, the other slots and the other contexts (R156). -/
theorem serveStage_spec {s : State} {q : GrReq} (plain : (pubOf s (stallNo q.c) q.slot).kv = false)
    (unstaged : (ctxOf s q.c).staged.contains q.slot = false)
    (found : (allocBuf s (16 * stallNo q.c + 10) q.c q.uid 8 q.cls).isSome = true) :
    let n := stallNo q.c
    let p := pubOf s n q.slot
    let s' := serveStage s q
    (pubOf s' n q.slot).side = p.side ∧ (pubOf s' n q.slot).handle p.side = p.handle p.side ∧
    (ctxOf s' q.c).staged = (ctxOf s q.c).staged ++ [q.slot] ∧ s'.mem = s.mem ∧
    (∀ j < 64, j ≠ q.slot → pubOf s' n j = pubOf s n j) ∧ ∀ d, d ≠ q.c → ctxOf s' d = ctxOf s d := by
  intro n p s'
  obtain ⟨⟨key, v⟩, found⟩ := Option.isSome_iff_exists.1 found
  obtain ⟨⟨h, pub⟩, ctxs, mem⟩ := slotStaged_spec found q p
  obtain ⟨bytes, served⟩ : ∃ bytes, s' = _ := serveStage_of_found plain unstaged found
  rw [grnResult_frame] at served
  replace pub := (congrArg State.pub served :).trans pub
  replace ctxs := (congrArg State.ctxs served :).trans ctxs
  replace mem := (congrArg State.mem served :).trans mem
  obtain ⟨side, handle⟩ := handle_withSide_other p h
  have slot : pubOf s' n q.slot = p.withSide (!p.side) h := by
    rw [pubOf, pub]
    exact getD_put_same ..
  have ctx (d : Nat) : ctxOf s' d = ctxOf (modCtx s q.c (stagedToo q.slot)) d := by
    rw [ctxOf, ctxs]
    rfl
  refine ⟨by rw [slot, side], by rw [slot, handle], by rw [ctx, ctxOf_modCtx_same]; rfl, mem, fun j _ hj => ?_, fun d hd => ?_⟩
  · rw [pubOf, pub]
    exact getD_put_ne (by omega) ..
  · rw [ctx, ctxOf_modCtx_ne _ _ _ hd]

/-- Settles O39: a slot that is not deferred is one of the cases of its operation, which the slot's use does not touch. -/
theorem granaryServesItsSlots : Obligations.GranaryServesItsSlots := by
  refine ⟨?alloc, ?others⟩
  case alloc =>
    intro s n t ix q u w unit lo taken key served slot next due op act uncommitted flushed
    have answer := (exec_granaryServe slot next).trans (congrArg _ (serveSlot_of_served next flushed due))
    refine ⟨fun from_ before free below => ⟨_, answer, ?_⟩, fun full unchained => ⟨_, answer, ?_⟩⟩
    · have first := lowestFree_of_first (s := slotUsed u n) from_ before (Bool.eq_false_iff.2 free) below
      exact serveOne_alloc_spec (s := slotUsed u n) uncommitted act op flushed first
    · have none_ := allocBuf_of_full (s := slotUsed u n) (r := q.order) (c := q.c) (uid := q.uid) (fuel := 7) (k := q.cls)
        (lowestFree_of_full full) unchained
      rw [serveOne_alloc_of_none (s := slotUsed u n) uncommitted act op none_]
      exact allocFail_spec (slotUsed u n) q.c q.order q.cls 0x28 uncommitted
  case others =>
    intro s n t q u h p sound slot next flushed
    refine ⟨fun k flood squalls rest => ⟨_, (exec_granaryServe slot next).trans
      (congrArg _ (serveSlot_of_deferred next flushed flood squalls rest)), Tab.find_put_same .., rfl, rfl, rfl, rfl, rfl, rfl⟩,
      fun due own act fresh uncommitted => ?_⟩
    subst own
    have answer (single : q.op = 2 ∨ q.op = 3 ∨ q.op = 4) :
        exec (.granaryServe (stallNo q.c) t) s = .next (serveLast (slotUsed u (stallNo q.c)) q) :=
      (exec_granaryServe slot next).trans (congrArg _ ((serveSlot_of_served next flushed due).trans
        (serveOne_of_single (s := slotUsed u (stallNo q.c)) uncommitted single fresh)))
    refine ⟨fun op ok nonnull unpublished => ⟨_, answer (.inl op), ?_⟩, fun op ok => ⟨_, answer (.inr (.inr op)), ?_⟩,
      fun op inTable plain staged => ⟨_, answer (.inr (.inl op)), ?_⟩,
      fun op inTable plain unstaged found => ⟨_, answer (.inr (.inl op)), ?_⟩⟩
    · rw [serveLast_release (s := slotUsed u (stallNo q.c)) act op ok unpublished]
      obtain ⟨free, gen, others⟩ := bufOf_freeHandle (s := slotUsed u (stallNo q.c)) ok nonnull
      refine ⟨free, gen, others, ?_, ?_, ?_⟩ <;> rw [freeHandle_frame] <;> rfl
    · rw [serveLast_resolve (s := slotUsed u (stallNo q.c)) act op ok, grnResult, act, if_neg Bool.false_ne_true]
      exact ⟨rfl, rfl, rfl, rfl, _, congrArg (· ++ _) flushed, rfl, rfl⟩
    · rw [serveLast_stage act op, serveStage_of_staged (s := slotUsed u (stallNo q.c)) plain staged, grnResult, act,
        if_neg Bool.false_ne_true]
      exact ⟨rfl, rfl, rfl, rfl⟩
    · rw [serveLast_stage act op]
      exact serveStage_spec (s := slotUsed u (stallNo q.c)) plain unstaged ((isSome_allocBuf_slotUsed ..).trans found)

end Sys2Proof.Machine
end

section
/-! SUPPORT and PROOFS. Adds and resets of a tally (O42). -/

namespace Sys2Proof.Machine

/-! ### A tally in its cycle (R282, R283) -/

/-- The value that the adds of a tally's cycle count from: 0 after a reset of the same cycle, else what stood before the cycle. -/
def Tally.base (v : Tally) : Nat := if v.wasReset then 0 else v.before

/-- A tally's value after its cycle's changes: the adds on their base, or the base alone where they overflow. -/
theorem Tally.result_eq (v : Tally) : v.result = if v.base + v.adds < 2 ^ 32 then v.base + v.adds else v.base := rfl

/-- A tally is sound where its complement matches (R278). -/
theorem Tally.sound_iff {v : Tally} : v.sound = true ↔ v.comp = 2 ^ 32 - 1 - v.value % 2 ^ 32 := beq_iff_eq

/-- A tally brought to its cycle is sound as before. -/
@[simp] theorem Tally.sound_settle (v : Tally) (now : Nat) : (v.settle now).sound = v.sound := by
  unfold settle
  dsimp only
  split <;> rfl

/-- A settled tally is of the present cycle. -/
@[simp] theorem Tally.cyc_settle (v : Tally) (now : Nat) : (v.settle now).cyc = now / 625 := by
  unfold settle
  dsimp only
  split
  · assumption
  · rfl

/-- The first change of a cycle starts from the value as it stood. -/
theorem Tally.base_settle (v : Tally) (now : Nat) :
    (v.settle now).base = if v.cyc ≠ now / 625 then v.value else if v.wasReset = true then 0 else v.before := by
  unfold settle
  by_cases fresh : v.cyc ≠ now / 625
  · rw [if_pos fresh]
    exact congrArg base (if_neg fresh)
  · rw [if_neg fresh]
    exact congrArg base (if_pos (Decidable.not_not.1 fresh))

/-- The first change of a cycle finds no adds. -/
theorem Tally.adds_settle (v : Tally) (now : Nat) : (v.settle now).adds = if v.cyc ≠ now / 625 then 0 else v.adds := by
  unfold settle
  by_cases fresh : v.cyc ≠ now / 625
  · rw [if_pos fresh]
    exact congrArg adds (if_neg fresh)
  · rw [if_neg fresh]
    exact congrArg adds (if_pos (Decidable.not_not.1 fresh))

/-- Tally i brought to the present cycle. -/
def tallyNow (s : State) (i : Nat) : Tally := (tallyOf s i).settle s.now

/-- A tally written with its result is sound. -/
@[simp] theorem Tally.sound_withResult (v : Tally) (first unfixed : Bool) : (v.withResult first unfixed).sound = true :=
  sound_iff.2 rfl

@[simp] theorem tallyOf_setTally_same (s : State) (i : Nat) (v : Tally) : tallyOf (setTally s i v) i = v := getD_put_same ..
theorem tallyOf_setTally_ne (s : State) {i k : Nat} (h : k ≠ i) (v : Tally) : tallyOf (setTally s i v) k = tallyOf s k :=
  getD_put_ne h ..

/-! ### The changes of a tally -/

/-- Tally i with an amount added in the present cycle. -/
def tallyWithAdd (s : State) (c i amount : Nat) (unfixed : Bool) : Tally :=
  let v := tallyNow s i
  { v with adds := v.adds + amount }.withResult (v.adds == 0 && !v.wasReset) (unfixed && !floodCtx s c)

/-- Tally i reset in the present cycle. -/
def tallyWithReset (s : State) (i : Nat) : Tally :=
  let v := tallyNow s i
  { v with wasReset := true }.withResult (v.adds == 0 && !v.wasReset) false

section
variable {s : State} {i : Nat}

/-- A tally whose complement does not match takes no add. -/
theorem tallyAdd_of_unsound (bad : (tallyOf s i).sound = false) (c amount : Nat) (unfixed : Bool) :
    tallyAdd s c i amount unfixed = mismatch s .tal i :=
  if_pos (by rw [Tally.sound_settle, bad]; rfl)

/-- A tally whose complement does not match is not reset. -/
theorem tallyReset_of_unsound (bad : (tallyOf s i).sound = false) : tallyReset s i = mismatch s .tal i :=
  if_neg (by rw [Tally.sound_settle, bad]; exact Bool.false_ne_true)

variable (ok : (tallyOf s i).sound = true)
include ok

/-- An add writes the tally, and ends the owning step where the adds of the cycle overflow (R282). -/
theorem tallyAdd_of_sound (c amount : Nat) (unfixed : Bool) :
    let v := tallyNow s i
    let w := setTally s i (tallyWithAdd s c i amount unfixed)
    tallyAdd s c i amount unfixed =
      if v.base + (v.adds + amount) < 2 ^ 32 then w else stepFail (talErr w 0x30 (ctxOf w c).req.step i) .tal c 0x30 i :=
  if_neg (by rw [Tally.sound_settle, ok]; exact Bool.false_ne_true)

/-- A reset writes the tally. -/
theorem tallyReset_of_sound : tallyReset s i = setTally s i (tallyWithReset s i) :=
  if_pos (by rw [Tally.sound_settle, ok])

end

/-- Adds that fit sum above their base. -/
theorem value_tallyWithAdd_of_fits {s : State} {i amount : Nat}
    (fits : (tallyNow s i).base + ((tallyNow s i).adds + amount) < 2 ^ 32) (c : Nat) (unfixed : Bool) :
    (tallyWithAdd s c i amount unfixed).value =
      (tallyNow s i).base + ((tallyNow s i).adds + amount) :=
  (Tally.result_eq _).trans (if_pos fits)

/-- Adds that overflow leave their base. -/
theorem value_tallyWithAdd_of_overflow {s : State} {i amount : Nat}
    (exceeds : ¬(tallyNow s i).base + ((tallyNow s i).adds + amount) < 2 ^ 32) (c : Nat) (unfixed : Bool) :
    (tallyWithAdd s c i amount unfixed).value = (tallyNow s i).base :=
  (Tally.result_eq _).trans (if_neg exceeds)

/-- A reset leaves the adds of its cycle. -/
theorem value_tallyWithReset {s : State} {i : Nat} (fits : (tallyNow s i).adds < 2 ^ 32) :
    (tallyWithReset s i).value = (tallyNow s i).adds := by
  have sum := Nat.zero_add (tallyNow s i).adds
  exact (Tally.result_eq _).trans ((if_pos (Nat.lt_of_le_of_lt (Nat.le_of_eq sum) fits)).trans sum)

/-! ### The step that an overflow ends -/

/-- What stops an attempt changes its work, its context, memory and the injections that memory meets. -/
def StopsOnly (s s' : State) : Prop :=
  s' = { s with
    regs := s'.regs, mem := s'.mem, upsets := s'.upsets, ctxs := s'.ctxs, cmds := s'.cmds, tiles := s'.tiles, sigs := s'.sigs
    grReqs := s'.grReqs, grWrites := s'.grWrites, host := s'.host }

theorem StopsOnly.trans {s s' s'' : State} (h : StopsOnly s s') (k : StopsOnly s' s'') : StopsOnly s s'' := by
  unfold StopsOnly at *
  rw [h] at k
  exact k

/-- A write of memory is such a change. -/
theorem stopsOnly_writeMem (s : State) (a : Nat) (bs : List Byte) : StopsOnly s (writeMem s a bs) := by
  unfold StopsOnly writeMem injectOnWrite
  dsimp only
  split
  · rfl
  · split <;> rfl

/-- An attempt that stops changes nothing else (R162). -/
theorem stopsOnly_stopAttempt (s : State) (c : Nat) (cause : Option Nat) (next : Option NextAttempt) :
    StopsOnly s (stopAttempt s c cause next) := by
  have dropped : StopsOnly s (dropWork s (ctxOf s c).uid) := by
    unfold StopsOnly dropWork
    split <;> rfl
  refine dropped.trans (StopsOnly.trans (s' := landStores (dropWork s (ctxOf s c).uid) c) ?_ rfl)
  refine StopsOnly.trans (foldl_keeps (R := StopsOnly) (fun _ => rfl) StopsOnly.trans (fun s p => ?_) (ctxOf _ c).bcn.sts _) rfl
  split
  · exact stopsOnly_writeMem ..
  · rfl

/-- A step that fails leaves the tallies until its kill completes (R162, R279). -/
theorem tallies_stepFail (s : State) (src : Src) (c cause a : Nat) : (stepFail s src c cause a).tallies = s.tallies := by
  unfold stepFail
  dsimp only
  split
  · rfl
  · have stopped := stopsOnly_stopAttempt (failNoted s src c cause a) c (some cause) none
    exact (congrArg State.tallies stopped :).trans (congrArg State.tallies (failNoted_frame s src c cause a) :)

/-- TAL_ERR is a register. -/
theorem talErr_frame (s : State) (cause step i : Nat) :
    talErr s cause step i = { s with regs := (talErr s cause step i).regs } := by
  unfold talErr
  split <;> rfl

/-- An overflow ends the owning step in this cycle with TALLY_OVERFLOW, and touches no tally and no other context (R282). -/
theorem overflow_spec {s : State} {c : Nat} (runs : (ctxOf s c).st = .running) (uncommitted : (ctxOf s c).committed = false)
    (none_ : (ctxOf s c).cause = none) (step i : Nat) :
    let v := stepFail (talErr s 0x30 step i) .tal c 0x30 i
    v.tallies = s.tallies ∧ (ctxOf v c).st = .killing ∧ (ctxOf v c).cause = some 0x30 ∧ (ctxOf v c).killT = s.now ∧
    ∀ d, d ≠ c → ctxOf v d = ctxOf s d := by
  have tallies := tallies_stepFail (talErr s 0x30 step i) .tal c 0x30 i
  rw [talErr_frame] at tallies ⊢
  obtain ⟨killing, cause, killT, others, -⟩ := (stepFailureIsConfined { s with regs := (talErr s 0x30 step i).regs } .tal c 0x30 i).2
    uncommitted (fun idle => CtxSt.noConfusion (runs.symm.trans idle)) none_
  exact ⟨tallies, killing, cause, killT, others⟩

/-! ### The statement -/

/-- Settles O42: a change writes the tally settled to its cycle; the adds of the cycle fit above their base, or leave it and end the
step. That a reset counts first whatever the order of the commands is log entry 11. -/
theorem tallyChangesOfACycleCombine : Obligations.TallyChangesOfACycleCombine := by
  refine ⟨fun u c i amount late => ?changes, fun u c i amount late => ?overflow⟩
  case changes =>
    intro x fresh base adds v z
    have hbase : (tallyNow u i).base = base := Tally.base_settle ..
    have hadds : (tallyNow u i).adds = adds := Tally.adds_settle ..
    refine ⟨fun bad => ?_, fun comp => ?_⟩
    · have unsound : (tallyOf u i).sound = false := Bool.eq_false_iff.2 (mt Tally.sound_iff.1 bad)
      exact ⟨tallyAdd_of_unsound unsound .., tallyReset_of_unsound unsound⟩
    have ok : (tallyOf u i).sound = true := Tally.sound_iff.2 comp
    refine ⟨fun fits => ?_, fun fits => ?_⟩
    · rw [Nat.add_assoc] at fits ⊢
      rw [← hbase, ← hadds] at fits ⊢
      have added : v = setTally u i (tallyWithAdd u c i amount late) := (tallyAdd_of_sound ok ..).trans (if_pos fits)
      rw [added, tallyOf_setTally_same]
      exact ⟨value_tallyWithAdd_of_fits fits .., Tally.sound_withResult .., Tally.cyc_settle ..,
        fun k hk => tallyOf_setTally_ne u hk _, rfl⟩
    · rw [← hadds] at fits ⊢
      rw [show z = _ from tallyReset_of_sound ok, tallyOf_setTally_same]
      exact ⟨value_tallyWithReset fits, Tally.sound_withResult .., rfl, fun k hk => tallyOf_setTally_ne u hk _, rfl⟩
  case overflow =>
    intro x fresh base adds v comp overflows runs uncommitted none_
    have hbase : (tallyNow u i).base = base := Tally.base_settle ..
    have hadds : (tallyNow u i).adds = adds := Tally.adds_settle ..
    have exceeds : ¬(tallyNow u i).base + ((tallyNow u i).adds + amount) < 2 ^ 32 := by
      rw [hbase, hadds, ← Nat.add_assoc]
      exact Nat.not_lt.2 overflows
    have failed : v = _ := (tallyAdd_of_sound (Tally.sound_iff.2 comp) ..).trans (if_neg exceeds)
    obtain ⟨tallies, killing, cause, killT, others⟩ :=
      overflow_spec (s := setTally u i (tallyWithAdd u c i amount late)) runs uncommitted none_ (ctxOf u c).req.step i
    have written (k : Nat) : tallyOf v k = tallyOf (setTally u i (tallyWithAdd u c i amount late)) k := by
      rw [failed, tallyOf, tallyOf]
      exact congrArg (Tab.getD Tally.zero k) tallies
    refine ⟨?_, fun k hk => (written k).trans (tallyOf_setTally_ne u hk _), ?_⟩
    · rw [written, tallyOf_setTally_same, value_tallyWithAdd_of_overflow exceeds, hbase]
    · rw [failed]
      exact ⟨killing, cause, killT, others⟩

end Sys2Proof.Machine
end

section
/-! SUPPORT and PROOFS. The Tally commands (O43). -/

namespace Sys2Proof.Machine

/-! ### A command that the engine takes (R204) -/

/-- The engine takes a command that is offered to it, with its descriptor. -/
theorem takeCmd_of_offered {u : State} {c cls inst op size : Nat} {m : Cmd} {b : List Byte}
    (offered : Offered u c cls inst op size m b) (src : Src) (valid : Nat → Bool) (k : Cmd → List Byte → State → State) :
    takeCmd u src c cls inst op size valid k = k m b u := by
  obtain ⟨head, first, readable, long, code, rfl, sound⟩ := offered
  rw [takeCmd_of_readable head first readable long, if_pos code, withBytes_of_sound sound]

/-- A Tally command may take effect 8 cycles after it reached its queue (R286). -/
theorem talReady_of_head {u : State} {c : Nat} {m : Cmd} (head : headCmd u c 9 0 = some m) (due : m.arrive + 5000 ≤ u.now) :
    talReady u c = true := by
  rw [talReady, head]
  exact decide_eq_true due

/-! ### Writes into the stall's own tiles (R155) -/

/-- A write that its context may make is made. -/
theorem engineWrite_of_mayWrite {s : State} {c a : Nat} {bs : List Byte} (may : mayWrite s c a bs.length = true) (src : Src) :
    engineWrite s src c a bs = writeMem s a bs := by
  rw [engineWrite, if_pos may]
  split
  · next empty => exact (if_pos empty).symm
  · rfl

/-- A context of a stall may write the tiles that the stall owns. -/
theorem mayWrite_of_inOwnTile {s : State} {c a len : Nat} (hc : c < 16) (own : inOwnTile s (stallNo c) a len = true) :
    mayWrite s c a len = true := by
  rw [mayWrite, if_neg (by omega), own, Bool.true_or]

/-- The result of a well-formed READ lies in the stall's own tiles (R285). -/
theorem inOwnTile_of_talDescOk {s : State} {c : Nat} {d : TalDesc} {b : List Byte} (ok : talDescOk s c d b = true)
    (read : d.op = 4) : inOwnTile s (stallNo c) d.result 8 = true := by
  unfold talDescOk at ok
  rw [read] at ok
  exact (Bool.and_eq_true_iff.1 (Bool.and_eq_true_iff.1 ok).2).2

/-- A message joins the queue of the lowest-numbered ACTIVE port to its chip (R527). -/
theorem sendMessage_of_active {s : State} {pos p : Nat} {ps : List Nat} (ports : activeTo s pos = p :: ps) (c type : Nat)
    (body : List Byte) (cmd : Nat) : ∃ x, sendMessage s c type pos body cmd = sendUnit s p 0 x := by
  rw [sendMessage, ports]
  exact ⟨_, rfl⟩

/-! ### The effect of each command (R286, R287) -/

section
variable {c : Nat} {m : Cmd} {b : List Byte} {u : State}

/-- The state in which a Tally command has done its work. -/
def talDone (u : State) (m : Cmd) : State := finishCmd u m.id (max u.now (m.arrive + 5000))

/-- A context whose step's records go to a chip too (R166). -/
def joinGroup (chip : Nat) (x : Ctx) : Ctx :=
  { x with group := if x.group.contains chip then x.group else x.group ++ [chip] }

/-- The engine's work on a Tally command of each operation (Table 7.2). -/
def talWork (op c : Nat) : Cmd → List Byte → State → State := if op = 3 then remoteAdd c else talEffect c

/-- A malformed descriptor is a protection violation (R285). -/
theorem talWork_of_malformed (bad : talDescOk u c (talDesc b) b = false) (op : Nat) : talWork op c m b u = violation u .tal m.addr := by
  have refused : (!talDescOk u c (talDesc b) b) = true := by rw [bad]; rfl
  unfold talWork
  split <;> exact if_pos refused

variable (ok : talDescOk u c (talDesc b) b = true)
include ok

/-- ADD adds, null or not. -/
theorem talEffect_add (op : (talDesc b).op = 1) :
    talEffect c m b u = tallyAdd (talDone u m) c (talDesc b).index (talDesc b).amount := by
  unfold talEffect
  dsimp only
  rw [ok, op]
  rfl

/-- RESET resets, unless it is null. -/
theorem talEffect_reset (op : (talDesc b).op = 2) :
    talEffect c m b u = if m.null = true then talDone u m else tallyReset (talDone u m) (talDesc b).index := by
  unfold talEffect
  dsimp only
  rw [ok, op]
  rfl

/-- READ writes the value and its complement into the stall's own tiles. -/
theorem talEffect_read (op : (talDesc b).op = 4) (hc : c < 16) (sound : (tallyOf u (talDesc b).index).sound = true)
    (act : m.null = false) :
    let v := (tallyOf u (talDesc b).index).value
    talEffect c m b u = writeMem (talDone u m) (talDesc b).result (leBytes 4 v ++ leBytes 4 (onesComp 32 v)) := by
  intro v
  have own : inOwnTile (talDone u m) (stallNo c) (talDesc b).result 8 = true := inOwnTile_of_talDescOk ok op
  have may : mayWrite (talDone u m) c (talDesc b).result (leBytes 4 v ++ leBytes 4 (onesComp 32 v)).length = true := by
    rw [List.length_append, length_leBytes, length_leBytes]
    exact mayWrite_of_inOwnTile hc own
  rw [← engineWrite_of_mayWrite may .tal]
  unfold talEffect
  dsimp only
  rw [ok, op]
  have checked : ¬(!(tallyOf u (talDesc b).index).sound) = true := by
    rw [sound]
    exact Bool.false_ne_true
  exact (if_neg checked).trans (if_neg (act ▸ Bool.false_ne_true))

/-- A REMOTE_ADD to this chip adds (R285). -/
theorem remoteAdd_of_local (here : (talDesc b).chip = chipOnBoard u) :
    remoteAdd c m b u = tallyAdd (talDone u m) c (talDesc b).index (talDesc b).amount := by
  unfold remoteAdd
  dsimp only
  rw [ok, if_pos here]
  rfl

/-- A REMOTE_ADD to another chip runs until its acknowledgement; its message waits at the port (R289). -/
theorem remoteAdd_of_away (away : (talDesc b).chip ≠ chipOnBoard u) {p : Nat} {ps : List Nat}
    (ports : activeTo u (talDesc b).chip = p :: ps) :
    ∃ x, remoteAdd c m b u = sendUnit (modCtx (startCmd u m.id 1) c (joinGroup (talDesc b).chip)) p 0 x := by
  unfold remoteAdd
  dsimp only
  rw [ok, if_neg away]
  exact sendMessage_of_active (s := modCtx (startCmd u m.id 1) c (joinGroup (talDesc b).chip)) ports ..

end

/-! ### The statement -/

/-- A Tally command that is due has its effect. -/
theorem exec_tallyCommand {s : State} {c t op : Nat} {m : Cmd} {b : List Byte} (lo : 1 ≤ op) (hi : op ≤ 4)
    (offered : Offered (s.at t) c 9 0 op 64 m b) (due : m.arrive + 5000 ≤ (s.at t).now) :
    exec (if op = 1 then Instr.tallyAdd c t else if op = 2 then .tallyReset c t else if op = 3 then .remoteAdd c t else .tallyRead c t) s =
      .next (talWork op c m b (s.at t)) := by
  have event : whenEnabled t (fun u => talReady u c) (fun u => takeCmd u .tal c 9 0 op 64 talOpValid (talWork op c)) s = _ :=
    whenEnabled_of_true (talReady_of_head offered.1 due)
  rw [takeCmd_of_offered offered] at event
  rw [← event]
  obtain rfl | rfl | rfl | rfl : op = 1 ∨ op = 2 ∨ op = 3 ∨ op = 4 := by omega
  all_goals rfl

/-- Settles O43: the command that is due does its operation's work, which for a READ is a write that nothing disturbs, and for a
REMOTE_ADD to another chip a message. -/
theorem tallyCommandsTakeEffectAfterEightCycles : Obligations.TallyCommandsTakeEffectAfterEightCycles := by
  intro s c t op m b u d done i lo hi hc offered code due
  have effect : exec i s = .next (talWork op c m b u) := exec_tallyCommand lo hi offered due
  refine ⟨fun bad => ?_, fun ok => ⟨fun add => ?_, fun reset act => ?_, fun reset null => ?_, fun remote here => ?_,
    fun remote away p ps ports => ⟨_, effect, ?_⟩, fun read calm sound act => ⟨_, effect, ?_⟩⟩⟩
  · exact effect.trans (congrArg _ (talWork_of_malformed bad op))
  · subst add
    exact effect.trans (congrArg _ (talEffect_add ok code))
  · subst reset
    exact effect.trans (congrArg _ ((talEffect_reset ok code).trans (if_neg (by rw [act]; exact Bool.false_ne_true))))
  · subst reset
    exact effect.trans (congrArg _ ((talEffect_reset ok code).trans (if_pos null)))
  · subst remote
    exact effect.trans (congrArg _ (remoteAdd_of_local ok here))
  · subst remote
    obtain ⟨x, sent⟩ : ∃ x, talWork 3 c m b u = _ := remoteAdd_of_away ok away ports
    rw [sent]
    exact ⟨rfl, rfl, fun k hk => ctxOf_modCtx_ne _ c _ hk, rfl⟩
  · subst read
    have written : talWork 4 c m b u = _ := talEffect_read ok code hc sound act
    obtain ⟨memOk, -, unarmed⟩ := calm
    have frame := writeMem_frame (s := done) unarmed
    rw [written]
    exact ⟨readMem_writeMem_same (s := done) memOk _ _, fun a outside => readByte_writeMem_outside done outside,
      (congrArg State.tallies (frame ..) :), (congrArg State.cmds (frame ..) :)⟩

end Sys2Proof.Machine
end

section
/-! SUPPORT and PROOFS. The remote adds that arrive (O44). -/

namespace Sys2Proof.Machine

/-! ### A unit that leaves its receive buffer (R519) -/

/-- What returns credits changes the ports, Squall's shift register and its count. -/
structure ReturnsCredits (s s' : State) : Prop extends ChangesRegs [.sqlStat] s s' where
  frame : s' = { s with regs := s'.regs, ports := s'.ports, lfsr := s'.lfsr }

/-- To do nothing returns nothing. -/
theorem ReturnsCredits.refl (s : State) : ReturnsCredits s s := ⟨ChangesRegs.of_eq rfl, rfl⟩

/-- Two returns are one. -/
theorem ReturnsCredits.trans {s s' s'' : State} (h : ReturnsCredits s s') (k : ReturnsCredits s' s'') : ReturnsCredits s s'' := by
  refine ⟨⟨fun ok => k.regsOk (h.regsOk ok), fun hr hin => (k.others hr hin).trans (h.others hr hin)⟩, ?_⟩
  have frame := k.frame
  rw [h.frame] at frame
  exact frame

/-- A change of a port is one. -/
theorem returnsCredits_modPort (s : State) (p : Nat) (f : Port → Port) : ReturnsCredits s (modPort s p f) :=
  ⟨ChangesRegs.of_eq rfl, rfl⟩

/-- A random value of Squall that SQL_STAT counts is one. -/
theorem returnsCredits_squall (s : State) : ReturnsCredits s (rbump (squall s).2 .sqlStat 63 32) :=
  ⟨(ChangesRegs.of_eq rfl : ChangesRegs [] s (squall s).2).trans
    (writesRegs_rbump (List.mem_singleton_self Reg.sqlStat) (d := 0) (i := 0) ⟨by decide, by decide⟩ (squall s).2 63 32 1).toChangesRegs,
    rfl⟩

/-- Credits that are returned change no more than that. -/
theorem returnsCredits_freeCredits (s : State) (p vc : Nat) : ReturnsCredits s (freeCredits s p vc) := by
  unfold freeCredits
  dsimp only
  refine ReturnsCredits.trans ?_ (returnsCredits_modPort _ p _)
  split
  · exact List.foldlRecOn _ _ (motive := fun acc : List Nat × State => ReturnsCredits s acc.2) (ReturnsCredits.refl s)
      fun acc h _ _ => h.trans (returnsCredits_squall acc.2)
  · exact ReturnsCredits.refl s

/-- A unit that leaves its receive buffer changes no more than that. -/
theorem returnsCredits_dropUnit (s : State) (p vc : Nat) : ReturnsCredits s (dropUnit s p vc) :=
  (returnsCredits_modPort s p _).trans (returnsCredits_freeCredits _ p vc)

/-- A message of a type at the head of VC0 leaves its buffer and acts. -/
theorem onMessage_of_messageAt {s : State} {p type t : Nat} {b : List Byte} (message : MessageAt (s.at t) p type b)
    (act : List Byte → State → State) : onMessage type p act t s = .next (act b (dropUnit (s.at t) p 0)) := by
  obtain ⟨hp, head, kind⟩ := message
  have event : (decide (p < 32) && headIs (s.at t) p type) = true := by
    rw [headIs, head]
    simp [hp, kind]
  refine (whenEnabled_of_true (en := fun s => decide (p < 32) && headIs s p type) event).trans (congrArg _ ?_)
  rw [head]

/-! ### The fields of a remote add (Table 7.3) -/

/-- The context that the body of a remote add names. -/
def addCtx (b : List Byte) : Nat := 2 * (fieldAt b 1 1 % 8) + fieldAt b 1 1 / 8 % 2

/-- The add that the body carries. -/
def addOf (b : List Byte) : Parked :=
  { step := fieldAt b 2 2 % 4096, attempt := fieldAt b 1 1 / 16 % 4, index := fieldAt b 4 2, amount := fieldAt b 8 4 }

/-- The complements of a remote add match, and its index is of its context's half (R290). -/
def AddSound (b : List Byte) : Prop :=
  fieldAt b 6 2 = 2 ^ 16 - 1 - (addOf b).index ∧ fieldAt b 12 4 = 2 ^ 32 - 1 - (addOf b).amount ∧
    inHalf (addCtx b) (addOf b).index = true

/-- A number of n bytes. -/
theorem leNat_lt (bs : List Byte) : leNat bs < 256 ^ bs.length := by
  induction bs with
  | nil => exact Nat.one_pos
  | cons b bs ih =>
    have byte : b.toNat < 256 := b.isLt
    rw [leNat, List.length_cons, Nat.pow_succ]
    omega

/-- A field of n bytes. -/
theorem fieldAt_lt (b : List Byte) (off n : Nat) : fieldAt b off n < 256 ^ n :=
  Nat.lt_of_lt_of_le (leNat_lt _) (Nat.pow_le_pow_right (by decide) (List.length_take_le ..))

/-- The ones' complement of a number of its width. -/
theorem onesComp_of_lt {width v : Nat} (h : v < 2 ^ width) : onesComp width v = 2 ^ width - 1 - v := by
  rw [onesComp, Nat.mod_eq_of_lt h]

/-- What becomes of a remote add that is sound and whose stall exists, by its class (Table 7.4). -/
def addTaken (s : State) (b : List Byte) : AddClass → State
  | .stale => rbump s .talDrop 31 0 (fieldAt b 1 1 % 8)
  | .park => parkAdd s (addCtx b) (addOf b)
  | .apply => tallyAdd s (addCtx b) (addOf b).index (addOf b).amount true

/-- The checks of a remote add on arrival, as the statement names its fields (R290, R291). -/
theorem remoteAddArrive_spec (s : State) (b : List Byte) :
    (¬AddSound b → remoteAddArrive s b = mismatch s .tal (addOf b).index) ∧
    (AddSound b → remoteAddArrive s b =
      if assigned s (fieldAt b 1 1 % 8) = false then rbump s .talDrop 47 32 (fieldAt b 1 1 % 8)
      else addTaken s b (classifyAdd s (addCtx b) (addOf b).step (addOf b).attempt)) := by
  have ctx : bitsOf (fieldAt b 1 1) 3 3 = fieldAt b 1 1 / 8 % 2 := by
    exact congrArg (· % _) (Nat.shiftRight_eq_div_pow ..)
  have attempt : bitsOf (fieldAt b 1 1) 5 4 = fieldAt b 1 1 / 16 % 4 := by
    exact congrArg (· % _) (Nat.shiftRight_eq_div_pow ..)
  have index := onesComp_of_lt (width := 16) (fieldAt_lt b 4 2)
  have amount := onesComp_of_lt (width := 32) (fieldAt_lt b 8 4)
  have sound : AddSound b ↔ ¬(fieldAt b 6 2 ≠ onesComp 16 (fieldAt b 4 2) ∨ fieldAt b 12 4 ≠ onesComp 32 (fieldAt b 8 4) ∨
      inHalf (addCtx b) (fieldAt b 4 2) = false) := by
    rw [index, amount]
    simp [AddSound, addOf]
  unfold remoteAddArrive
  dsimp only
  rw [ctx, attempt]
  refine ⟨fun bad => if_pos (Decidable.not_not.1 (mt sound.2 bad)), fun ok => (if_neg (sound.1 ok)).trans ?_⟩
  refine ite_congr (Bool.not_eq_true' _) (fun _ => rfl) fun _ => ?_
  unfold addTaken
  rfl

/-- The context is one of the stall that the body names. -/
theorem stallNo_addCtx (b : List Byte) : stallNo (addCtx b) = fieldAt b 1 1 % 8 := by
  rw [stallNo, addCtx]
  omega

/-- A park with room takes an add. -/
theorem parkAdd_of_room {s : State} {c : Nat} (room : (parkOf s c).adds.length < 64) (a : Parked) :
    parkAdd s c a = setPark s c { parkOf s c with adds := (parkOf s c).adds ++ [a] } := if_pos room

/-- A full park loses an add and records its step (R293). -/
theorem parkAdd_of_full {s : State} {c : Nat} (full : 64 ≤ (parkOf s c).adds.length) (a : Parked) :
    parkAdd s c a = setPark (rbump s .talDrop 63 48 (stallNo c)) c
      { parkOf s c with lost := a.step :: (parkOf s c).lost.filter (· ≠ a.step) } := if_neg (Nat.not_lt.2 full)

/-! ### Table 7.4 -/

/-- An attempt of a step runs in a context, and has not passed its commit-point cycle (R299). -/
abbrev StepRuns (s : State) (c step : Nat) : Prop :=
  (ctxOf s c).st = .running ∧ ((ctxOf s c).committed = false ∨ s.now < (ctxOf s c).commitT + 625) ∧ (ctxOf s c).req.step = step

/-- The step of a context's present attempt, or of its last. -/
def stepNumber (s : State) (c : Nat) : Nat := if (ctxOf s c).st = .idle then (ctxOf s c).lastStep else (ctxOf s c).req.step

section
variable {s : State} {c step attempt : Nat}

/-- In the fence every add is stale. -/
theorem classifyAdd_of_fence (fence : inFence s = true) : classifyAdd s c step attempt = .stale := if_pos fence

variable (open_ : inFence s = false)
include open_

/-- Before the context's first step of the tide every add is parked. -/
theorem classifyAdd_of_not_ran (first : (ctxOf s c).ranThisTide = false) : classifyAdd s c step attempt = .park :=
  (if_neg (by rw [open_]; exact Bool.false_ne_true)).trans (if_pos (by rw [first]; rfl))

/-- The rows of the table after those. -/
theorem classifyAdd_of_ran (ran : (ctxOf s c).ranThisTide = true) :
    classifyAdd s c step attempt =
      if StepRuns s c step ∧ (ctxOf s c).attempt = attempt then .apply
      else if StepRuns s c step ∧ (ctxOf s c).attempt < attempt then .park
      else if step = stepNumber s c then .stale
      else if 1 ≤ (step + 4096 - stepNumber s c) % 4096 ∧ (step + 4096 - stepNumber s c) % 4096 ≤ 63 then .park
      else .stale := by
  unfold classifyAdd
  dsimp only
  rw [open_, ran, if_neg Bool.false_ne_true, if_neg (by decide)]
  have runs : ((ctxOf s c).st == .running && (!(ctxOf s c).committed || decide (s.now < (ctxOf s c).commitT + cyc 1)) &&
      (ctxOf s c).req.step == step) = true ↔ StepRuns s c step := by
    simp [and_assoc]
  have number : (if (ctxOf s c).st != .idle then (ctxOf s c).req.step else (ctxOf s c).lastStep) = stepNumber s c := by
    simp [stepNumber]
  rw [number]
  refine ite_congr (propext ?_) (fun _ => rfl) fun _ => ite_congr (propext ?_) (fun _ => rfl) fun _ => rfl
  all_goals rw [Bool.and_eq_true, runs]
  · rw [beq_iff_eq]
  · rw [decide_eq_true_eq]

end

/-! ### The statement -/

/-- What a remote add meets of its context is the same before and after it leaves the buffer. -/
theorem classifyAdd_of_returnsCredits {u w : State} (h : ReturnsCredits u w) (c step attempt : Nat) :
    classifyAdd w c step attempt = classifyAdd u c step attempt := by
  rw [h.frame]
  rfl

/-- So is whether its stall exists. -/
theorem assigned_of_returnsCredits {u w : State} (h : ReturnsCredits u w) {n : Nat} (hn : n < 8) : assigned w n = assigned u n := by
  unfold assigned rget
  rw [h.others (by decide) ⟨by decide, hn⟩]

/-- So is its context's park. -/
theorem parkOf_of_returnsCredits {u w : State} (h : ReturnsCredits u w) (c : Nat) : parkOf w c = parkOf u c := by
  rw [h.frame]
  rfl

/-- Settles O44: the message leaves its buffer, its checks follow, and the table's first row that matches decides. -/
theorem remoteAddsAreClassified : Obligations.RemoteAddsAreClassified := by
  intro s p t b u w body stall c attempt step index amount x n d runs stale parks sound message
  have credits : ReturnsCredits u w := returnsCredits_dropUnit u p 0
  have arrives : exec (.remoteAddMsg p t) s = .next (remoteAddArrive w body) :=
    onMessage_of_messageAt message fun b s => remoteAddArrive s (b.drop 16)
  obtain ⟨unsound, checked⟩ := remoteAddArrive_spec w body
  have exists_ : assigned w stall = assigned u stall := assigned_of_returnsCredits credits (Nat.mod_lt _ (by decide))
  refine ⟨fun bad => arrives.trans (congrArg _ (unsound bad)), fun ok unclaimed => ?_, fun ok claimed => ?_⟩
  · exact arrives.trans (congrArg _ ((checked ok).trans (if_pos (exists_.trans unclaimed))))
  have taken {k : AddClass} (h : classifyAdd u c step attempt = k) : exec (.remoteAddMsg p t) s = .next (addTaken w body k) := by
    rw [← h, ← classifyAdd_of_returnsCredits credits]
    exact arrives.trans (congrArg _ ((checked ok).trans (if_neg (by rw [exists_, claimed]; decide))))
  have parked (h : classifyAdd u c step attempt = .park) : parks := by
    have length : (parkOf w c).adds.length = (parkOf u c).adds.length := by rw [parkOf_of_returnsCredits credits]
    refine ⟨fun room => (taken h).trans (congrArg _ (parkAdd_of_room (Nat.lt_of_le_of_lt (Nat.le_of_eq length) room) (addOf body))),
      fun full => (taken h).trans (congrArg _ ?_)⟩
    exact (parkAdd_of_full (c := addCtx body) (Nat.le_trans full (Nat.le_of_eq length.symm)) (addOf body)).trans (by rw [stallNo_addCtx]; rfl)
  refine ⟨fun fence => taken (classifyAdd_of_fence fence), fun open_ first => parked (classifyAdd_of_not_ran open_ first),
    fun open_ ran => ?_⟩
  have row := classifyAdd_of_ran (step := step) (attempt := attempt) open_ ran
  have later (old : ¬(runs ∧ x.attempt ≤ attempt)) : classifyAdd u c step attempt =
      if step = n then .stale else if 1 ≤ d ∧ d ≤ 63 then .park else .stale :=
    row.trans ((if_neg fun h => old ⟨h.1, Nat.le_of_eq h.2⟩).trans (if_neg fun h => old ⟨h.1, Nat.le_of_lt h.2⟩))
  exact ⟨fun runs same => taken (row.trans (if_pos ⟨runs, same.symm⟩)),
    fun runs newer => parked (row.trans ((if_neg fun h => Nat.ne_of_lt newer h.2).trans (if_pos ⟨runs, newer⟩))),
    fun old same => taken ((later old).trans (if_pos same)),
    fun old other lo hi => parked ((later old).trans ((if_neg other).trans (if_pos ⟨lo, hi⟩))),
    fun old other far => taken ((later old).trans ((if_neg other).trans (if_neg fun h => by omega)))⟩

end Sys2Proof.Machine
end

section
/-! SUPPORT. The claims of work-list pieces in Flood mode (R322, R789). -/

namespace Sys2Proof.Machine

/-! ### Choices from a rising list -/

/-- One step of the search for the value with the least key: a later one wins with a smaller key only (R322). -/
def lesser (f : Nat → Nat) (best : Option Nat) (v : Nat) : Option Nat :=
  match best with
  | none => some v
  | some b => if f v < f b then some v else some b

/-- The search through a list ends with nothing or with an element of it. -/
theorem lesser_mem (f : Nat → Nat) (l : List Nat) : ∀ b, l.foldl (lesser f) none = some b → b ∈ l := by
  refine List.foldlRecOn l (lesser f) (motive := fun best => ∀ b, best = some b → b ∈ l) (by simp) fun best ih v hv b found => ?_
  cases best with
  | none => rwa [← Option.some.inj found]
  | some a =>
    rw [lesser] at found
    split at found
    · rwa [← Option.some.inj found]
    · exact ih b found

/-- In a rising list the search finds the value with the least key, of two with one key the lower. -/
theorem foldl_lesser {f : Nat → Nat} {l : List Nat} {k : Nat} (rising : l.Pairwise (· < ·)) (hk : k ∈ l)
    (least : ∀ v ∈ l, f k < f v ∨ (f k = f v ∧ k ≤ v)) : l.foldl (lesser f) none = some k := by
  obtain ⟨before, after, rfl⟩ := List.append_of_mem hk
  obtain ⟨-, -, apart⟩ := List.pairwise_append.1 rising
  have here : lesser f (before.foldl (lesser f) none) k = some k := by
    cases found : before.foldl (lesser f) none with
    | none => rfl
    | some b =>
      have mem := lesser_mem f before b found
      have lt := apart b mem k List.mem_cons_self
      have less := least b (List.mem_append_left _ mem)
      exact if_pos (by omega)
  rw [List.foldl_append, List.foldl_cons, here]
  refine List.foldlRecOn after (lesser f) (motive := (· = some k)) rfl fun best same v hv => ?_
  have stays := least v (List.mem_append_right _ (List.mem_cons_of_mem _ hv))
  rw [same]
  exact if_neg (by omega)

/-- In a rising list the first value above the last one served, or else the first of all, is the next in rotation. -/
theorem find?_rotation {l : List Nat} {k last : Nat} (rising : l.Pairwise (· < ·)) (below : ∀ v ∈ l, v < 128) (hk : k ∈ l)
    (served : last < 128) (next : ∀ v ∈ l, (k + 127 - last) % 128 ≤ (v + 127 - last) % 128) :
    (match l.find? (fun v => decide (last < v)) with | some v => some v | none => l.head?) = some k := by
  have hk128 := below k hk
  cases found : l.find? (fun v => decide (last < v)) with
  | some v =>
    obtain ⟨above, before, after, rfl, none_⟩ := List.find?_eq_some_iff_append.1 found
    have above := of_decide_eq_true above
    have first := next v (by simp)
    have v128 := below v (by simp)
    obtain ⟨-, tail, -⟩ := List.pairwise_append.1 rising
    rcases List.mem_append.1 hk with early | late
    · have skipped := none_ k early
      simp only [Bool.not_eq_true', decide_eq_false_iff_not] at skipped
      omega
    · rcases List.mem_cons.1 late with rfl | later
      · rfl
      · have lt := (List.pairwise_cons.1 tail).1 k later
        omega
  | none =>
    have low : ∀ v ∈ l, v ≤ last := fun v hv => by simpa using List.find?_eq_none.1 found v hv
    cases l with
    | nil => exact absurd hk List.not_mem_nil
    | cons a rest =>
      have first := next a List.mem_cons_self
      have hka := low k hk
      have ha := low a List.mem_cons_self
      rcases List.mem_cons.1 hk with rfl | later
      · rfl
      · have lt := (List.pairwise_cons.1 rising).1 k later
        omega

/-! ### The free units of a stall -/

/-- The units that are free for the work lists of stall n, in ascending order. -/
def freeUnits (s : State) (n cls : Nat) : List Nat := (stallUnits s n).filter (unitFree s cls)

/-- They are those of the stall's dies in service that are free. -/
theorem mem_freeUnits {s : State} {n cls v : Nat} :
    v ∈ freeUnits s n cls ↔ v < 128 ∧ cdOwner s (v / 8) = n ∧ fallow s (v / 8) = false ∧ unitFree s cls v = true := by
  simp only [freeUnits, stallUnits, List.mem_filter, List.mem_range, Bool.and_eq_true, beq_iff_eq, Bool.not_eq_true', and_assoc]

/-- They rise. -/
theorem rising_freeUnits (s : State) (n cls : Nat) : (freeUnits s n cls).Pairwise (· < ·) :=
  (List.pairwise_lt_range.filter _).filter _

/-! ### The unit that the list serves (R322, R789) -/

section
variable {u : State} {n cls k : Nat} {m : Cmd}

/-- The last unit that the list of a stall and class has served. -/
def lastServed (s : State) (n cls : Nat) : Nat := (Tab.getD (0, 127) (2 * n + (cls - 1)) s.tiles.claims).2

/-- The moment from which a unit has claimed a command of the list. -/
def claimedFrom (s : State) (cls : Nat) (m : Cmd) (v : Nat) : Nat := max (busyTill s cls v) m.arrive

/-- Under ARB 0 the free unit that is the next in rotation is served. -/
theorem claimant_of_rotation (free : k ∈ freeUnits u n cls) (arb : arbOf u n = false) (served : lastServed u n cls < 128)
    (next : ∀ v ∈ freeUnits u n cls, (k + 127 - lastServed u n cls) % 128 ≤ (v + 127 - lastServed u n cls) % 128) :
    claimant u n cls m = some k := by
  rw [claimant, arb, if_neg Bool.false_ne_true]
  exact find?_rotation (rising_freeUnits u n cls) (fun v hv => (mem_freeUnits.1 hv).1) free served next

/-- Under ARB 1 the free unit that has claimed longest is served, the lower of two. -/
theorem claimant_of_longest (free : k ∈ freeUnits u n cls) (arb : arbOf u n = true)
    (longest : ∀ v ∈ freeUnits u n cls, claimedFrom u cls m k < claimedFrom u cls m v ∨
      (claimedFrom u cls m k = claimedFrom u cls m v ∧ k ≤ v)) : claimant u n cls m = some k := by
  rw [claimant, arb, if_pos rfl]
  exact foldl_lesser (rising_freeUnits u n cls) free longest

/-- Without the WORKLIST control the claimant is served. -/
theorem claimPick_of_ordered (plain : squallOn u 3 n = false) : claimPick u n cls m = (claimant u n cls m, u) := by
  rw [claimPick, plain, if_neg Bool.false_ne_true]

/-- The state in which Squall has drawn the unit to be served (R789). -/
def claimDrawn (u : State) : State := rbump (squall u).2 .sqlStat 31 0

/-- While the WORKLIST control acts and no free unit has reached its bound, the next random value picks one. -/
theorem claimPick_of_drawn (squalls : squallOn u 3 n = true)
    (bound : ∀ v ∈ freeUnits u n cls, Tab.getD 0 (128 * (2 * n + (cls - 1)) + v) u.tiles.waits + 1 < (stallUnits u n).length)
    (drawn : (freeUnits u n cls)[lfsrNext u.lfsr % (freeUnits u n cls).length]? = some k) :
    claimPick u n cls m = (some k, claimDrawn u) := by
  have none_ : (freeUnits u n cls).find? (fun v => decide ((stallUnits u n).length ≤
      Tab.getD 0 (128 * (2 * n + (cls - 1)) + v) u.tiles.waits + 1)) = none :=
    List.find?_eq_none.2 fun v hv => by simpa using bound v hv
  have some_ : 1 ≤ (freeUnits u n cls).length := Nat.lt_of_le_of_lt (Nat.zero_le _) (List.getElem?_eq_some_iff.1 drawn).1
  unfold freeUnits at none_ some_ drawn
  rw [claimPick, if_pos squalls]
  dsimp only
  rw [none_, Nat.max_eq_right some_]
  exact congrArg (·, claimDrawn u) drawn

end

/-! ### The grant of a claim (R322) -/

section
variable {u : State} {c k cls : Nat} {m : Cmd}

/-- No command of a context's work list waits to be started. -/
def ListOpened (u : State) (c cls : Nat) : Prop := ∀ m ∈ listCmds u c cls, m.st ≠ .queued

/-- Then starting the list does nothing. -/
theorem openList_of_opened (opened : ListOpened u c cls) (opn : Nat → Cmd → List Byte → State → State) (valid : Nat → Bool)
    (src : Src) (size : Nat) : openList opn valid src c cls size u = u :=
  List.foldlRecOn (listCmds u c cls) _ (motive := (· = u)) rfl fun v same m hm => by
    rw [same, if_pos]
    simp [opened m hm]

/-- The state in which unit k has been handed the next piece of a command, picked in the state `drawn` (R322). -/
def pieceClaimed (u drawn : State) (c k cls : Nat) (m : Cmd) : State :=
  { drawn with
    cmds := drawn.cmds.map fun x => if x.id = m.id then { x with next := x.next + 1 } else x
    tiles := { drawn.tiles with
      pieces := drawn.tiles.pieces ++
        [{ cmd := m.id, c := c, uid := m.uid, cls := cls, unit := k, piece := m.next, at_ := drawn.now + 15000, first := false }]
      claims := Tab.put (2 * (c / 2) + (cls - 1)) (cycleOf drawn.now, k) drawn.tiles.claims
      waits := claimWaits u (c / 2) cls k } }

/-- A claim is granted where the list has a piece, none of its class was granted in this cycle, and no urgent one stands before it. -/
theorem claimCmd_of_picked {drawn : State} (class_ : cls = 1 ∨ cls = 2) (opened : ListOpened u c cls)
    (urgent : c % 2 = 0 → ListOpened u (c + 1) cls ∧ listNext u (c + 1) cls = none)
    (fresh : Tab.find (2 * (c / 2) + (cls - 1)) u.tiles.claims ≠ some (cycleOf u.now, lastServed u (c / 2) cls))
    (next : listNext u c cls = some m) (pick : claimPick u (c / 2) cls m = (some k, drawn)) :
    claimCmd c k cls u = pieceClaimed u drawn c k cls m := by
  have opens (c' : Nat) (h : ListOpened u c' cls) : (if cls = 1 then openList openMatrix mtxOpValid .mtx c' 1 128 u
      else openList openVector vecOpValid .vec c' 2 64 u) = u := by
    rcases class_ with rfl | rfl <;> exact openList_of_opened h ..
  have both : (if c % 2 = 0 then if cls = 1 then openList openMatrix mtxOpValid .mtx (c + 1) 1 128 u
      else openList openVector vecOpValid .vec (c + 1) 2 64 u else u) = u := by
    split
    · next even => exact opens (c + 1) (urgent even).1
    · rfl
  have first : (c % 2 == 0 && (listNext u (c + 1) cls).isSome) = false := by
    by_cases even : c % 2 = 0
    · simp [(urgent even).2]
    · simp [even]
  unfold claimCmd
  extract_lets n key opn s granted
  have opened_ : s = u := (congrArg (opn · c) both).trans (opens c opened)
  clear_value s
  subst opened_
  have ungranted : granted = false := by
    cases found : Tab.find key s.tiles.claims with
    | none => simp only [granted, found]
    | some g =>
      have served : lastServed s (c / 2) cls = g.2 := congrArg (fun o : Option (Nat × Nat) => (o.getD (0, 127)).2) found
      simp only [granted, found]
      exact beq_eq_false_iff_ne.2 fun now => fresh (found.trans (congrArg some (Prod.ext now served.symm)))
  rw [ungranted, first, Bool.or_self, if_neg Bool.false_ne_true, next]
  dsimp only
  rw [show claimPick s n cls m = (some k, drawn) from pick]
  dsimp only
  rw [if_neg (not_not_intro rfl)]
  rfl

end

end Sys2Proof.Machine
end

section
/-! SUPPORT. The loose adds of a tile (R327, R328). -/

namespace Sys2Proof.Machine

/-! ### Rows of words -/

/-- Words of equal size one after the other hold word q at q times their size. -/
theorem take_drop_flatMap {α β : Type} {f : α → List β} {n : Nat} (size : ∀ x, (f x).length = n) {l : List α} {q : Nat} {x : α}
    (at_ : l[q]? = some x) : ((l.flatMap f).drop (n * q)).take n = f x := by
  induction l generalizing q with
  | nil => simp at at_
  | cons y l ih =>
    cases q with
    | zero =>
      obtain rfl : y = x := by simpa using at_
      simp [size]
    | succ q =>
      rw [List.getElem?_cons_succ] at at_
      rw [List.flatMap_cons, Nat.mul_succ, Nat.add_comm, ← List.drop_drop, ← ih at_]
      simp [size]

/-- A part of a span that is read is the span read there. -/
theorem readMem_part (s : State) (a : Nat) {off len n : Nat} (h : off + n ≤ len) :
    readMem s (a + off) n = ((readMem s a len).drop off).take n := by
  refine List.ext_getElem (by simp [readMem]; omega) fun i hi hi' => ?_
  simp [readMem, Nat.add_assoc]

/-- Bytes read as the number that they keep of the one they were made of. -/
theorem leNat_leBytes_mod (n v : Nat) : leNat (leBytes n v) = v % 256 ^ n := by
  induction n generalizing v with
  | zero => simp [leBytes, leNat, Nat.mod_one]
  | succ n ih => 
    rw [leBytes, leNat, ih, BitVec.toNat_ofNat, Nat.pow_succ' (n := n)]
    exact Nat.mod_mul.symm

/-! ### What writes of memory leave (R793) -/

/-- What writes memory that nothing disturbs changes nothing else. -/
structure WritesMem (s s' : State) : Prop where
  calm : s'.undisturbed
  frame : s' = { s with mem := s'.mem, upsets := s'.upsets }

/-- A write of memory. -/
theorem writesMem_writeMem {s : State} (calm : s.undisturbed) (a : Nat) (bs : List Byte) : WritesMem s (writeMem s a bs) :=
  ⟨undisturbed_writeMem calm a bs, writeMem_frame calm.2.2 a bs⟩

/-- Two writes. -/
theorem WritesMem.trans {s s' s'' : State} (h : WritesMem s s') (k : WritesMem s' s'') : WritesMem s s'' := by
  refine ⟨k.calm, ?_⟩
  have frame := k.frame
  rw [h.frame] at frame
  exact frame

/-! ### The rows of a loose partial -/

/-- The value that an add leaves in place of the fp32 word at an address: the sum rounded once (R327). -/
def looseSum (s : State) (a v : Nat) : Nat := f32bits (Fp.add (f32 (leNat (readMem s a 4))) (f32 v))

/-- The bytes that the add of a row writes. -/
def rowSums (s : State) (w : Nat × List Nat) : List Byte :=
  w.2.zipIdx.flatMap fun p => leBytes 4 (looseSum s (w.1 + 4 * p.2) p.1)

/-- A row is added by one write of its sums. -/
theorem addRow_eq (s : State) (w : Nat × List Nat) : addRow s w = writeMem s w.1 (rowSums s w) := rfl

/-- A row writes four bytes for each of its values. -/
theorem length_rowSums (s : State) (w : Nat × List Nat) : (rowSums s w).length = 4 * w.2.length := by
  rw [rowSums, List.length_flatMap]
  simp only [length_leBytes, List.map_const', List.sum_replicate_nat, List.length_zipIdx, Nat.mul_comm]

/-- A row's add leaves every byte outside the row. -/
theorem readByte_addRow_outside {s : State} {w : Nat × List Nat} {a : Nat} (h : a < w.1 ∨ w.1 + 4 * w.2.length ≤ a) :
    readByte (addRow s w) a = readByte s a :=
  readByte_writeMem_outside (bs := rowSums s w) s (by rwa [length_rowSums])

/-- A row's add leaves its sums. -/
theorem leNat_addRow {s : State} (ok : s.memOk) {w : Nat × List Nat} {q v : Nat} (at_ : w.2[q]? = some v) :
    leNat (readMem (addRow s w) (w.1 + 4 * q) 4) = looseSum s (w.1 + 4 * q) v % 2 ^ 32 := by
  obtain ⟨inside, -⟩ := List.getElem?_eq_some_iff.1 at_
  have word : ((rowSums s w).drop (4 * q)).take 4 = leBytes 4 (looseSum s (w.1 + 4 * q) v) :=
    take_drop_flatMap (x := (v, q)) (fun _ => length_leBytes ..) (by simp [List.getElem?_zipIdx, at_])
  have bytes : readMem (addRow s w) (w.1 + 4 * q) 4 = leBytes 4 (looseSum s (w.1 + 4 * q) v) := by
    rw [readMem_part _ _ (len := (rowSums s w).length) (by rw [length_rowSums]; omega), addRow_eq, readMem_writeMem_same ok, word]
  exact (congrArg leNat bytes).trans (leNat_leBytes_mod 4 _)

/-- A part of memory whose bytes stay is read as before. -/
theorem readMem_congr {s s' : State} {a len : Nat} (h : ∀ x, a ≤ x → x < a + len → readByte s' x = readByte s x) :
    readMem s' a len = readMem s a len :=
  List.map_congr_left fun i hi => h _ (Nat.le_add_right a i) (Nat.add_lt_add_left (List.mem_range.1 hi) a)

/-- Rows of values in memory do not meet. -/
def rowsApart (a b : Nat × List Nat) : Prop := a.1 + 4 * a.2.length ≤ b.1 ∨ b.1 + 4 * b.2.length ≤ a.1

/-- The adds of rows write memory. -/
theorem writesMem_addRows {s : State} (calm : s.undisturbed) (rows : List (Nat × List Nat)) : WritesMem s (rows.foldl addRow s) :=
  List.foldlRecOn rows addRow (motive := WritesMem s) ⟨calm, rfl⟩ fun _ h _ _ => h.trans (writesMem_writeMem h.calm ..)

/-- The adds of rows leave every byte outside the rows. -/
theorem readByte_addRows_outside {rows : List (Nat × List Nat)} {a : Nat} (s : State)
    (outside : ∀ w ∈ rows, a < w.1 ∨ w.1 + 4 * w.2.length ≤ a) : readByte (rows.foldl addRow s) a = readByte s a :=
  List.foldlRecOn rows addRow (motive := fun v => readByte v a = readByte s a) rfl fun _ same w hw =>
    (readByte_addRow_outside (outside w hw)).trans same

/-- Where no two rows meet, each value of each row is added to what memory held before all of them. -/
theorem leNat_addRows {rows : List (Nat × List Nat)} {s : State} (calm : s.undisturbed) (apart : rows.Pairwise rowsApart) :
    ∀ w ∈ rows, ∀ q v, w.2[q]? = some v →
      leNat (readMem (rows.foldl addRow s) (w.1 + 4 * q) 4) = looseSum s (w.1 + 4 * q) v % 2 ^ 32 := by
  induction rows generalizing s with
  | nil => exact fun w hw => absurd hw List.not_mem_nil
  | cons r rest ih =>
    obtain ⟨first, others⟩ := List.pairwise_cons.1 apart
    have after : WritesMem s (addRow s r) := writesMem_writeMem calm ..
    refine List.forall_mem_cons.2 ⟨fun q v at_ => ?_, fun w hw q v at_ => ?_⟩ <;>
      obtain ⟨inside, -⟩ := List.getElem?_eq_some_iff.1 at_
    · rw [List.foldl_cons, readMem_congr fun x lo hi => readByte_addRows_outside (addRow s r) fun w hw => ?_, leNat_addRow calm.1 at_]
      have clear := first w hw
      unfold rowsApart at clear
      omega
    · have clear := first w hw
      unfold rowsApart at clear
      rw [List.foldl_cons, ih after.calm others w hw q v at_, looseSum, looseSum,
        readMem_congr fun x lo hi => readByte_addRow_outside (by omega)]

/-! ### A loose partial that arrives (R327, R328) -/

section
variable {u : State} {x : LooseAdd}

/-- LOOSE_ADD of a partial that may be added is its add. -/
theorem exec_looseAdd {s : State} {c n t : Nat} (found : ((s.at t).tiles.loose.filter fun y => y.c == c)[n]? = some x)
    (ready : looseReady (s.at t) x = true) : exec (.looseAdd c n t) s = .next (looseAdd x (s.at t)) := by
  refine (whenEnabled_of_true (by rw [found]; exact ready) : execLooseAdd c n t s = _).trans ?_
  rw [found]

/-- The state in which an add that is not of the lowest sheaf has been counted in MTX_LOOSE with its step (R328). -/
def looseCounted (s : State) (x : LooseAdd) : State :=
  rsetField (rbump s .mtxLoose 31 0 (x.c / 2)) .mtxLoose 63 52 (ctxOf s x.c).req.step (x.c / 2)

/-- A counter that is raised stops at the end of its width. -/
theorem rfield_rbump_same {s : State} {r : Reg} {hi lo d i : Nat} (ok : s.regsOk) (hhi : hi < 64) (n : Nat) :
    rfield (rbump s r hi lo i n d) r hi lo i d = min (rfield s r hi lo i d + n) (2 ^ (hi + 1 - lo) - 1) := by
  have fits : satAdd (hi + 1 - lo) (bf (rgetX s r d i) hi lo) n < 2 ^ (hi + 1 - lo) :=
    Nat.lt_of_le_of_lt (Nat.min_le_right ..) (Nat.sub_lt (Nat.two_pow_pos _) Nat.one_pos)
  rw [rbump, rfield, rmod, rgetX_rputX_same ok, bumpField, bf_setBf_same _ _ hhi, Nat.mod_eq_of_lt fits]
  rfl

/-- The counter of adds out of order is one more, below its bound. -/
theorem rfield_looseCounted (ok : u.regsOk) (below : rfield u .mtxLoose 31 0 (x.c / 2) < 2 ^ 32 - 1) :
    rfield (looseCounted u x) .mtxLoose 31 0 (x.c / 2) = rfield u .mtxLoose 31 0 (x.c / 2) + 1 := by
  have raised : (rbump u .mtxLoose 31 0 (x.c / 2)).regsOk := regsOk_rputX ok ..
  rw [looseCounted, rfield_rsetField_apart raised (by decide) (.inr (by decide)), rfield_rbump_same ok (by decide)]
  exact Nat.min_eq_left below

/-- The command table in which one more part of a command is done. -/
def partDone (u : State) (id : Nat) : List Cmd :=
  u.cmds.map fun y => if y.id = id then
    { y with left := y.left - 1, st := if y.left ≤ 1 then .finished else y.st, doneAt := u.now } else y

/-- An add changes the memory of its rows, the count where it is not of the lowest sheaf, and beyond that its command, the partials on
their way and the tracker of its block. -/
theorem looseAdd_frame (calm : u.undisturbed) (x : LooseAdd) :
    let w := x.adds.foldl addRow u
    looseAdd x u = { w with
      regs := (if x.sheaf = lowestSheaf (trackerOf u (trackKey x)).done then w else looseCounted w x).regs
      cmds := partDone u x.cmd
      tiles := { u.tiles with
        loose := u.tiles.loose.erase x
        trackers := Tab.put (trackKey x)
          { done := x.sheaf :: (trackerOf u (trackKey x)).done, cyc := cycleOf u.now, unit := x.unit } u.tiles.trackers } } := by
  intro w
  have frame : w = _ := (writesMem_addRows calm x.adds).frame
  have now : u.now = w.now := (congrArg State.now frame :).symm
  have cmds : u.cmds = w.cmds := (congrArg State.cmds frame :).symm
  have tiles : u.tiles = w.tiles := (congrArg State.tiles frame :).symm
  unfold looseAdd partDone
  rw [now, cmds, tiles]
  dsimp only
  split <;> rfl

end

end Sys2Proof.Machine
end

section
/-! PROOFS. The work of Flood mode (O46). -/

namespace Sys2Proof.Machine

/-- Settles O46: the unit of each order is the one that the list picks, whose claim is granted; a loose partial adds its rows one by one
to memory in which no two of them meet, and its count is the only register that changes. -/
theorem floodWorkIsClaimedAndAdded : Obligations.FloodWorkIsClaimedAndAdded := by
  intro s c k n t vector u cls key last free opened units frees ordered drawn
  refine ⟨fun m hc flood open_ urgent fresh next hk served => ?claim, fun x found ready calm apart => ?loose⟩
  case claim =>
    have class_ : cls = 1 ∨ cls = 2 := by cases vector <;> simp [cls]
    have hfree : k ∈ freeUnits u (c / 2) cls := mem_freeUnits.2 hk
    have inOrder : ordered m → claimPick u (c / 2) cls m = (some k, u) := by
      rintro ⟨plain, below, rotation, longest⟩
      rw [claimPick_of_ordered plain]
      cases arb : arbOf u (c / 2) with
      | false => rw [claimant_of_rotation hfree arb below fun v hv => rotation arb v (mem_freeUnits.1 hv)]
      | true => rw [claimant_of_longest hfree arb fun v hv => longest arb v (mem_freeUnits.1 hv)]
    have atRandom : drawn → claimPick u (c / 2) cls m = (some k, claimDrawn u) := by
      rintro ⟨squalls, bound, picked⟩
      exact claimPick_of_drawn squalls (fun v hv => bound v (mem_freeUnits.1 hv)) picked
    have event : exec (.worklistClaim c k vector t) s = .next (claimCmd c k cls u) :=
      (whenEnabled_of_true (by rw [decide_eq_true hc]; exact flood) : execWorklistClaim c k vector t s = _)
    have granted (v : State) (pick : claimPick u (c / 2) cls m = (some k, v)) :
        exec (.worklistClaim c k vector t) s = .next (pieceClaimed u v c k cls m) :=
      event.trans (congrArg _ (claimCmd_of_picked class_ open_ urgent fresh next pick))
    have neither : ¬(ordered m ∧ drawn) := fun ⟨⟨plain, _⟩, squalls, _⟩ => absurd (plain.symm.trans squalls) (by decide)
    have keeps (v : State) : (Tab.getD (0, 127) key (pieceClaimed u v c k cls m).tiles.claims).2 = k :=
      congrArg Prod.snd (getD_put_same ..)
    rcases served with h | h
    · exact ⟨_, granted u (inOrder h), rfl, keeps u, rfl, rfl, rfl, rfl, fun _ => rfl, fun h' => absurd ⟨h, h'⟩ neither⟩
    · exact ⟨_, granted _ (atRandom h), rfl, keeps _, rfl, rfl, rfl, rfl, fun h' => absurd ⟨h', h⟩ neither, fun _ => ⟨rfl, rfl⟩⟩
  case loose =>
    have event := exec_looseAdd found ready
    have writes := writesMem_addRows calm x.adds
    have same := looseAdd_frame calm x
    have bytes (a : Nat) : readByte (looseAdd x u) a = readByte (x.adds.foldl addRow u) a := by rw [same]; rfl
    refine ⟨_, event, fun w hw q v at_ => ?_, fun a outside => ?_, ?_, ?_, fun lowest => ?_, fun other below hx ok => ?_, ?_, ?_, ?_⟩
    · rw [readMem_congr fun a _ _ => bytes a]
      exact leNat_addRows calm apart w hw q v at_
    · rw [bytes, readByte_addRows_outside u outside]
    all_goals rw [same]
    · rfl
    · rw [if_pos lowest]
      exact (congrArg State.regs writes.frame :)
    · have regs : (x.adds.foldl addRow u).regs = u.regs := (congrArg State.regs writes.frame :)
      have fields (i : Nat) : rfield (x.adds.foldl addRow u) .mtxLoose 31 0 i = rfield u .mtxLoose 31 0 i := by
        unfold rfield rgetX
        rw [regs]
      have counted := rfield_looseCounted (x := x) (u := x.adds.foldl addRow u) (by unfold State.regsOk; rwa [regs])
        (by rwa [fields])
      rw [if_neg other]
      exact counted.trans (by rw [fields]; rfl)
    · exact (congrArg State.ctxs writes.frame :)
    · exact (congrArg State.pub writes.frame :)
    · exact (congrArg State.log writes.frame :)

end Sys2Proof.Machine
end

section
/-! PROOFS. The pieces of matrix and vector commands (O45, O47), refuted. -/

namespace Sys2Proof.Machine

/-- GEMM at a tile is a piece of its matrix command (R303). -/
theorem exec_gemm (c k piece t : Nat) (s : State) : exec (.gemm c k piece t) s = .next (mtxCmd 1 c k piece (s.at t)) := rfl

/-- PROGRAM at a vector unit is a piece of its vector command (R331). -/
theorem exec_program (c k piece t : Nat) (s : State) : exec (.program c k piece t) s = .next (vecCmd c k piece (s.at t)) := rfl

/-! ### The states of the counterexamples -/

/-- A command of context 0 that runs from the direct queue of unit 0 and has its one piece before it. -/
def onePiece (cls : Nat) (null : Bool) (desc : List Byte) : Cmd :=
  { id := 1, c := 0, uid := 1, cls := cls, inst := 0, addr := 0, len := desc.length, null := null, sigTal := 0, sigAdd := 0,
    arrive := 0, st := .running, doneAt := 0, left := 1, desc := desc, rows := [], next := 0, total := 1, unfixed := false }

/-- The state after reset with stall 0 in Flood mode and some commands. -/
def floodWith (cmds : List Cmd) : State :=
  { State.reset with regs := [(Reg.stlCtrl.addr 0 0, 3)], cmds := cmds }

/-- Nothing disturbs memory there. -/
theorem undisturbed_floodWith (cmds : List Cmd) : (floodWith cmds).undisturbed :=
  ⟨show Memory.wf [] = true from rfl, rfl, show bf (rget (floodWith []) .hltInject) 63 62 = 0 by decide +kernel⟩

/-- A GEMM of one row and one column into tile 0 of die 0, with LOOSE set and COUNT 1: two fields that only SPLIT uses (R842). -/
def looseGemm : Cmd :=
  onePiece 1 false ([1, 0, 0, 0, 4, 0, 1, 0, 1, 0, 0, 0, 1, 0, 0, 0] ++ zeros 6 ++ [1, 0] ++ zeros 21 ++ [0x20])

/-- Tile 0 runs it. -/
theorem runs_looseGemm : Runs (floodWith [looseGemm]) 1 0 0 looseGemm := by
  unfold Runs
  decide +kernel

/-- Its piece leaves the COUNT of loose partials outstanding, though no partial has left the tile. -/
theorem left_looseGemm : (mtxCmd 1 0 0 0 (floodWith [looseGemm])).cmds.map (·.left) = [1] := by decide +kernel

/-- Refutes O45: the piece of a GEMM whose descriptor has LOOSE set, which no form check of the statement excludes, leaves COUNT parts
outstanding, where the statement counts none. A state in which a work-list command has the piece's command number refutes it too, as
`not_vectorPiecesRunTheirProgram` shows for vector pieces. -/
theorem not_matrixPiecesWriteTheirBlocks : ¬ Obligations.MatrixPiecesWriteTheirBlocks := by
  intro h
  obtain ⟨-, product⟩ := h (floodWith [looseGemm]) 0 0 0 0 1 looseGemm 0 0 0 (by decide) (by decide) runs_looseGemm rfl
    (by decide +kernel) (by decide +kernel) (fun neap => absurd neap (by decide +kernel)) (by decide +kernel) (undisturbed_floodWith _)
  obtain ⟨s', answer, -, -, -, counted, -⟩ := product fun split => absurd split.1 (by decide)
  rw [if_pos rfl, exec_gemm, Host.Outcome.next.injEq] at answer
  rw [← answer] at counted
  have left := left_looseGemm.symm.trans (congrArg (List.map (·.left)) counted)
  exact absurd left (by decide)

/-- A program of one ST, as fp32, of the one column of one row into tile 0 of die 0; a null command. -/
def oneStore : Cmd :=
  onePiece 2 true ([0x10, 1, 0, 0, 1, 0, 0, 0, 1, 0, 0, 0] ++ zeros 33 ++ [0x20] ++ zeros 18 ++ [2, 0, 0, 0, 0, 0x10] ++ zeros 10)

/-- A matrix command of a work list with the same number. -/
def sameNumber : Cmd := { oneStore with cls := 1, inst := 0xFF }

/-- Vector unit 0 runs the program. -/
theorem runs_oneStore : Runs (floodWith [oneStore, sameNumber]) 2 0 0 oneStore := by
  unfold Runs
  decide +kernel

/-- Its piece moves the program on to its next piece, and not the work-list command, whose pieces are handed out (R318). -/
theorem next_oneStore : (vecCmd 0 0 0 (floodWith [oneStore, sameNumber])).cmds.map (·.next) = [1, 0] := by decide +kernel

/-- Refutes O47: in a state whose command table gives one number to the program and to a command of a work list (the statement does not
ask that numbers differ), the piece does not move the second command on, where the statement moves on each with that number. -/
theorem not_vectorPiecesRunTheirProgram : ¬ Obligations.VectorPiecesRunTheirProgram := by
  intro h
  obtain ⟨pieces, -⟩ := h
  obtain ⟨s', answer, -, -, counted, -⟩ := pieces (floodWith [oneStore, sameNumber]) 0 0 0 0 oneStore runs_oneStore rfl
    (by decide +kernel) (fun neap => absurd neap (by decide +kernel)) (by decide +kernel) (undisturbed_floodWith _)
  rw [exec_program, Host.Outcome.next.injEq] at answer
  have moved := counted (by decide +kernel)
  rw [← answer] at moved
  have next := next_oneStore.symm.trans (congrArg (List.map (·.next)) moved)
  exact absurd next (by decide)

end Sys2Proof.Machine
end

section
/-! PROOFS. What arrives for an attempt (O51), refuted. -/

namespace Sys2Proof.Machine

/-! ### The CRC of a record (R420, R839) -/

/-- A step of the division by a polynomial of 16 bits leaves 16 bits. -/
theorem crcBit_lt {poly : Nat} (hp : poly < 2 ^ 16) (crc : Nat) (b : Bool) : crcBit 16 poly crc b < 2 ^ 16 := by
  unfold crcBit
  dsimp only
  split
  · exact Nat.xor_lt_two_pow (Nat.mod_lt _ (by decide)) hp
  · exact Nat.mod_lt _ (by decide)

/-- A CRC-16 has 16 bits. -/
theorem crc16_lt (bs : List Byte) : crc16 bs < 2 ^ 16 :=
  List.foldlRecOn bs _ (motive := (· < 2 ^ 16)) (by decide) fun _ hc _ _ =>
    List.foldlRecOn _ _ (motive := (· < 2 ^ 16)) hc fun c _ _ _ => crcBit_lt (by decide) c _

/-- A header before its CRC has 30 bytes, and the CRC is over them and the payload. -/
theorem RecHead.bytes_split (h : RecHead) (payload : List Byte) :
    ∃ b, b.length = 30 ∧ h.bytes payload = b ++ leBytes 2 (crc16 (b ++ payload)) :=
  ⟨_, by simp, rfl⟩

/-- A record made of a header and its payload has the CRC that its arrival asks for (R420). -/
theorem recSound_bytes (h : RecHead) (payload : List Byte) : recSound (h.bytes payload ++ payload) = true := by
  obtain ⟨b, size, split⟩ := h.bytes_split payload
  have front : (h.bytes payload ++ payload).take 30 = b := by
    rw [split, List.append_assoc, List.take_left' size]
  have crc : slice (h.bytes payload ++ payload) 30 2 = leBytes 2 (crc16 (b ++ payload)) := by
    rw [split, slice, List.append_assoc, List.drop_left' size, List.take_left' (length_leBytes ..)]
  have back : (h.bytes payload ++ payload).drop 32 = payload := by
    rw [split, List.drop_left' (by simp [size])]
  unfold recSound fieldAt
  rw [front, crc, back, leNat_leBytes_mod, Nat.mod_eq_of_lt (a := crc16 (b ++ payload)) (b := 256 ^ 2) (crc16_lt _)]
  exact BEq.rfl

/-! ### A return that is taken -/

/-- What Table 11.6 says of a record is the same before and after it leaves the buffer. -/
theorem classifyRec_of_returnsCredits {u w : State} (h : ReturnsCredits u w) (b : List Byte) : classifyRec w b = classifyRec u b := by
  have stall : stallNo (recCtx b) < 8 := by
    unfold stallNo recCtx
    have : bitsOf (fieldAt b 0 8) 51 49 < 8 := Nat.mod_lt _ (by decide)
    omega
  have claimed := assigned_of_returnsCredits h stall
  unfold classifyRec
  dsimp only
  rw [claimed, h.frame]
  rfl

/-- RETURN_ARRIVAL of a sound record that answers the last SCATTER places it, where its port is its stall's and a bay lets it (R446). -/
theorem exec_returnArrival_of_answer {s u : State} {p t : Nat} {x : RxUnit} (present : s.at t = u) (hp : p < 32)
    (free : freeRec u p 1 = some x) (sound : recSound x.bytes = true ∧ tagSound x.bytes = true)
    (answer : classifyRec u x.bytes = .answer) (own : ownerOfPort u p = stallNo (recCtx x.bytes))
    (go : gate u (stallNo (recCtx x.bytes)) (ddRes (ddOfPort p) [recPlace u x.bytes]) = .go) :
    exec (.returnArrival p t) s = .next (placeReturn (recTaken u p 1 x) (recCtx x.bytes) (ddOfPort p) x.bytes) := by
  have credits : ReturnsCredits u (recTaken u p 1 x) := (returnsCredits_modPort u p _).trans (returnsCredits_freeCredits _ p 1)
  have lands : recLands u x.bytes = true := by simp [recLands, sound, answer]
  have arrives : recArrive (recTaken u p 1 x) (ddOfPort p) x.bytes =
      placeReturn (recTaken u p 1 x) (recCtx x.bytes) (ddOfPort p) x.bytes := by
    simp [recArrive, sound, classifyRec_of_returnsCredits credits, answer]
  show execReturnArrival p t s = _
  rw [execReturnArrival, whenEnabled_of_true (by simp [present, hp, free]), present, takeRec, free]
  dsimp only
  rw [if_pos lands, if_neg (not_not.2 own), go, ← arrives]
  rfl

/-- A byte of a span that reads as a list. -/
theorem readByte_of_readMem {s : State} {a i : Nat} {bs : List Byte} {b : Byte} (span : readMem s a bs.length = bs)
    (at_ : bs[i]? = some b) : readByte s (a + i) = b := by
  obtain ⟨inside, -⟩ := List.getElem?_eq_some_iff.1 at_
  rw [← span] at at_
  simpa [readMem, inside] using at_

/-! ### The counterexample -/

/-- A key/value table of two rows in one layer, with two pages of 64-byte tokens each: row 1 holds one token, in page 2 of arena 0.
The count of row 1 stands in the bytes that a PENDING return slot at offset 64 has for its expert and length. -/
def kvTableBytes : List Byte :=
  [2, 0, 1, 0, 1, 0, 0, 0, 2, 0, 0, 0, 64, 0, 0, 0] ++ zeros 48 ++
    leBytes 8 (5 * 2 ^ 52) ++ leBytes 8 (onesComp 64 (5 * 2 ^ 52)) ++ [1] ++ zeros 63 ++ [2, 0, 0x10, 0] ++ zeros 12

/-- A dispatch plan of one token with K = 1 and 64-byte payloads, whose return slot lies in that table and whose return payload lies
behind the token of its row 1. -/
def overTable : List Byte :=
  [1, 1, 2, 0, 1, 0, 1, 0, 1] ++ zeros 71 ++ leBytes 8 0x10040 ++ leBytes 8 0x1400040

/-- The return of step 5's token 0, rank 0, expert 1. -/
def returned : List Byte :=
  ({ tag := 5 * 2 ^ 52, expert := 1, len := 1, weight := 0, attempt := 0, ctx := 0, dir := 1, state := 1, round := 0, origin := 0,
     holder := 0, fmt := 1, pos := 0 } : RecHead).bytes (zeros 64) ++ zeros 64

/-- The unit that brings it. -/
def returnUnit : RxUnit := { bytes := returned, from_ := 0, due := none }

/-- The table in memory, and a byte 1 where the payload will go. -/
@[irreducible] def scatteredMem : List Host.Cell := memPuts 0x10000 kvTableBytes (memPuts 0x1400040 [1] [])

/-- Stall 0 runs step 5 in context 0, whose attempt holds the table's buffer in pool 0 and has staged slot 0, whose current
side the table is. Its last SCATTER was over the plan above, and port 0, which the stall owns, has received the return. -/
def scattered : State :=
  { State.reset with
    regs := [(Reg.stlCtrl.addr 0 0, 1), (Reg.grnPool.addr 0 0, 0x100), (Reg.grnArena.addr 0 0, 0xE000000000010000),
      (Reg.dklCfg.addr 0 0, 0)]
    mem := scatteredMem
    tide := { Tide.reset with running := true, expected := 1000000000, bays := 1 }
    ctxs := [(0, { Ctx.clear with
      st := .running, uid := 1, req := { StepReq.empty with step := 5 }, staged := [0]
      disp := { Disp.clear with scat := some (0, overTable), pendW := 1 } })]
    pub := [(0, { PubSlot.clear with h0 := 1, c0 := 0xFFFFFFFE, kv := true })]
    bufs := [(1, { Buf.free with alloc := true, uid := 1 })]
    ports := [(0, { Port.clear with st := 4, rx := [(1, { RxChan.clear with units := [returnUnit] })] })] }

/-- The memory is in its form. -/
theorem scatteredMem_wf : Memory.wf scatteredMem = true := by
  unfold scatteredMem
  exact memPuts_wf (memPuts_wf (by decide) _ _) _ _

/-- The counterexample's moment is its state's own. -/
theorem at_scattered : scattered.at 0 = scattered := by
  simp [State.at]

/-- Nothing disturbs memory there. -/
theorem undisturbed_scattered : scattered.undisturbed :=
  ⟨scatteredMem_wf, rfl, by decide +kernel⟩

/-- The return is sound. -/
theorem returned_sound : recSound returned = true ∧ tagSound returned = true :=
  ⟨recSound_bytes _ _, by decide +kernel⟩

/-- It answers the SCATTER. -/
theorem classifyRec_returned : classifyRec scattered returned = .answer := by decide +kernel

/-- It is the first of its channel that may be taken. -/
theorem freeRec_scattered : freeRec scattered 0 1 = some returnUnit := by
  have taken : recHeld scattered returnUnit.bytes = false := by
    show recHeld scattered returned = false
    simp [recHeld, classifyRec_returned]
  show List.find? (fun u => !recHeld scattered u.bytes) [returnUnit] = some returnUnit
  rw [List.find?_cons_of_pos (by simp [taken])]

/-- A bay lets it reach its slot. -/
theorem gate_scattered : gate scattered 0 (ddRes 0 [0x10040]) = .go := by decide +kernel

/-- Header and payload may each be written as memory stands: the one into the held buffer, the other behind the token of row 1. -/
theorem mayWrite_scattered : mayWrite scattered 0 0x10040 32 = true ∧ mayWrite scattered 0 0x1400040 64 = true := by decide +kernel

/-- Once the header is there, row 1 has another count and the payload is refused: its first byte stays. -/
theorem payload_refused :
    let w := recTaken scattered 0 1 returnUnit
    mayWrite (engineWrite w .fry 0 0x10040 (returned.take 32)) 0 0x1400040 64 = false ∧
    readByte (placeReturn w 0 0 returned) 0x1400040 = 1 := by
  decide +kernel

/-- Refutes O51: the payload of a return may be written behind the last token of a staged key/value table (R261), and its header into the
buffer of that table. Each may be written as memory stands when the return arrives, which is all that the statement asks; the header is
written first and changes the row's count of tokens, and the payload is then refused. -/
theorem not_arrivalsActOnTheirAttempt : ¬ Obligations.ArrivalsActOnTheirAttempt := by
  intro h
  obtain ⟨records, -⟩ := h
  obtain ⟨may_header, may_payload⟩ := mayWrite_scattered
  obtain ⟨-, stays⟩ := payload_refused
  have arrivals := records scattered 0 0 returnUnit
  rw [at_scattered] at arrivals
  obtain ⟨-, -, -, returns⟩ := arrivals (by decide)
  obtain ⟨-, -, -, -, placed⟩ := returns 0 overTable freeRec_scattered returned_sound classifyRec_returned rfl (by decide +kernel)
    gate_scattered
  obtain ⟨s', answer, written, -⟩ := placed (by decide +kernel) (by decide +kernel) (by decide +kernel) (by decide +kernel)
    (by decide +kernel) (by decide +kernel) undisturbed_scattered
    (List.forall_mem_cons.2 ⟨fun _ => may_header, List.forall_mem_singleton.2 fun _ => may_payload⟩)
    (List.pairwise_pair.2 (.inr (.inr (.inl (by decide +kernel))))) (.inl (by decide +kernel))
  have first : readByte s' 0x1400040 = 0 :=
    readByte_of_readMem (i := 0) (written _ (List.mem_cons_of_mem _ (List.mem_singleton_self _))) (by decide +kernel)
  rw [exec_returnArrival_of_answer at_scattered (by decide) freeRec_scattered returned_sound classifyRec_returned (by decide +kernel)
    gate_scattered, Host.Outcome.next.injEq] at answer
  rw [← answer] at first
  exact absurd (stays.symm.trans first) (by decide)

end Sys2Proof.Machine
end

section
/-! SUPPORT and PROOFS. The front of the queue (O1), and the state that reset leaves (O3). -/

namespace Sys2Proof.Machine

/-! ### The front of the queue -/

/-- A step on a queue runs its front command with the rest of the queue. -/
@[simp] theorem step_cons (i : Instr) (rest : List Instr) (s : State) :
    step { s with pending := i :: rest } = exec i { s with pending := rest } := rfl

/-- A step on an empty queue idles. -/
theorem step_of_empty {s : State} (empty : s.pending = []) : step s = .next s := by
  rw [step, empty]

/-- Settles O1: the step is defined by the front of the queue. -/
theorem stepRunsTheFrontCommand : Obligations.StepRunsTheFrontCommand := ⟨step_cons, fun _ => step_of_empty⟩

/-! ### Reset -/

/-- Nothing is listed after reset, so every register shows its reset value. -/
theorem rgetX_reset (r : Reg) (d i : Nat) : rgetX State.reset r d i = r.info.reset := rfl

/-- Settles O3: reset lists nothing, and what no list names has its default. -/
theorem resetHasTheForm : Obligations.ResetHasTheForm :=
  ⟨canon_State_reset, fun r d i _ => rgetX_reset r d i, rfl, rfl, rfl, rfl, rfl, fun _ _ => rfl, fun _ _ => ⟨rfl, rfl⟩, fun _ _ => rfl, rfl⟩

end Sys2Proof.Machine
end

section
/-! SUPPORT and PROOFS. The scalar registers and predicates (O25), and the scalar operations NOP, CLZ, SEL, MFS and MOVHI (O28). -/

namespace Sys2Proof.Machine

/-! ### Registers and predicates read back (Table 5.1) -/

/-- SC0 reads 0, whatever the list holds. -/
@[simp] theorem scGet_zero (sc : Tab Word) : scGet sc 0 = 0 := rfl

/-- PD0 reads 1, whatever the predicates hold. -/
@[simp] theorem pdGet_zero (pd : BitVec 16) : pdGet pd 0 = true := rfl

/-- A register just written is read back. -/
theorem scGet_scPut_same {sc : Tab Word} (rising : sc.Pairwise fun x y => x.1 < y.1) {r : Nat} (hr : r ≠ 0) (v : Word) :
    scGet (scPut sc r v) r = v := by
  rw [scGet, if_neg hr, scPut, if_neg hr, Tab.getD]
  split
  case isTrue zero => rw [find_del_same rising, zero]; rfl
  case isFalse => rw [Tab.find_put_same]; rfl

/-- A register written leaves every other one. -/
theorem scGet_scPut_ne (sc : Tab Word) {r k : Nat} (hk : k ≠ r) (v : Word) : scGet (scPut sc r v) k = scGet sc k := by
  unfold scGet scPut Tab.getD
  split_ifs
  · rfl
  · rfl
  · rw [Tab.find_del_ne hk]
  · rw [Tab.find_put_ne hk]

/-- The bits of the predicates after a write: the written one takes its value, the others stay. -/
theorem pdGet_pdPut {p k : Nat} (hp : p ≠ 0) (hk : k ≠ 0) (hk16 : k < 16) (pd : BitVec 16) (b : Bool) :
    pdGet (pdPut pd p b) k = if k = p then b else pdGet pd k := by
  have mask : (BitVec.ofNat 16 (2 ^ p)).getLsbD k = decide (k = p) := by
    rw [BitVec.getLsbD_ofNat, Nat.testBit_two_pow, decide_eq_true hk16, Bool.true_and, decide_eq_decide]
    exact eq_comm
  rw [pdGet, if_neg hk, pdPut, if_neg hp, pdGet, if_neg hk, BitVec.getLsbD_or, BitVec.getLsbD_and, BitVec.getLsbD_not, mask]
  have written : (if b = true then BitVec.ofNat 16 (2 ^ p) else 0).getLsbD k = (b && decide (k = p)) := by
    cases b
    · exact BitVec.getLsbD_zero
    · exact mask
  rw [written, decide_eq_true hk16, Bool.true_and]
  by_cases same : k = p
  · rw [if_pos same, decide_eq_true same]
    simp
  · rw [if_neg same, decide_eq_false same]
    simp

/-- Settles O25: a scalar register and a predicate are parts of their context, and number 0 of either is not stored. -/
theorem registerZeroIsHardWired : Obligations.RegisterZeroIsHardWired := by
  intro u c r p v b
  dsimp only
  intro rising hp
  have sc : (ctxOf (putSc u c r v) c).bcn.sc = scPut (ctxOf u c).bcn.sc r v := by rw [putSc, ctxOf_modBcn_same]
  have pd : (ctxOf (putPd u c p b) c).bcn.pd = pdPut (ctxOf u c).bcn.pd p b := by rw [putPd, ctxOf_modBcn_same]
  refine ⟨scGet_zero _, fun hr => ?_, fun k hk => ?_, ?_, fun d hd => ctxOf_modBcn_ne u c _ hd, rfl, pdGet_zero _, fun hp0 => ?_,
    fun k hk16 hk => ?_, ?_, fun d hd => ctxOf_modBcn_ne u c _ hd, rfl⟩
  · rw [sc, scGet_scPut_same rising hr]
  · rw [sc, scGet_scPut_ne _ hk]
  · rw [putSc, ctxOf_modBcn_same]
  · rw [pd, pdGet_pdPut hp0 hp0 hp, if_pos rfl]
  · rw [pd]
    by_cases hp0 : p = 0
    · rw [pdPut, if_pos hp0]
    · by_cases hk0 : k = 0
      · rw [hk0, pdGet_zero, pdGet_zero]
      · rw [pdGet_pdPut hp0 hk0 hk16, if_neg hk]
  · rw [putPd, ctxOf_modBcn_same]

/-! ### What the other scalar operations compute (Tables 5.7 and 5.8) -/

/-- A word of zeros has 64 leading zeros. -/
theorem clz_zero : clz 0 = 64 := rfl

/-- A word whose highest set bit is bit k has 63 - k leading zeros. -/
theorem clz_of_log {a : Word} {k : Nat} (low : 2 ^ k ≤ a.toNat) (high : a.toNat < 2 ^ (k + 1)) : clz a = word (63 - k) := by
  have pos : a.toNat ≠ 0 := Nat.ne_of_gt (Nat.lt_of_lt_of_le (Nat.two_pow_pos k) low)
  have zero : a ≠ 0 := fun h => pos (by rw [h]; rfl)
  have log : a.toNat.log2 = k := (Nat.log2_eq_iff pos).2 ⟨low, high⟩
  rw [clz, if_neg zero, log]
  congr 1
  omega

/-- A sum of distinct powers of two, one for each number that a condition admits, has the bits of the condition. -/
theorem testBit_sum_pow (on : Nat → Bool) (n l : Nat) :
    ((List.range n).map fun k => if on k = true then 2 ^ k else 0).sum < 2 ^ n ∧
    (((List.range n).map fun k => if on k = true then 2 ^ k else 0).sum).testBit l = (decide (l < n) && on l) := by
  induction n with
  | zero => simp
  | succ n ih =>
    obtain ⟨below, bits⟩ := ih
    rw [List.range_succ, List.map_append, List.sum_append, List.map_singleton, List.sum_singleton]
    cases hn : on n with
    | false =>
      simp only [Bool.false_eq_true, if_false, Nat.add_zero, bits]
      refine ⟨Nat.lt_trans below (Nat.pow_lt_pow_right (by decide) n.lt_succ_self), ?_⟩
      by_cases h : l = n
      · subst h; simp [hn]
      · simp only [show (l < n + 1) = (l < n) from propext ⟨fun _ => by omega, fun _ => by omega⟩]
    | true =>
      simp only [if_true]
      refine ⟨by rw [Nat.pow_succ]; omega, ?_⟩
      rw [Nat.add_comm]
      rcases Nat.lt_trichotomy l n with h | rfl | h
      · rw [Nat.testBit_two_pow_add_gt h, bits, decide_eq_true h, decide_eq_true (Nat.lt_succ_of_lt h)]
      · rw [Nat.testBit_two_pow_add_eq, Nat.testBit_lt_two_pow below, decide_eq_true l.lt_succ_self, hn]; rfl
      · rw [decide_eq_false (by omega), Bool.false_and]
        refine Nat.testBit_lt_two_pow (Nat.lt_of_lt_of_le ?_ (Nat.pow_le_pow_right (by decide) h))
        rw [Nat.pow_succ]
        omega

/-- The special value 16 names the open loops whose present iteration is active (Table 5.8). -/
theorem bitAt_mfsValue_loops (s : State) (c at_ : Nat) (lcs : Tab LoopCtr) (loops : List Nat) {l : Nat} (hl : l < 64) :
    bitAt (mfsValue s c at_ lcs loops 16) l =
      (decide (l < 8) && loops.contains l && (floodLoops s c || iterActive (lcOf lcs l))) := by
  obtain ⟨-, bits⟩ := testBit_sum_pow (fun l => loops.contains l && (floodLoops s c || iterActive (lcOf lcs l))) 8 l
  show (BitVec.ofNat 64 _).getLsbD l = _
  rw [BitVec.getLsbD_ofNat, bits, decide_eq_true hl, Bool.true_and, Bool.and_assoc]

/-- A field carried out leaves the special values, which are none of the word's. -/
theorem mfsValue_carried (s : State) (c n at_ : Nat) (lcs : Tab LoopCtr) (loops : List Nat) (k : Nat) :
    mfsValue (s.carried c n) c at_ lcs loops k = mfsValue s c at_ lcs loops k := by
  unfold mfsValue
  rw [show ctxOf (s.carried c n) c = { ctxOf s c with bcn := (ctxOf (s.carried c n) c).bcn } from by
    rw [State.carried, ctxOf_modBcn_same]]
  rfl

/-- Special value 2 is the context's variant where no verdict has fallen back (R171). -/
theorem mfsValue_variant {s : State} {c : Nat} (at_ : Nat) (lcs : Tab LoopCtr) (loops : List Nat)
    (none_ : (ctxOf s c).verdictFb = none) : mfsValue s c at_ lcs loops 2 = word (ctxOf s c).variant := by
  unfold mfsValue
  dsimp only
  rw [none_]
  rfl

/-- Special value 2 is 2 from 4 cycles after a verdict's fall-back on (R171). -/
theorem mfsValue_fallback {s : State} {c tv : Nat} (at_ : Nat) (lcs : Tab LoopCtr) (loops : List Nat)
    (fallback : (ctxOf s c).verdictFb = some tv) :
    mfsValue s c at_ lcs loops 2 = word (if tv + 2500 ≤ at_ then 2 else (ctxOf s c).variant) := by
  unfold mfsValue
  dsimp only
  rw [fallback]
  rfl

/-- The special values 8 to 15 are the indices of the loop counters (Table 5.8). -/
theorem mfsValue_index (s : State) (c at_ : Nat) (lcs : Tab LoopCtr) (loops : List Nat) {k : Nat} (low : 8 ≤ k) (high : k < 16) :
    mfsValue s c at_ lcs loops k = word (lcOf lcs (k - 8)).index := by
  interval_cases k <;> rfl

/-- Settles O28: each command is a scalar operation of its code, whose effect an active field in its turn takes. -/
theorem otherScalarOperationsWriteTheirResult : Obligations.OtherScalarOperationsWriteTheirResult := by
  intro s c f t i
  dsimp only
  intro on
  refine ⟨fun turn => ?nop, fun turn => ⟨fun zero => ?clzZero, fun k _ low high => ?clz⟩, fun turn => ?sel,
    fun turn => ?mfs, fun turn => ?movhi⟩
  case nop =>
    exact congrArg Host.Outcome.next (scalarCmd_of_active turn on _ _)
  case clzZero =>
    have e := scalarCmd_of_active turn on (fun i fd s => putSc s c fd.dst (clz (scGet i.sc fd.srca))) fun _ _ s => s
    rw [zero, clz_zero] at e
    exact congrArg Host.Outcome.next e
  case clz =>
    have e := scalarCmd_of_active turn on (fun i fd s => putSc s c fd.dst (clz (scGet i.sc fd.srca))) fun _ _ s => s
    rw [clz_of_log low high] at e
    exact congrArg Host.Outcome.next e
  case sel =>
    exact congrArg Host.Outcome.next (scalarCmd_of_active turn on _ _)
  case movhi =>
    exact congrArg Host.Outcome.next (scalarCmd_of_active turn on _ _)
  case mfs =>
    have e := scalarCmd_of_active turn on
      (fun i fd s => putSc s c fd.dst (mfsValue s c i.at_ i.lcs i.loops fd.srca)) fun _ _ s => s
    rw [mfsValue_carried] at e
    have value : exec (.mfs c f t) s = .next _ := congrArg Host.Outcome.next e
    rw [value]
    refine ⟨fun low other => ?_, fun two none_ => ?_, fun tv two fallback => ?_, fun sixteen => ?_, fun low high => ?_⟩
    · congr 2
      interval_cases ((tryIssue (s.at t) c).fieldOf c f).srca
      pick_goal 3
      · exact absurd rfl other
      all_goals rfl
    · rw [two, mfsValue_variant _ _ _ none_]
    · rw [two, mfsValue_fallback _ _ _ fallback]
    · exact ⟨_, rfl, fun l hl => by rw [sixteen]; exact bitAt_mfsValue_loops _ _ _ _ _ hl⟩
    · rw [mfsValue_index _ _ _ _ _ low high]

end Sys2Proof.Machine
end

section
/-! SUPPORT and PROOFS. The reads that clear (O9). -/

namespace Sys2Proof.Machine

/-- A command that reads a register with clearing fields is the read of that register, which has no complement to check and no
measured value. -/
theorem exec_clearRead {m : Instr} {q : Requester} {r : Reg} {d i t : Nat} (h : clearRead m = some (q, r, d, i, t)) (s : State) :
    exec m s = readNamed q r d i t s ∧ r.info.rc ≠ 0 ∧ r ≠ .pwrVid ∧ ∀ u, viewSound u r i = true := by
  unfold clearRead at h
  split at h <;> cases h <;> exact ⟨rfl, by decide, by decide, fun _ => rfl⟩

/-- A read that the requester may reach returns what the register answers. -/
theorem readNamed_of_reachable {q : Requester} {r : Reg} {d i t : Nat} {s : State} (inside : r.inRange d i)
    (reach : reachable (s.at t) q = true) : readNamed q r d i t s = .next (returnRead q (readRegister q r d i (s.at t))) := by
  obtain ⟨die, index⟩ := inside
  exact whenEnabled_of_true (by rw [reach, decide_eq_true die, decide_eq_true index]; rfl)

section
variable {u : State} {q : Requester} {r : Reg} {d i : Nat}

/-- A register in a fallow die's window reads 0 (R25). -/
theorem readRegister_of_fallow (out : fallow u (r.info.win.dies.1 + d) = true) : readRegister q r d i u = (0, u) := by
  rw [readRegister, if_pos out]

variable (service : fallow u (r.info.win.dies.1 + d) = false)
include service

/-- A register that the requester may not read reads 0, and the access is logged (R621). -/
theorem readRegister_of_refused (refused : mayReadReg u q r d i = false) :
    readRegister q r d i u = (0, logAccess u r.src 0x04 (regAddr r d i) (reqCode q)) := by
  rw [readRegister, service, refused]
  rfl

/-- A register that no complement guards and no measurement fills shows its fields, and its RC fields are cleared. -/
theorem readRegister_of_allowed (may : mayReadReg u q r d i = true) (sound : viewSound u r i = true) (plain : r ≠ .pwrVid) :
    readRegister q r d i u = (viewReg u q r d i, clearOnRead u r d i) := by
  rw [readRegister, service, may, sound, Bool.not_true, if_neg Bool.false_ne_true, if_neg Bool.false_ne_true, if_neg Bool.false_ne_true,
    if_neg plain]

end

/-- SQL_STAT shows 0 in LOCKED (R787). -/
theorem viewReg_sqlStat_of_locked {u : State} (locked : squallOpen u = false) (q : Requester) (d i : Nat) :
    viewReg u q .sqlStat d i = 0 := by
  rw [viewReg, computed, locked, if_neg Bool.false_ne_true]
  exact BitVec.zero_and

/-- The RC fields of a register are cleared by its read, and nothing else changes (Table 0.2). -/
theorem clearOnRead_spec {u : State} (form : u.regsOk) {r : Reg} {d i : Nat} (clears : r.info.rc ≠ 0)
    (shown : r = .sqlStat → squallOpen u = true) :
    rgetX (clearOnRead u r d i) r d i = rgetX u r d i &&& ~~~r.info.rc ∧ u.otherRegs (clearOnRead u r d i) r d i ∧
    clearOnRead u r d i = { u with regs := (clearOnRead u r d i).regs } := by
  have open_ : ¬(r = .sqlStat ∧ squallOpen u = false) := fun ⟨h, locked⟩ => by simp [shown h] at locked
  rw [clearOnRead, if_neg (not_or.2 ⟨clears, open_⟩)]
  exact ⟨rgetX_rputX_same form r d i _, fun r' d' i' other => rgetX_rputX_ne u other _, rfl⟩

/-- SQL_STAT keeps in LOCKED what it holds (R787). -/
theorem clearOnRead_sqlStat_of_locked {u : State} (locked : squallOpen u = false) (d i : Nat) : clearOnRead u .sqlStat d i = u := by
  rw [clearOnRead, if_pos (.inr ⟨rfl, locked⟩)]

/-- The data of a read leaves, and nothing but registers and outputs changes where the read changed registers alone. -/
theorem returnRead_frame {u w : State} (q : Requester) (v : Word) (frame : w = { u with regs := w.regs }) :
    (returnRead q (v, w)).out = Out.readData q v :: u.out ∧
    returnRead q (v, w) = { u with regs := (returnRead q (v, w)).regs, out := (returnRead q (v, w)).out } := by
  generalize w.regs = m at frame
  subst frame
  exact ⟨rfl, rfl⟩

/-- Settles O9: each command is the read of its register, whose answer turns on the window, the requester and the debug state. -/
theorem clearingReadsReturnThenClear : Obligations.ClearingReadsReturnThenClear := by
  intro s c q r d i t
  dsimp only
  intro reads inside form reach
  obtain ⟨command, clears, plain, sound⟩ := exec_clearRead reads s
  rw [Answers, command, readNamed_of_reachable inside reach]
  refine ⟨fun service may shown => ⟨_, rfl, ?_⟩, fun service may stat locked => ?_, fun out => ?_, fun service refused => ?_⟩
  · rw [readRegister_of_allowed service may (sound _) plain]
    obtain ⟨value, others, frame⟩ := clearOnRead_spec (u := s.at t) (d := d) (i := i) form clears shown
    obtain ⟨data, rest⟩ := returnRead_frame q (viewReg (s.at t) q r d i) frame
    exact ⟨data, value, others, rest⟩
  · subst stat
    rw [readRegister_of_allowed service may (sound _) plain, viewReg_sqlStat_of_locked locked, clearOnRead_sqlStat_of_locked locked]
    rfl
  · rw [readRegister_of_fallow out]
    rfl
  · rw [readRegister_of_refused service refused]
    exact congrArg (fun l => Host.Outcome.next { logAccess (s.at t) r.src 0x04 (regAddr r d i) (reqCode q) with out := Out.readData q 0 :: l })
      (congrArg State.out (logAccess_frame ..))

end Sys2Proof.Machine
end

section
/-! SUPPORT and PROOFS. The step doorbell (O20). -/

namespace Sys2Proof.Machine

/-- The event that answers a step request (Table 16.6): its result and its cause. -/
def answerRequest (fn : Nat) (r : StepReq) (result cause : Nat) (w : State) : State :=
  postEvent w fn (eventBytes w 0x01 r.urgent.toNat r.step r.tag result cause 0 0 false 0 0) 2

/-- The doorbell of a stall whose host is there is rung. -/
theorem exec_stepDb {s : State} {fn t : Nat} (hfn : fn < 8) (up : (s.at t).host.up = true) (out : (s.at t).pwr.inReset = false)
    (bytes : List Byte) : exec (.stepDb fn bytes t) s = .next (stepDoorbell (s.at t) fn bytes) := by
  refine (whenEnabled_of_true ?_ : execStepDb fn bytes t s = _)
  simp only [decide_eq_true hfn, reachable, up, out, Bool.not_false, Bool.and_self]

section
variable {u : State} {fn : Nat} {bytes : List Byte}

/-- A write of another length, or without bus mastering, is dropped and counted (R628, R643). -/
theorem stepDoorbell_of_dropped (bad : bytes.length ≠ 64 ∨ (fnOf u fn).bme = false) :
    stepDoorbell u fn bytes = rbump u .hifFnStat 63 48 fn := by
  rw [stepDoorbell, if_pos bad]

variable (long : bytes.length = 64) (bus : (fnOf u fn).bme = true)
include long bus

/-- A request with a cause of Table 16.7 is counted as refused, and its cause posted (R630). -/
theorem stepDoorbell_of_refused {cause : Nat} (refused : refusal u fn bytes = cause) (some_ : cause ≠ 0) :
    stepDoorbell u fn bytes = answerRequest fn (reqOf bytes) 2 cause (rbump u .hifFnStat 31 16 fn) := by
  subst refused
  rw [stepDoorbell, if_neg (by simp [long, bus])]
  dsimp only
  rw [if_pos some_, if_neg some_]
  rfl

/-- A request without a cause waits: an urgent one in its own place, any other at the end of the queue (R629). -/
theorem stepDoorbell_of_taken (free : refusal u fn bytes = 0) :
    stepDoorbell u fn bytes = answerRequest fn (reqOf bytes) 1 0
      (if (reqOf bytes).urgent = true then modStall u fn fun x => { x with urgentReq := some (reqOf bytes) }
        else modStall u fn fun x => { x with queue := x.queue ++ [reqOf bytes] }) := by
  rw [stepDoorbell, if_neg (by simp [long, bus]), free]
  rfl

end

/-- Settles O20: each case of the statement is one line of Table 16.7, in the order of the table. -/
theorem stepDoorbellQueuesOrRefuses : Obligations.StepDoorbellQueuesOrRefuses := by
  intro s fn bytes t
  dsimp only
  intro hfn up out
  rw [exec_stepDb hfn up out]
  generalize s.at t = u
  refine ⟨fun bad => by rw [stepDoorbell_of_dropped bad], fun long bus => ?_⟩
  have refused : ∀ cause, refusal u fn bytes = cause → cause ≠ 0 → _ := fun cause h => stepDoorbell_of_refused long bus h
  have taken := stepDoorbell_of_taken long bus
  refine ⟨fun malformed => ?_, fun form closed => ?_, fun form inForce isSealed => ⟨fun fold => ?_, fun fold urgent waits => ?_,
    fun fold normal full => ?_, fun fold urgent none_ => ?_, fun fold normal room => ?_⟩⟩
  · rw [refused 0x01 (by simp [refusal, malformed]) (by decide)]; rfl
  · rw [refused 0x02 (by rcases closed with h | h <;> simp [refusal, form, h]) (by decide)]; rfl
  · rw [refused 0x03 (by simp [refusal, form, inForce, isSealed, fold]) (by decide)]; rfl
  · rw [refused 0x04 (by simp [refusal, form, inForce, isSealed, fold, urgent, waits]) (by decide)]; rfl
  · rw [refused 0x04 (by simp [refusal, form, inForce, isSealed, fold, normal, full]) (by decide)]; rfl
  · rw [taken (by simp [refusal, form, inForce, isSealed, fold, urgent, none_]), if_pos urgent]; rfl
  · rw [taken (by simp [refusal, form, inForce, isSealed, fold, normal, Nat.not_le.2 room]), normal, if_neg Bool.false_ne_true]
    simp only [answerRequest, normal]

end Sys2Proof.Machine
end

section
/-! SUPPORT. What every operation keeps: the queue, the order of time, and the form of memory, registers and log. -/

namespace Sys2Proof.Machine

/-- What a state that operations have led to keeps of the one they began with: the commands that wait, a moment that is not
earlier, and the form of memory, registers and log. -/
structure Keeps (o s : State) : Prop where
  pending : s.pending = o.pending
  now : o.now ≤ s.now
  form : o.canon → s.canon

namespace Keeps

variable {o s : State}

/-- A state keeps what it has. -/
theorem refl (s : State) : Keeps s s := ⟨rfl, Nat.le_refl _, id⟩

/-- What two operations keep one after the other. -/
theorem trans {s s' s'' : State} (h : Keeps s s') (k : Keeps s' s'') : Keeps s s'' :=
  ⟨k.pending.trans h.pending, Nat.le_trans h.now k.now, k.form ∘ h.form⟩

/-- Only the moment, the queue, the registers, the memory and the log are looked at. -/
theorem update {free clk tide plan img ctxs stalls pub cmt cmds tiles sigs nextId nextUid tallies parks bank seqs
    opened heldKill bufs grReqs grWrites grDefer grLast host out pwr notices epochs upsets ports bw fuse sec health lfsr}
    (h : Keeps o s) : Keeps o (State.mk s.now free s.pending s.regs s.mem s.log clk tide plan img ctxs stalls pub cmt cmds tiles sigs
      nextId nextUid tallies parks bank seqs opened heldKill bufs grReqs grWrites grDefer grLast host out pwr notices epochs upsets
      ports bw fuse sec health lfsr) :=
  ⟨h.pending, h.now, fun c => canon_mk.2 (h.form c)⟩

/-- What one state keeps, for every use of that state in the next. -/
theorem share {a b : State} (h : Keeps o a) (k : Keeps o a → Keeps o b) : Keeps o b := k h

/-- A state beside another result. -/
theorem fst {α : Type} {x : α} (h : Keeps o s) : Keeps o (s, x).1 := h

/-- Both branches of a choice keep it. -/
theorem ite {p : Prop} [Decidable p] {a b : State} (h : Keeps o a) (k : Keeps o b) : Keeps o (if p then a else b) := by
  split
  · exact h
  · exact k

/-- Both branches of a choice keep it, beside another result. -/
theorem iteSnd {α : Type} {p : Prop} [Decidable p] {a b : α × State} (h : Keeps o a.2) (k : Keeps o b.2) :
    Keeps o (if p then a else b).2 := by
  split
  · exact h
  · exact k

/-- Both branches of a choice keep it, before another result. -/
theorem iteFst {α : Type} {p : Prop} [Decidable p] {a b : State × α} (h : Keeps o a.1) (k : Keeps o b.1) :
    Keeps o (if p then a else b).1 := by
  split
  · exact h
  · exact k

/-- The state of a pair whose parts are named. -/
theorem of_pair {α : Type} {p : α × State} {a : α} (h : Keeps o p.2) (e : p = (a, s)) : Keeps o s := by
  subst e
  exact h

/-- A fold of operations that each keep it. -/
theorem foldl {α : Type} {f : State → α → State} {l : List α} (h : Keeps o s) (step : ∀ s x, Keeps o s → Keeps o (f s x)) :
    Keeps o (l.foldl f s) := by
  induction l generalizing s with
  | nil => exact h
  | cons a l ih => exact ih (step _ _ h)

/-- A fold of operations that each keep it, beside another result. -/
theorem foldlSnd {α β : Type} {f : β × State → α → β × State} {l : List α} {p : β × State} (h : Keeps o p.2)
    (step : ∀ p x, Keeps o p.2 → Keeps o (f p x).2) : Keeps o (l.foldl f p).2 := by
  induction l generalizing p with
  | nil => exact h
  | cons a l ih => exact ih (step _ _ h)

/-- The moment of a command, which does not go back. -/
theorem moment (s : State) (t : Nat) : Keeps s (s.at t) := ⟨rfl, Nat.le_max_left _ _, fun c => canon_mk.2 c⟩

end Keeps

/-! ### The operations that write memory, registers or log -/

section
variable {o s : State}

/-- A register written. -/
theorem Keeps.rputX {r : Reg} {d i : Nat} {v : Word} (h : Keeps o s) : Keeps o (Machine.rputX s r d i v) :=
  ⟨h.pending, h.now, fun c => canon_rputX (h.form c) r d i v⟩

/-- Registers returned to their reset values. -/
theorem Keeps.rclear {rs : List Reg} (h : Keeps o s) : Keeps o (Machine.rclear s rs) :=
  ⟨h.pending, h.now, fun c => canon_rclear (h.form c) rs⟩

/-- Registers of which a part is kept. -/
theorem Keeps.keepRegs {rs : List Reg} (h : Keeps o s) : Keeps o (Machine.keepRegs s rs) :=
  ⟨h.pending, h.now, fun c => canon_keepRegs (h.form c) rs⟩

/-- An entry written. -/
theorem Keeps.logRaw {c : Option Nat} {cls : Nat} {src : Src} {code d0 d1 : Nat} (h : Keeps o s) :
    Keeps o (Machine.logRaw s c cls src code d0 d1) :=
  ⟨h.pending, h.now, fun k => canon_logRaw (h.form k) c cls src code d0 d1⟩

/-- Counts of the log that name no entries. -/
theorem Keeps.logCounts {access units free clk tide plan img ctxs stalls pub cmt cmds tiles sigs nextId nextUid tallies parks bank seqs
    opened heldKill bufs grReqs grWrites grDefer grLast host out pwr notices epochs upsets ports bw fuse sec health lfsr}
    (h : Keeps o s) : Keeps o (State.mk s.now free s.pending s.regs s.mem { s.log with access := access, units := units } clk tide
      plan img ctxs stalls pub cmt cmds tiles sigs nextId nextUid tallies parks bank seqs opened heldKill bufs grReqs grWrites grDefer
      grLast host out pwr notices epochs upsets ports bw fuse sec health lfsr) :=
  ⟨h.pending, h.now, fun k => canon_log (h.form k) rfl rfl rfl rfl rfl rfl⟩

/-- Another memory in its form. -/
theorem Keeps.memory {m free clk tide plan img ctxs stalls pub cmt cmds tiles sigs nextId nextUid tallies parks bank seqs
    opened heldKill bufs grReqs grWrites grDefer grLast host out pwr notices epochs upsets ports bw fuse sec health lfsr}
    (h : Keeps o s) (form : s.memOk → Memory.wf m = true) : Keeps o (State.mk s.now free s.pending s.regs m s.log clk tide
      plan img ctxs stalls pub cmt cmds tiles sigs nextId nextUid tallies parks bank seqs opened heldKill bufs grReqs grWrites grDefer
      grLast host out pwr notices epochs upsets ports bw fuse sec health lfsr) :=
  ⟨h.pending, h.now, fun k => canon_mem (h.form k) (form (h.form k).1) rfl rfl⟩

/-- No memory. -/
theorem Keeps.noMemory {free clk tide plan img ctxs stalls pub cmt cmds tiles sigs nextId nextUid tallies parks bank seqs
    opened heldKill bufs grReqs grWrites grDefer grLast host out pwr notices epochs upsets ports bw fuse sec health lfsr}
    (h : Keeps o s) : Keeps o (State.mk s.now free s.pending s.regs State.reset.mem s.log clk tide
      plan img ctxs stalls pub cmt cmds tiles sigs nextId nextUid tallies parks bank seqs opened heldKill bufs grReqs grWrites grDefer
      grLast host out pwr notices epochs upsets ports bw fuse sec health lfsr) :=
  h.memory fun _ => canon_State_reset.1

/-- No memory and an empty log. -/
theorem Keeps.noMemoryNoLog {free clk tide plan img ctxs stalls pub cmt cmds tiles sigs nextId nextUid tallies parks bank seqs
    opened heldKill bufs grReqs grWrites grDefer grLast host out pwr notices epochs upsets ports bw fuse sec health lfsr}
    (h : Keeps o s) : Keeps o (State.mk s.now free s.pending s.regs State.reset.mem State.reset.log clk tide
      plan img ctxs stalls pub cmt cmds tiles sigs nextId nextUid tallies parks bank seqs opened heldKill bufs grReqs grWrites grDefer
      grLast host out pwr notices epochs upsets ports bw fuse sec health lfsr) :=
  ⟨h.pending, h.now, fun k => ⟨canon_State_reset.1, (h.form k).2.1, canon_State_reset.2.2⟩⟩

end

end Sys2Proof.Machine
end

section
/-! SUPPORT. What the operations of Ops keep (`Keeps`). -/

namespace Sys2Proof.Machine

theorem Keeps.rput {o s : State} {r : Reg} {v : Word} {i : Nat} (ok : Keeps o s) : Keeps o (Machine.rput s r v i) := ok.rputX

theorem Keeps.rmod {o s : State} {r : Reg} {f : Word → Word} {d i : Nat} (ok : Keeps o s) : Keeps o (Machine.rmod s r f d i) := ok.rputX

theorem Keeps.rsetField {o s : State} {r : Reg} {hi lo v i d : Nat} (ok : Keeps o s) :
    Keeps o (Machine.rsetField s r hi lo v i d) := ok.rmod

theorem Keeps.rbump {o s : State} {r : Reg} {hi lo i n d : Nat} (ok : Keeps o s) : Keeps o (Machine.rbump s r hi lo i n d) := ok.rmod

theorem Keeps.setCtx {o s : State} {c : Nat} {x : Ctx} (ok : Keeps o s) : Keeps o (Machine.setCtx s c x) := ok.update

theorem Keeps.modCtx {o s : State} {c : Nat} {f : Ctx → Ctx} (ok : Keeps o s) : Keeps o (Machine.modCtx s c f) := ok.setCtx

theorem Keeps.modBcn {o s : State} {c : Nat} {f : Bcn → Bcn} (ok : Keeps o s) : Keeps o (Machine.modBcn s c f) := ok.modCtx

theorem Keeps.modStall {o s : State} {n : Nat} {f : Stall → Stall} (ok : Keeps o s) : Keeps o (Machine.modStall s n f) := ok.update

theorem Keeps.setPub {o s : State} {n j : Nat} {p : PubSlot} (ok : Keeps o s) : Keeps o (Machine.setPub s n j p) := ok.update

theorem Keeps.setCmt {o s : State} {n i : Nat} {w mask : Word} (ok : Keeps o s) : Keeps o (Machine.setCmt s n i w mask) := ok.update

theorem Keeps.modFn {o s : State} {f : Nat} {g : Fn → Fn} (ok : Keeps o s) : Keeps o (Machine.modFn s f g) := ok.update

theorem Keeps.logSuppress {o s : State} (ok : Keeps o s) : Keeps o (Machine.logSuppress s) := ok.rbump

/-- An access error, which counts toward its requester's entries. -/
theorem Keeps.logAccess {o s : State} {src : Src} {code addr who : Nat} (ok : Keeps o s) :
    Keeps o (Machine.logAccess s src code addr who) := ite ok.logSuppress ok.logRaw.logCounts

theorem Keeps.logNote {o s : State} {src : Src} {d0 : Nat} {c : Option Nat} (ok : Keeps o s) :
    Keeps o (Machine.logNote s src d0 c) := ok.logRaw

/-- A correction, which counts its unit. -/
theorem Keeps.logCorrected {o s : State} {unit row d0 die : Nat} (ok : Keeps o s) :
    Keeps o (Machine.logCorrected s unit row d0 die) := ite ok.logSuppress ok.logRaw.logCounts

theorem Keeps.hostEnqueue {o s : State} {x : HostTlp} (ok : Keeps o s) : Keeps o (Machine.hostEnqueue s x) := ok.update

theorem Keeps.signalVec {o s : State} {fn vec : Nat} (ok : Keeps o s) :
    Keeps o (Machine.signalVec s fn vec) := ite ok.modFn (ite ok.modFn.hostEnqueue ok.modFn)

theorem Keeps.hostSendOne {o s : State} (ok : Keeps o s) : Keeps o (Machine.hostSendOne s) := by
  unfold Machine.hostSendOne
  dsimp only
  refine ite ?_ ?_
  · exact ok
  · split
    · exact ok
    · split
      · split
        · exact ok.update
        · exact ok.update.modStall
      · refine .signalVec ?_
        split
        · exact ok.update
        · exact ok.update.modStall

theorem Keeps.hostFlush {o s : State} (ok : Keeps o s) : Keeps o (Machine.hostFlush s) := ok.foldl (fun _ _ ok => ok.hostSendOne)

theorem Keeps.ringWrite {o s : State} {fn : Nat} {rec : List Byte} {vec : Nat} {census : Option Nat} (ok : Keeps o s) :
    Keeps o (Machine.ringWrite s fn rec vec census) := ok.rsetField.hostEnqueue

theorem Keeps.ringOverflow {o s : State} {fn : Nat} (ok : Keeps o s) : Keeps o (Machine.ringOverflow s fn) := ite ok ok.modFn.ringWrite

theorem Keeps.postEvent {o s : State} {fn : Nat} {rec : List Byte} {vec : Nat} {census : Option Nat} (ok : Keeps o s) :
    Keeps o (Machine.postEvent s fn rec vec census) := ite ok (ite ok.ringOverflow.rbump.modFn ok.ringOverflow.ringWrite.hostFlush)

theorem Keeps.postPf {o s : State} {type result data vec : Nat} (ok : Keeps o s) :
    Keeps o (Machine.postPf s type result data vec) := ok.postEvent

theorem Keeps.postOutcome {o s : State} {c : Nat} {req : StepReq} {attempt variant status cause : Nat} (ok : Keeps o s) :
    Keeps o (Machine.postOutcome s c req attempt variant status cause) := ok.postEvent

theorem Keeps.injectOnWrite {o s : State} {a len : Nat} (ok : Keeps o s) :
    Keeps o (Machine.injectOnWrite s a len) := ite ok.update.rsetField.update ok.update

/-- Bytes written. -/
theorem Keeps.writeMem {o s : State} {a : Nat} {bs : List Byte} (ok : Keeps o s) : Keeps o (Machine.writeMem s a bs) :=
  ite ok (ok.injectOnWrite.memory fun form => memPuts_wf form a bs)

theorem Keeps.squall {o s : State} (ok : Keeps o s) : Keeps o (Machine.squall s).2 := ok.update

end Sys2Proof.Machine
end

section
/-! SUPPORT. What the operations of StepOps keep (`Keeps`). -/

namespace Sys2Proof.Machine

theorem Keeps.freeBuf {o s : State} {k : Nat} (ok : Keeps o s) : Keeps o (Machine.freeBuf s k) := ite ok.update ok

theorem Keeps.freeHandle {o s : State} {h : Nat} (ok : Keeps o s) : Keeps o (Machine.freeHandle s h) := ite ok ok.freeBuf

theorem Keeps.freeHeldBy {o s : State} {uid : Nat} (ok : Keeps o s) :
    Keeps o (Machine.freeHeldBy s uid) := ite ok (ok.foldl (fun _ _ ok => ite ok.freeBuf ok))

theorem Keeps.unstage {o s : State} {n uid j : Nat} (ok : Keeps o s) :
    Keeps o (Machine.unstage s n uid j) := ite (ite ok.setPub ok) ok.setPub

theorem Keeps.releaseAttempt {o s : State} {c : Nat} (ok : Keeps o s) :
    Keeps o (Machine.releaseAttempt s c) := ((ite ok (ok.foldl (fun _ _ ok => ok.unstage))).modCtx).freeHeldBy

theorem Keeps.writeOutcome {o s : State} {c status cause : Nat} (ok : Keeps o s) :
    Keeps o (Machine.writeOutcome s c status cause) := ite ok ok.setCmt

theorem Keeps.dropWork {o s : State} {uid : Nat} (ok : Keeps o s) : Keeps o (Machine.dropWork s uid) := ite ok ok.update

theorem Keeps.landStores {o s : State} {c : Nat} (ok : Keeps o s) : Keeps o (Machine.landStores s c) := by
  unfold Machine.landStores
  exact (ok.foldl (fun _ _ ok => ite ok.writeMem ok)).modBcn

theorem Keeps.sendNotice {o s : State} {c next cause : Nat} (ok : Keeps o s) :
    Keeps o (Machine.sendNotice s c next cause) := ite ok ok.update

theorem Keeps.stopAttempt {o s : State} {c : Nat} {cause : Option Nat} {next : Option NextAttempt} (ok : Keeps o s) :
    Keeps o (Machine.stopAttempt s c cause next) := by
  unfold Machine.stopAttempt
  exact ok.dropWork.landStores.modCtx

theorem Keeps.stepFail {o s : State} {src : Src} {c cause addr : Nat} (ok : Keeps o s) :
    Keeps o (Machine.stepFail s src c cause addr) := ite ok ((ite ok.logRaw.writeOutcome.sendNotice ok.logRaw.writeOutcome).stopAttempt)

theorem Keeps.lockStep {o s : State} {c : Nat} (ok : Keeps o s) : Keeps o (Machine.lockStep s c) := ite ok ok.writeOutcome.stopAttempt

theorem Keeps.killFor {o s : State} {c : Nat} {next : NextAttempt} (ok : Keeps o s) : Keeps o (Machine.killFor s c next) := ok.stopAttempt

theorem Keeps.foldContext {o s : State} {cause : FoldCause} {c : Nat} (ok : Keeps o s) : Keeps o (Machine.foldContext s cause c) := by
  unfold Machine.foldContext
  dsimp only
  refine .setCtx ?_
  refine .releaseAttempt ?_
  refine .dropWork ?_
  refine ite ?_ ?_
  · split
    · exact ok.sendNotice.update
    · exact ok.logRaw.writeOutcome.postOutcome
    · exact ok.logRaw.writeOutcome.postOutcome
  · split
    · exact ok.postOutcome
    · exact ok

theorem Keeps.setPhase {o s : State} {p : Nat} (ok : Keeps o s) : Keeps o (Machine.setPhase s p) := ok.rsetField

theorem Keeps.showImage {o s : State} {r : Reject} (ok : Keeps o s) : Keeps o (Machine.showImage s r) := ok.rput

theorem Keeps.reportImage {o s : State} {r : Reject} (ok : Keeps o s) :
    Keeps o (Machine.reportImage s r) := (ite ok.showImage ok.showImage.logRaw).postPf

theorem Keeps.backToWaiting {o s : State} (ok : Keeps o s) : Keeps o (Machine.backToWaiting s) := ite ok.setPhase ok

theorem Keeps.rejectImage {o s : State} {r : Reject} (ok : Keeps o s) : Keeps o (Machine.rejectImage s r) := ok.reportImage.backToWaiting

theorem Keeps.discardImages {o s : State} {waiting : Bool} (ok : Keeps o s) :
    Keeps o (Machine.discardImages s waiting) := ite ok.update.rejectImage ok.update

theorem Keeps.triggerFold {o s : State} {cause : FoldCause} (ok : Keeps o s) :
    Keeps o (Machine.triggerFold s cause) :=
  ite ok (((((ok.foldl (fun _ _ ok => ok.foldContext)).discardImages).setPhase).rsetField).update)

theorem Keeps.lossEffects {o s : State} {src : Src} {code seq : Nat} (ok : Keeps o s) :
    Keeps o (Machine.lossEffects s src code seq) :=
  ok.rbump.rsetField.rsetField.rsetField.postPf.share fun shown => ite (ite shown.update shown) shown.triggerFold

theorem Keeps.chipLoss {o s : State} {src : Src} {code d0 d1 : Nat} (ok : Keeps o s) :
    Keeps o (Machine.chipLoss s src code d0 d1) := ok.logRaw.lossEffects

theorem Keeps.lossUnlisted {o s : State} {src : Src} {d0 : Nat} (ok : Keeps o s) :
    Keeps o (Machine.lossUnlisted s src d0) := ok.logNote.lossEffects

theorem Keeps.violation {o s : State} {src : Src} {addr : Nat} (ok : Keeps o s) : Keeps o (Machine.violation s src addr) := ok.chipLoss

theorem Keeps.mismatch {o s : State} {src : Src} {addr : Nat} (ok : Keeps o s) : Keeps o (Machine.mismatch s src addr) := ok.chipLoss

theorem Keeps.countCorrection {o s : State} {a : Nat} (ok : Keeps o s) :
    Keeps o (Machine.countCorrection s a) := (ite ok.rbump ok.rbump).logCorrected

theorem Keeps.countUncorrected {o s : State} {src : Src} {a : Nat} (ok : Keeps o s) :
    Keeps o (Machine.countUncorrected s src a) := (ite ok.rbump ok).chipLoss

theorem Keeps.withBytes {o s : State} {src : Src} {a len : Nat} {k : List Byte → State → State} (ok : Keeps o s)
    (keeps_k : ∀ x v, Keeps o v → Keeps o (k x v)) :
    Keeps o (Machine.withBytes s src a len k) := by
  unfold Machine.withBytes
  dsimp only
  split
  · exact ok.countUncorrected
  · exact keeps_k _ _ (ok.foldl (fun _ _ ok => ok.countCorrection))

theorem Keeps.withRead {o s : State} {src : Src} {c a len : Nat} {k : List Byte → State → State} (ok : Keeps o s)
    (keeps_k : ∀ x v, Keeps o v → Keeps o (k x v)) :
    Keeps o (Machine.withRead s src c a len k) := ite (ok.withBytes (fun _ _ ok => keeps_k _ _ ok)) ok.violation

theorem Keeps.engineWrite {o s : State} {src : Src} {c a : Nat} {bs : List Byte} (ok : Keeps o s) :
    Keeps o (Machine.engineWrite s src c a bs) := ite ok (ite ok.writeMem ok.violation)

end Sys2Proof.Machine
end

section
/-! SUPPORT. What the operations of Access keep (`Keeps`). -/

namespace Sys2Proof.Machine

theorem Keeps.guardedWrite {o s : State} {q : Requester} {r : Reg} {d i : Nat} {v : Word} {check : State → Bool} {act : State → State}
    (ok : Keeps o s) (keeps_act : ∀ v, Keeps o v → Keeps o (act v)) :
    Keeps o (Machine.guardedWrite s q r d i v check act) :=
  ite ok.logAccess (ite ok.logAccess (ite ok.logAccess (ite ((ite ok ok.logAccess).logAccess) (keeps_act _ ((ite ok ok.logAccess).update)))))

theorem Keeps.storeReg {o s : State} {r : Reg} {d i : Nat} {v : Word} (ok : Keeps o s) : Keeps o (Machine.storeReg r d i v s) := ok.rmod

end Sys2Proof.Machine
end

section
/-! SUPPORT. What the operations of Clock keep (`Keeps`). -/

namespace Sys2Proof.Machine

theorem Keeps.writeClkCd {o s : State} {q : Requester} {v : Word} (ok : Keeps o s) :
    Keeps o (Machine.writeClkCd q v s) := ok.guardedWrite (fun _ ok => ok.storeReg)

theorem Keeps.writeClkMd {o s : State} {q : Requester} {v : Word} (ok : Keeps o s) :
    Keeps o (Machine.writeClkMd q v s) := ok.guardedWrite (fun _ ok => ok.storeReg)

theorem Keeps.settleVid {o s : State} (ok : Keeps o s) : Keeps o (Machine.settleVid s) := ok.foldl (fun _ _ ok => ok.rsetField.rsetField)

theorem Keeps.cancelChange {o s : State} (ok : Keeps o s) : Keeps o (Machine.cancelChange s) := ite ok.update.settleVid ok.update

theorem Keeps.clockLoss {o s : State} {row : Nat} (ok : Keeps o s) : Keeps o (Machine.clockLoss s row) := ok.cancelChange.chipLoss

theorem Keeps.tellBreakwater {o s : State} {bits : Nat} (ok : Keeps o s) : Keeps o (Machine.tellBreakwater s bits) := ok.update

theorem Keeps.refFail {o s : State} (ok : Keeps o s) : Keeps o (Machine.refFail s) := ok.rmod.rmod.update.clockLoss

theorem Keeps.lnkFail {o s : State} (ok : Keeps o s) : Keeps o (Machine.lnkFail s) := ok.rmod.rmod.update.cancelChange.tellBreakwater

theorem Keeps.safeFail {o s : State} (ok : Keeps o s) : Keeps o (Machine.safeFail s) := ok.rmod.rmod.update.tellBreakwater

end Sys2Proof.Machine
end

section
/-! SUPPORT. What the operations of Tide keep (`Keeps`). -/

namespace Sys2Proof.Machine

theorem Keeps.writeTidPeriod {o s : State} {q : Requester} {v : Word} (ok : Keeps o s) :
    Keeps o (Machine.writeTidPeriod q v s) := ok.guardedWrite (fun _ ok => ok.storeReg)

theorem Keeps.writeTidBayStart {o s : State} {q : Requester} {b : Nat} {v : Word} (ok : Keeps o s) :
    Keeps o (Machine.writeTidBayStart q b v s) := ok.guardedWrite (fun _ ok => ok.storeReg)

theorem Keeps.writeTidBayCfg {o s : State} {q : Requester} {v : Word} (ok : Keeps o s) :
    Keeps o (Machine.writeTidBayCfg q v s) := ok.guardedWrite (fun _ ok => ok.storeReg)

theorem Keeps.writeTidBayOwn {o s : State} {q : Requester} {b : Nat} {high : Bool} {v : Word} (ok : Keeps o s) :
    Keeps o (Machine.writeTidBayOwn q b high v s) :=
  ite (ok.guardedWrite (fun _ ok => ok.storeReg)) (ok.guardedWrite (fun _ ok => ok.storeReg))

theorem Keeps.writeTidRefPlan {o s : State} {q : Requester} {v : Word} (ok : Keeps o s) :
    Keeps o (Machine.writeTidRefPlan q v s) := ok.guardedWrite (fun _ ok => ok.storeReg)

theorem Keeps.sampleFields {o s : State} (ok : Keeps o s) : Keeps o (Machine.sampleFields s) := (ite ok.logRaw ok).update

theorem Keeps.switchMultipliers {o s : State} (ok : Keeps o s) : Keeps o (Machine.switchMultipliers s) := ite ok ok.rput.rput

/-- A tick, at which the counts of the log start again (R779). -/
theorem Keeps.tickCore {o s : State} {tk : Nat} {fly first : Bool} (ok : Keeps o s) : Keeps o (Machine.tickCore s tk fly first) := by
  unfold Machine.tickCore
  exact (ite ok ok.switchMultipliers).rput.rput.logCounts

theorem Keeps.tideInEdge {o s : State} (ok : Keeps o s) : Keeps o (Machine.tideInEdge s) := by
  unfold Machine.tideInEdge
  dsimp only
  refine ite ?_ ?_
  · split
    · exact ite ok.update ok
    · exact ok
  · exact ite ok (ite (ite ok.update ok) (ite ok.rbump (ite ok.update ok)))

theorem Keeps.deadlineKill {o s : State} {c : Nat} (ok : Keeps o s) :
    Keeps o (Machine.deadlineKill s c) := ite ok.stepFail ok.sendNotice.killFor

end Sys2Proof.Machine
end

section
/-! SUPPORT. What the operations of Engine keep (`Keeps`). -/

namespace Sys2Proof.Machine

theorem Keeps.setTally {o s : State} {i : Nat} {v : Tally} (ok : Keeps o s) : Keeps o (Machine.setTally s i v) := ok.update

theorem Keeps.talErr {o s : State} {cause step i : Nat} (ok : Keeps o s) : Keeps o (Machine.talErr s cause step i) := ite ok ok.rput

theorem Keeps.tallyAdd {o s : State} {c i amount : Nat} {unfixed : Bool} (ok : Keeps o s) :
    Keeps o (Machine.tallyAdd s c i amount unfixed) := ite ok.mismatch (ite ok.setTally ok.setTally.talErr.stepFail)

theorem Keeps.tallyReset {o s : State} {i : Nat} (ok : Keeps o s) : Keeps o (Machine.tallyReset s i) := ite ok.setTally ok.mismatch

theorem Keeps.clearHalf {o s : State} {c : Nat} (ok : Keeps o s) : Keeps o (Machine.clearHalf s c) := ok.update

theorem Keeps.modCmd {o s : State} {id : Nat} {f : Cmd → Cmd} (ok : Keeps o s) : Keeps o (Machine.modCmd s id f) := ok.update

theorem Keeps.finishCmd {o s : State} {id at_ : Nat} (ok : Keeps o s) : Keeps o (Machine.finishCmd s id at_) := ok.modCmd

theorem Keeps.startCmd {o s : State} {id left : Nat} (ok : Keeps o s) : Keeps o (Machine.startCmd s id left) := ok.modCmd

theorem Keeps.markUnfixed {o s : State} {id : Nat} (ok : Keeps o s) : Keeps o (Machine.markUnfixed s id) := ok.modCmd

theorem Keeps.cmdPart {o s : State} {id : Nat} (ok : Keeps o s) : Keeps o (Machine.cmdPart s id) := ok.modCmd

theorem Keeps.takeCmd {o s : State} {src : Src} {c cls inst op size : Nat} {valid : Nat → Bool} {k : Cmd → List Byte → State → State}
    (ok : Keeps o s) (keeps_k : ∀ x x2 v, Keeps o v → Keeps o (k x x2 v)) :
    Keeps o (Machine.takeCmd s src c cls inst op size valid k) := by
  unfold Machine.takeCmd
  split
  · exact ok
  · exact ite ok (ite ok.violation (ite (ok.withBytes (fun _ _ ok => keeps_k _ _ _ ok)) (ite ok ok.violation)))

theorem Keeps.completeCmd {o s : State} {id : Nat} (ok : Keeps o s) : Keeps o (Machine.completeCmd s id) := by
  unfold Machine.completeCmd
  dsimp only
  split
  · exact ok
  · exact ite ((ite ok.update.modCtx ok.update).tallyAdd) (ite ok.update.modCtx ok.update)

theorem Keeps.talEffect {o s : State} {c : Nat} {m : Cmd} {b : List Byte} (ok : Keeps o s) : Keeps o (Machine.talEffect c m b s) := by
  unfold Machine.talEffect
  dsimp only
  refine ite ?_ ?_
  · exact ok.violation
  · split
    · exact ok.finishCmd.tallyAdd
    · exact ite ok.finishCmd ok.finishCmd.tallyReset
    · exact ite ok.finishCmd.mismatch (ite ok.finishCmd ok.finishCmd.engineWrite)
    · exact ok.finishCmd

theorem Keeps.setPark {o s : State} {c : Nat} {p : Park} (ok : Keeps o s) : Keeps o (Machine.setPark s c p) := ok.update

theorem Keeps.talStale {o s : State} {n k : Nat} (ok : Keeps o s) : Keeps o (Machine.talStale s n k) := ok.rbump

theorem Keeps.parkAdd {o s : State} {c : Nat} {a : Parked} (ok : Keeps o s) :
    Keeps o (Machine.parkAdd s c a) := ite ok.setPark ok.rbump.setPark

theorem Keeps.remoteAddArrive {o s : State} {b : List Byte} (ok : Keeps o s) : Keeps o (Machine.remoteAddArrive s b) := by
  unfold Machine.remoteAddArrive
  dsimp only
  refine ite ?_ ?_
  · exact ok.mismatch
  · refine ite ?_ ?_
    · exact ok.rbump
    · split
      · exact ok.talStale
      · exact ok.parkAdd
      · exact ok.tallyAdd

theorem Keeps.applyPark {o s : State} {c : Nat} (ok : Keeps o s) :
    Keeps o (Machine.applyPark s c) :=
  ite ok.setPark.talStale.setPark.talStale.talErr.stepFail (ok.setPark.talStale.foldl (fun _ _ ok => ok.tallyAdd))

theorem Keeps.emptyParks {o s : State} (ok : Keeps o s) : Keeps o (Machine.emptyParks s) := (ok.foldl (fun _ _ ok => ok.talStale)).update

end Sys2Proof.Machine
end

section
/-! SUPPORT. What the operations of Beacon keep (`Keeps`). -/

namespace Sys2Proof.Machine

theorem Keeps.recordExc {o s : State} {c code field : Nat} (ok : Keeps o s) : Keeps o (Machine.recordExc s c code field) := ite ok ok.rput

theorem Keeps.haltBc8 {o s : State} (ok : Keeps o s) : Keeps o (Machine.haltBc8 s) := ok.rmod

theorem Keeps.raiseExc {o s : State} {c code field : Nat} (ok : Keeps o s) :
    Keeps o (Machine.raiseExc s c code field) := ite ok.recordExc.logNote.haltBc8 ok.recordExc.chipLoss

theorem Keeps.countHold {o s : State} {c : Nat} (ok : Keeps o s) : Keeps o (Machine.countHold s c) := by
  unfold Machine.countHold
  dsimp only
  split
  · exact ok
  · exact ite ok ok.rbump.modStall

theorem Keeps.tryIssue {o s : State} {c : Nat} (ok : Keeps o s) : Keeps o (Machine.tryIssue s c) := by
  unfold Machine.tryIssue
  dsimp only
  refine ite ?_ ?_
  · exact ok
  · split
    · exact ok.talErr.stepFail
    · split
      · exact ok.raiseExc
      · split
        · exact ok.violation
        · exact ok.countHold.modBcn
    · exact ite ok ok.countHold.modBcn

theorem Keeps.doField {o s : State} {c field : Nat} {want : LongWord → Bool} {eff : Issue → State → State} (ok : Keeps o s)
    (keeps_eff : ∀ x v, Keeps o v → Keeps o (eff x v)) :
    Keeps o (Machine.doField s c field want eff) := by
  unfold Machine.doField
  dsimp only
  refine ite ?_ ?_
  · exact ok
  · split
    · exact ok.tryIssue
    · exact ite ok.tryIssue (keeps_eff _ _ ok.tryIssue.modBcn)

theorem Keeps.scalarCmd {o s : State} {sop c : Nat} {f : Fld} {eff off : Issue → SField → State → State} (ok : Keeps o s)
    (keeps_eff : ∀ x x2 v, Keeps o v → Keeps o (eff x x2 v)) (keeps_off : ∀ x x2 v, Keeps o v → Keeps o (off x x2 v)) :
    Keeps o (Machine.scalarCmd sop c f eff off s) := ok.doField (fun _ _ ok => ite (keeps_eff _ _ _ ok) (keeps_off _ _ _ ok))

theorem Keeps.putSc {o s : State} {c r : Nat} {v : Word} (ok : Keeps o s) : Keeps o (Machine.putSc s c r v) := ok.modBcn

theorem Keeps.putPd {o s : State} {c p : Nat} {v : Bool} (ok : Keeps o s) : Keeps o (Machine.putPd s c p v) := ok.modBcn

theorem Keeps.aluCmd {o s : State} {sop c : Nat} {f : Fld} (ok : Keeps o s) :
    Keeps o (Machine.aluCmd sop c f s) := ok.scalarCmd (fun _ _ _ ok => ok.putSc) (fun _ _ _ ok => ok)

theorem Keeps.mulCmd {o s : State} {sop c : Nat} {f : Fld} (ok : Keeps o s) :
    Keeps o (Machine.mulCmd sop c f s) := ok.scalarCmd (fun _ _ _ ok => ok.modBcn) (fun _ _ _ ok => ok)

theorem Keeps.cmpCmd {o s : State} {sop c : Nat} {f : Fld} (ok : Keeps o s) :
    Keeps o (Machine.cmpCmd sop c f s) := ok.scalarCmd (fun _ _ _ ok => ok.putPd) (fun _ _ _ ok => ok)

theorem Keeps.pdCmd {o s : State} {sop c : Nat} {f : Fld} (ok : Keeps o s) :
    Keeps o (Machine.pdCmd sop c f s) := ok.scalarCmd (fun _ _ _ ok => ok.putPd) (fun _ _ _ ok => ok)

theorem Keeps.ldCmd {o s : State} {c : Nat} {f : Fld} (ok : Keeps o s) : Keeps o (Machine.ldCmd c f s) := by
  unfold Machine.ldCmd
  dsimp only
  refine ok.scalarCmd (fun _ _ _ ok => ?_) (fun _ _ _ ok => ite ok ok.modBcn)
  split
  · exact ok.stepFail
  · exact ok.modBcn

theorem Keeps.stCmd {o s : State} {c : Nat} {f : Fld} (ok : Keeps o s) : Keeps o (Machine.stCmd c f s) := by
  unfold Machine.stCmd
  dsimp only
  refine ok.scalarCmd (fun _ _ _ ok => ?_) (fun _ _ _ ok => ok)
  split
  · exact ok.stepFail
  · exact ok.modBcn

theorem Keeps.mulReady {o s : State} {c : Nat} (ok : Keeps o s) : Keeps o (Machine.mulReady s c) := by
  unfold Machine.mulReady
  split
  · exact ok
  · exact ok.modBcn.putSc

theorem Keeps.ldUsable {o s : State} {rd : State → Nat → Word × State} {c : Nat} (ok : Keeps o s)
    (keeps_rd : ∀ v x, Keeps o v → Keeps o (rd v x).2) :
    Keeps o (Machine.ldUsable rd s c) := by
  unfold Machine.ldUsable
  dsimp only
  split
  · exact ok
  · exact ite ((keeps_rd _ _ ok.modBcn).putSc) ok.modBcn

theorem Keeps.stLand {o s : State} {wr : State → Nat → Word → State} {c : Nat} (ok : Keeps o s)
    (keeps_wr : ∀ v x x2, Keeps o v → Keeps o (wr v x x2)) :
    Keeps o (Machine.stLand wr s c) := by
  unfold Machine.stLand
  split
  · exact ok
  · exact ite (keeps_wr _ _ _ ok.modBcn) ok

theorem Keeps.issueSignal {o s : State} {c at_ tal add : Nat} (ok : Keeps o s) :
    Keeps o (Machine.issueSignal s c at_ tal add) := ite ok ok.update

theorem Keeps.postCmd {o s : State} {c at_ : Nat} {f : SlotF} {addr : Nat} {null : Bool} (ok : Keeps o s) :
    Keeps o (Machine.postCmd s c at_ f addr null) := ok.update

theorem Keeps.slotEffect {o s : State} {c k : Nat} {i : Issue} (ok : Keeps o s) :
    Keeps o (Machine.slotEffect c k i s) :=
  ite ok.issueSignal (ite ok.issueSignal (ite ok.logAccess.issueSignal (ite ok.postCmd.issueSignal ok.postCmd)))

theorem Keeps.slotCmd {o s : State} {c k : Nat} (ok : Keeps o s) :
    Keeps o (Machine.slotCmd c k s) := ok.doField (fun _ _ ok => ok.slotEffect)

end Sys2Proof.Machine
end

section
/-! SUPPORT. What the operations of Steps keep (`Keeps`). -/

namespace Sys2Proof.Machine

theorem Keeps.issueHeld {o s : State} {c : Nat} {drain : Option (Nat × Nat)} {h : Held} (ok : Keeps o s) :
    Keeps o (Machine.issueHeld s c drain h) := by
  unfold Machine.issueHeld
  split
  · exact ok.postEvent
  · exact ok.withBytes (fun _ _ ok => ok.foldl (fun _ _ ok => ok.hostEnqueue))

theorem Keeps.flipSlots {o s : State} {c : Nat} (ok : Keeps o s) :
    Keeps o (Machine.flipSlots s c) :=
  ok.foldl (fun _ _ ok => ite (ite ok.setPub ok.setPub.update) ((ite ok.setPub ok.setPub.update).update))

theorem Keeps.kvCommit {o s : State} {n j : Nat} (ok : Keeps o s) :
    Keeps o (Machine.kvCommit s n j) := ite ok ((ok.foldl (fun _ _ ok => ok.update)).foldl (fun _ _ ok => ok.freeHandle))

theorem Keeps.streamCommit {o s : State} {n j : Nat} (ok : Keeps o s) :
    Keeps o (Machine.streamCommit s n j) := (ok.foldl (fun _ _ ok => ok.update)).foldl (fun _ _ ok => ok.freeHandle)

theorem Keeps.commitPoint {o s : State} {c : Nat} (ok : Keeps o s) :
    Keeps o (Machine.commitPoint s c) :=
  (ite ok.modCtx.rput ok.modCtx).share fun begun =>
    ite (((((begun.setCmt).foldl (fun _ _ ok => ok.unstage)).modCtx).freeHeldBy).update).postOutcome
      (((((begun.setCmt).flipSlots).foldl (fun _ _ ok => ok.kvCommit.streamCommit)).freeHeldBy).postOutcome.share fun posted =>
        (((((ite posted posted.modStall)).foldl (fun _ _ ok => ok.issueHeld)).update).modCtx).hostFlush)

theorem Keeps.endAttempt {o s : State} {c : Nat} (ok : Keeps o s) :
    Keeps o (Machine.endAttempt s c) := ok.dropWork.landStores.freeHeldBy.setCtx

theorem Keeps.transferDrained {o s : State} {n : Nat} (ok : Keeps o s) : Keeps o (Machine.transferDrained s n) := by
  unfold Machine.transferDrained
  dsimp only
  split
  · exact ok
  · exact (((ite ok.setCmt ok).modStall).update).postEvent

theorem Keeps.endByNotice {o s : State} {c cause : Nat} (ok : Keeps o s) : Keeps o (Machine.endByNotice s c cause) := ok.modCtx.stepFail

theorem Keeps.noticeKill {o s : State} {c next cause : Nat} (ok : Keeps o s) : Keeps o (Machine.noticeKill s c next cause) := by
  unfold Machine.noticeKill
  split
  · exact ok.endByNotice
  · exact ite ok.killFor ok.endByNotice
  · exact ok.killFor
  · exact ok.stopAttempt.modCtx

theorem Keeps.noticeHeld {o s : State} {c next cause : Nat} (ok : Keeps o s) : Keeps o (Machine.noticeHeld s c next cause) := by
  unfold Machine.noticeHeld
  dsimp only
  split
  · exact ok.endByNotice
  · exact ite ok.modCtx ok.endByNotice
  · exact ok.modCtx
  · exact ok

theorem Keeps.applyHeldKill {o s : State} {c : Nat} (ok : Keeps o s) : Keeps o (Machine.applyHeldKill s c) := by
  unfold Machine.applyHeldKill
  split
  · exact ok
  · exact ite ok.update.noticeKill ok

theorem Keeps.noticeArrive {o s : State} {c : Nat} {b : List Byte} (ok : Keeps o s) : Keeps o (Machine.noticeArrive s c b) := by
  unfold Machine.noticeArrive
  dsimp only
  refine ite ?_ ?_
  · exact ok.noticeKill
  · refine ite ?_ ?_
    · exact ok.noticeHeld
    · refine ite ?_ ?_
      · split
        · exact ite ok ok.update
        · exact ok.update
      · exact ok

theorem Keeps.startAttempt {o s : State} {c : Nat} {nx : NextAttempt} (ok : Keeps o s) :
    Keeps o (Machine.startAttempt s c nx) :=
  (ite ok.update.setCtx.rmod ok.update.setCtx).share fun monitored =>
    ((ite monitored.update monitored).clearHalf).applyPark.share fun parked =>
      (ite parked.applyHeldKill parked).share fun begun =>
        ite begun (ite begun.violation (begun.withBytes (fun _ _ ok => ok.modBcn)))

theorem Keeps.startNext {o s : State} {c : Nat} (ok : Keeps o s) : Keeps o (Machine.startNext s c) := by
  unfold Machine.startNext
  split
  · exact ok
  · exact ite ok.stepFail ok.startAttempt

theorem Keeps.stepDoorbell {o s : State} {fn : Nat} {bytes : List Byte} (ok : Keeps o s) :
    Keeps o (Machine.stepDoorbell s fn bytes) := ite ok.rbump ((ite ok.rbump (ite ok.modStall ok.modStall)).postEvent)

theorem Keeps.failAtStart {o s : State} {c : Nat} {r : StepReq} {cause : Nat} (ok : Keeps o s) :
    Keeps o (Machine.failAtStart s c r cause) := (ite ok.logRaw ok.logRaw.setCmt).postOutcome

theorem Keeps.preempt {o s : State} {n : Nat} (ok : Keeps o s) : Keeps o (Machine.preempt s n).1 := by
  unfold Machine.preempt
  refine iteFst ok ?_
  split
  · exact iteFst ok.endAttempt.fst ok.sendNotice.killFor.modCtx.fst
  · split
    · exact ok.sendNotice.modCtx.fst
    · exact ok
  · split
    · exact ok.sendNotice.modCtx.fst
    · exact ok
  · exact ok

theorem Keeps.startStep {o s : State} {c : Nat} {r : StepReq} (ok : Keeps o s) :
    Keeps o (Machine.startStep s c r) :=
  ite ((ite ok ok.modStall).failAtStart) ((iteFst ((ite ok ok.modStall).preempt) (ite ok ok.modStall)).setCtx)

theorem Keeps.killDone {o s : State} {c : Nat} (ok : Keeps o s) : Keeps o (Machine.killDone s c) := by
  unfold Machine.killDone
  dsimp only
  split
  · exact ok.releaseAttempt.clearHalf.postOutcome.setCtx
  · exact ok.releaseAttempt.clearHalf.modCtx

theorem Keeps.killMask {o s : State} {q : Requester} {mask urgent : Nat} (ok : Keeps o s) :
    Keeps o (Machine.killMask q mask urgent s) := ok.foldl (fun _ _ ok => ite ok.stepFail ok)

theorem Keeps.retire {o s : State} {c : Nat} {loops : List Nat} {lcs : Tab LoopCtr} {next delay : Nat} (ok : Keeps o s) :
    Keeps o (Machine.retire s c loops lcs next delay) := ok.modBcn

theorem Keeps.controlCmd {o s : State} {cop c : Nat} {eff : Issue → CField → State → State × Option (Nat × Nat)} (ok : Keeps o s)
    (keeps_eff : ∀ x x2 v, Keeps o v → Keeps o (eff x x2 v).1) :
    Keeps o (Machine.controlCmd cop c eff s) := by
  unfold Machine.controlCmd
  dsimp only
  refine ite ?_ ?_
  · exact ok
  · split
    · exact ok.tryIssue
    · refine ite ?_ ?_
      · exact ok.tryIssue
      · split
        · exact ite ok.tryIssue (ite ((keeps_eff _ _ _ ok.tryIssue).retire) (keeps_eff _ _ _ ok.tryIssue))
        · refine ite ?_ ?_
          · exact iteFst (keeps_eff _ _ _ ok.tryIssue) ok.tryIssue
          · split
            · exact (iteFst (keeps_eff _ _ _ ok.tryIssue) ok.tryIssue).retire
            · exact (iteFst (keeps_eff _ _ _ ok.tryIssue) ok.tryIssue).retire

theorem Keeps.loopCmd {o s : State} {c : Nat} (ok : Keeps o s) : Keeps o (Machine.loopCmd c s) := by
  unfold Machine.loopCmd
  dsimp only
  refine ite ?_ ?_
  · exact ok
  · split
    · exact ok.tryIssue
    · exact ite ok.tryIssue (ite ok.tryIssue.stepFail (ite ok.tryIssue.retire ok.tryIssue.retire))

theorem Keeps.backEdgeCmd {o s : State} {c : Nat} (ok : Keeps o s) : Keeps o (Machine.backEdgeCmd c s) := by
  unfold Machine.backEdgeCmd
  dsimp only
  split
  · exact ok.tryIssue
  · split
    · exact ok.tryIssue
    · exact ite ok.tryIssue ok.tryIssue.retire

end Sys2Proof.Machine
end

section
/-! SUPPORT. What the operations of Granary keep (`Keeps`). -/

namespace Sys2Proof.Machine

theorem Keeps.withHandle {o s : State} {src : Src} {n hb off len : Nat} {k : Nat → State → State} (ok : Keeps o s)
    (keeps_k : ∀ x v, Keeps o v → Keeps o (k x v)) :
    Keeps o (Machine.withHandle s src n hb off len k) := by
  unfold Machine.withHandle
  dsimp only
  split
  · exact ok.mismatch
  · exact ok.violation
  · exact keeps_k _ _ ok

theorem Keeps.takeBuf {o s : State} {key r k c uid : Nat} (ok : Keeps o s) :
    Keeps o (Machine.takeBuf s key r k c uid) := ite ok.update.rmod ok.update

/-- A buffer taken along a chain of reserves (R249). -/
theorem Keeps.allocBuf {o s s' : State} {r c uid fuel k key : Nat} (ok : Keeps o s)
    (e : Machine.allocBuf s r c uid fuel k = some (key, s')) : Keeps o s' := by
  induction fuel generalizing k with
  | zero => cases e
  | succ fuel ih =>
    unfold Machine.allocBuf at e
    dsimp only at e
    split at e
    · cases e
      exact ok.takeBuf
    · split at e
      · exact ih e
      · cases e

theorem Keeps.allocFail {o s : State} {c r k cause : Nat} (ok : Keeps o s) : Keeps o (Machine.allocFail s c r k cause) := ok.rmod.stepFail

/-- A page taken from an arena (R249). -/
theorem Keeps.allocPage {o s s' : State} {n arena c uid key : Nat} (ok : Keeps o s)
    (e : Machine.allocPage s n arena c uid = some (key, s')) : Keeps o s' := by
  unfold Machine.allocPage at e
  dsimp only at e
  split at e
  · cases e
    exact ok.takeBuf
  · cases e

theorem Keeps.grnTake {o s : State} {c : Nat} {m : Cmd} {b : List Byte} (ok : Keeps o s) :
    Keeps o (Machine.grnTake c m b s) := ite ok.violation ok.update.startCmd

theorem Keeps.grnCmd {o s : State} {op c : Nat} (ok : Keeps o s) :
    Keeps o (Machine.grnCmd op c s) := ok.takeCmd (fun _ _ _ ok => ok.grnTake)

theorem Keeps.grnResult {o s : State} {q : GrReq} {off : Nat} {bytes : List Byte} (ok : Keeps o s) :
    Keeps o (Machine.grnResult s q off bytes) := ite ok ok.update

theorem Keeps.grnDone {o s : State} {q : GrReq} (ok : Keeps o s) : Keeps o (Machine.grnDone s q) := ok.update.finishCmd

theorem Keeps.serveStage {o s : State} {q : GrReq} (ok : Keeps o s) : Keeps o (Machine.serveStage s q) := by
  unfold Machine.serveStage
  dsimp only
  refine ite ?_ ?_
  · exact ok.stepFail
  · refine ite ?_ ?_
    · exact ok.grnResult.grnDone
    · split
      · exact ok.allocFail
      · refine .grnDone ?_
        refine .grnResult ?_
        refine .modCtx ?_
        refine .setPub ?_
        refine .freeHandle ?_
        rename_i heq
        exact ok.allocBuf heq

theorem Keeps.serveKvStage {o s : State} {q : GrReq} (ok : Keeps o s) : Keeps o (Machine.serveKvStage s q) := by
  unfold Machine.serveKvStage
  dsimp only
  refine ite ?_ ?_
  · exact ite ok.grnResult.grnDone ok.stepFail
  · refine ite ?_ ?_
    · exact ite ok.stepFail ok.writeMem.modCtx.grnResult.grnDone
    · split
      · exact ok.allocFail
      · refine ite ?_ ?_
        · exact ok.stepFail
        · refine .grnDone ?_
          refine .grnResult ?_
          refine .modCtx ?_
          refine .setPub ?_
          refine .writeMem ?_
          refine .freeHandle ?_
          refine .freeHandle ?_
          rename_i heq
          exact ok.allocBuf heq

/-- Pages taken for a key/value table (R260). -/
theorem Keeps.kvAddPages {o s s' : State} {c uid n table row : Nat} {h : KvHead} {pages : List (Nat × Nat)} (ok : Keeps o s)
    (e : Machine.kvAddPages s c uid n table h row pages = some s') : Keeps o s' := by
  induction pages generalizing s with
  | nil => cases e; exact ok
  | cons page pages ih =>
    unfold Machine.kvAddPages at e
    split at e
    · cases e
    · rename_i taken
      exact ih (ok.allocPage taken).writeMem e

theorem Keeps.serveKvCount {o s : State} {q : GrReq} {trim : Bool} (ok : Keeps o s) : Keeps o (Machine.serveKvCount s q trim) := by
  unfold Machine.serveKvCount
  dsimp only
  refine ite ?_ ?_
  · exact ok.stepFail
  · refine ite ?_ ?_
    · exact ok.violation
    · refine ite ?_ ?_
      · exact ok.mismatch
      · refine ite ?_ ?_
        · exact ok.stepFail
        · refine ite ?_ ?_
          · exact ok.writeMem.grnResult.grnDone
          · split
            · exact ok.allocFail
            · refine .grnDone ?_
              refine .grnResult ?_
              refine .writeMem ?_
              rename_i heq
              exact ok.kvAddPages heq

theorem Keeps.serveLast {o s : State} {q : GrReq} (ok : Keeps o s) : Keeps o (Machine.serveLast s q) := by
  unfold Machine.serveLast
  dsimp only
  refine ite ?_ ?_
  · exact ok.grnDone
  · split
    · split
      · exact ok.mismatch
      · exact ok.violation
      · exact ite ok.violation ok.freeHandle.grnDone
    · exact ok.serveStage
    · exact ok.withHandle (fun _ _ ok => ok.grnResult.grnDone)
    · exact ok.serveKvStage
    · exact ok.serveKvCount
    · exact ok.serveKvCount

theorem Keeps.serveOne {o s : State} {q : GrReq} (ok : Keeps o s) : Keeps o (Machine.serveOne s q) := by
  unfold Machine.serveOne
  dsimp only
  refine ite ?_ ?_
  · exact ok.logAccess.grnDone
  · refine ite ?_ ?_
    · split
      · exact ok.allocFail
      · refine ite ?_ ?_
        · refine .grnDone ?_
          refine .grnResult ?_
          rename_i heq
          exact ok.allocBuf heq
        · refine update ?_
          refine .grnResult ?_
          rename_i heq
          exact ok.allocBuf heq
    · exact ite ok.update ok.serveLast

theorem Keeps.flushGrWrites {o s : State} (ok : Keeps o s) :
    Keeps o (Machine.flushGrWrites s) := (ok.foldl (fun _ _ ok => ok.writeMem)).update

theorem Keeps.grnDeferral {o s : State} {n : Nat} {q : GrReq} (ok : Keeps o s) : Keeps o (Machine.grnDeferral s n q).2 := by
  unfold Machine.grnDeferral
  dsimp only
  refine iteSnd ?_ ?_
  · split
    · exact ok
    · exact ok.squall.rbump.update
  · exact ok

theorem Keeps.serveSlot {o s : State} {n : Nat} (ok : Keeps o s) : Keeps o (Machine.serveSlot s n) := by
  unfold Machine.serveSlot
  dsimp only
  split
  · exact ok
  · exact ite ok.grnDeferral.update.flushGrWrites.serveOne ok.grnDeferral.update.flushGrWrites.update

theorem Keeps.restartPeaks {o s : State} (ok : Keeps o s) :
    Keeps o (Machine.restartPeaks s) := ok.rclear.foldl (fun _ _ ok => ite ok ok.rput)

theorem Keeps.grnRebuild {o s : State} (ok : Keeps o s) : Keeps o (Machine.grnRebuild s) := ok.update.restartPeaks

theorem Keeps.grnRevise {o s : State} {n : Nat} (ok : Keeps o s) :
    Keeps o (Machine.grnRevise s n) := ok.foldl (fun _ _ ok => ite ok ((ok.foldl (fun _ _ ok => ok.freeBuf)).setPub))

end Sys2Proof.Machine
end

section
/-! SUPPORT. What the operations of Links keep (`Keeps`). -/

namespace Sys2Proof.Machine

theorem Keeps.setPort {o s : State} {p : Nat} {x : Port} (ok : Keeps o s) : Keeps o (Machine.setPort s p x) := ok.update

theorem Keeps.modPort {o s : State} {p : Nat} {f : Port → Port} (ok : Keeps o s) : Keeps o (Machine.modPort s p f) := ok.setPort

theorem Keeps.modBwPort {o s : State} {p : Nat} {f : BwPort → BwPort} (ok : Keeps o s) : Keeps o (Machine.modBwPort s p f) := ok.update

theorem Keeps.dklBump {o s : State} {p hi lo : Nat} (ok : Keeps o s) : Keeps o (Machine.dklBump s p hi lo) := ok.rbump

theorem Keeps.draw {o s : State} (ok : Keeps o s) : Keeps o (Machine.draw s).2 := ok.update

theorem Keeps.freshSession {o s : State} {p : Nat} (ok : Keeps o s) : Keeps o (Machine.freshSession s p) := by
  unfold Machine.freshSession
  exact ((iteSnd ok.draw ok).draw).modPort

theorem Keeps.failOwners {o s : State} {src : Src} {cause : Nat} {l : List (Nat × Nat)} (ok : Keeps o s) :
    Keeps o (Machine.failOwners s src cause l) := ok.foldl (fun _ _ ok => ite ok.stepFail ok)

theorem Keeps.topologyEvent {o s : State} (ok : Keeps o s) : Keeps o (Machine.topologyEvent s) := ok.postPf

theorem Keeps.failPort {o s : State} {p cause : Nat} (ok : Keeps o s) :
    Keeps o (Machine.failPort s p cause) := ite ok ok.modPort.failOwners.rmod.topologyEvent

theorem Keeps.sessionLost {o s : State} {p : Nat} (ok : Keeps o s) : Keeps o (Machine.sessionLost s p) := ok.failOwners.freshSession

theorem Keeps.pauseAck {o s : State} {p : Nat} (ok : Keeps o s) : Keeps o (Machine.pauseAck s p) := ok.modPort

theorem Keeps.resumeAck {o s : State} {p : Nat} (ok : Keeps o s) : Keeps o (Machine.resumeAck s p) := ok.modPort

theorem Keeps.enterTrain {o s : State} {p : Nat} (ok : Keeps o s) : Keeps o (Machine.enterTrain s p) := ok.pauseAck.modPort

theorem Keeps.enterProbe {o s : State} {p : Nat} (ok : Keeps o s) : Keeps o (Machine.enterProbe s p) := ok.pauseAck.modPort

theorem Keeps.startRetrain {o s : State} {p : Nat} (ok : Keeps o s) :
    Keeps o (Machine.startRetrain s p) := ite ok.pauseAck.dklBump.modPort.failPort ok.pauseAck.dklBump.modPort

theorem Keeps.trainFailed {o s : State} {p : Nat} (ok : Keeps o s) :
    Keeps o (Machine.trainFailed s p) := ite ok.modPort.failPort ok.modPort.enterTrain

theorem Keeps.startReplay {o s : State} {p : Nat} (ok : Keeps o s) :
    Keeps o (Machine.startReplay s p) := ite ok (ite ok.startRetrain ok.dklBump.modPort)

theorem Keeps.resumeReplay {o s : State} {p : Nat} (ok : Keeps o s) : Keeps o (Machine.resumeReplay s p) := ok.modPort.startReplay.modPort

theorem Keeps.ackTo {o s : State} {p next : Nat} (ok : Keeps o s) :
    Keeps o (Machine.ackTo s p next) := ite ok (ok.modPort.foldl (fun _ _ ok => ok.foldl (fun _ _ ok => ok.cmdPart)))

theorem Keeps.receiveAck {o s : State} {p a : Nat} (ok : Keeps o s) : Keeps o (Machine.receiveAck s p a) := ite ok.ackTo ok

theorem Keeps.receiveNak {o s : State} {p a : Nat} (ok : Keeps o s) : Keeps o (Machine.receiveNak s p a) := ite ok ok.startReplay

theorem Keeps.putFlit {o s : State} {p : Nat} {h : FlitHead} {payload : List Byte} (ok : Keeps o s) :
    Keeps o (Machine.putFlit s p h payload) := ((ite ok.rsetField ok).modPort).update

theorem Keeps.enterHold {o s : State} {p cause : Nat} (ok : Keeps o s) :
    Keeps o (Machine.enterHold s p cause) := ok.modPort.rmod.logNote.topologyEvent

theorem Keeps.enterUp {o s : State} {p : Nat} (ok : Keeps o s) : Keeps o (Machine.enterUp s p) := ite ok.modPort ok.modPort.draw.modBwPort

theorem Keeps.resumeSession {o s : State} {p : Nat} {r : List Byte} (ok : Keeps o s) :
    Keeps o (Machine.resumeSession s p r) := ite ok.failPort ok.ackTo.enterUp.resumeReplay

theorem Keeps.identEnd {o s : State} {p : Nat} {r : List Byte} (ok : Keeps o s) :
    Keeps o (Machine.identEnd s p r) :=
  ite (ite ok.failPort (ite ok.enterHold ok.modPort.enterUp)) (ite ok.failPort (ite ok.resumeSession ok.sessionLost.modPort))

theorem Keeps.receiveCtrl {o s : State} {p : Nat} {r : List Byte} (ok : Keeps o s) :
    Keeps o (Machine.receiveCtrl s p r) := ite ok.modPort (ite (ite ok.modPort.identEnd ok.modPort) ok)

theorem Keeps.vc0Check {o s : State} {p : Nat} {b : List Byte} {k : State → State} (ok : Keeps o s)
    (keeps_k : ∀ v, Keeps o v → Keeps o (k v)) :
    Keeps o (Machine.vc0Check s p b k) := ite ok.mismatch (ite ok.failPort (keeps_k _ ok))

theorem Keeps.freeCredits {o s : State} {p vc : Nat} (ok : Keeps o s) : Keeps o (Machine.freeCredits s p vc) := by
  unfold Machine.freeCredits
  exact (iteSnd (ok.foldlSnd (fun _ _ ok => ok.squall.rbump)) ok).modPort

theorem Keeps.linkDelay {o s : State} {p vc : Nat} {b : List Byte} (ok : Keeps o s) :
    Keeps o (Machine.linkDelay s p vc b).2 := iteSnd ok.squall.rbump ok

/-- The units of a virtual channel's bytes that are complete (R517). -/
theorem Keeps.takeUnits {o s : State} {p vc fuel : Nat} (ok : Keeps o s) : Keeps o (Machine.takeUnits p vc fuel s) := by
  induction fuel generalizing s with
  | zero => exact ok
  | succ fuel ih =>
    unfold Machine.takeUnits
    dsimp only
    split
    · exact ok
    · refine ite ok (ite (ok.vc0Check ?_) ?_)
      · exact fun v ok => ite ok.linkDelay.failPort (ite (ite ok.linkDelay.failPort (ih ok.linkDelay.modPort)) (ih ok.linkDelay.modPort))
      · exact ite ok.linkDelay.failPort (ite (ite ok.linkDelay.failPort (ih ok.linkDelay.modPort)) (ih ok.linkDelay.modPort))

theorem Keeps.streamBytes {o s : State} {p vc : Nat} {bytes : List Byte} (ok : Keeps o s) :
    Keeps o (Machine.streamBytes s p vc bytes) := ok.modPort.takeUnits.freeCredits

theorem Keeps.dropUnit {o s : State} {p vc : Nat} (ok : Keeps o s) : Keeps o (Machine.dropUnit s p vc) := ok.modPort.freeCredits

theorem Keeps.discardFlit {o s : State} {p : Nat} (ok : Keeps o s) : Keeps o (Machine.discardFlit s p) := ok.modPort

theorem Keeps.headerEffects {o s : State} {p : Nat} {h : FlitHead} (ok : Keeps o s) :
    Keeps o (Machine.headerEffects s p h) := ite ok.receiveAck.modPort.receiveNak ok.receiveAck.modPort

theorem Keeps.receiveData {o s : State} {p : Nat} {h : FlitHead} {payload : List Byte} (ok : Keeps o s) :
    Keeps o (Machine.receiveData s p h payload) := by
  unfold Machine.receiveData
  dsimp only
  refine ite ?_ ?_
  · split
    · exact ite ok.dklBump.discardFlit.modPort.failPort ok.dklBump.discardFlit.modPort
    · exact ok.modPort.streamBytes
  · exact ite ok.discardFlit (ite ok.failPort ok)

theorem Keeps.receiveFlit {o s : State} {kinds : List Nat} {p : Nat} {b : List Byte} {eff : FlitHead → List Byte → State → State}
    (ok : Keeps o s) (keeps_eff : ∀ x x2 v, Keeps o v → Keeps o (eff x x2 v)) :
    Keeps o (Machine.receiveFlit kinds p b eff s) :=
  ite ok.dklBump.discardFlit (ite ok (ite ok.failPort (keeps_eff _ _ _ ok.modPort.headerEffects)))

theorem Keeps.sendUnit {o s : State} {p vc : Nat} {u : TxUnit} (ok : Keeps o s) : Keeps o (Machine.sendUnit s p vc u) := ok.modPort

theorem Keeps.sendMessage {o s : State} {c type pos : Nat} {body : List Byte} {cmd : Nat} (ok : Keeps o s) :
    Keeps o (Machine.sendMessage s c type pos body cmd) := by
  unfold Machine.sendMessage
  split
  · exact ok.stepFail
  · exact ok.sendUnit

theorem Keeps.flushNotices {o s : State} (ok : Keeps o s) : Keeps o (Machine.flushNotices s) := by
  unfold Machine.flushNotices
  dsimp only
  refine update ?_
  refine ok.foldl (fun _ _ ok => ?_)
  refine ok.foldl (fun _ _ ok => ?_)
  split
  · exact ok
  · exact ok.sendUnit

theorem Keeps.sendReplay {o s : State} {p r : Nat} (ok : Keeps o s) : Keeps o (Machine.sendReplay s p r) := by
  unfold Machine.sendReplay
  dsimp only
  split
  · exact ok.modPort
  · exact ok.putFlit.modPort

theorem Keeps.sendData {o s : State} {p vc rot : Nat} (ok : Keeps o s) : Keeps o (Machine.sendData s p vc rot) := by
  unfold Machine.sendData
  exact ok.putFlit.modPort

theorem Keeps.flitTx {o s : State} {p : Nat} (ok : Keeps o s) : Keeps o (Machine.flitTx p s) := by
  unfold Machine.flitTx
  dsimp only
  split
  · exact ite ok.flushNotices.putFlit ok.flushNotices.putFlit
  · exact ite ok.flushNotices.putFlit ok.flushNotices.putFlit
  · exact ok.flushNotices.putFlit
  · exact ok.flushNotices.putFlit
  · split
    · exact ok.flushNotices.sendReplay
    · split
      · exact ok.flushNotices.sendData
      · exact ok.flushNotices.putFlit
  · exact ok.flushNotices.putFlit

theorem Keeps.loseLight {o s : State} {p : Nat} (ok : Keeps o s) :
    Keeps o (Machine.loseLight s p) := ite ok.modPort.pauseAck.dklBump.modPort ok.modPort

theorem Keeps.failAllPorts {o s : State} (ok : Keeps o s) :
    Keeps o (Machine.failAllPorts s) := ok.foldl (fun _ _ ok => ite ok.failPort ok)

theorem Keeps.writeDklCtrl {o s : State} {q : Requester} {p : Nat} {v : Word} (ok : Keeps o s) :
    Keeps o (Machine.writeDklCtrl q p v s) :=
  ok.guardedWrite (fun _ ok => ite ((ite ok.startRetrain ok).enterProbe) (ite ok.startRetrain ok))

end Sys2Proof.Machine
end

section
/-! SUPPORT. What the operations of Breakwater keep (`Keeps`). -/

namespace Sys2Proof.Machine

theorem Keeps.drivePin {o s : State} {name : String} {v : Bool} (ok : Keeps o s) : Keeps o (Machine.drivePin s name v) := ok.update

theorem Keeps.setLevel {o s : State} {p level : Nat} (ok : Keeps o s) :
    Keeps o (Machine.setLevel s p level) := ite ok.modBwPort ok.modBwPort.drivePin

theorem Keeps.endTest {o s : State} {p : Nat} (ok : Keeps o s) : Keeps o (Machine.endTest s p) := by
  unfold Machine.endTest
  exact ok.modPort.modBwPort

theorem Keeps.reduceProbe {o s : State} {p held : Nat} (ok : Keeps o s) :
    Keeps o (Machine.reduceProbe s p held) := ite ok.endTest.setLevel.modBwPort ok.endTest.setLevel.modBwPort.enterProbe

theorem Keeps.cutOff {o s : State} {p : Nat} (ok : Keeps o s) : Keeps o (Machine.cutOff s p) := by
  unfold Machine.cutOff
  exact ok.endTest.setLevel.modBwPort.modPort

theorem Keeps.cutDie {o s : State} {e : Nat} (ok : Keeps o s) : Keeps o (Machine.cutDie s e) := ok.foldl (fun _ _ ok => ok.cutOff)

theorem Keeps.sendSafety {o s : State} {p msg reason hold : Nat} (ok : Keeps o s) : Keeps o (Machine.sendSafety s p msg reason hold) := by
  unfold Machine.sendSafety
  exact ok.sendUnit.modBwPort

theorem Keeps.decideLockout {o s : State} {cause : Nat} (ok : Keeps o s) :
    Keeps o (Machine.decideLockout s cause) :=
  ite (ite ((ite ok.update.rsetField.rsetField ok).rsetField) ok)
    ((((((ite ok.update.rsetField.rsetField ok).rsetField).rsetField).rsetField).foldl (fun _ _ ok => ite ok.sendSafety ok)).update)

theorem Keeps.faultChannel {o s : State} {c : Channel} {es : List Nat} (ok : Keeps o s) :
    Keeps o (Machine.faultChannel s c es) :=
  (ok.foldl (fun _ _ ok => ok.rsetField)).share fun shown => ite shown.decideLockout (ite shown.update shown.update.drivePin)

theorem Keeps.startTest {o s : State} {p : Nat} (ok : Keeps o s) : Keeps o (Machine.startTest s p) := ok.modBwPort.setLevel

theorem Keeps.contactOpen {o s : State} {key : Nat} (ok : Keeps o s) : Keeps o (Machine.contactOpen s key) := ok.update

theorem Keeps.pulse {o s : State} {e key : Nat} {sense : Bool} (ok : Keeps o s) :
    Keeps o (Machine.pulse s e key sense) := ite ok.update (ite ok (ite ok.update ok.update.cutDie.rmod))

theorem Keeps.rejectSafety {o s : State} {p : Nat} (ok : Keeps o s) :
    Keeps o (Machine.rejectSafety s p) :=
  ite ok.rbump.modBwPort (ite ok.rbump.modBwPort.modBwPort ok.rbump.modBwPort.modBwPort.reduceProbe)

theorem Keeps.endArm {o s : State} {result : Nat} (ok : Keeps o s) : Keeps o (Machine.endArm s result) := ok.update.rsetField.rsetField

theorem Keeps.armReset {o s : State} {v : Word} (ok : Keeps o s) :
    Keeps o (Machine.armReset v s) := ite ok.rsetField ok.draw.rsetField.rsetField.update.rsetField

theorem Keeps.confirmReset {o s : State} {v : Word} {permit stopP stopH : Bool} (ok : Keeps o s) :
    Keeps o (Machine.confirmReset v permit stopP stopH s) := by
  unfold Machine.confirmReset
  dsimp only
  split
  · exact ok.endArm
  · exact ite ok.endArm (ite ok.endArm ok.update.rsetField.update)

theorem Keeps.writeBwrCmd {o s : State} {q : Requester} {v : Word} {permit stopP stopH : Bool} (ok : Keeps o s) :
    Keeps o (Machine.writeBwrCmd q v permit stopP stopH s) := by
  unfold Machine.writeBwrCmd
  dsimp only
  refine ite ?_ ?_
  · exact ok.logAccess
  · refine ok.guardedWrite (fun _ ok => ?_)
    split
    · exact ok.decideLockout
    · exact ok.armReset
    · exact ok.confirmReset
    · exact ok.rsetField.update

theorem Keeps.leaveLockout {o s : State} (ok : Keeps o s) :
    Keeps o (Machine.leaveLockout s) := ok.rmod.rsetField.rput.update.postPf.drivePin.drivePin

end Sys2Proof.Machine
end

section
/-! SUPPORT. What the operations of ClockEvents keep (`Keeps`). -/

namespace Sys2Proof.Machine

theorem Keeps.lnkLost {o s : State} (ok : Keeps o s) : Keeps o (Machine.lnkLost s) := ok.lnkFail.failAllPorts

end Sys2Proof.Machine
end

section
/-! SUPPORT. What the operations of Haul keep (`Keeps`). -/

namespace Sys2Proof.Machine

theorem Keeps.withUse {o s : State} {src : Src} {c a len : Nat} {k : List Byte → State → State} (ok : Keeps o s)
    (keeps_k : ∀ x v, Keeps o v → Keeps o (k x v)) :
    Keeps o (Machine.withUse s src c a len k) := ite (ok.withBytes (fun _ _ ok => keeps_k _ _ ok)) ok.violation

theorem Keeps.gated {o s : State} {src : Src} {c : Nat} {res : List Nat} {addr : Nat} {k : State → State} (ok : Keeps o s)
    (keeps_k : ∀ v, Keeps o v → Keeps o (k v)) :
    Keeps o (Machine.gated s src c res addr k) := by
  unfold Machine.gated
  refine ite ?_ ?_
  · exact keeps_k _ ok
  · split
    · exact keeps_k _ ok
    · exact ok
    · exact ok.stepFail

theorem Keeps.haulSrc {o s : State} {c : Nat} {d : HaulDesc} {k : Nat → State → State} (ok : Keeps o s)
    (keeps_k : ∀ x v, Keeps o v → Keeps o (k x v)) :
    Keeps o (Machine.haulSrc s c d k) := by
  unfold Machine.haulSrc
  dsimp only
  split
  · exact ok.withHandle (fun _ _ ok => keeps_k _ _ ok)
  · exact ite ok.violation (ite ok.mismatch (ite ok.stepFail (ok.withHandle (fun _ _ ok => keeps_k _ _ ok))))
  · exact keeps_k _ _ ok

theorem Keeps.haulDst {o s : State} {c : Nat} {d : HaulDesc} {k : Nat → State → State} (ok : Keeps o s)
    (keeps_k : ∀ x v, Keeps o v → Keeps o (k x v)) :
    Keeps o (Machine.haulDst s c d k) := by
  unfold Machine.haulDst
  split
  · exact ok.withHandle (fun _ _ ok => keeps_k _ _ ok)
  · exact keeps_k _ _ ok

/-- Rows moved one after the other (R268). -/
theorem Keeps.copyRows {o s : State} {fill : Option (List Byte)} {null : Bool} {rows : List (Nat × Nat × Nat)} (ok : Keeps o s) :
    Keeps o (Machine.copyRows fill null rows s) := by
  induction rows generalizing s with
  | nil => exact ok
  | cons row rows ih =>
    unfold Machine.copyRows
    split
    · exact ih (ite ok ok.writeMem)
    · exact ok.withBytes fun _ _ ok => ih (ite ok ok.writeMem)

theorem Keeps.haulCount {o s : State} {m n : Nat} (ok : Keeps o s) : Keeps o (Machine.haulCount s m n) := ok.rbump

theorem Keeps.stewardNext {o s : State} {m : Nat} {x : Cmd} (ok : Keeps o s) : Keeps o (Machine.stewardNext s m x) := by
  unfold Machine.stewardNext
  dsimp only
  split
  · exact ok.finishCmd
  · exact ok.copyRows.haulCount.cmdPart

theorem Keeps.haulLocal {o s : State} {c m : Nat} {x : Cmd} {d : HaulDesc} {src dst : Nat} (ok : Keeps o s) :
    Keeps o (Machine.haulLocal c m x d src dst s) := by
  unfold Machine.haulLocal
  dsimp only
  split
  · exact ok.violation
  · exact ok.gated (fun _ ok => ite ok.modCmd.stewardNext ok.copyRows.haulCount.finishCmd)

theorem Keeps.sendReadReq {o s : State} {p : Nat} {u : TxUnit} (ok : Keeps o s) :
    Keeps o (Machine.sendReadReq s p u) := ite ok.modPort.sendUnit ok.modPort

theorem Keeps.haulRemote {o s : State} {c m : Nat} {x : Cmd} {d : HaulDesc} {src dst : Nat} (ok : Keeps o s) :
    Keeps o (Machine.haulRemote c m x d src dst s) := by
  unfold Machine.haulRemote
  dsimp only
  split
  · exact ok.violation
  · refine ite ?_ ?_
    · exact ok.violation
    · split
      · exact ok.stepFail
      · exact ok.gated (fun _ ok => ite ok.finishCmd (ok.haulCount.startCmd.markUnfixed.share fun started =>
          ite (started.foldl (fun _ _ ok => ok.withBytes (fun _ _ ok => ok.sendUnit))) (started.foldl (fun _ _ ok => ok.sendReadReq))))

theorem Keeps.haulToHost {o s : State} {c m : Nat} {x : Cmd} {d : HaulDesc} {src : Nat} (ok : Keeps o s) :
    Keeps o (Machine.haulToHost c m x d src s) :=
  ite ok.violation (ite ok.haulCount.issueHeld.finishCmd.hostFlush (ite ok.stepFail (ite ok.finishCmd ok.haulCount.modCtx.modCmd)))

theorem Keeps.hostReadReq {o s : State} {c fn : Nat} {x : Cmd} {cut : Nat × Nat × Nat} {dst : Nat} (ok : Keeps o s) :
    Keeps o (Machine.hostReadReq c fn x s cut dst) := ok.update

theorem Keeps.haulFromHost {o s : State} {c m : Nat} {x : Cmd} {d : HaulDesc} {dst : Nat} (ok : Keeps o s) :
    Keeps o (Machine.haulFromHost c m x d dst s) :=
  ite ok.violation (ite (ite ok ok.stepFail) (ite ok.finishCmd (ok.haulCount.startCmd.markUnfixed.foldl (fun _ _ ok => ok.hostReadReq))))

theorem Keeps.haulTake {o s : State} {c m : Nat} {x : Cmd} {b : List Byte} (ok : Keeps o s) : Keeps o (Machine.haulTake c m x b s) := by
  unfold Machine.haulTake
  dsimp only
  refine ite ?_ ?_
  · exact ok.violation
  · split
    · exact ok.haulDst (fun _ _ ok => ok.haulLocal)
    · exact ok.haulSrc (fun _ _ ok => ok.haulToHost)
    · exact ok.haulDst (fun _ _ ok => ok.haulFromHost)
    · exact ok.haulSrc (fun _ _ ok => ok.haulDst (fun _ _ ok => ite ok.haulRemote ok.haulLocal))

theorem Keeps.haulCmd {o s : State} {op c m : Nat} (ok : Keeps o s) :
    Keeps o (Machine.haulCmd op c m s) := ite ok (ok.takeCmd (fun _ _ _ ok => ok.haulTake))

theorem Keeps.remoteAdd {o s : State} {c : Nat} {m : Cmd} {b : List Byte} (ok : Keeps o s) :
    Keeps o (Machine.remoteAdd c m b s) := ite ok.violation (ite ok.finishCmd.tallyAdd ok.startCmd.modCtx.sendMessage)

end Sys2Proof.Machine
end

section
/-! SUPPORT. What the operations of Matrix keep (`Keeps`). -/

namespace Sys2Proof.Machine

theorem Keeps.withSpans {o s : State} {src : Src} {c : Nat} {rd wr : List (Nat × Nat)} {k : State → State} (ok : Keeps o s)
    (keeps_k : ∀ v, Keeps o v → Keeps o (k v)) :
    Keeps o (Machine.withSpans s src c rd wr k) := by
  unfold Machine.withSpans
  split
  · exact ok.violation
  · split
    · exact ok.violation
    · exact keeps_k _ ok

theorem Keeps.mtxErr {o s : State} {c cause : Nat} (ok : Keeps o s) : Keeps o (Machine.mtxErr s c cause) := ite ok ok.rput

theorem Keeps.openCmd {o s : State} {m : Cmd} {desc : List Byte} {rows : List Nat} {total : Nat} (ok : Keeps o s) :
    Keeps o (Machine.openCmd s m desc rows total) := ok.modCmd

theorem Keeps.openMatrix {o s : State} {c : Nat} {m : Cmd} {b : List Byte} (ok : Keeps o s) :
    Keeps o (Machine.openMatrix c m b s) :=
  ite ok.violation (ok.withSpans (fun _ ok => ite (ok.withBytes (fun _ _ ok => ite ok.mtxErr.stepFail ok.openCmd)) ok.openCmd))

theorem Keeps.setBusy {o s : State} {cls u t : Nat} (ok : Keeps o s) : Keeps o (Machine.setBusy s cls u t) := ok.update

theorem Keeps.dealPieces {o s : State} {id : Nat} (ok : Keeps o s) : Keeps o (Machine.dealPieces s id) := by
  unfold Machine.dealPieces
  dsimp only
  split
  · exact ok
  · exact ok.modCmd.update

theorem Keeps.openList {o s : State} {opn : Nat → Cmd → List Byte → State → State} {valid : Nat → Bool} {src : Src} {c cls size : Nat}
    (ok : Keeps o s) (keeps_opn : ∀ x x2 x3 v, Keeps o v → Keeps o (opn x x2 x3 v)) :
    Keeps o (Machine.openList opn valid src c cls size s) :=
  ok.foldl (fun _ _ ok => ite ok (ite ok.violation
    ((ok.withBytes (fun _ _ ok => keeps_opn _ _ _ _ ok)).share fun opened => ite opened.dealPieces opened)))

theorem Keeps.landWrites {o s : State} {null : Bool} {ws : List (Nat × List Byte)} (ok : Keeps o s) :
    Keeps o (Machine.landWrites null ws s) := ite ok (ok.foldl (fun _ _ ok => ok.writeMem))

theorem Keeps.pieceDone {o s : State} {m : Cmd} {cls u piece d0 cycles : Nat} {first : Bool} {add : Nat} (ok : Keeps o s) :
    Keeps o (Machine.pieceDone s m cls u piece d0 cycles first add) := ok.setBusy.update.modCmd

theorem Keeps.sendLoose {o s : State} {m : Cmd} {d : MtxDesc} {u j r : Nat} {parts : List (Nat × List (Nat × List Nat))}
    (ok : Keeps o s) :
    Keeps o (Machine.sendLoose s m d u j r parts) := ok.update

theorem Keeps.runPiece {o s : State} {m : Cmd} {u piece : Nat} {first : Bool} (ok : Keeps o s) :
    Keeps o (Machine.runPiece s m u piece first) := by
  unfold Machine.runPiece
  dsimp only
  split
  · exact ok
  · refine ite ?_ ?_
    · exact ok.violation
    · refine ok.gated (fun _ ok => ?_)
      split
      · exact (ite (ite (ite ok ok.sendLoose) ok.landWrites) ok.landWrites).share fun landed => (ite landed landed.rbump).pieceDone
      · exact ok.withBytes (fun _ _ ok =>
          (ite (ite (ite ok ok.sendLoose) ok.landWrites) ok.landWrites).share fun landed => (ite landed landed.rbump).pieceDone)

theorem Keeps.mtxCmd {o s : State} {op c u piece : Nat} (ok : Keeps o s) : Keeps o (Machine.mtxCmd op c u piece s) := by
  unfold Machine.mtxCmd
  dsimp only
  refine ite ?_ ?_
  · exact ok.openList (fun _ _ _ _ ok => ok.openMatrix)
  · split
    · exact ok.openList (fun _ _ _ _ ok => ok.openMatrix)
    · exact ite ((ok.openList (fun _ _ _ _ ok => ok.openMatrix)).runPiece) (ok.openList (fun _ _ _ _ ok => ok.openMatrix))
    · refine ite ?_ ?_
      · exact ite ((ok.openList (fun _ _ _ _ ok => ok.openMatrix)).runPiece) (ok.openList (fun _ _ _ _ ok => ok.openMatrix))
      · refine ite ?_ ?_
        · split
          · exact ((ok.openList (fun _ _ _ _ ok => ok.openMatrix)).takeCmd (fun _ _ _ ok => ok.openMatrix)).runPiece
          · exact (ok.openList (fun _ _ _ _ ok => ok.openMatrix)).takeCmd (fun _ _ _ ok => ok.openMatrix)
        · exact ok.openList (fun _ _ _ _ ok => ok.openMatrix)

theorem Keeps.addRow {o s : State} {w : Nat × List Nat} (ok : Keeps o s) : Keeps o (Machine.addRow s w) := ok.writeMem

theorem Keeps.looseAdd {o s : State} {x : LooseAdd} (ok : Keeps o s) :
    Keeps o (Machine.looseAdd x s) :=
  ((ite (ok.foldl (fun _ _ ok => ok.addRow)) (((ok.foldl (fun _ _ ok => ok.addRow)).rbump).rsetField)).update).cmdPart

end Sys2Proof.Machine
end

section
/-! SUPPORT. What the operations of Vector keep (`Keeps`). -/

namespace Sys2Proof.Machine

theorem Keeps.openVector {o s : State} {c : Nat} {m : Cmd} {b : List Byte} (ok : Keeps o s) :
    Keeps o (Machine.openVector c m b s) := ite ok.violation (ok.withSpans (fun _ ok => ok.openCmd))

/-! ### The program of a vector piece, whose run carries the state (Table 8.4) -/

/-- A free value for a lane. -/
theorem Keeps.freeLane {o : State} {r : VRun} (ok : Keeps o r.s) : Keeps o (Machine.freeLane r).2.s := ok.update

/-- Free values for lanes. -/
theorem Keeps.freeLanes {o : State} {n : Nat} {r : VRun} (ok : Keeps o r.s) : Keeps o (Machine.freeLanes n r).2.s := by
  induction n generalizing r with
  | zero => exact ok
  | succ n ih => exact ih ok.freeLane

/-- An element as a lane. -/
theorem Keeps.toLane {o : State} {fmt : Nat} {v : Fp} {r : VRun} (ok : Keeps o r.s) : Keeps o (Machine.toLane fmt v r).2.s := by
  unfold Machine.toLane
  split
  · split
    · exact ok.freeLane
    · exact ok
  · exact ok

/-- Elements as lanes. -/
theorem Keeps.toLanes {o : State} {fmt : Nat} {vs : List Fp} {r : VRun} (ok : Keeps o r.s) : Keeps o (Machine.toLanes fmt vs r).2.s := by
  induction vs generalizing r with
  | nil => exact ok
  | cons v vs ih => exact ih ok.toLane

/-- A load of lanes. -/
theorem Keeps.vLoad {o : State} {d : VDesc} {op : VOp} {a : VAt} {r : VRun} (ok : Keeps o r.s) : Keeps o (Machine.vLoad d op a r).s :=
  ok.toLanes

/-- A store of lanes. -/
theorem Keeps.vStore {o : State} {d : VDesc} {op : VOp} {null : Bool} {a : VAt} {r : VRun} (ok : Keeps o r.s) :
    Keeps o (Machine.vStore d op null a r).s := by
  unfold Machine.vStore
  dsimp only
  split
  · split
    · exact ok
    · exact ok.writeMem.writeMem
  · split
    · exact ok.freeLanes
    · exact ok.freeLanes.writeMem

/-- A rounding of lanes. -/
theorem Keeps.vRound {o : State} {op : VOp} {a : VAt} {r : VRun} (ok : Keeps o r.s) : Keeps o (Machine.vRound op a r).s := by
  unfold Machine.vRound
  dsimp only
  split
  · exact ok.freeLanes
  · split <;> exact ok

/-- The final value of an accumulator. -/
theorem Keeps.vFinal {o : State} {op : VOp} {r : VRun} (ok : Keeps o r.s) : Keeps o (Machine.vFinal op r).s := by
  unfold Machine.vFinal
  dsimp only
  split
  case h_4 => exact ok.freeLane
  all_goals exact ok

/-- One operation of a vector program: only loads, stores, roundings and final values reach the state. -/
theorem Keeps.vStep {o : State} {d : VDesc} {null : Bool} {a : VAt} {r : VRun} {op : VOp} (ok : Keeps o r.s) :
    Keeps o (Machine.vStep d null a r op).s := by
  unfold Machine.vStep
  dsimp only
  split
  case h_1 => exact ok.vLoad
  case h_2 => exact ok.vStore
  case h_12 => exact ok.vRound
  case h_17 => exact ok.vFinal
  all_goals exact ok

/-- A fold of operations on a run that each keep what its state keeps. -/
theorem Keeps.foldlRun {o : State} {α : Type} {f : VRun → α → VRun} {l : List α} {r : VRun} (ok : Keeps o r.s)
    (keeps_f : ∀ r x, Keeps o r.s → Keeps o (f r x).s) : Keeps o (l.foldl f r).s := by
  induction l generalizing r with
  | nil => exact ok
  | cons a l ih => exact ih (keeps_f _ _ ok)

/-- One row of a vector piece. -/
theorem Keeps.vRow {o : State} {d : VDesc} {null : Bool} {n step row : Nat} {r : VRun} (ok : Keeps o r.s) :
    Keeps o (Machine.vRow d null n step r row).s := by
  unfold Machine.vRow
  dsimp only
  refine foldlRun (foldlRun ok fun r ch ok => ?_) fun _ _ ok => ok.vStep
  split
  · exact foldlRun ok fun _ _ ok => ok.vStep
  · exact foldlRun ok fun _ _ ok => ok.vStep

/-- A piece of a vector command (R331). -/
theorem Keeps.runVector {o s : State} {m : Cmd} {u piece : Nat} {first : Bool} (ok : Keeps o s) :
    Keeps o (Machine.runVector s m u piece first) := by
  refine ite ok.violation (ok.gated fun s ok => ?_)
  extract_lets bad chunks body
  have body_ok {v : State} (ok : Keeps o v) : Keeps o (body v) :=
    (foldlRun (r := { u := Tab.getD VUnit.clear u v.tiles.units, s := v }) ok fun _ _ ok => ok.vRow).update.rbump.rbump.pieceDone
  clear_value bad
  cases bad with
  | none => exact body_ok ok
  | some p => exact ok.withBytes fun _ _ ok => body_ok ok

theorem Keeps.vecCmd {o s : State} {c u piece : Nat} (ok : Keeps o s) : Keeps o (Machine.vecCmd c u piece s) := by
  unfold Machine.vecCmd
  dsimp only
  refine ite ?_ ?_
  · exact ok.openList (fun _ _ _ _ ok => ok.openVector)
  · split
    · exact ok.openList (fun _ _ _ _ ok => ok.openVector)
    · exact ite ((ok.openList (fun _ _ _ _ ok => ok.openVector)).runVector) (ok.openList (fun _ _ _ _ ok => ok.openVector))
    · refine ite ?_ ?_
      · exact ite ((ok.openList (fun _ _ _ _ ok => ok.openVector)).runVector) (ok.openList (fun _ _ _ _ ok => ok.openVector))
      · refine ite ?_ ?_
        · split
          · exact ((ok.openList (fun _ _ _ _ ok => ok.openVector)).takeCmd (fun _ _ _ ok => ok.openVector)).runVector
          · exact (ok.openList (fun _ _ _ _ ok => ok.openVector)).takeCmd (fun _ _ _ ok => ok.openVector)
        · exact ok.openList (fun _ _ _ _ ok => ok.openVector)

theorem Keeps.claimPick {o s : State} {n cls : Nat} {m : Cmd} (ok : Keeps o s) : Keeps o (Machine.claimPick s n cls m).2 := by
  unfold Machine.claimPick
  dsimp only
  refine iteSnd ?_ ?_
  · split
    · exact ok
    · exact ok.squall.rbump
  · exact ok

/-- The lists of a stall's contexts that are opened before a claim. -/
theorem Keeps.openLists {o s : State} {c cls : Nat} (ok : Keeps o s) :
    Keeps o (if cls = 1 then Machine.openList Machine.openMatrix mtxOpValid .mtx c 1 128 s
      else Machine.openList Machine.openVector vecOpValid .vec c 2 64 s) :=
  ite (ok.openList (fun _ _ _ _ ok => ok.openMatrix)) (ok.openList (fun _ _ _ _ ok => ok.openVector))

theorem Keeps.claimCmd {o s : State} {c u cls : Nat} (ok : Keeps o s) : Keeps o (Machine.claimCmd c u cls s) := by
  unfold Machine.claimCmd
  dsimp only
  refine (ite ok.openLists ok).openLists.share fun opened => ite opened ?_
  split
  · exact opened
  · exact ite opened opened.claimPick.update.modCmd.update

end Sys2Proof.Machine
end

section
/-! SUPPORT. What the operations of Winnow keep (`Keeps`). -/

namespace Sys2Proof.Machine

theorem Keeps.winTake {o s : State} {c dd : Nat} {m : Cmd} {b : List Byte} (ok : Keeps o s) :
    Keeps o (Machine.winTake c dd m b s) :=
  ite ok.violation (ok.withSpans (fun _ ok => ok.gated (fun _ ok => (ite ok ok.writeMem.rbump).finishCmd)))

theorem Keeps.winStale {o s : State} {n k : Nat} (ok : Keeps o s) : Keeps o (Machine.winStale s n k) := ok.rbump

theorem Keeps.applyVerdict {o s : State} {c : Nat} {run : CensusRun} {v : Verdict} (ok : Keeps o s) :
    Keeps o (Machine.applyVerdict s c run v) := ok.modCtx.rmod.update.engineWrite.markUnfixed.finishCmd

theorem Keeps.forwardVerdict {o s : State} {c : Nat} {d : CenDesc} {bytes : List Byte} {source : Nat} (ok : Keeps o s) :
    Keeps o (Machine.forwardVerdict s c d bytes source) := ok.foldl (fun _ _ ok => ite ok ok.sendMessage)

theorem Keeps.windowDefault {o s : State} {c : Nat} {run : CensusRun} (ok : Keeps o s) :
    Keeps o (Machine.windowDefault s c run) := ite ok.rbump.forwardVerdict ok.rbump.forwardVerdict.applyVerdict

theorem Keeps.postCensus {o s : State} {c seq windowUs : Nat} {bytes : List Byte} (ok : Keeps o s) :
    Keeps o (Machine.postCensus s c seq windowUs bytes).1 :=
  iteFst ok (((ok.foldl (fun _ _ ok => ok.hostEnqueue)).postEvent).hostFlush.share fun posted => ite posted.update posted)

theorem Keeps.censusComplete {o s : State} {c : Nat} {run : CensusRun} (ok : Keeps o s) : Keeps o (Machine.censusComplete s c run) := by
  unfold Machine.censusComplete
  dsimp only
  refine ite ok.stepFail (ite ok.stepFail ?_)
  refine ((((ite ok.engineWrite.update.rsetField ok.engineWrite.update).postCensus).update).modCtx).share fun answered =>
    ite answered (ite answered.applyVerdict (ite (ite answered answered.windowDefault) ?_))
  split
  · exact answered.applyVerdict
  · exact answered

theorem Keeps.censusCheck {o s : State} {c : Nat} (ok : Keeps o s) : Keeps o (Machine.censusCheck s c) := by
  unfold Machine.censusCheck
  split
  · exact ok
  · exact ite ok.censusComplete ok

theorem Keeps.takeBank {o s : State} {c : Nat} {run : CensusRun} (ok : Keeps o s) :
    Keeps o (Machine.takeBank s c run).2 := ok.update.winStale

theorem Keeps.cenTake {o s : State} {c : Nat} {m : Cmd} {b : List Byte} (ok : Keeps o s) :
    Keeps o (Machine.cenTake c m b s) :=
  ite ok.violation (ok.withSpans (fun _ ok => ite ok.finishCmd (ok.withBytes (fun _ _ ok =>
    (ok.writeMem.startCmd.modCmd.takeBank.modCtx.foldl (fun _ _ ok => ite ok ok.sendMessage)).share fun sent =>
      ite sent sent.censusCheck))))

theorem Keeps.censusArrive {o s : State} {c : Nat} {b : List Byte} (ok : Keeps o s) : Keeps o (Machine.censusArrive s c b) := by
  unfold Machine.censusArrive
  dsimp only
  refine ite ?_ ?_
  · exact ok.mismatch
  · refine ite ?_ ?_
    · exact ok.winStale
    · split
      · exact ite ok.modCtx.censusCheck (ite ok.update ok.winStale)
      · exact ite ok.update ok.winStale

theorem Keeps.verdictReceived {o s : State} {n : Nat} {b : List Byte} (ok : Keeps o s) : Keeps o (Machine.verdictReceived s n b) := by
  unfold Machine.verdictReceived
  dsimp only
  refine .postEvent ?_
  split
  · refine ite ?_ ?_
    · refine .forwardVerdict ?_
      split
      · exact ok.rbump
      · exact ok.rbump
      · exact ok.rbump
      · exact ok.rbump
    · refine .applyVerdict ?_
      refine .forwardVerdict ?_
      split
      · exact ok.rbump
      · exact ok.rbump
      · exact ok.rbump
      · exact ok.rbump
  · split
    · exact ok.rbump
    · exact ok.rbump
    · exact ok.rbump
    · exact ok.rbump

theorem Keeps.verdictArrive {o s : State} {c : Nat} {b : List Byte} (ok : Keeps o s) : Keeps o (Machine.verdictArrive s c b) := by
  unfold Machine.verdictArrive
  dsimp only
  refine ite ?_ ?_
  · exact ok.mismatch
  · refine ite ?_ ?_
    · exact ok.winStale
    · split
      · exact ite (ite ok.applyVerdict ok.modCtx) (ite ok.update ok.winStale)
      · exact ite ok.update ok.winStale

end Sys2Proof.Machine
end

section
/-! SUPPORT. What the operations of Thresher keep (`Keeps`). -/

namespace Sys2Proof.Machine

theorem Keeps.withPlan {o s : State} {src : Src} {c a : Nat} {k : DPlan → List Byte → State → State} (ok : Keeps o s)
    (keeps_k : ∀ x x2 v, Keeps o v → Keeps o (k x x2 v)) :
    Keeps o (Machine.withPlan s src c a k) := ok.withUse (fun _ _ ok => ite (keeps_k _ _ _ ok) ok.violation)

theorem Keeps.ddErr {o s : State} {r : Reg} {dd c cause : Nat} (ok : Keeps o s) :
    Keeps o (Machine.ddErr s r dd c cause) := ite ok ok.rputX

theorem Keeps.histTake {o s : State} {c dd : Nat} {m : Cmd} {b : List Byte} (ok : Keeps o s) :
    Keeps o (Machine.histTake c dd m b s) :=
  ite ok.violation (ok.withPlan (fun _ _ _ ok => ite ok.violation (ok.withSpans (fun _ ok =>
    ite ok.violation (ite ok.ddErr.stepFail (ok.gated (fun _ ok => (ite ok ok.writeMem).finishCmd)))))))

/-- The records of a round's tokens (R418). -/
theorem Keeps.scatterRun {o s : State} {c first : Nat} {i : RoundInfo} {toks : List (Nat × List Choice)} {seen : Tab Nat} (ok : Keeps o s) :
    Keeps o (Machine.scatterRun c first i toks seen s).1 := by
  induction toks generalizing s seen with
  | nil => exact ok
  | cons tok toks ih =>
    refine ih (.foldl (.foldl ok fun _ _ ok => ok.foldl fun _ _ ok => ok.engineWrite) fun _ _ ok => ?_)
    split
    · exact ok.engineWrite
    · exact ok

theorem Keeps.scatTake {o s : State} {c dd : Nat} {m : Cmd} {b : List Byte} (ok : Keeps o s) :
    Keeps o (Machine.scatTake c dd m b s) :=
  ite ok.violation (ok.withPlan (fun _ _ _ ok => ite ok.violation (ok.withSpans (fun _ ok =>
    ite ok.violation (ite ok.ddErr.stepFail (ite ok.ddErr.stepFail (ok.gated (fun _ ok =>
      ite ok.finishCmd (ok.scatterRun.modCtx.share fun sent =>
        (ite (sent.rputX.foldl (fun _ _ ok => ok.rputX)) sent).finishCmd)))))))))

end Sys2Proof.Machine
end

section
/-! SUPPORT. What the operations of Ferry keep (`Keeps`). -/

namespace Sys2Proof.Machine

theorem Keeps.modDisp {o s : State} {c : Nat} {f : Disp → Disp} (ok : Keeps o s) : Keeps o (Machine.modDisp s c f) := ok.modCtx

theorem Keeps.sendPlaced {o s : State} {c key : Nat} (ok : Keeps o s) : Keeps o (Machine.sendPlaced s c key) := ok.modDisp.sendMessage

theorem Keeps.noteLanded {o s : State} {c dir round chip : Nat} (ok : Keeps o s) :
    Keeps o (Machine.noteLanded s c dir round chip) := ite ok (ite ok.modDisp.sendPlaced ok.modDisp)

theorem Keeps.placeConflict {o s : State} {c dd : Nat} (ok : Keeps o s) : Keeps o (Machine.placeConflict s c dd) := ok.ddErr.stepFail

theorem Keeps.settleExpert {o s : State} {c : Nat} {i : RoundInfo} {le : Nat} (ok : Keeps o s) :
    Keeps o (Machine.settleExpert s c i le) := by
  unfold Machine.settleExpert
  dsimp only
  split
  · exact ok.engineWrite
  · refine .engineWrite ?_
    split
    · exact ok
    · exact ite ok.mismatch (ok.foldl (fun _ _ ok => ok.engineWrite.engineWrite))

theorem Keeps.settleAll {o s : State} {c : Nat} (ok : Keeps o s) : Keeps o (Machine.settleAll s c) := by
  unfold Machine.settleAll
  dsimp only
  split
  · exact ok
  · exact (ok.foldl (fun _ _ ok => ok.settleExpert)).modDisp

theorem Keeps.hopCheck {o s : State} {c : Nat} (ok : Keeps o s) : Keeps o (Machine.hopCheck s c) := by
  unfold Machine.hopCheck
  exact (ok.foldl (fun _ _ ok => ok.modCmd)).modDisp

theorem Keeps.fryShow {o s : State} {c : Nat} {r : Reg} {round expected landed : Nat} (ok : Keeps o s) :
    Keeps o (Machine.fryShow s c r round expected landed) := ite ok (ok.foldl (fun _ _ ok => ok.rputX))

theorem Keeps.placeDispatch {o s : State} {c dd : Nat} {b : List Byte} (ok : Keeps o s) : Keeps o (Machine.placeDispatch s c dd b) := by
  unfold Machine.placeDispatch
  dsimp only
  split
  · exact ok
  · refine ite ?_ ?_
    · exact ok.placeConflict
    · split
      · exact ite ok.rbump ok.placeConflict
      · exact ok.engineWrite.engineWrite.modDisp.fryShow.noteLanded.settleAll.hopCheck

theorem Keeps.placeReturn {o s : State} {c dd : Nat} {b : List Byte} (ok : Keeps o s) : Keeps o (Machine.placeReturn s c dd b) := by
  unfold Machine.placeReturn
  dsimp only
  split
  · exact ok
  · exact ite ok.placeConflict (ite ok.mismatch (ite ok.engineWrite.engineWrite.modDisp.fryShow.noteLanded.hopCheck (ite ok.rbump ok.placeConflict)))

theorem Keeps.sendRec {o s : State} {c dd dir chip ix : Nat} {b : List Byte} (ok : Keeps o s) :
    Keeps o (Machine.sendRec s c dd dir chip ix b) :=
  ite ok (ite ok.mismatch (ite (ite ok.placeDispatch ok.placeReturn) ok.sendUnit.modDisp))

theorem Keeps.hopStart {o s : State} {m : Cmd} {c dir round : Nat} {dests : List Nat} {single : Bool} {at_ : Nat} (ok : Keeps o s) :
    Keeps o (Machine.hopStart s m c dir round dests single at_) := by
  unfold Machine.hopStart
  exact (ite ok.startCmd.modCmd ok.startCmd.markUnfixed).modDisp

theorem Keeps.exchTake {o s : State} {c dd : Nat} {m : Cmd} {b : List Byte} (ok : Keeps o s) : Keeps o (Machine.exchTake c dd m b s) := by
  unfold Machine.exchTake
  dsimp only
  refine ite ?_ ?_
  · exact ok.violation
  · refine ok.withPlan (fun _ _ _ ok => ?_)
    refine ok.withSpans (fun _ ok => ?_)
    refine ite ?_ ?_
    · exact ok.violation
    · split
      · exact ok.violation
      · exact ite ok.ddErr.stepFail (ite ok.finishCmd (ok.gated (fun _ ok =>
          (ok.modDisp.modCtx.fryShow.hopStart.foldl (fun _ _ ok => ok.foldl (fun _ _ ok => ok.sendRec))).share fun sent =>
            ite sent sent.settleAll.hopCheck)))

theorem Keeps.retTake {o s : State} {c dd : Nat} {m : Cmd} {b : List Byte} (ok : Keeps o s) :
    Keeps o (Machine.retTake c dd m b s) :=
  ite ok.violation (ok.withPlan (fun _ _ _ ok => ite ok.violation (ok.withSpans (fun _ ok => ite ok.violation (ok.withSpans (fun _ ok =>
    ite ok.ddErr.stepFail (ite ok.finishCmd (ok.gated (fun _ ok =>
      (ok.hopStart.foldl (fun _ _ ok => ok.sendRec)).share fun sent => ite sent sent.hopCheck)))))))))

theorem Keeps.recArrive {o s : State} {dd : Nat} {b : List Byte} (ok : Keeps o s) : Keeps o (Machine.recArrive s dd b) := by
  unfold Machine.recArrive
  dsimp only
  refine ite ?_ ?_
  · exact ok.mismatch
  · split
    · exact ok.rbump
    · exact ok.rbump
    · exact ok.placeDispatch
    · exact ok.placeReturn
    · exact ok

theorem Keeps.takeRec {o s : State} {p vc : Nat} (ok : Keeps o s) : Keeps o (Machine.takeRec s p vc) := by
  unfold Machine.takeRec
  dsimp only
  split
  · exact ok
  · refine ite ?_ ?_
    · refine ite ?_ ?_
      · exact ok.violation
      · split
        · exact ok.modPort.freeCredits.recArrive
        · exact ok
        · exact ok.stepFail
    · exact ok.modPort.freeCredits.recArrive

/-- The tokens of a combine, one after the other (R439). -/
theorem Keeps.combineRun {o s : State} {c dd : Nat} {p : DPlan} {toks : List Nat} (ok : Keeps o s) :
    Keeps o (Machine.combineRun c dd p toks s).1 := by
  induction toks generalizing s with
  | nil => exact ok
  | cons tok toks ih =>
    unfold Machine.combineRun
    exact iteFst ok.mismatch (iteFst ok.ddErr.stepFail (ih ok.engineWrite.rbump.rbump.rbump.rbump))

theorem Keeps.gleanTake {o s : State} {c dd : Nat} {m : Cmd} {b : List Byte} (ok : Keeps o s) :
    Keeps o (Machine.gleanTake c dd m b s) :=
  ite ok.violation (ok.withPlan (fun _ _ _ ok => ite ok.violation (ok.withSpans (fun _ ok => ok.gated (fun _ ok =>
    ite ((iteFst ok ok.combineRun).finishCmd) (iteFst ok ok.combineRun))))))

end Sys2Proof.Machine
end

section
/-! SUPPORT. What the operations of Barnplan keep (`Keeps`). -/

namespace Sys2Proof.Machine

/-- A span cleared (R133). -/
theorem Keeps.clearSpan {o s : State} {a : Nat × Nat} (ok : Keeps o s) : Keeps o (Machine.clearSpan s a) := by
  refine ok.memory fun form => ?_
  split
  · exact memPuts_wf form _ _
  · exact delRange_wf form _ _

end Sys2Proof.Machine
end

section
/-! SUPPORT. What the operations of Image keep (`Keeps`). -/

namespace Sys2Proof.Machine

theorem Keeps.stagingWrite {o s : State} {q : Requester} {off : Nat} {bytes : List Byte} (ok : Keeps o s) :
    Keeps o (Machine.stagingWrite q off bytes s) := ite ok.logAccess (ite ok.logAccess ok.update)

theorem Keeps.startCheck {o s : State} {q : Requester} (ok : Keeps o s) :
    Keeps o (Machine.startCheck q s) := ite ok.logAccess (ite ok.reportImage (ite ok.update.setPhase ok.update))

theorem Keeps.writeStart {o s : State} {q : Requester} (ok : Keeps o s) :
    Keeps o (Machine.writeStart q s) := ite ok.startCheck ok.logAccess

theorem Keeps.writeRegs {o s : State} {l : List (Reg × Nat × Nat × Word)} (ok : Keeps o s) :
    Keeps o (Machine.writeRegs s l) := ok.foldl (fun _ _ ok => ok.rputX)

theorem Keeps.writeImageRegs {o s : State} {m : Tab (List Byte)} (ok : Keeps o s) : Keeps o (Machine.writeImageRegs s m) := ok.writeRegs

/-- Spans taken out of a memory in its form. -/
theorem foldl_delRange_wf {α : Type} {lo hi : α → Nat} {l : List α} {m : List Host.Cell} (form : Memory.wf m = true) :
    Memory.wf (l.foldl (fun m e => Tab.delRange (lo e) (hi e) m) m) = true := by
  induction l generalizing m with
  | nil => exact form
  | cons e l ih => exact ih (delRange_wf form _ _)

/-- Extents whose bytes are gone with their keys (R132). -/
theorem Keeps.rekey {o s : State} {old new : List Extent} (ok : Keeps o s) : Keeps o (Machine.rekey s old new) :=
  ok.memory fun form => foldl_delRange_wf (lo := Extent.base) (hi := fun e => e.base + e.size) form

theorem Keeps.measureStalls {o s : State} {m : Tab (List Byte)} {mask : Nat} (ok : Keeps o s) :
    Keeps o (Machine.measureStalls s m mask) := ok.update

theorem Keeps.usePasses {o s : State} {oldDies newDies oldPorts newPorts : Nat} (ok : Keeps o s) :
    Keeps o (Machine.usePasses s oldDies newDies oldPorts newPorts) := by
  unfold Machine.usePasses
  exact ok.update.rmod.rmod

theorem Keeps.readmitClocks {o s : State} {oldDies newDies : Nat} (ok : Keeps o s) :
    Keeps o (Machine.readmitClocks s oldDies newDies) := ok.foldl (fun _ _ ok => ite ok.rsetField ok)

theorem Keeps.takeSections {o s : State} {b : List Byte} {m : Tab (List Byte)} (ok : Keeps o s) :
    Keeps o (Machine.takeSections s b m) := ok.rekey.usePasses.readmitClocks.update.rsetField

theorem Keeps.blowRevokes {o s : State} (ok : Keeps o s) : Keeps o (Machine.blowRevokes s) := ok.update

theorem Keeps.advanceSvn {o s : State} (ok : Keeps o s) : Keeps o (Machine.advanceSvn s) := ite ok.update ok

theorem Keeps.sampleFirst {o s : State} (ok : Keeps o s) : Keeps o (Machine.sampleFirst s) := ok.sampleFields.update

theorem Keeps.measureImage {o s : State} (ok : Keeps o s) : Keeps o (Machine.measureImage s) := ok.update.measureStalls

theorem Keeps.sealBoot {o s : State} (ok : Keeps o s) :
    Keeps o (Machine.sealBoot s) := ok.update.blowRevokes.advanceSvn.sampleFirst.measureImage.setPhase.update

theorem Keeps.applyBoot {o s : State} {b : List Byte} (ok : Keeps o s) :
    Keeps o (Machine.applyBoot s b) := ite ok.writeImageRegs.takeSections.update ok.writeImageRegs.takeSections.update.sealBoot

theorem Keeps.checkEnd {o s : State} (ok : Keeps o s) : Keeps o (Machine.checkEnd s) := by
  unfold Machine.checkEnd
  dsimp only
  split
  · exact ok.update.rejectImage
  · exact ite ok.update.reportImage.update (ite ok.update.reportImage.update ok.update.reportImage.applyBoot)

theorem Keeps.writeSeal {o s : State} {q : Requester} (ok : Keeps o s) : Keeps o (Machine.writeSeal q s) := ite ok.sealBoot ok.logAccess

theorem Keeps.writeSecImgCtrl {o s : State} {q : Requester} {v : Word} (ok : Keeps o s) :
    Keeps o (Machine.writeSecImgCtrl q v s) := ok.guardedWrite (fun _ ok => ite ((ite ok.writeStart ok).writeSeal) (ite ok.writeStart ok))

theorem Keeps.logOverwritten {o s : State} {b : List Byte} {m : Tab (List Byte)} (ok : Keeps o s) :
    Keeps o (Machine.logOverwritten s b m) := by
  unfold Machine.logOverwritten
  dsimp only
  refine ok.foldl (fun _ _ ok => ?_)
  split
  · exact ok.logAccess
  · exact ok

theorem Keeps.sampleImage {o s : State} (ok : Keeps o s) : Keeps o (Machine.sampleImage s) := by
  unfold Machine.sampleImage
  dsimp only
  split
  · exact ok
  · exact ite ok (ite ok.logOverwritten.writeRegs.update ok.update.reportImage)

theorem Keeps.clearReleased {o s : State} (ok : Keeps o s) : Keeps o (Machine.clearReleased s) := by
  unfold Machine.clearReleased
  dsimp only
  split
  · exact ite ((ok.foldl (fun _ _ ok => ok.clearSpan)).update) ok
  · exact ok

theorem Keeps.applyPending {o s : State} (ok : Keeps o s) : Keeps o (Machine.applyPending s) := by
  unfold Machine.applyPending
  dsimp only
  refine ite ?_ ?_
  · exact ok
  · split
    · exact ok
    · exact (((ok.clearReleased.takeSections.foldl (fun _ _ ok => ite ok.grnRevise ok)).update).measureStalls).update

theorem Keeps.applyFull {o s : State} {b : List Byte} (ok : Keeps o s) :
    Keeps o (Machine.applyFull s b) :=
  ((((((ok.foldl (fun _ _ ok => ok.clearSpan)).writeImageRegs).takeSections).foldl (fun _ _ ok => ok.grnRevise)).update).advanceSvn).update
    |>.measureStalls

end Sys2Proof.Machine
end

section
/-! SUPPORT. What the operations of Reset keep (`Keeps`). -/

namespace Sys2Proof.Machine

theorem Keeps.cutAll {o s : State} (ok : Keeps o s) : Keeps o (Machine.cutAll s) := ok.foldl (fun _ _ ok => ok.cutOff.modBwPort)

/-- The package enters power-on reset (R737). -/
theorem Keeps.powerOff {o s : State} (ok : Keeps o s) : Keeps o (Machine.powerOff s) := by
  unfold Machine.powerOff
  exact (ite ok.drivePin ok).cutAll.keepRegs.noMemoryNoLog

theorem Keeps.packageOnBwr {o s : State} (ok : Keeps o s) :
    Keeps o (Machine.packageOnBwr s) := ite ok.rclear.rsetField.rsetField ok.rclear

theorem Keeps.setPass {o s : State} {port : Bool} {i : Nat} {on : Bool} (ok : Keeps o s) :
    Keeps o (Machine.setPass s port i on) := ok.rmod

theorem Keeps.testResult {o s : State} {port : Bool} {i result block : Nat} (ok : Keeps o s) :
    Keeps o (Machine.testResult s port i result block) := ok.update.rput

theorem Keeps.abandonTest {o s : State} (ok : Keeps o s) : Keeps o (Machine.abandonTest s) := by
  unfold Machine.abandonTest
  split
  · exact ok.testResult
  · exact ok

/-- The memory of a tested target (R751). -/
theorem Keeps.testedMemory {o s : State} {port : Bool} {i : Nat} (ok : Keeps o s) : Keeps o (Machine.testedMemory s port i) :=
  ok.memory fun form => delRange_wf form _ _

theorem Keeps.powerDown {o s : State} {v : Word} (ok : Keeps o s) : Keeps o (Machine.powerDown v s) := by
  unfold Machine.powerDown
  dsimp only
  refine .setPass ?_
  refine update ?_
  split
  · exact ite ok.abandonTest ok
  · exact ok

theorem Keeps.writeTestCmd {o s : State} {q : Requester} {v : Word} (ok : Keeps o s) : Keeps o (Machine.writeTestCmd q v s) := by
  unfold Machine.writeTestCmd
  exact ok.guardedWrite (fun _ ok => ite ok.update.rput ok.powerDown)

theorem Keeps.coldParts {o s : State} {tested : Bool} {debug : Nat} (ok : Keeps o s) :
    Keeps o (Machine.coldParts s tested debug) :=
  ite ((ok.rmod.foldl (fun _ _ ok => ok.rmod)).rmod) (((ok.rmod.foldl (fun _ _ ok => ok.rmod)).rmod).rput)

/-- A cold reset (R739). -/
theorem Keeps.coldStart {o s : State} {cause : Nat} (ok : Keeps o s) : Keeps o (Machine.coldStart s cause) := by
  unfold Machine.coldStart
  exact (ite ok.rbump ok).discardImages.abandonTest.cutAll.keepRegs.coldParts.setPhase.rsetField.noMemory

theorem Keeps.writePwrRst {o s : State} {q : Requester} {v : Word} (ok : Keeps o s) :
    Keeps o (Machine.writePwrRst q v s) := ite ok.logAccess (ok.guardedWrite (fun _ ok => ite ok.triggerFold ok.coldStart))

theorem Keeps.coldReady {o s : State} {failDies : List Nat} {secOk : Bool} (ok : Keeps o s) :
    Keeps o (Machine.coldReady failDies secOk s) := ((ite ok.rput ok.rput.rsetField).setPhase).update

theorem Keeps.logicReset {o s : State} (ok : Keeps o s) :
    Keeps o (Machine.logicReset s) := ok.discardImages.abandonTest.cutAll.rclear.rmod.rsetField.rmod.update

theorem Keeps.dropVolatile {o s : State} (ok : Keeps o s) : Keeps o (Machine.dropVolatile s) := ok.update

theorem Keeps.reportLost {o s : State} (ok : Keeps o s) :
    Keeps o (Machine.reportLost s) := (ok.foldl (fun _ _ ok => (ite ok ok.setCmt).postOutcome)).update

theorem Keeps.reissueHeld {o s : State} (ok : Keeps o s) : Keeps o (Machine.reissueHeld s) := by
  unfold Machine.reissueHeld
  exact (ok.foldl (fun _ _ ok => ok.modStall.foldl (fun _ _ ok => ok.foldl (fun _ _ ok => ok.issueHeld)))).hostFlush

theorem Keeps.foldEnds {o s : State} {row phase result : Nat} (ok : Keeps o s) :
    Keeps o (Machine.foldEnds s row phase result) := ok.rbump.rsetField.rsetField.setPhase.update.postPf

theorem Keeps.foldHalted {o s : State} {row : Nat} (ok : Keeps o s) :
    Keeps o (Machine.foldHalted row s) :=
  (ite ok ok.logRaw).share fun logged => (ite logged.reportImage logged).share fun reported =>
    ((ite reported.rsetField reported).update).foldEnds

theorem Keeps.foldImage {o s : State} {bad : Nat} (ok : Keeps o s) : Keeps o (Machine.foldImage bad s) := by
  unfold Machine.foldImage
  dsimp only
  split
  · exact ite ok.applyFull ok.update.reportImage
  · exact ok

/-- A fold whose check passed (R742). -/
theorem Keeps.foldPassed {o s : State} {row bad : Nat} (ok : Keeps o s) : Keeps o (Machine.foldPassed row bad s) := by
  unfold Machine.foldPassed
  extract_lets s1 s2 left s3 s4
  have base : Keeps o s4 := ok.dropVolatile.grnRebuild.foldImage.rput.reportLost.reissueHeld
  clear_value s4
  exact ite base.update.update.foldEnds (ite base.update.foldEnds base.update.update.sampleFirst.update.foldEnds)

end Sys2Proof.Machine
end

section
/-! SUPPORT. What the operations of Security keep (`Keeps`). -/

namespace Sys2Proof.Machine

theorem Keeps.answer {o s : State} {code : Nat} {bytes : List Byte} (ok : Keeps o s) : Keeps o (Machine.answer s code bytes) := ok.update

theorem Keeps.answerError {o s : State} {reason : Nat} (ok : Keeps o s) : Keeps o (Machine.answerError s reason) := ok.answer

theorem Keeps.answerVendor {o s : State} {bytes : List Byte} (ok : Keeps o s) : Keeps o (Machine.answerVendor s bytes) := ok.answer

theorem Keeps.openSession {o s : State} {msg : List Byte} (ok : Keeps o s) : Keeps o (Machine.openSession msg s) := ok.draw.update.answer

theorem Keeps.giveNonce {o s : State} (ok : Keeps o s) : Keeps o (Machine.giveNonce s) := ok.draw.update.answerVendor

theorem Keeps.serveHeld {o s : State} {r : Bool × List Byte} (ok : Keeps o s) : Keeps o (Machine.serveHeld s r) := by
  unfold Machine.serveHeld
  refine ite (ite ?_ ?_) (ite ?_ ?_)
  · exact ok.giveNonce
  · exact ok.answerError
  · exact ok.answerError
  · exact ok.openSession

/-- A tamper reset, after which HBM holds nothing (R725). -/
theorem Keeps.tamperReset {o s : State} {cause : Nat} (ok : Keeps o s) : Keeps o (Machine.tamperReset s cause) :=
  (ok.foldl fun _ _ ok => ok.stepFail).rbump.memory fun form => Memory.wf_sublist form List.filter_sublist

theorem Keeps.inSession {o s : State} {cycles : List Nat} {eff : State → State} (ok : Keeps o s) (keeps_eff : ∀ v, Keeps o v → Keeps o
    (eff v)) :
    Keeps o (Machine.inSession cycles eff s) := ite (keeps_eff _ ok) ok.answerError

theorem Keeps.programSlot {o s : State} {msg : List Byte} {sound : Bool} (ok : Keeps o s) :
    Keeps o (Machine.programSlot msg sound s) := ite ok.answerError ok.update.answerVendor

end Sys2Proof.Machine
end

section
/-! SUPPORT. What the operations of Health keep (`Keeps`). -/

namespace Sys2Proof.Machine

theorem Keeps.scrubWord {o s : State} {u : Nat × Nat} (ok : Keeps o s) :
    Keeps o (Machine.scrubWord s u) := ite ok.countUncorrected ok.update.countCorrection

theorem Keeps.addAcc {o s : State} {k n : Nat} (ok : Keeps o s) : Keeps o (Machine.addAcc s k n) := ok.rput

theorem Keeps.showWear {o s : State} {n w : Nat} (ok : Keeps o s) :
    Keeps o (Machine.showWear s n w) := ite (((ite ok.rput.update.logRaw ok.rput).update).logRaw) (ite ok.rput.update.logRaw ok.rput)

theorem Keeps.measure {o s : State} (ok : Keeps o s) : Keeps o (Machine.measure s).2 := ok.update

/-- A sensor read (R786). -/
theorem Keeps.sensorValue {o s s' : State} {id v : Nat} (ok : Keeps o s) (e : Machine.sensorValue s id = some (v, s')) :
    Keeps o s' := by
  unfold Machine.sensorValue at e
  split_ifs at e <;> cases e
  · exact ok.measure
  · exact ok.measure
  all_goals exact ok

theorem Keeps.writeInject {o s : State} {q : Requester} {v : Word} (ok : Keeps o s) :
    Keeps o (Machine.writeInject q v s) := ok.guardedWrite (fun _ ok => ok.storeReg)

theorem Keeps.writeSqlSeed {o s : State} {q : Requester} {v : Word} (ok : Keeps o s) :
    Keeps o (Machine.writeSqlSeed q v s) := ok.guardedWrite (fun _ ok => ok.storeReg.update)

end Sys2Proof.Machine
end

section
/-! SUPPORT. What the operations of HostOps keep (`Keeps`). -/

namespace Sys2Proof.Machine

theorem Keeps.notifyTake {o s : State} {c : Nat} {m : Cmd} {b : List Byte} (ok : Keeps o s) :
    Keeps o (Machine.notifyTake c m b s) :=
  ite ok.violation (ite ok.finishCmd.postEvent (ite ok.stepFail (ite ok.finishCmd ok.modCtx.modCmd.markUnfixed)))

theorem Keeps.writeEvtCfg {o s : State} {q : Requester} {f : Nat} {v : Word} (ok : Keeps o s) :
    Keeps o (Machine.writeEvtCfg q f v s) := ok.guardedWrite (fun _ ok => ite ok.storeReg.rput ok.storeReg)

theorem Keeps.eventHead {o s : State} {fn : Nat} {v : Word} (ok : Keeps o s) :
    Keeps o (Machine.eventHead s fn v) := ite ok.rbump (ite ok.rsetField.ringOverflow.hostFlush ok.rsetField)

theorem Keeps.dmaLast {o s : State} {fn tag kind : Nat} (ok : Keeps o s) : Keeps o (Machine.dmaLast s fn tag kind) := ok.rput

theorem Keeps.setRead {o s : State} {r : HostRd} {new : Option HostRd} (ok : Keeps o s) : Keeps o (Machine.setRead s r new) := ok.update

theorem Keeps.landRead {o s : State} {r : HostRd} {bytes : List Byte} (ok : Keeps o s) :
    Keeps o (Machine.landRead s r bytes) :=
  ite ((ite ok ok.writeMem).setRead) (ite ((ite ok ok.writeMem).setRead) (((ite ok ok.writeMem).setRead).cmdPart))

theorem Keeps.readFails {o s : State} {r : HostRd} {cause : Nat} (ok : Keeps o s) :
    Keeps o (Machine.readFails s r cause) := ite ok (ite ok.update ok.stepFail)

theorem Keeps.lateCompletion {o s : State} {fn tag : Nat} (ok : Keeps o s) :
    Keeps o (Machine.lateCompletion s fn tag) := ok.rbump.dmaLast.logNote.update

theorem Keeps.readArrives {o s : State} {fn tag : Nat} {res : CplStatus} {bytes : List Byte} (ok : Keeps o s) :
    Keeps o (Machine.readArrives s fn tag res bytes) := by
  unfold Machine.readArrives
  dsimp only
  split
  · exact ok.lateCompletion
  · refine ite ?_ ?_
    · exact ok.lateCompletion
    · split
      · exact ok.rbump.dmaLast.setRead.readFails
      · exact ok.rbump.dmaLast.setRead.readFails
      · exact ite ok.squall.rbump.setRead ok.landRead

theorem Keeps.dropHostWrites {o s : State} {fn : Nat} (ok : Keeps o s) : Keeps o (Machine.dropHostWrites s fn) := ok.update

theorem Keeps.vfKill {o s : State} {c : Nat} (ok : Keeps o s) : Keeps o (Machine.vfKill s c) := ite ok.endAttempt ok.stepFail

theorem Keeps.flr {o s : State} {fn : Nat} (ok : Keeps o s) : Keeps o (Machine.flr fn s) := by
  unfold Machine.flr
  exact ok.vfKill.vfKill.modStall.dropHostWrites.rput.rput.rput.modFn

theorem Keeps.clearHostSide {o s : State} (ok : Keeps o s) : Keeps o (Machine.clearHostSide s) := ok.rclear.rput.rsetField.update

theorem Keeps.hostReset {o s : State} {kind : HostResetKind} (ok : Keeps o s) :
    Keeps o (Machine.hostReset kind s) :=
  (ite ok.rbump.clearHostSide.update ok.rbump.clearHostSide).share fun cleared =>
    ((ite cleared.rmod.rmod cleared).update).triggerFold

end Sys2Proof.Machine
end

section
/-! SUPPORT. What the operations of Media keep (`Keeps`). -/

namespace Sys2Proof.Machine

theorem Keeps.rsTake {o s : State} {c e : Nat} {m : Cmd} {b : List Byte} (ok : Keeps o s) :
    Keeps o (Machine.rsTake c e m b s) :=
  ite ok.violation (ok.withSpans (fun _ ok => ok.gated (fun _ ok => ((ok.foldl (fun _ _ ok => ok.writeMem)).rbump).finishCmd)))

theorem Keeps.medErr {o s : State} {e c cause : Nat} (ok : Keeps o s) : Keeps o (Machine.medErr s e c cause) := ok.ddErr

theorem Keeps.encFail {o s : State} {e c cause : Nat} (ok : Keeps o s) : Keeps o (Machine.encFail s e c cause) := ok.medErr.stepFail

/-- A stream table staged in a slot (R601). -/
theorem Keeps.stageStream {o s : State} {c slot : Nat} {table : State → State × List Byte} (ok : Keeps o s)
    (keeps_table : ∀ v, Keeps o v → Keeps o (table v).1) : Keeps o (Machine.stageStream s c slot table) := by
  unfold Machine.stageStream
  extract_lets n p put
  have put_ok {v : State} {key : Nat} (ok : Keeps o v) : Keeps o (put v key) := ite (keeps_table _ ok) (keeps_table _ ok).writeMem
  refine ite ok.stepFail (ite (put_ok ok) ?_)
  split
  · exact ok.allocFail
  · rename_i taken
    exact put_ok (ok.allocBuf taken).freeHandle.setPub.modCtx

/-- Row buffers taken and written (R601). -/
theorem Keeps.allocRows {o s s' : State} {c r k : Nat} {rows : List (Nat × List Byte)} {acc hs : List (Nat × Nat)} (ok : Keeps o s)
    (e : Machine.allocRows c r k rows s acc = some (s', hs)) : Keeps o s' := by
  induction rows generalizing s acc with
  | nil => cases e; exact ok
  | cons row rows ih =>
    unfold Machine.allocRows at e
    split at e
    · cases e
    · rename_i taken
      exact ih (ok.allocBuf taken).writeMem e

/-- Row buffers checked one after the other (R247). -/
theorem Keeps.withRows {o s : State} {src : Src} {n len : Nat} {hs acc : List Nat} {k : List Nat → State → State} (ok : Keeps o s)
    (keeps_k : ∀ x v, Keeps o v → Keeps o (k x v)) : Keeps o (Machine.withRows src n len hs acc s k) := by
  induction hs generalizing s acc with
  | nil => exact keeps_k _ _ ok
  | cons h hs ih =>
    unfold Machine.withRows
    exact ok.withHandle fun _ _ ok => ih ok

theorem Keeps.encWork {o s : State} {c e : Nat} {m : Cmd} {b t : List Byte} {d : EncDesc} {cfg : EncCfg} {outA : Nat} {ins : List
    (List Byte)} (ok : Keeps o s) :
    Keeps o (Machine.encWork c e m b t d cfg outA ins s) := by
  unfold Machine.encWork
  dsimp only
  refine ite ?_ ?_
  · exact ok.finishCmd
  · refine ite ?_ ?_
    · refine ok.stageStream (fun _ ok => ?_)
      split
      · exact ok.allocFail
      · rename_i heq
        exact ok.allocRows heq
    · refine .finishCmd ?_
      refine .rsetField ?_
      refine ite ?_ ?_
      · refine .rbump ?_
        refine .rbump ?_
        refine ite ?_ ?_
        · refine .engineWrite ?_
          refine ok.stageStream (fun _ ok => ?_)
          split
          · exact ok.allocFail
          · rename_i heq
            exact ok.allocRows heq
        · refine .engineWrite ?_
          refine .engineWrite ?_
          refine ok.stageStream (fun _ ok => ?_)
          split
          · exact ok.allocFail
          · rename_i heq
            exact ok.allocRows heq
      · refine .rbump ?_
        refine ite ?_ ?_
        · refine .engineWrite ?_
          refine ok.stageStream (fun _ ok => ?_)
          split
          · exact ok.allocFail
          · rename_i heq
            exact ok.allocRows heq
        · refine .engineWrite ?_
          refine .engineWrite ?_
          refine ok.stageStream (fun _ ok => ?_)
          split
          · exact ok.allocFail
          · rename_i heq
            exact ok.allocRows heq

theorem Keeps.encTake {o s : State} {c e : Nat} {m : Cmd} {b : List Byte} (ok : Keeps o s) : Keeps o (Machine.encTake c e m b s) := by
  unfold Machine.encTake
  dsimp only
  refine ite ?_ ?_
  · exact ok.violation
  · refine ite ?_ ?_
    · exact ok.mismatch
    · refine ite ?_ ?_
      · exact ok.stepFail
      · split
        · exact ok.encFail
        · exact ok.withBytes (fun _ _ ok => ite ok.encFail (ite ok.encFail (ite ok.encFail (ite ok.encFail
            (ite ok.violation (ite ok.violation (ok.withHandle (fun _ _ ok => ite ok.violation (ok.withUse (fun _ _ ok =>
              ok.withSpans (fun _ ok => ok.withRows (fun _ _ ok => ok.gated (fun _ ok => ok.encWork)))))))))))))

theorem Keeps.cfgTake {o s : State} {c e : Nat} {m : Cmd} {b : List Byte} (ok : Keeps o s) :
    Keeps o (Machine.cfgTake c e m b s) :=
  ite ok.violation (ite ok.mismatch (ite ok.encFail (ite ok.finishCmd
    ((ok.stageStream (fun _ ok => ok)).share fun staged => ite staged staged.finishCmd))))

end Sys2Proof.Machine
end

section
/-! SUPPORT. What the operations of Messages keep (`Keeps`). -/

namespace Sys2Proof.Machine

theorem Keeps.copyPart {o s : State} {c id : Nat} (ok : Keeps o s) : Keeps o (Machine.copyPart s c id) := by
  unfold Machine.copyPart
  split
  · exact ok.cmdPart
  · exact ok

theorem Keeps.withFate {o s : State} {p : Nat} {b : List Byte} {drop go : State → State} (ok : Keeps o s)
    (keeps_drop : ∀ v, Keeps o v → Keeps o (drop v)) (keeps_go : ∀ v, Keeps o v → Keeps o (go v)) :
    Keeps o (Machine.withFate s p b drop go) := by
  unfold Machine.withFate
  split
  · exact ok
  · exact (keeps_drop _ ok).mismatch
  · exact (keeps_drop _ ok).rbump
  · exact (keeps_drop _ ok).violation
  · exact (keeps_drop _ ok).stepFail
  · exact keeps_go _ (keeps_drop _ ok)

theorem Keeps.replyLanded {o s : State} {p c : Nat} {b : List Byte} (ok : Keeps o s) : Keeps o (Machine.replyLanded s p c b) := by
  unfold Machine.replyLanded
  dsimp only
  split
  · exact ok
  · refine ite ?_ ?_
    · exact ok.modPort
    · split
      · exact ok.modPort.copyPart.modPort.sendReadReq
      · exact ok.modPort.copyPart

theorem Keeps.landWrite {o s : State} {p : Nat} {b : List Byte} (ok : Keeps o s) : Keeps o (Machine.landWrite p b s) := by
  unfold Machine.landWrite
  dsimp only
  refine ite ?_ ?_
  · exact ok.writeMem.replyLanded
  · split
    · exact ok.writeMem
    · exact ok.writeMem.sendMessage

theorem Keeps.answerRead {o s : State} {p : Nat} {b : List Byte} (ok : Keeps o s) : Keeps o (Machine.answerRead p b s) := by
  unfold Machine.answerRead
  exact ok.withBytes (fun _ _ ok => ok.sendUnit)

end Sys2Proof.Machine
end

section
/-! SUPPORT. What the operations of Power keep (`Keeps`). -/

namespace Sys2Proof.Machine

theorem Keeps.sampleVid {o s : State} {nextFallow : Nat} (ok : Keeps o s) :
    Keeps o (Machine.sampleVid s nextFallow) := ok.update.foldl (fun _ _ ok => ok.rsetField.rsetField)

theorem Keeps.tidePower {o s : State} {power : Nat} (ok : Keeps o s) :
    Keeps o (Machine.tidePower power s) := ok.rsetField.rsetField.rsetField

end Sys2Proof.Machine
end

section
/-! SUPPORT. What the operations of Ticks keep (`Keeps`). -/

namespace Sys2Proof.Machine

theorem Keeps.startSteward {o s : State} (ok : Keeps o s) :
    Keeps o (Machine.startSteward s) := ite ok.rmod.modCtx.violation (ok.rmod.modCtx.withBytes (fun _ _ ok => ok.modBcn))

theorem Keeps.writeStwCtrl {o s : State} {q : Requester} {v : Word} (ok : Keeps o s) :
    Keeps o (Machine.writeStwCtrl q v s) := ok.guardedWrite (fun _ ok => ite ok.storeReg.startSteward ok.storeReg)

theorem Keeps.overrunMore {o s : State} {c : Nat} (ok : Keeps o s) :
    Keeps o (Machine.overrunMore s c) := ok.writeOutcome.sendNotice.stopAttempt

theorem Keeps.overrunStall {o s : State} {n : Nat} (ok : Keeps o s) : Keeps o (Machine.overrunStall s n) := by
  unfold Machine.overrunStall
  dsimp only
  split
  · exact ok
  · exact (((ok.stepFail.foldl (fun _ _ ok => ok.overrunMore)).rmod).rbump).modStall

theorem Keeps.endCommitted {o s : State} {c : Nat} (ok : Keeps o s) : Keeps o (Machine.endCommitted s c) := ite ok.endAttempt ok

theorem Keeps.flushChan {o s : State} {p vc : Nat} {act : List Byte → State → State} (ok : Keeps o s)
    (keeps_act : ∀ x v, Keeps o v → Keeps o (act x v)) :
    Keeps o (Machine.flushChan s p vc act) := ok.foldl (fun _ _ ok => keeps_act _ _ ok.dropUnit)

theorem Keeps.flushPort {o s : State} {p : Nat} (ok : Keeps o s) : Keeps o (Machine.flushPort s p) := by
  unfold Machine.flushPort
  exact (((ok.flushChan (fun _ _ ok => ok.recArrive)).flushChan (fun _ _ ok => ok.recArrive)).flushChan
    (fun _ _ ok => ite ok.mismatch ok.rbump)).modPort

theorem Keeps.flushHeld {o s : State} (ok : Keeps o s) :
    Keeps o (Machine.flushHeld s) := (ok.emptyParks.foldl (fun _ _ ok => ok.winStale)).update

theorem Keeps.samplePoint {o s : State} (ok : Keeps o s) : Keeps o (Machine.samplePoint s) := by
  unfold Machine.samplePoint
  exact (((((((ok.foldl (fun _ _ ok => ok.overrunStall)).foldl (fun _ _ ok => ok.endCommitted)).update).foldl
    (fun _ _ ok => ok.flushPort)).flushHeld).sampleImage).sampleFields).sampleVid

theorem Keeps.disarmFallow {o s : State} (ok : Keeps o s) : Keeps o (Machine.disarmFallow s) := ite ok.rsetField.logAccess ok

theorem Keeps.tickImage {o s : State} (ok : Keeps o s) :
    Keeps o (Machine.tickImage s) := (ok.applyPending.foldl (fun _ _ ok => ite ok.cutOff ok)).disarmFallow

theorem Keeps.tickCounts {o s : State} (ok : Keeps o s) : Keeps o (Machine.tickCounts s) := ok.update

theorem Keeps.closeTide {o s : State} {tk : Nat} {fly : Bool} {power : Nat} (ok : Keeps o s) :
    Keeps o (Machine.closeTide tk fly power s) := ok.tickImage.tickCore.tidePower.tickCounts

theorem Keeps.countFlywheel {o s : State} (ok : Keeps o s) : Keeps o (Machine.countFlywheel s) := ok.rbump.logRaw

theorem Keeps.firstTick {o s : State} (ok : Keeps o s) :
    Keeps o (Machine.firstTick s) :=
  (ite ok.countFlywheel ok).update.tickCore.setPhase.tickCounts.update.share fun ticked => ite ticked.startSteward ticked

end Sys2Proof.Machine
end

section
/-! SUPPORT. What the operations of RegAccess keep (`Keeps`). -/

namespace Sys2Proof.Machine

theorem Keeps.clearOnRead {o s : State} {r : Reg} {d i : Nat} (ok : Keeps o s) : Keeps o (Machine.clearOnRead s r d i) := ite ok ok.rmod

theorem Keeps.readRegister {o s : State} {q : Requester} {r : Reg} {d i : Nat} (ok : Keeps o s) :
    Keeps o (Machine.readRegister q r d i s).2 := iteSnd ok (iteSnd ok.logAccess (iteSnd ok.mismatch (iteSnd ok.measure ok.clearOnRead)))

theorem Keeps.readAddress {o s : State} {q : Requester} {a size : Nat} (ok : Keeps o s) : Keeps o (Machine.readAddress q a size s).2 := by
  unfold Machine.readAddress
  dsimp only
  refine iteSnd ?_ ?_
  · exact ok.logAccess
  · split
    · exact ok.readRegister
    · exact iteSnd ok ok.logAccess

/-- The data of a read on its way to the requester. -/
theorem Keeps.returnRead {o : State} {q : Requester} {x : Word × State} (ok : Keeps o x.2) : Keeps o (Machine.returnRead q x) :=
  ok.update

theorem Keeps.plainWrite {o s : State} {q : Requester} {r : Reg} {d i : Nat} {v : Word} {check : State → Bool} (ok : Keeps o s) :
    Keeps o (Machine.plainWrite q r d i v check s) := ok.guardedWrite (fun _ ok => ok.storeReg)

theorem Keeps.writeKill {o s : State} {q : Requester} {v : Word} (ok : Keeps o s) :
    Keeps o (Machine.writeKill q v s) := ok.guardedWrite (fun _ ok => ok.killMask.killMask)

theorem Keeps.writeRegister {o s : State} {q : Requester} {r : Reg} {d i : Nat} {v : Word} (ok : Keeps o s) :
    Keeps o (Machine.writeRegister q r d i v s) := by
  unfold Machine.writeRegister
  split
  · exact ok.writeClkCd
  · exact ok.writeClkMd
  · exact ok.writeTidPeriod
  · exact ok.writeTidBayCfg
  · exact ok.writeTidBayStart
  · exact ok.writeTidBayOwn
  · exact ok.writeTidBayOwn
  · exact ok.writeTidRefPlan
  · exact ok.writeKill
  · exact ok.writeStwCtrl
  · exact ok.writeDklCtrl
  · exact ok.writeEvtCfg
  · exact ok.writeBwrCmd
  · exact ok.writeSecImgCtrl
  · exact ok.writePwrRst
  · exact ok.writeTestCmd
  · exact ok.writeInject
  · exact ok.writeSqlSeed
  · exact ok.plainWrite
  · exact ok.plainWrite
  · exact ok.plainWrite
  · exact ok.plainWrite

theorem Keeps.writeAddress {o s : State} {q : Requester} {a : Nat} {v : Word} (ok : Keeps o s) :
    Keeps o (Machine.writeAddress q a v s) := by
  unfold Machine.writeAddress
  dsimp only
  refine ite ?_ ?_
  · exact ok.logAccess
  · split
    · exact ok.writeRegister
    · exact ok.logAccess

theorem Keeps.ldRead {o s : State} {c a : Nat} (ok : Keeps o s) :
    Keeps o (Machine.ldRead c s a).2 := iteSnd ok.readAddress (ok.withBytes (fun _ _ ok => ok))

theorem Keeps.stWrite {o s : State} {c a : Nat} {v : Word} (ok : Keeps o s) :
    Keeps o (Machine.stWrite c s a v) := ite ok.writeAddress ok.writeMem

end Sys2Proof.Machine
end

section
/-! SUPPORT. What the operations of Step keep (`Keeps`). -/

namespace Sys2Proof.Machine

theorem Keeps.withFetchWord {o s : State} {nbits w : Nat} (ok : Keeps o s) : Keeps o (Machine.State.withFetchWord s nbits w) := ok

end Sys2Proof.Machine
end

section
/-! SUPPORT and PROOFS. Every command goes: it answers a next state that keeps the queue, the order of time and the form (O2, O4). -/

namespace Sys2Proof.Machine

/-- An outcome with a next state, which keeps what the state had. -/
def Goes (s : State) (x : Host.Outcome State Fault Refusal) : Prop := ∃ s', x = .next s' ∧ Keeps s s'

/-- A command whose effect keeps it goes, enabled or not. -/
theorem goes_whenEnabled {t : Nat} {en : State → Bool} {eff : State → State} {s : State}
    (keeps_eff : ∀ v, Keeps s v → Keeps s (eff v)) : Goes s (whenEnabled t en eff s) := by
  unfold whenEnabled
  split
  · exact ⟨_, rfl, keeps_eff _ (.moment s t)⟩
  · exact ⟨_, rfl, .moment s t⟩

/-- A read of a clearing register goes. -/
theorem goes_readNamed {q : Requester} {r : Reg} {d i t : Nat} {s : State} : Goes s (readNamed q r d i t s) :=
  goes_whenEnabled fun _ ok => ok.readRegister.returnRead

/-- A message whose effect keeps it goes. -/
theorem goes_onMessage {type p t : Nat} {act : List Byte → State → State} {s : State}
    (keeps_act : ∀ b v, Keeps s v → Keeps s (act b v)) : Goes s (onMessage type p act t s) := by
  refine goes_whenEnabled fun _ ok => ?_
  split
  · exact keeps_act _ _ ok.dropUnit
  · exact ok

theorem goes_execMonitorClockStop {s : State} {t : Nat} : Goes s (execMonitorClockStop t s) := by
  unfold execMonitorClockStop
  refine goes_whenEnabled fun _ ok => ?_
  exact ok.rmod.rmod.update.clockLoss

theorem goes_execTelemetryClockStop {s : State} {t : Nat} : Goes s (execTelemetryClockStop t s) := by
  unfold execTelemetryClockStop
  refine goes_whenEnabled fun _ ok => ?_
  exact ok.rmod.rmod.update.logNote

theorem goes_execRefclkStable {s : State} {t : Nat} : Goes s (execRefclkStable t s) := by
  unfold execRefclkStable
  refine goes_whenEnabled fun _ ok => ?_
  exact ok.update

theorem goes_execRampStage {s : State} {bad : List Nat} {t : Nat} : Goes s (execRampStage bad t s) := by
  unfold execRampStage
  refine goes_whenEnabled fun _ ok => ?_
  extract_lets s1 s2
  have base : Keeps s s2 := ok.rput.rput.settleVid
  clear_value s2
  exact Keeps.ite base.update base.update

theorem goes_execTideOutEnd {s : State} {t : Nat} : Goes s (execTideOutEnd t s) := by
  unfold execTideOutEnd
  refine goes_whenEnabled fun _ ok => ?_
  exact ok.update

theorem goes_execBayStart {s : State} {b : Nat} {t : Nat} : Goes s (execBayStart b t s) := by
  unfold execBayStart
  refine goes_whenEnabled fun _ ok => ?_
  exact ok.update

theorem goes_execRefreshSlot {s : State} {j : Nat} {t : Nat} : Goes s (execRefreshSlot j t s) := by
  unfold execRefreshSlot
  refine goes_whenEnabled fun _ ok => ?_
  exact ok.update

theorem goes_execBlackoutEnd {s : State} {j : Nat} {t : Nat} : Goes s (execBlackoutEnd j t s) := by
  unfold execBlackoutEnd
  refine goes_whenEnabled fun _ ok => ?_
  exact ok.update

theorem goes_execHbmTemperatureReport {s : State} {n temp : Nat} {t : Nat} : Goes s (execHbmTemperatureReport n temp t s) := by
  unfold execHbmTemperatureReport
  refine goes_whenEnabled fun _ ok => ?_
  exact Keeps.ite ok.rsetField.rsetField.update ok.rsetField.rsetField

theorem goes_execTallySignal {s : State} {id : Nat} {t : Nat} : Goes s (execTallySignal id t s) := by
  unfold execTallySignal
  refine goes_whenEnabled fun _ ok => ?_
  split
  · exact ok
  · exact Keeps.ite ok.update.tallyAdd ok.update

theorem goes_execStepStart {s : State} {c : Nat} {t : Nat} : Goes s (execStepStart c t s) := by
  unfold execStepStart
  refine goes_whenEnabled fun _ ok => ?_
  refine Keeps.ite ?_ ?_
  · split
    · exact ok.modStall.startStep
    · exact ok
  · split
    · exact ok.modStall.startStep
    · exact ok

theorem goes_execCall {s : State} {c : Nat} {t : Nat} : Goes s (execCall c t s) := by
  unfold execCall
  exact goes_whenEnabled fun _ ok => ok.controlCmd fun _ _ _ ok => ok.modBcn.fst

theorem goes_execRet {s : State} {c : Nat} {t : Nat} : Goes s (execRet c t s) := by
  unfold execRet
  exact goes_whenEnabled fun _ ok => ok.controlCmd fun _ _ _ ok => ok.modBcn.fst

theorem goes_execFetch {s : State} {c : Nat} {t : Nat} : Goes s (execFetch c t s) := by
  unfold execFetch
  refine goes_whenEnabled fun _ ok => ok.controlCmd fun _ _ _ ok => ?_
  dsimp only
  split
  · exact ok.stepFail
  · exact ok.modBcn.fst

theorem goes_execFetchComplete {s : State} {c : Nat} {t : Nat} : Goes s (execFetchComplete c t s) := by
  unfold execFetchComplete
  refine goes_whenEnabled fun _ ok => ?_
  split
  · exact ok
  · exact ok.withBytes (fun _ _ ok => ok.modBcn)

theorem goes_execCommit {s : State} {c : Nat} {t : Nat} : Goes s (execCommit c t s) := by
  unfold execCommit
  refine goes_whenEnabled fun _ ok => ?_
  exact ok.controlCmd (fun _ _ _ ok => Keeps.iteFst ok (Keeps.iteFst ok.logAccess ok.commitPoint))

theorem goes_execEndC {s : State} {c : Nat} {t : Nat} : Goes s (execEndC c t s) := by
  unfold execEndC
  refine goes_whenEnabled fun _ ok => ?_
  exact ok.controlCmd (fun _ _ _ ok => Keeps.iteFst ok (Keeps.iteFst ok.endAttempt ok.stepFail))

theorem goes_execSignalReturn {s : State} {p : Nat} {relocked : Bool} {t : Nat} : Goes s (execSignalReturn p relocked t s) := by
  unfold execSignalReturn
  refine goes_whenEnabled fun _ ok => ?_
  exact Keeps.ite ok.rmod.modPort (Keeps.ite ok.rmod.modPort.startRetrain (Keeps.ite ok.rmod.modPort.modPort ok.rmod.modPort.modPort.resumeReplay))

theorem goes_execLockoutEntry {s : State} {t : Nat} : Goes s (execLockoutEntry t s) := by
  unfold execLockoutEntry
  refine goes_whenEnabled fun _ ok => ?_
  exact (((((ok.foldl (fun _ _ ok => ok.cutOff)).foldl (fun _ _ ok => ok.lockStep)).update).drivePin).postPf).logRaw

theorem goes_execChannelFault {s : State} {chan : Channel} {e : Nat} {t : Nat} : Goes s (execChannelFault chan e t s) := by
  unfold execChannelFault
  refine goes_whenEnabled fun _ ok => ?_
  exact ok.update.faultChannel

theorem goes_execChannelDiscrepancy {s : State} {p : Nat} {t : Nat} : Goes s (execChannelDiscrepancy p t s) := by
  unfold execChannelDiscrepancy
  refine goes_whenEnabled fun _ ok => ?_
  exact ok.cutDie.update

theorem goes_execChannelSelfTestDone {s : State} {okP : Bool} {okH : List Bool} {t : Nat} : Goes s (execChannelSelfTestDone okP okH t s) := by
  unfold execChannelSelfTestDone
  refine goes_whenEnabled fun _ ok => ?_
  exact Keeps.ite ok.update.decideLockout
    ((Keeps.ite ok.update ok.update.faultChannel).share fun tested => Keeps.ite tested tested.faultChannel)

theorem goes_execDegradedWarning {s : State} {t : Nat} : Goes s (execDegradedWarning t s) := by
  unfold execDegradedWarning
  refine goes_whenEnabled fun _ ok => ?_
  exact ok.update.logRaw

theorem goes_execDegradedExpired {s : State} {t : Nat} : Goes s (execDegradedExpired t s) := by
  unfold execDegradedExpired
  refine goes_whenEnabled fun _ ok => ?_
  exact ok.update.decideLockout

theorem goes_execBrakeTestStart {s : State} {e : Nat} {t : Nat} : Goes s (execBrakeTestStart e t s) := by
  unfold execBrakeTestStart
  refine goes_whenEnabled fun _ ok => ?_
  exact ok.startTest.update

theorem goes_execBrakeTestCheck {s : State} {e : Nat} {monP monH : Bool} {t : Nat} : Goes s (execBrakeTestCheck e monP monH t s) := by
  unfold execBrakeTestCheck
  refine goes_whenEnabled fun _ ok => ?_
  exact Keeps.ite ok.rput.cutOff.decideLockout (Keeps.ite ok.rput.modBwPort ok.rput.endTest.setLevel.modBwPort)

theorem goes_execShutdown {s : State} {p : Nat} {t : Nat} : Goes s (execShutdown p t s) := by
  unfold execShutdown
  refine goes_whenEnabled fun _ ok => ?_
  exact Keeps.ite (Keeps.ite ok.dropUnit ok.dropUnit.rejectSafety) ((((Keeps.ite ok.dropUnit ok.dropUnit.rejectSafety).cutOff).rbump).modBwPort)

theorem goes_execResetSelfTestDone {s : State} {okP : Bool} {okH : List Bool} {t : Nat} : Goes s (execResetSelfTestDone okP okH t s) := by
  unfold execResetSelfTestDone
  refine goes_whenEnabled fun _ ok => ?_
  exact Keeps.ite (Keeps.ite ok.update.leaveLockout ok.update.rsetField) (Keeps.ite ok.update.rmod.rsetField ok.update.rsetField)

theorem goes_execSfPowerLoss {s : State} {t : Nat} : Goes s (execSfPowerLoss t s) := by
  unfold execSfPowerLoss
  refine goes_whenEnabled fun _ ok => ?_
  exact ((ok.foldl (fun _ _ ok => ok.cutOff)).update).drivePin

theorem goes_execSfPowerOn {s : State} {withPkgOk : Bool} {t : Nat} : Goes s (execSfPowerOn withPkgOk t s) := by
  unfold execSfPowerOn
  refine goes_whenEnabled fun _ ok => ?_
  exact Keeps.ite ok.rclear.update.decideLockout ok.rclear.update.drivePin

theorem goes_execClockInputLost {s : State} {input : RefInput} {t : Nat} : Goes s (execClockInputLost input t s) := by
  unfold execClockInputLost
  refine goes_whenEnabled fun _ ok => ?_
  split
  · exact ok.refFail
  · exact ok.lnkLost
  · exact ok.safeFail

theorem goes_execToleranceWindow {s : State} {ref lnk safe : Nat} {t : Nat} : Goes s (execToleranceWindow ref lnk safe t s) := by
  unfold execToleranceWindow
  refine goes_whenEnabled fun _ ok => ?_
  exact Keeps.ite ok.rsetField.rsetField.update.rmod.update.tellBreakwater.clockLoss
    ((Keeps.ite ok.rsetField.rsetField.update.refFail ok.rsetField.rsetField.update).share fun ref =>
      (Keeps.ite ref.lnkLost ref).share fun lnk => Keeps.ite lnk.safeFail lnk)

theorem goes_execStewardHaulResume {s : State} {m : Nat} {t : Nat} : Goes s (execStewardHaulResume m t s) := by
  unfold execStewardHaulResume
  refine goes_whenEnabled fun _ ok => ?_
  split
  · exact ok.stewardNext
  · exact ok

theorem goes_execLooseAdd {s : State} {c n : Nat} {t : Nat} : Goes s (execLooseAdd c n t s) := by
  unfold execLooseAdd
  refine goes_whenEnabled fun _ ok => ?_
  split
  · exact ok.looseAdd
  · exact ok

theorem goes_execCensusMsg {s : State} {p : Nat} {t : Nat} : Goes s (execCensusMsg p t s) := by
  unfold execCensusMsg
  exact goes_onMessage fun _ _ ok => ok.censusArrive

theorem goes_execAnswerWindowExpire {s : State} {c : Nat} {t : Nat} : Goes s (execAnswerWindowExpire c t s) := by
  unfold execAnswerWindowExpire
  refine goes_whenEnabled fun _ ok => ?_
  split
  · exact ok.windowDefault
  · exact ok

theorem goes_execVerdictMsg {s : State} {p : Nat} {t : Nat} : Goes s (execVerdictMsg p t s) := by
  unfold execVerdictMsg
  exact goes_onMessage fun _ _ ok => ok.verdictArrive

theorem goes_execRemoteAddMsg {s : State} {p : Nat} {t : Nat} : Goes s (execRemoteAddMsg p t s) := by
  unfold execRemoteAddMsg
  exact goes_onMessage fun _ _ ok => ok.remoteAddArrive

theorem goes_execPlacedMsg {s : State} {p : Nat} {t : Nat} : Goes s (execPlacedMsg p t s) := by
  unfold execPlacedMsg
  refine goes_onMessage fun _ _ ok => ?_
  dsimp only
  split
  · exact ok
  · exact Keeps.ite ok.modDisp.hopCheck ok

theorem goes_execPkgPwrokRise {s : State} {t : Nat} : Goes s (execPkgPwrokRise t s) := by
  unfold execPkgPwrokRise
  refine goes_whenEnabled fun _ ok => ?_
  exact ok.packageOnBwr.update

theorem goes_execPkgPwrokFall {s : State} {t : Nat} : Goes s (execPkgPwrokFall t s) := by
  unfold execPkgPwrokFall
  refine goes_whenEnabled fun _ ok => ?_
  exact Keeps.ite ok.update.powerOff.drivePin ok.update.powerOff

theorem goes_execSeqFault {s : State} {rail : Nat} {t : Nat} : Goes s (execSeqFault rail t s) := by
  unfold execSeqFault
  refine goes_whenEnabled fun _ ok => ?_
  exact ok.update.drivePin

theorem goes_execSelfTestDone {s : State} {block : Nat} {t : Nat} : Goes s (execSelfTestDone block t s) := by
  unfold execSelfTestDone
  refine goes_whenEnabled fun _ ok => ?_
  split
  · exact ok
  · exact Keeps.ite ok.testedMemory.testResult.update.setPass ok.testedMemory.testResult

theorem goes_execTestPassExpire {s : State} {target : Nat} {t : Nat} : Goes s (execTestPassExpire target t s) := by
  unfold execTestPassExpire
  refine goes_whenEnabled fun _ ok => ?_
  exact ok.update.setPass

theorem goes_execAlignStart {s : State} {t : Nat} : Goes s (execAlignStart t s) := by
  unfold execAlignStart
  refine goes_whenEnabled fun _ ok => ?_
  exact ok.rmod.rmod.update

theorem goes_execAlignCheckEnd {s : State} {bad : Option Nat} {t : Nat} : Goes s (execAlignCheckEnd bad t s) := by
  unfold execAlignCheckEnd
  refine goes_whenEnabled fun _ ok => ?_
  split
  · exact ok.update.rmod.rbump.update
  · exact Keeps.ite ok.update.rmod.update (Keeps.ite ok.update.rmod.update.logRaw.update ok.update.rmod.update.logRaw.setPhase)

theorem goes_execFoldDone {s : State} {fail : Option Nat} {t : Nat} : Goes s (execFoldDone fail t s) := by
  unfold execFoldDone
  refine goes_whenEnabled fun _ ok => ?_
  split
  · exact ok.foldHalted
  · split
    · exact Keeps.ite ok.foldPassed ok.foldPassed
    · exact ok.foldPassed

theorem goes_execTripWaitEnd {s : State} {t : Nat} : Goes s (execTripWaitEnd t s) := by
  unfold execTripWaitEnd
  refine goes_whenEnabled fun _ ok => ?_
  exact ok.update.rsetField

theorem goes_execEntropyTestFail {s : State} {adaptive : Bool} {t : Nat} : Goes s (execEntropyTestFail adaptive t s) := by
  unfold execEntropyTestFail
  refine goes_whenEnabled fun _ ok => ?_
  exact ((Keeps.ite ok.rbump ok.rbump).rsetField).update

theorem goes_execEntropyStartupPass {s : State} {t : Nat} : Goes s (execEntropyStartupPass t s) := by
  unfold execEntropyStartupPass
  refine goes_whenEnabled fun _ ok => ?_
  exact ok.update.foldl fun _ _ ok => ok.serveHeld

theorem goes_execEntropyRecoveryTimeout {s : State} {t : Nat} : Goes s (execEntropyRecoveryTimeout t s) := by
  unfold execEntropyRecoveryTimeout
  refine goes_whenEnabled fun _ ok => ?_
  exact ok.update.lossUnlisted

theorem goes_execDrbgReseed {s : State} {t : Nat} : Goes s (execDrbgReseed t s) := by
  unfold execDrbgReseed
  refine goes_whenEnabled fun _ ok => ?_
  exact ok.update

theorem goes_execKeyExchange {s : State} {msg : List Byte} {t : Nat} : Goes s (execKeyExchange msg t s) := by
  unfold execKeyExchange
  refine goes_whenEnabled fun _ ok => ?_
  exact Keeps.ite ok.answerError (Keeps.ite ok.answerError (Keeps.ite ok.update ok.openSession))

theorem goes_execSpdmSessionEnd {s : State} {t : Nat} : Goes s (execSpdmSessionEnd t s) := by
  unfold execSpdmSessionEnd
  refine goes_whenEnabled fun _ ok => ?_
  exact ok.update.answer

theorem goes_execExportKt {s : State} {_msg : List Byte} {t : Nat} : Goes s (execExportKt _msg t s) := by
  unfold execExportKt
  refine goes_whenEnabled fun _ ok => ?_
  exact ok.inSession (fun _ ok => Keeps.ite ok.answerError ok.answerVendor)

theorem goes_execSetProduction {s : State} {_msg : List Byte} {t : Nat} : Goes s (execSetProduction _msg t s) := by
  unfold execSetProduction
  refine goes_whenEnabled fun _ ok => ?_
  exact ok.inSession (fun _ ok => Keeps.ite ok.update.answerVendor ok.answerError)

theorem goes_execGetNonce {s : State} {msg : List Byte} {t : Nat} : Goes s (execGetNonce msg t s) := by
  unfold execGetNonce
  refine goes_whenEnabled fun _ ok => ?_
  exact ok.inSession (fun _ ok => Keeps.ite ok.update ok.giveNonce)

theorem goes_execDebugEnter {s : State} {msg : List Byte} {t : Nat} : Goes s (execDebugEnter msg t s) := by
  unfold execDebugEnter
  refine goes_whenEnabled fun _ ok => ?_
  exact ok.inSession (fun _ ok => Keeps.ite ok.answerVendor.tamperReset.update ok.answerError)

theorem goes_execRetire {s : State} {msg : List Byte} {t : Nat} : Goes s (execRetire msg t s) := by
  unfold execRetire
  refine goes_whenEnabled fun _ ok => ?_
  exact ok.inSession (fun _ ok => Keeps.ite ok.answerVendor.update.tamperReset ok.answerError)

theorem goes_execFenceScrub {s : State} {t : Nat} : Goes s (execFenceScrub t s) := by
  unfold execFenceScrub
  refine goes_whenEnabled fun _ ok => ?_
  exact ok.update.foldl fun _ _ ok => ok.scrubWord

theorem goes_execWeatheringEval {s : State} {wear : List Nat} {tj : Nat} {swing : Bool} {rows : List Nat} {t : Nat} :
    Goes s (execWeatheringEval wear tj swing rows t s) := by
  unfold execWeatheringEval
  refine goes_whenEnabled fun _ ok => ?_
  exact ((((Keeps.ite ok.update.addAcc ok.update).addAcc).addAcc).foldl (fun _ _ ok => ok.addAcc.rbump)).foldl fun _ _ ok => ok.showWear

theorem goes_execWearSnapshot {s : State} {t : Nat} : Goes s (execWearSnapshot t s) := by
  unfold execWearSnapshot
  refine goes_whenEnabled fun _ ok => ?_
  exact ok.update

theorem goes_execSensorRead {s : State} {id : Nat} {t : Nat} : Goes s (execSensorRead id t s) := by
  unfold execSensorRead
  refine goes_whenEnabled fun _ ok => ?_
  split
  · refine .answer ?_
    rename_i heq
    exact ok.sensorValue heq
  · exact ok.answer

theorem goes_execHostDelayedLanding {s : State} {fn tag : Nat} {t : Nat} : Goes s (execHostDelayedLanding fn tag t s) := by
  unfold execHostDelayedLanding
  refine goes_whenEnabled fun _ ok => ?_
  split
  · split
    · exact ok.landRead
    · exact ok
  · exact ok

theorem goes_execCompletionTimeout {s : State} {fn tag : Nat} {t : Nat} : Goes s (execCompletionTimeout fn tag t s) := by
  unfold execCompletionTimeout
  refine goes_whenEnabled fun _ ok => ?_
  split
  · exact ok.rbump.dmaLast.setRead.readFails
  · exact ok

theorem goes_execPostedCreditReturn {s : State} {n : Nat} {t : Nat} : Goes s (execPostedCreditReturn n t s) := by
  unfold execPostedCreditReturn
  refine goes_whenEnabled fun _ ok => ?_
  exact ok.update.hostFlush

theorem goes_execPerstNRelease {s : State} {speed width : Nat} {flit : Bool} {t : Nat} : Goes s (execPerstNRelease speed width flit t s) := by
  unfold execPerstNRelease
  refine goes_whenEnabled fun _ ok => ?_
  exact ok.update

theorem goes_execKillMsg {s : State} {p : Nat} {t : Nat} : Goes s (execKillMsg p t s) := by
  unfold execKillMsg
  exact goes_onMessage fun _ _ ok => ok.noticeArrive

theorem goes_execLandedMsg {s : State} {p : Nat} {t : Nat} : Goes s (execLandedMsg p t s) := by
  unfold execLandedMsg
  exact goes_onMessage fun _ _ ok => Keeps.ite ok.copyPart ok

theorem goes_execWriteUnit {s : State} {p : Nat} {t : Nat} : Goes s (execWriteUnit p t s) := by
  unfold execWriteUnit
  refine goes_whenEnabled fun _ ok => ?_
  split
  · exact ok.withFate (fun _ ok => ok.dropUnit) (fun _ ok => ok.landWrite)
  · exact ok

theorem goes_execReadReq {s : State} {p : Nat} {t : Nat} : Goes s (execReadReq p t s) := by
  unfold execReadReq
  refine goes_whenEnabled fun _ ok => ?_
  split
  · exact ok.withFate (fun _ ok => Keeps.ite ok.modPort ok.dropUnit) (fun _ ok => ok.answerRead)
  · exact ok

theorem goes_execDelayedDelivery {s : State} {p vc : Nat} {t : Nat} : Goes s (execDelayedDelivery p vc t s) := by
  unfold execDelayedDelivery
  refine goes_whenEnabled fun _ ok => ?_
  split
  · exact ok
  · exact ok.modPort

theorem goes_execVoltageRiseCheck {s : State} {late unlocked : List Nat} {t : Nat} : Goes s (execVoltageRiseCheck late unlocked t s) := by
  unfold execVoltageRiseCheck
  refine goes_whenEnabled fun _ ok => ?_
  exact Keeps.ite ok.update ok.update.logRaw

theorem goes_execThermalTrip {s : State} {d : Nat} {t : Nat} : Goes s (execThermalTrip d t s) := by
  unfold execThermalTrip
  refine goes_whenEnabled fun _ ok => ?_
  exact ok.rmod.cancelChange.update.rsetField.lossUnlisted

theorem goes_execThermtrip {s : State} {d : Nat} {t : Nat} : Goes s (execThermtrip d t s) := by
  unfold execThermtrip
  refine goes_whenEnabled fun _ ok => ?_
  exact ((ok.foldl (fun _ _ ok => ok.cutOff)).update).drivePin

theorem goes_execPowerGateRamp {s : State} {d : Nat} {up : Bool} {t : Nat} : Goes s (execPowerGateRamp d up t s) := by
  unfold execPowerGateRamp
  refine goes_whenEnabled fun _ ok => ?_
  exact ok.rmod.update

/-- Every command goes. -/
theorem goes_exec (i : Instr) (s : State) : Goes s (exec i s) := by
  unfold exec
  cases i with
  | registerWrite => refine goes_whenEnabled ?_; exact fun _ ok => ok.writeAddress
  | stagingWrite => refine goes_whenEnabled ?_; exact fun _ ok => ok.stagingWrite
  | clkSetpointCdWrite => refine goes_whenEnabled ?_; exact fun _ ok => ok.writeClkCd
  | clkSetpointMdWrite => refine goes_whenEnabled ?_; exact fun _ ok => ok.writeClkMd
  | tidPeriodWrite => refine goes_whenEnabled ?_; exact fun _ ok => ok.writeTidPeriod
  | tidBayStartWrite => refine goes_whenEnabled ?_; exact fun _ ok => ok.writeTidBayStart
  | tidBayOwnWrite => refine goes_whenEnabled ?_; exact fun _ ok => ok.writeTidBayOwn
  | tidRefPlanWrite => refine goes_whenEnabled ?_; exact fun _ ok => ok.writeTidRefPlan
  | evtCfgWrite => refine goes_whenEnabled ?_; exact fun _ ok => ok.writeEvtCfg
  | tidMissCountRead => exact goes_readNamed
  | tidExtStatusRead => exact goes_readNamed
  | bcnHoldsRead => exact goes_readNamed
  | grnHeldRead => exact goes_readNamed
  | hauBytesRead => exact goes_readNamed
  | talDropRead => exact goes_readNamed
  | mtxTileBusyRead => exact goes_readNamed
  | vecUnitBusyRead => exact goes_readNamed
  | mtxLooseRead => exact goes_readNamed
  | sfuBusyRead => exact goes_readNamed
  | sfuEccRead => exact goes_readNamed
  | winVerdictRead => exact goes_readNamed
  | winDropsRead => exact goes_readNamed
  | winCensusRead => exact goes_readNamed
  | fryDropRead => exact goes_readNamed
  | glnDoneRead => exact goes_readNamed
  | dklErrRead => exact goes_readNamed
  | dklFecRead => exact goes_readNamed
  | medRsBusyRead => exact goes_readNamed
  | medEncBytesRead => exact goes_readNamed
  | medEncCappedRead => exact goes_readNamed
  | hifFnStatRead => exact goes_readNamed
  | hifDmaErrRead => exact goes_readNamed
  | hltEccRead => exact goes_readNamed
  | hltHbmRead => exact goes_readNamed
  | logStatusRead => exact goes_readNamed
  | sqlStatRead => exact goes_readNamed
  | secEntropyRead => exact goes_readNamed
  | pwrPeakRead => exact goes_readNamed
  | clockInputLost => exact goes_execClockInputLost
  | toleranceWindow => exact goes_execToleranceWindow
  | pllLockLost => refine goes_whenEnabled ?_; exact fun _ ok => Keeps.ite ok.rmod.rmod.clockLoss ok.rmod.rmod
  | edgeRxLockLost => refine goes_whenEnabled ?_; exact fun _ ok => ok.rmod.rmod.foldl (fun _ _ ok => Keeps.ite ok.loseLight ok)
  | monitorClockStop => exact goes_execMonitorClockStop
  | telemetryClockStop => exact goes_execTelemetryClockStop
  | refclkStable => exact goes_execRefclkStable
  | rampStage => exact goes_execRampStage
  | tideTick => refine goes_whenEnabled ?_; exact fun _ ok => ok.closeTide
  | tideInEdge => refine goes_whenEnabled ?_; exact fun _ ok => ok.tideInEdge
  | flywheelTick => refine goes_whenEnabled ?_; exact fun _ ok => ok.countFlywheel.closeTide
  | tideOutEnd => exact goes_execTideOutEnd
  | firstTick => refine goes_whenEnabled ?_; exact fun _ ok => ok.firstTick
  | samplingPoint => refine goes_whenEnabled ?_; exact fun _ ok => ok.samplePoint
  | releaseClear => refine goes_whenEnabled ?_; exact fun _ ok => ok.clearReleased
  | killComplete => refine goes_whenEnabled ?_; exact fun _ ok => ok.killDone
  | engineStopTimeout => refine goes_whenEnabled ?_; exact fun _ ok => ok.chipLoss
  | voltageRiseCheck => exact goes_execVoltageRiseCheck
  | vidFall => refine goes_whenEnabled ?_; exact fun _ ok => ok.rsetField
  | bayStart => exact goes_execBayStart
  | refreshSlot => exact goes_execRefreshSlot
  | blackoutEnd => exact goes_execBlackoutEnd
  | deadlineKill => refine goes_whenEnabled ?_; exact fun _ ok => ok.deadlineKill
  | stepDb => refine goes_whenEnabled ?_; exact fun _ ok => ok.stepDoorbell
  | stepStart => exact goes_execStepStart
  | attemptStart => refine goes_whenEnabled ?_; exact fun _ ok => ok.startNext
  | primaryResume => refine goes_whenEnabled ?_; exact fun _ ok => ok.startNext
  | killPrimary => refine goes_whenEnabled ?_; exact fun _ ok => ok.killMask
  | killUrgent => refine goes_whenEnabled ?_; exact fun _ ok => ok.killMask
  | hostTransferDrained => refine goes_whenEnabled ?_; exact fun _ ok => ok.transferDrained
  | slotPost => refine goes_whenEnabled ?_; exact fun _ ok => ok.slotCmd
  | commandComplete => refine goes_whenEnabled ?_; exact fun _ ok => ok.flushGrWrites.completeCmd
  | tallySignal => exact goes_execTallySignal
  | nopC => refine goes_whenEnabled ?_; exact fun _ ok => ok.scalarCmd (fun _ _ _ ok => ok) fun _ _ _ ok => ok
  | add => refine goes_whenEnabled ?_; exact fun _ ok => ok.aluCmd
  | addi => refine goes_whenEnabled ?_; exact fun _ ok => ok.aluCmd
  | sub => refine goes_whenEnabled ?_; exact fun _ ok => ok.aluCmd
  | subi => refine goes_whenEnabled ?_; exact fun _ ok => ok.aluCmd
  | mul => refine goes_whenEnabled ?_; exact fun _ ok => ok.mulCmd
  | muli => refine goes_whenEnabled ?_; exact fun _ ok => ok.mulCmd
  | mulhu => refine goes_whenEnabled ?_; exact fun _ ok => ok.mulCmd
  | mulhui => refine goes_whenEnabled ?_; exact fun _ ok => ok.mulCmd
  | mulResultReady => refine goes_whenEnabled ?_; exact fun _ ok => ok.mulReady
  | andC => refine goes_whenEnabled ?_; exact fun _ ok => ok.aluCmd
  | andi => refine goes_whenEnabled ?_; exact fun _ ok => ok.aluCmd
  | orC => refine goes_whenEnabled ?_; exact fun _ ok => ok.aluCmd
  | ori => refine goes_whenEnabled ?_; exact fun _ ok => ok.aluCmd
  | xorC => refine goes_whenEnabled ?_; exact fun _ ok => ok.aluCmd
  | xori => refine goes_whenEnabled ?_; exact fun _ ok => ok.aluCmd
  | shl => refine goes_whenEnabled ?_; exact fun _ ok => ok.aluCmd
  | shli => refine goes_whenEnabled ?_; exact fun _ ok => ok.aluCmd
  | shr => refine goes_whenEnabled ?_; exact fun _ ok => ok.aluCmd
  | shri => refine goes_whenEnabled ?_; exact fun _ ok => ok.aluCmd
  | sar => refine goes_whenEnabled ?_; exact fun _ ok => ok.aluCmd
  | sari => refine goes_whenEnabled ?_; exact fun _ ok => ok.aluCmd
  | minC => refine goes_whenEnabled ?_; exact fun _ ok => ok.aluCmd
  | mini => refine goes_whenEnabled ?_; exact fun _ ok => ok.aluCmd
  | maxC => refine goes_whenEnabled ?_; exact fun _ ok => ok.aluCmd
  | maxi => refine goes_whenEnabled ?_; exact fun _ ok => ok.aluCmd
  | minu => refine goes_whenEnabled ?_; exact fun _ ok => ok.aluCmd
  | minui => refine goes_whenEnabled ?_; exact fun _ ok => ok.aluCmd
  | maxu => refine goes_whenEnabled ?_; exact fun _ ok => ok.aluCmd
  | maxui => refine goes_whenEnabled ?_; exact fun _ ok => ok.aluCmd
  | clz => refine goes_whenEnabled ?_; exact fun _ ok => ok.scalarCmd (fun _ _ _ ok => ok.putSc) fun _ _ _ ok => ok
  | cmpeq => refine goes_whenEnabled ?_; exact fun _ ok => ok.cmpCmd
  | cmpne => refine goes_whenEnabled ?_; exact fun _ ok => ok.cmpCmd
  | cmplt => refine goes_whenEnabled ?_; exact fun _ ok => ok.cmpCmd
  | cmpltu => refine goes_whenEnabled ?_; exact fun _ ok => ok.cmpCmd
  | cmpge => refine goes_whenEnabled ?_; exact fun _ ok => ok.cmpCmd
  | cmpgeu => refine goes_whenEnabled ?_; exact fun _ ok => ok.cmpCmd
  | cmpeqi => refine goes_whenEnabled ?_; exact fun _ ok => ok.cmpCmd
  | cmpnei => refine goes_whenEnabled ?_; exact fun _ ok => ok.cmpCmd
  | cmplti => refine goes_whenEnabled ?_; exact fun _ ok => ok.cmpCmd
  | cmpltui => refine goes_whenEnabled ?_; exact fun _ ok => ok.cmpCmd
  | cmpgei => refine goes_whenEnabled ?_; exact fun _ ok => ok.cmpCmd
  | cmpgeui => refine goes_whenEnabled ?_; exact fun _ ok => ok.cmpCmd
  | pand => refine goes_whenEnabled ?_; exact fun _ ok => ok.pdCmd
  | por => refine goes_whenEnabled ?_; exact fun _ ok => ok.pdCmd
  | pxor => refine goes_whenEnabled ?_; exact fun _ ok => ok.pdCmd
  | pandn => refine goes_whenEnabled ?_; exact fun _ ok => ok.pdCmd
  | sel => refine goes_whenEnabled ?_; exact fun _ ok => ok.scalarCmd (fun _ _ _ ok => ok.putSc) fun _ _ _ ok => ok
  | mfs => refine goes_whenEnabled ?_; exact fun _ ok => ok.scalarCmd (fun _ _ _ ok => ok.putSc) fun _ _ _ ok => ok
  | ld => refine goes_whenEnabled ?_; exact fun _ ok => ok.ldCmd
  | ldDataUsable => refine goes_whenEnabled ?_; exact fun _ ok => ok.ldUsable fun _ _ ok => ok.ldRead
  | st => refine goes_whenEnabled ?_; exact fun _ ok => ok.stCmd
  | stLands => refine goes_whenEnabled ?_; exact fun _ ok => ok.stLand fun _ _ _ ok => ok.stWrite
  | movhi => refine goes_whenEnabled ?_; exact fun _ ok => ok.scalarCmd (fun _ _ _ ok => ok.putSc) fun _ _ _ ok => ok
  | controlNop => refine goes_whenEnabled ?_; exact fun _ ok => ok.controlCmd fun _ _ _ ok => ok
  | br => refine goes_whenEnabled ?_; exact fun _ ok => ok.controlCmd fun _ _ _ ok => ok
  | jmpr => refine goes_whenEnabled ?_; exact fun _ ok => ok.controlCmd fun _ _ _ ok => ok
  | call => exact goes_execCall
  | ret => exact goes_execRet
  | loop => refine goes_whenEnabled ?_; exact fun _ ok => ok.loopCmd
  | loopBackEdge => refine goes_whenEnabled ?_; exact fun _ ok => ok.backEdgeCmd
  | fetch => exact goes_execFetch
  | fetchComplete => exact goes_execFetchComplete
  | drain => refine goes_whenEnabled ?_; exact fun _ ok => ok.controlCmd fun _ _ _ ok => ok
  | commit => exact goes_execCommit
  | endC => exact goes_execEndC
  | waittick => refine goes_whenEnabled ?_; exact fun _ ok => ok.controlCmd fun _ _ _ ok => ok
  | stewardGo => refine goes_whenEnabled ?_; exact fun _ ok => ok.writeStwCtrl
  | alloc => refine goes_whenEnabled ?_; exact fun _ ok => ok.grnCmd
  | release => refine goes_whenEnabled ?_; exact fun _ ok => ok.grnCmd
  | stage => refine goes_whenEnabled ?_; exact fun _ ok => ok.grnCmd
  | resolve => refine goes_whenEnabled ?_; exact fun _ ok => ok.grnCmd
  | kvStage => refine goes_whenEnabled ?_; exact fun _ ok => ok.grnCmd
  | kvGrow => refine goes_whenEnabled ?_; exact fun _ ok => ok.grnCmd
  | kvTrim => refine goes_whenEnabled ?_; exact fun _ ok => ok.grnCmd
  | granaryServe => refine goes_whenEnabled ?_; exact fun _ ok => ok.serveSlot
  | copy => refine goes_whenEnabled ?_; exact fun _ ok => ok.haulCmd
  | fill => refine goes_whenEnabled ?_; exact fun _ ok => ok.haulCmd
  | copy2d => refine goes_whenEnabled ?_; exact fun _ ok => ok.haulCmd
  | toHost => refine goes_whenEnabled ?_; exact fun _ ok => ok.haulCmd
  | fromHost => refine goes_whenEnabled ?_; exact fun _ ok => ok.haulCmd
  | stewardHaulResume => exact goes_execStewardHaulResume
  | tallyAdd => refine goes_whenEnabled ?_; exact fun _ ok => ok.takeCmd fun _ _ _ ok => ok.talEffect
  | tallyReset => refine goes_whenEnabled ?_; exact fun _ ok => ok.takeCmd fun _ _ _ ok => ok.talEffect
  | remoteAdd => refine goes_whenEnabled ?_; exact fun _ ok => ok.takeCmd fun _ _ _ ok => ok.remoteAdd
  | tallyRead => refine goes_whenEnabled ?_; exact fun _ ok => ok.takeCmd fun _ _ _ ok => ok.talEffect
  | remoteAddMsg => exact goes_execRemoteAddMsg
  | gemm => refine goes_whenEnabled ?_; exact fun _ ok => ok.mtxCmd
  | grouped => refine goes_whenEnabled ?_; exact fun _ ok => ok.mtxCmd
  | split => refine goes_whenEnabled ?_; exact fun _ ok => ok.mtxCmd
  | combine => refine goes_whenEnabled ?_; exact fun _ ok => ok.mtxCmd
  | worklistClaim => refine goes_whenEnabled ?_; exact fun _ ok => ok.claimCmd
  | looseAdd => exact goes_execLooseAdd
  | program => refine goes_whenEnabled ?_; exact fun _ ok => ok.vecCmd
  | route => refine goes_whenEnabled ?_; exact fun _ ok => ok.takeCmd fun _ _ _ ok => ok.winTake
  | histogram => refine goes_whenEnabled ?_; exact fun _ ok => ok.takeCmd fun _ _ _ ok => ok.histTake
  | scatter => refine goes_whenEnabled ?_; exact fun _ ok => ok.takeCmd fun _ _ _ ok => ok.scatTake
  | census => refine goes_whenEnabled ?_; exact fun _ ok => ok.takeCmd fun _ _ _ ok => ok.cenTake
  | censusMsg => exact goes_execCensusMsg
  | censusTimeout => refine goes_whenEnabled ?_; exact fun _ ok => ok.stepFail
  | verdictDb => refine goes_whenEnabled ?_; exact fun _ ok => Keeps.ite ok.modFn.rbump ok.modFn.verdictReceived
  | answerWindowExpire => exact goes_execAnswerWindowExpire
  | verdictMsg => exact goes_execVerdictMsg
  | verdictLost => refine goes_whenEnabled ?_; exact fun _ ok => ok.stepFail
  | exchange => refine goes_whenEnabled ?_; exact fun _ ok => ok.takeCmd fun _ _ _ ok => ok.exchTake
  | returnC => refine goes_whenEnabled ?_; exact fun _ ok => ok.takeCmd fun _ _ _ ok => ok.retTake
  | dispatchRecordArrival => refine goes_whenEnabled ?_; exact fun _ ok => ok.takeRec
  | returnArrival => refine goes_whenEnabled ?_; exact fun _ ok => ok.takeRec
  | gleanerCombine => refine goes_whenEnabled ?_; exact fun _ ok => ok.takeCmd fun _ _ _ ok => ok.gleanTake
  | placedMsg => exact goes_execPlacedMsg
  | placedTimer => refine goes_whenEnabled ?_; exact fun _ ok => ok.foldl fun _ _ ok => ok.sendPlaced
  | landedMsg => exact goes_execLandedMsg
  | killMsg => exact goes_execKillMsg
  | writeUnit => exact goes_execWriteUnit
  | readReq => exact goes_execReadReq
  | process => refine goes_whenEnabled ?_; exact fun _ ok => ok.takeCmd fun _ _ _ ok => ok.rsTake
  | configure => refine goes_whenEnabled ?_; exact fun _ ok => ok.takeCmd fun _ _ _ ok => ok.cfgTake
  | encode => refine goes_whenEnabled ?_; exact fun _ ok => ok.takeCmd fun _ _ _ ok => ok.encTake
  | notifyC => refine goes_whenEnabled ?_; exact fun _ ok => ok.takeCmd fun _ _ _ ok => ok.notifyTake
  | evtHeadDb => refine goes_whenEnabled ?_; exact fun _ ok => ok.eventHead
  | msixHoldoff => refine goes_whenEnabled ?_; exact fun _ ok => ok.signalVec.hostFlush
  | readCompletion => refine goes_whenEnabled ?_; exact fun _ ok => ok.readArrives
  | completionTimeout => exact goes_execCompletionTimeout
  | functionLevelReset => refine goes_whenEnabled ?_; exact fun _ ok => ok.flr
  | hostReset => refine goes_whenEnabled ?_; exact fun _ ok => ok.hostReset
  | startC => refine goes_whenEnabled ?_; exact fun _ ok => ok.writeSecImgCtrl
  | imageCheckEnd => refine goes_whenEnabled ?_; exact fun _ ok => ok.checkEnd
  | sealC => refine goes_whenEnabled ?_; exact fun _ ok => ok.writeSecImgCtrl
  | flitTx => refine goes_whenEnabled ?_; exact fun _ ok => ok.flitTx
  | dataFlitRx => refine goes_whenEnabled ?_; exact fun _ ok => ok.receiveFlit (fun _ _ _ ok => Keeps.ite ok.receiveData ok)
  | idleFlitRx => refine goes_whenEnabled ?_; exact fun _ ok => ok.receiveFlit fun _ _ _ ok => ok
  | ctrlFlitRx => refine goes_whenEnabled ?_; exact fun _ ok => ok.receiveFlit fun _ _ _ ok => ok.receiveCtrl
  | ackTimeout => refine goes_whenEnabled ?_; exact fun _ ok => ok.startReplay
  | portProbeStart => refine goes_whenEnabled ?_; exact fun _ ok => ok.sessionLost.modPort.setLevel
  | rxQualify => refine goes_whenEnabled ?_; exact fun _ ok => ok.modPort
  | trainTimeout => refine goes_whenEnabled ?_; exact fun _ ok => ok.trainFailed
  | rxSilence => refine goes_whenEnabled ?_; exact fun _ ok => ok.startRetrain
  | codewordLockLost => refine goes_whenEnabled ?_; exact fun _ ok => ok.startRetrain
  | prbsRx => refine goes_whenEnabled ?_; exact fun _ ok => ok.startRetrain
  | retrainTimeout => refine goes_whenEnabled ?_; exact fun _ ok => ok.modPort.enterTrain
  | retrain => refine goes_whenEnabled ?_; exact fun _ ok => ok.writeDklCtrl
  | reprobe => refine goes_whenEnabled ?_; exact fun _ ok => ok.writeDklCtrl
  | lossOfSignal => refine goes_whenEnabled ?_; exact fun _ ok => ok.loseLight
  | signalReturn => exact goes_execSignalReturn
  | losTimeout => refine goes_whenEnabled ?_; exact fun _ ok => ok.enterProbe
  | fullPowerGrant => refine goes_whenEnabled ?_; exact fun _ ok => Keeps.ite ok.setLevel.modBwPort.enterTrain ok.startTest
  | aprReduce => refine goes_whenEnabled ?_; exact fun _ ok => ok.reduceProbe
  | interlockPulse => refine goes_whenEnabled ?_; exact fun _ ok => Keeps.ite (Keeps.ite ok ok.pulse) ((Keeps.ite ok ok.pulse).pulse)
  | interlockOpen => refine goes_whenEnabled ?_; exact fun _ ok => ok.contactOpen.cutDie
  | overPower => refine goes_whenEnabled ?_; exact fun _ ok => ok.cutOff.rmod
  | channelDiscrepancy => exact goes_execChannelDiscrepancy
  | channelSelfTestDone => exact goes_execChannelSelfTestDone
  | channelFault => exact goes_execChannelFault
  | romCrcCheck => refine goes_whenEnabled ?_; exact fun _ ok => Keeps.ite ok ok.faultChannel
  | brakeTestStart => exact goes_execBrakeTestStart
  | brakeTestCheck => exact goes_execBrakeTestCheck
  | permitSend => refine goes_whenEnabled ?_; exact fun _ ok => ok.sendSafety.modBwPort
  | permit => refine goes_whenEnabled ?_; exact fun _ ok => Keeps.ite ok.dropUnit.rejectSafety ok.dropUnit.modBwPort
  | shutdown => exact goes_execShutdown
  | permitLoss => refine goes_whenEnabled ?_; exact fun _ ok => ok.reduceProbe
  | shutdownHoldEnd => refine goes_whenEnabled ?_; exact fun _ ok => ok.modBwPort
  | degradedWarning => exact goes_execDegradedWarning
  | degradedExpired => exact goes_execDegradedExpired
  | externalStop => refine goes_whenEnabled ?_; exact fun _ ok => ok.decideLockout
  | lockoutEntry => exact goes_execLockoutEntry
  | lockout => refine goes_whenEnabled ?_; exact fun _ ok => ok.writeBwrCmd
  | arm => refine goes_whenEnabled ?_; exact fun _ ok => ok.writeBwrCmd
  | confirm => refine goes_whenEnabled ?_; exact fun _ ok => ok.writeBwrCmd
  | abortC => refine goes_whenEnabled ?_; exact fun _ ok => ok.writeBwrCmd
  | armTimeout => refine goes_whenEnabled ?_; exact fun _ ok => ok.endArm
  | resetSelfTestDone => exact goes_execResetSelfTestDone
  | sfPowerLoss => exact goes_execSfPowerLoss
  | sfPowerOn => exact goes_execSfPowerOn
  | entropyTestFail => exact goes_execEntropyTestFail
  | entropyRecoveryTimeout => exact goes_execEntropyRecoveryTimeout
  | drbgReseed => exact goes_execDrbgReseed
  | supplyGlitch => refine goes_whenEnabled ?_; exact fun _ ok => ok.tamperReset
  | getMeasurements => refine goes_whenEnabled ?_; exact fun _ ok => Keeps.ite ok.answerError (Keeps.ite ok.answerError ok.answer)
  | keyExchange => exact goes_execKeyExchange
  | programSlot => refine goes_whenEnabled ?_; exact fun _ ok => ok.inSession fun _ ok => ok.programSlot
  | exportKt => exact goes_execExportKt
  | setProduction => exact goes_execSetProduction
  | getNonce => exact goes_execGetNonce
  | debugEnter => exact goes_execDebugEnter
  | retire => exact goes_execRetire
  | sensorRead => exact goes_execSensorRead
  | pkgPwrokRise => exact goes_execPkgPwrokRise
  | pkgPwrokFall => exact goes_execPkgPwrokFall
  | seqFault => exact goes_execSeqFault
  | vauxFault => refine goes_whenEnabled ?_; exact fun _ ok => ok.powerOff
  | supplyFault => refine goes_whenEnabled ?_; exact fun _ ok => ok.coldStart
  | coldReset => refine goes_whenEnabled ?_; exact fun _ ok => ok.coldStart
  | cold => refine goes_whenEnabled ?_; exact fun _ ok => ok.writePwrRst
  | coldResetReady => refine goes_whenEnabled ?_; exact fun _ ok => ok.coldReady
  | fold => refine goes_whenEnabled ?_; exact fun _ ok => ok.writePwrRst
  | foldReset => refine goes_whenEnabled ?_; exact fun _ ok => ok.logicReset
  | alignStart => exact goes_execAlignStart
  | alignCheckEnd => exact goes_execAlignCheckEnd
  | foldDone => exact goes_execFoldDone
  | test => refine goes_whenEnabled ?_; exact fun _ ok => ok.writeTestCmd
  | powerDown => refine goes_whenEnabled ?_; exact fun _ ok => ok.writeTestCmd
  | selfTestDone => exact goes_execSelfTestDone
  | testPassExpire => exact goes_execTestPassExpire
  | powerGateRamp => exact goes_execPowerGateRamp
  | fenceScrub => exact goes_execFenceScrub
  | weatheringEval => exact goes_execWeatheringEval
  | wearSnapshot => exact goes_execWearSnapshot
  | injectSingleBit => refine goes_whenEnabled ?_; exact fun _ ok => ok.writeInject
  | injectDoubleBit => refine goes_whenEnabled ?_; exact fun _ ok => ok.writeInject
  | injectFlitCrc => refine goes_whenEnabled ?_; exact fun _ ok => ok.writeInject
  | sqlSeedLoad => refine goes_whenEnabled ?_; exact fun _ ok => ok.writeSqlSeed
  | delayedDelivery => exact goes_execDelayedDelivery
  | thermalTrip => exact goes_execThermalTrip
  | thermtrip => exact goes_execThermtrip
  | brakeTestOverdue => refine goes_whenEnabled ?_; exact fun _ ok => ok.reduceProbe
  | entropyStartupPass => exact goes_execEntropyStartupPass
  | tripWaitEnd => exact goes_execTripWaitEnd
  | hbmTemperatureReport => exact goes_execHbmTemperatureReport
  | busMasterEnable => refine goes_whenEnabled ?_; exact fun _ ok => ok.modFn.hostFlush
  | postedCreditReturn => exact goes_execPostedCreditReturn
  | perstNRelease => exact goes_execPerstNRelease
  | registerRead => refine goes_whenEnabled ?_; exact fun _ ok => ok.readAddress.returnRead
  | spdmSessionEnd => exact goes_execSpdmSessionEnd
  | receiverAdapted => refine goes_whenEnabled ?_; exact fun _ ok => ok.modPort
  | hostDelayedLanding => exact goes_execHostDelayedLanding

/-- A step goes from the state in which the front command has left the queue. -/
theorem step_goes (s : State) : Goes { s with pending := s.pending.tail } (step s) := by
  unfold step
  split
  case h_1 empty =>
    refine ⟨s, rfl, ?_, Nat.le_refl _, id⟩
    rw [empty]
    rfl
  case h_2 i rest front =>
    rw [front]
    exact goes_exec i _

/-- Settles O2: every command goes, and only its own moment moves time. -/
theorem everyStepTakesOneCommand : Obligations.EveryStepTakesOneCommand := by
  intro s
  obtain ⟨s', next, keeps⟩ := step_goes s
  exact ⟨s', next, keeps.pending, keeps.now⟩

/-- Settles O4: memory, registers and log are written only by operations that keep their form, so every command keeps it. -/
theorem everyStepKeepsTheForm : Obligations.EveryStepKeepsTheForm := by
  intro s s' canon next
  obtain ⟨s'', next', keeps⟩ := step_goes s
  rw [next] at next'
  cases next'
  exact keeps.form canon

end Sys2Proof.Machine
end

section
/-! SUPPORT. What step failures leave, one and over a list of contexts. -/

namespace Sys2Proof.Machine

/-- What step failures change: contexts and their work, memory and the injections that it meets, the log, the commit table and the
notices; of the registers only HLT_INJECT. -/
structure Fails (s s' : State) : Prop extends ChangesRegs [.hltInject] s s' where
  frame : s' = { s with
    regs := s'.regs, mem := s'.mem, upsets := s'.upsets, ctxs := s'.ctxs, cmds := s'.cmds, tiles := s'.tiles, sigs := s'.sigs
    grReqs := s'.grReqs, grWrites := s'.grWrites, host := s'.host, log := s'.log, cmt := s'.cmt, notices := s'.notices }

/-- To do nothing fails nothing. -/
theorem Fails.refl (s : State) : Fails s s := ⟨ChangesRegs.of_eq rfl, rfl⟩

/-- Failures one after the other. -/
theorem Fails.trans {s s' s'' : State} (h : Fails s s') (k : Fails s' s'') : Fails s s'' := by
  refine ⟨⟨k.regsOk ∘ h.regsOk, fun hr hin => (k.others hr hin).trans (h.others hr hin)⟩, ?_⟩
  have frame := k.frame
  rw [h.frame] at frame
  exact frame

/-- A write of memory uses up an injection at most (R792). -/
theorem changesRegs_writeMem (s : State) (a : Nat) (bs : List Byte) : ChangesRegs [.hltInject] s (writeMem s a bs) := by
  have cleared : ChangesRegs [.hltInject] s (rsetField s .hltInject 63 62 0) :=
    (writesRegs_rsetField (rs := [.hltInject]) (d := 0) (i := 0) List.mem_cons_self ⟨by decide, by decide⟩ s 63 62 0).toChangesRegs
  unfold writeMem injectOnWrite
  dsimp only
  split
  · exact ChangesRegs.of_eq rfl
  · split
    · exact ⟨cleared.regsOk, cleared.others⟩
    · exact ChangesRegs.of_eq rfl

/-- Stores that land meet no other register. -/
theorem changesRegs_landStores (s : State) (c : Nat) : ChangesRegs [.hltInject] s (landStores s c) := by
  have changes : ChangesRegs [.hltInject] s ((ctxOf s c).bcn.sts.foldl
      (fun s p => if p.cross ≤ s.now then writeMem s p.addr (leBytes 8 p.val.toNat) else s) s) := by
    refine foldl_keeps (R := ChangesRegs [.hltInject]) (fun _ => ChangesRegs.of_eq rfl)
      (fun h k => ⟨k.regsOk ∘ h.regsOk, fun hr hin => (k.others hr hin).trans (h.others hr hin)⟩) (fun s p => ?_) _ s
    split
    · exact changesRegs_writeMem ..
    · exact ChangesRegs.of_eq rfl
  exact ⟨changes.regsOk, changes.others⟩

/-- An attempt that stops meets no other register. -/
theorem changesRegs_stopAttempt (s : State) (c : Nat) (cause : Option Nat) (next : Option NextAttempt) :
    ChangesRegs [.hltInject] s (stopAttempt s c cause next) := by
  have dropped : (dropWork s (ctxOf s c).uid).regs = s.regs := by
    unfold dropWork
    split <;> rfl
  have lands := changesRegs_landStores (dropWork s (ctxOf s c).uid) c
  exact ⟨fun ok => lands.regsOk (by unfold State.regsOk at *; rwa [dropped]),
    fun hr hin => (lands.others hr hin).trans (by unfold rgetX; rw [dropped])⟩

/-- What stops an attempt is part of a failure. -/
theorem fails_of_stopsOnly {s s' : State} (stops : StopsOnly s s') (changes : ChangesRegs [.hltInject] s s') : Fails s s' := by
  refine ⟨changes, ?_⟩
  have log : s'.log = s.log := (congrArg State.log stops :)
  have cmt : s'.cmt = s.cmt := (congrArg State.cmt stops :)
  have notices : s'.notices = s.notices := (congrArg State.notices stops :)
  rw [log, cmt, notices]
  exact stops

/-- A step that fails. -/
theorem fails_stepFail (s : State) (src : Src) (c cause a : Nat) : Fails s (stepFail s src c cause a) := by
  unfold stepFail
  dsimp only
  split
  · exact Fails.refl s
  · have noted := failNoted_frame s src c cause a
    have regs : (failNoted s src c cause a).regs = s.regs := by rw [noted]
    have noting : Fails s (failNoted s src c cause a) := ⟨ChangesRegs.of_eq regs, by rw [noted]⟩
    have stopped := stopsOnly_stopAttempt (failNoted s src c cause a) c (some cause) none
    exact noting.trans (fails_of_stopsOnly stopped (changesRegs_stopAttempt ..))

/-- A step that may fail: uncommitted, in progress, and not ended yet (R161). -/
def MayFail (s : State) (c : Nat) : Prop := (ctxOf s c).committed = false ∧ (ctxOf s c).st ≠ .idle ∧ (ctxOf s c).cause = none

/-- A step that has failed with a cause is killed. -/
def Failed (s : State) (c cause : Nat) : Prop := (ctxOf s c).st = .killing ∧ (ctxOf s c).cause = some cause

/-- A failure touches its own context only. -/
theorem ctxOf_stepFail_ne {d c : Nat} (ne : d ≠ c) (s : State) (src : Src) (cause a : Nat) :
    ctxOf (stepFail s src c cause a) d = ctxOf s d := by
  obtain ⟨same, fails⟩ := stepFailureIsConfined s src c cause a
  by_cases may : (ctxOf s c).committed = true ∨ (ctxOf s c).st = .idle ∨ (ctxOf s c).cause.isSome = true
  · rw [same may]
  · obtain ⟨uncommitted, busy, none_⟩ := by simpa [not_or] using may
    obtain ⟨-, -, -, others, -⟩ := fails uncommitted busy none_
    exact others d ne

/-- A step that may fail does. -/
theorem failed_stepFail {s : State} {c : Nat} (may : MayFail s c) (src : Src) (cause a : Nat) :
    Failed (stepFail s src c cause a) c cause := by
  obtain ⟨uncommitted, busy, none_⟩ := may
  obtain ⟨killing, why, -⟩ := (stepFailureIsConfined s src c cause a).2 uncommitted busy none_
  exact ⟨killing, why⟩

/-- A step that has failed stays so at a further failure. -/
theorem Failed.stepFail {s : State} {d c cause : Nat} (failed : Failed s d cause) (src : Src) (cause' a : Nat) :
    Failed (stepFail s src c cause' a) d cause := by
  by_cases same : d = c
  · subst same
    rw [(stepFailureIsConfined s src d cause' a).1 (.inr (.inr (by rw [failed.2]; rfl)))]
    exact failed
  · unfold Failed
    rw [ctxOf_stepFail_ne same]
    exact failed

/-- Failures over a list of contexts leave what a failure leaves, and end every step that may fail. -/
theorem failAll_spec (l : List Nat) (s : State) (src : Src) (cause : Nat) :
    let v := l.foldl (fun s c => stepFail s src c cause) s
    Fails s v ∧ (∀ c, Failed s c cause → Failed v c cause) ∧ ∀ c ∈ l, MayFail s c → Failed v c cause := by
  induction l generalizing s with
  | nil => exact ⟨Fails.refl s, fun _ h => h, fun _ h => absurd h List.not_mem_nil⟩
  | cons e l ih =>
    obtain ⟨fails, stays, ends⟩ := ih (stepFail s src e cause)
    refine ⟨(fails_stepFail s src e cause 0).trans fails, fun c h => stays c (h.stepFail src cause 0), fun c hc may => ?_⟩
    by_cases same : c = e
    · subst same
      exact stays c (failed_stepFail may src cause 0)
    · refine ends c ((List.mem_cons.1 hc).resolve_left same) ?_
      unfold MayFail
      rw [ctxOf_stepFail_ne same]
      exact may

end Sys2Proof.Machine
end

section
/-! SUPPORT. What the trigger of a fold reset leaves, for every cause. -/

namespace Sys2Proof.Machine

/-- What the trigger of a fold reset changes: registers, the log, the images, contexts and their work, slots, buffers, stalls, the
commit table, the host interface, the outputs, the notices and the power state. Memory and every other part stays. -/
def Folds (s s' : State) : Prop :=
  s' = { s with
    regs := s'.regs, log := s'.log, img := s'.img, ctxs := s'.ctxs, stalls := s'.stalls, pub := s'.pub, cmt := s'.cmt
    cmds := s'.cmds, tiles := s'.tiles, sigs := s'.sigs, bufs := s'.bufs, grReqs := s'.grReqs, grWrites := s'.grWrites
    host := s'.host, out := s'.out, notices := s'.notices, pwr := s'.pwr }

/-- To do nothing triggers nothing. -/
theorem Folds.refl (s : State) : Folds s s := rfl

/-- Two parts of a trigger. -/
theorem Folds.trans {s s' s'' : State} (h : Folds s s') (k : Folds s' s'') : Folds s s'' := by
  unfold Folds at *
  rw [h] at k
  exact k

/-- Both branches of a choice. -/
theorem Folds.ite {p : Prop} [Decidable p] {s a b : State} (h : Folds s a) (k : Folds s b) : Folds s (if p then a else b) := by
  split
  · exact h
  · exact k

/-- An event is part of it. -/
theorem Posts.folds {fn : Nat} {s s' : State} (h : Posts fn s s') : Folds s s' := by
  have frame := h.frame
  have log : s'.log = s.log := (congrArg State.log frame :)
  have img : s'.img = s.img := (congrArg State.img frame :)
  have ctxs : s'.ctxs = s.ctxs := (congrArg State.ctxs frame :)
  have pub : s'.pub = s.pub := (congrArg State.pub frame :)
  have cmt : s'.cmt = s.cmt := (congrArg State.cmt frame :)
  have cmds : s'.cmds = s.cmds := (congrArg State.cmds frame :)
  have tiles : s'.tiles = s.tiles := (congrArg State.tiles frame :)
  have sigs : s'.sigs = s.sigs := (congrArg State.sigs frame :)
  have bufs : s'.bufs = s.bufs := (congrArg State.bufs frame :)
  have reqs : s'.grReqs = s.grReqs := (congrArg State.grReqs frame :)
  have writes : s'.grWrites = s.grWrites := (congrArg State.grWrites frame :)
  have notices : s'.notices = s.notices := (congrArg State.notices frame :)
  have pwr : s'.pwr = s.pwr := (congrArg State.pwr frame :)
  unfold Folds
  rw [log, img, ctxs, pub, cmt, cmds, tiles, sigs, bufs, reqs, writes, notices, pwr]
  exact frame

/-- A register written. -/
theorem folds_rputX (s : State) (r : Reg) (d i : Nat) (v : Word) : Folds s (rputX s r d i v) := rfl

/-- An entry written. -/
theorem folds_logRaw (s : State) (c : Option Nat) (cls : Nat) (src : Src) (code d0 d1 : Nat) :
    Folds s (logRaw s c cls src code d0 d1) := rfl

/-- Other images. -/
theorem folds_img (s : State) (img : Images) : Folds s { s with img := img } := rfl

/-- Another power state. -/
theorem folds_pwr (s : State) (pwr : Power) : Folds s { s with pwr := pwr } := rfl

/-- A context that changes. -/
theorem folds_modCtx (s : State) (c : Nat) (f : Ctx → Ctx) : Folds s (modCtx s c f) := rfl

/-- A side that empties. -/
theorem folds_unstage (s : State) (n uid j : Nat) : Folds s (unstage s n uid j) := by
  unfold unstage
  dsimp only
  split
  · split <;> rfl
  · rfl

/-- Buffers that return. -/
theorem folds_freeHeldBy (s : State) (uid : Nat) : Folds s (freeHeldBy s uid) := by
  unfold freeHeldBy
  refine Folds.ite (Folds.refl s) (foldl_keeps Folds.refl Folds.trans (fun s kb => ?_) _ s)
  refine Folds.ite ?_ (Folds.refl s)
  unfold freeBuf
  dsimp only
  split <;> rfl

/-- What an attempt gives back. -/
theorem folds_releaseAttempt (s : State) (c : Nat) : Folds s (releaseAttempt s c) := by
  unfold releaseAttempt
  dsimp only
  refine Folds.trans (Folds.trans ?_ (folds_modCtx _ c _)) (folds_freeHeldBy _ _)
  exact Folds.ite (Folds.refl s) (foldl_keeps Folds.refl Folds.trans (fun s j => folds_unstage ..) _ s)

/-- Work that is dropped. -/
theorem folds_dropWork (s : State) (uid : Nat) : Folds s (dropWork s uid) := by
  unfold dropWork
  split <;> rfl

/-- An outcome, logged, written and told (R175, R627). -/
theorem folds_outcome (s : State) (src : Src) (c cause : Nat) (req : StepReq) (attempt variant : Nat) :
    Folds s (postOutcome (writeOutcome (logRaw s (some c) 3 src cause 0 0) c 2 cause) c req attempt variant 2 cause) := by
  refine Folds.trans ?_ (posts_postEvent _ (stallNo c) _ _ _).folds
  rw [writeOutcome_frame]
  rfl

/-- A context at the trigger (R746). -/
theorem folds_foldContext (s : State) (cause : FoldCause) (c : Nat) : Folds s (foldContext s cause c) := by
  unfold foldContext
  dsimp only
  refine Folds.trans (Folds.trans (Folds.trans ?_ (folds_dropWork _ _)) (folds_releaseAttempt _ c)) rfl
  split
  · split
    · rw [sendNotice_frame]
      rfl
    · exact folds_outcome ..
    · exact folds_outcome ..
  · split
    · exact (posts_postEvent _ (stallNo c) _ _ _).folds
    · exact Folds.refl s

/-- An image's code that is reported (R121). -/
theorem folds_reportImage (s : State) (r : Reject) : Folds s (reportImage s r) := by
  unfold reportImage
  refine Folds.trans ?_ (posts_postPf _ 0x10 r.1 0 1).folds
  split
  · exact folds_rputX ..
  · exact (folds_rputX ..).trans (folds_logRaw ..)

/-- An image that is rejected (Table 19.4). -/
theorem folds_rejectImage (s : State) (r : Reject) : Folds s (rejectImage s r) := by
  refine (folds_reportImage s r).trans ?_
  unfold rejectImage backToWaiting
  exact Folds.ite (folds_rputX ..) (Folds.refl _)

/-- Images that are discarded (R137). -/
theorem folds_discardImages (s : State) (waiting : Bool) : Folds s (discardImages s waiting) := by
  unfold discardImages
  dsimp only
  split
  · exact (folds_img ..).trans (folds_rejectImage _ _)
  · exact folds_img ..

/-- The trigger of a fold reset (R746). -/
theorem folds_triggerFold (s : State) (cause : FoldCause) : Folds s (triggerFold s cause) := by
  unfold triggerFold
  dsimp only
  refine Folds.ite (Folds.refl s) (Folds.trans (Folds.trans ?_ (folds_discardImages _ _))
    ((folds_rputX ..).trans ((folds_rputX ..).trans (folds_pwr ..))))
  exact foldl_keeps Folds.refl Folds.trans (fun s c => folds_foldContext ..) _ s

/-- A chip loss with its fold reset (R14, R759). -/
theorem folds_lossEffects (s : State) (src : Src) (code seq : Nat) : Folds s (lossEffects s src code seq) := by
  rw [lossEffects_eq]
  refine Folds.trans (s' := lossShown s src code seq) ?_ ?_
  · unfold lossShown
    exact ((folds_rputX ..).trans ((folds_rputX ..).trans ((folds_rputX ..).trans (folds_rputX ..)))).trans (posts_postPf ..).folds
  · dsimp only
    split
    · exact Folds.ite (folds_pwr ..) (Folds.refl _)
    · exact folds_triggerFold ..

/-- A chip loss that may begin a fold reset begins it now (R746). -/
theorem lossEffects_of_mayFold {s : State} (may : s.mayFold) (src : Src) (code seq : Nat) :
    let v := lossEffects s src code seq
    v.pwr.fold = some (s.now, .chipLoss) ∧ phase v = 6 ∧ ∀ c < 16, (ctxOf v c).st = .idle := by
  obtain ⟨fold, inReset, cold, phase1, phase8⟩ := may
  have shown := lossShown_frame s src code seq
  have samePhase := phase_lossShown s src code seq
  rw [lossEffects_eq]
  generalize lossShown s src code seq = w at shown samePhase
  dsimp only at shown ⊢
  have pwr : w.pwr = s.pwr := by rw [shown]
  have now : w.now = s.now := by rw [shown]
  rw [pwr, fold, if_neg (by decide)]
  obtain ⟨begun, six, idle, -⟩ := triggerFold_chipLoss_spec (s := w)
    ⟨pwr ▸ fold, pwr ▸ inReset, pwr ▸ cold, samePhase ▸ phase1, samePhase ▸ phase8⟩
  exact ⟨now ▸ begun, six, idle⟩

end Sys2Proof.Machine
end

section
/-! SUPPORT and PROOFS. Requests of the security controller (O60). -/

namespace Sys2Proof.Machine

/-! ### The management path (R644) -/

/-- A command of the management path takes effect while the path works. -/
theorem whenEnabled_of_mgmtUp {s : State} {t : Nat} (up : mgmtUp (s.at t) = true) (eff : State → State) :
    whenEnabled t mgmtUp eff s = .next (eff (s.at t)) := whenEnabled_of_true up

/-- A request inside a session and its lifecycles is served. -/
theorem inSession_of_served {u : State} {cycles : List Nat} (served : u.sec.session = true ∧ cycles.contains (lifecycle u) = true)
    (eff : State → State) : inSession cycles eff u = eff u := by
  rw [inSession, if_pos (by rwa [Bool.and_eq_true])]

/-- A request outside them is answered with an error. -/
theorem inSession_of_not_served {u : State} {cycles : List Nat}
    (outside : ¬(u.sec.session = true ∧ cycles.contains (lifecycle u) = true)) (eff : State → State) :
    inSession cycles eff u = answerError u 0x05 := by
  unfold inSession
  rw [if_neg]
  simpa using outside

/-! ### The tamper reset (R725, Table 18.9) -/

/-- A tamper reset ends every uncommitted step, forgets the keys and HBM, and schedules a cold reset. -/
theorem tampered_tamperReset {u : State} (ok : u.regsOk) (cause : Nat) :
    Tampered u (tamperReset u cause) cause ∧ (tamperReset u cause).fuse = u.fuse := by
  obtain ⟨fails, -, ends⟩ := failAll_spec (List.range 16) u .sec cause
  have frame := fails.frame
  unfold Tampered tamperReset
  generalize (List.range 16).foldl (fun s c => stepFail s .sec c cause) u = v at fails ends frame
  have pwr : v.pwr = u.pwr := by rw [frame]
  have now : v.now = u.now := by rw [frame]
  have fuse : v.fuse = u.fuse := by rw [frame]
  have count : rfield v .secStatus 47 32 = rfield u .secStatus 47 32 :=
    fails.rfield (by decide) ⟨by decide, by decide⟩ 47 32
  refine ⟨⟨rfl, rfl, rfl, rfl, rfl, fun x hx => ?_, rfl, rfl, ?_, ?_, fun c hc uncommitted busy none_ => ?_⟩, fuse⟩
  · simpa using (List.mem_filter.1 hx).2
  · simp only [rbump_pwr, rbump_now, pwr, now]
  · rw [← count]
    exact rfield_rbump_same (fails.regsOk ok) (by decide) 1
  · exact ends c (List.mem_range.2 hc) ⟨uncommitted, busy, none_⟩

/-! ### The entropy source (R716, R717) -/

/-- What the requests held during an entropy failure change. -/
theorem serveHeld_spec (s : State) (r : Bool × List Byte) :
    let v := serveHeld s r
    v.mem = s.mem ∧ v.ctxs = s.ctxs ∧ v.regs = s.regs ∧ v.pwr = s.pwr ∧ v.sec.badSince = s.sec.badSince ∧
    v.sec.waitEntropy = s.sec.waitEntropy ∧ v.sec.seededAt = s.sec.seededAt ∧ v.sec.held = s.sec.held ∧
    v.out.length = s.out.length + 1 := by
  unfold serveHeld
  dsimp only
  split
  · split <;> exact ⟨rfl, rfl, rfl, rfl, rfl, rfl, rfl, rfl, rfl⟩
  · split <;> exact ⟨rfl, rfl, rfl, rfl, rfl, rfl, rfl, rfl, rfl⟩

/-- Every held request is answered once. -/
theorem serveAll_spec (l : List (Bool × List Byte)) (s : State) :
    let v := l.foldl serveHeld s
    v.mem = s.mem ∧ v.ctxs = s.ctxs ∧ v.regs = s.regs ∧ v.pwr = s.pwr ∧ v.sec.badSince = s.sec.badSince ∧
    v.sec.waitEntropy = s.sec.waitEntropy ∧ v.sec.seededAt = s.sec.seededAt ∧ v.sec.held = s.sec.held ∧
    v.out.length = s.out.length + l.length := by
  induction l generalizing s with
  | nil => exact ⟨rfl, rfl, rfl, rfl, rfl, rfl, rfl, rfl, rfl⟩
  | cons r l ih =>
    obtain ⟨mem, ctxs, regs, pwr, bad, wait, seeded, held, out⟩ := serveHeld_spec s r
    obtain ⟨mem', ctxs', regs', pwr', bad', wait', seeded', held', out'⟩ := ih (serveHeld s r)
    refine ⟨mem'.trans mem, ctxs'.trans ctxs, regs'.trans regs, pwr'.trans pwr, bad'.trans bad, wait'.trans wait,
      seeded'.trans seeded, held'.trans held, ?_⟩
    rw [List.foldl_cons, out', out, List.length_cons]
    omega

/-- A failed test of the entropy source counts in its field of SEC_ENTROPY and is shown. -/
theorem entropyTestFail_spec {u : State} (ok : u.regsOk) (flag : Bool) :
    let v := rsetField (if flag then rbump u .secEntropy 15 0 else rbump u .secEntropy 31 16) .secStatus 58 58 1
    bitAt (rget v .secStatus) 58 = true ∧
    rfield v .secEntropy 15 0 = (if flag = true then min (rfield u .secEntropy 15 0 + 1) 65535 else rfield u .secEntropy 15 0) ∧
    rfield v .secEntropy 31 16 = (if flag = true then rfield u .secEntropy 31 16 else min (rfield u .secEntropy 31 16 + 1) 65535) ∧
    v = { u with regs := v.regs } := by
  have shown : ∀ w : State, w.regsOk → bitAt (rget (rsetField w .secStatus 58 58 1) .secStatus) 58 = true := fun w okw => by
    rw [rget, rsetField, rmod, rgetX_rputX_same okw, bitAt_setBf _ _ (by decide), if_pos (by decide)]
    decide
  have apart : ∀ (w : State) (hi lo : Nat), rfield (rsetField w .secStatus 58 58 1) .secEntropy hi lo = rfield w .secEntropy hi lo :=
    fun w hi lo => (writesRegs_rsetField (rs := [.secStatus]) (r := .secStatus) (d := 0) (i := 0) List.mem_cons_self
      ⟨by decide, by decide⟩ w 58 58 1).rfield (by decide) ⟨by decide, by decide⟩ hi lo
  have other : ∀ (hi lo hi' lo' : Nat), hi' < 64 → (hi < lo' ∨ hi' < lo) →
      rfield (rbump u .secEntropy hi lo) .secEntropy hi' lo' = rfield u .secEntropy hi' lo' := fun hi lo hi' lo' h hap => by
    rw [rbump, rfield, rmod, rgetX_rputX_same ok, bumpField, bf_setBf_apart _ _ h hap, rfield]
  cases flag
  · refine ⟨shown _ (regsOk_rputX ok ..), ?_, ?_, rfl⟩
    · rw [apart]
      exact other 31 16 15 0 (by decide) (.inr (by decide))
    · rw [apart]
      exact rfield_rbump_same ok (by decide) 1
  · refine ⟨shown _ (regsOk_rputX ok ..), ?_, ?_, rfl⟩
    · rw [apart]
      exact rfield_rbump_same ok (by decide) 1
    · rw [apart]
      exact other 15 0 31 16 (by decide) (.inl (by decide))

/-- A chip loss for which no code is listed leaves the security state, and begins a fold reset where one may begin (R746). -/
theorem lossUnlisted_spec (u : State) (src : Src) (d0 : Nat) :
    (lossUnlisted u src d0).sec = u.sec ∧
    (u.mayFold → (lossUnlisted u src d0).pwr.fold = some (u.now, .chipLoss) ∧ phase (lossUnlisted u src d0) = 6) := by
  have folds := folds_lossEffects (logNote u src d0) src 0 u.log.seq
  refine ⟨(congrArg State.sec folds :), fun may => ?_⟩
  obtain ⟨begun, six, -⟩ := lossEffects_of_mayFold (s := logNote u src d0) may src 0 u.log.seq
  exact ⟨begun, six⟩

/-- ENTROPY_RECOVERY_TIMEOUT 100 ms after a failure that no test has ended (R717). -/
theorem exec_entropyRecoveryTimeout {s : State} {t b : Nat} (waits : (s.at t).sec.waitEntropy = false)
    (since : (s.at t).sec.badSince = some b) (late : b + ms 100 ≤ (s.at t).now) :
    exec (.entropyRecoveryTimeout t) s =
      .next (lossUnlisted { s.at t with sec := { (s.at t).sec with waitEntropy := true } } .sec (regAddr .secEntropy 0 0)) := by
  have reached : due ((s.at t).sec.badSince.map (· + ms 100)) (s.at t).now = true := by
    rw [since]
    exact decide_eq_true late
  exact (whenEnabled_of_true (by rw [waits, reached]; rfl) : execEntropyRecoveryTimeout t s = _)

/-! ### SPDM (R718, R719, R734) -/

section
variable {s : State} {t : Nat} {msg : List Byte}

/-- GET_MEASUREMENTS while the management path works (R719). -/
theorem exec_getMeasurements (up : mgmtUp (s.at t) = true) : exec (.getMeasurements msg t) s = .next (
    if (s.at t).pwr.fold.isSome then answerError (s.at t) 0x03
    else if !(s.at t).sec.deviceId then answerError (s.at t) 0x05
    else answer (s.at t) 0x60 (Config.spdmAnswer 0x60 msg ((s.at t).sec.meas.map fun m => leBytes 1 m.1 ++ m.2))) :=
  (whenEnabled_of_mgmtUp up _ : execGetMeasurements msg t s = _)

/-- KEY_EXCHANGE while the management path works (R734). -/
theorem exec_keyExchange (up : mgmtUp (s.at t) = true) : exec (.keyExchange msg t) s = .next (
    if !(s.at t).sec.deviceId || retired (s.at t) then answerError (s.at t) 0x05
    else if (s.at t).sec.session then answerError (s.at t) 0x03
    else if (s.at t).sec.badSince.isSome then
      { s.at t with sec := { (s.at t).sec with held := (s.at t).sec.held ++ [(false, msg)] } }
    else openSession msg (s.at t)) :=
  (whenEnabled_of_mgmtUp up _ : execKeyExchange msg t s = _)

/-! ### State-changing requests (Table 18.6) -/

/-- PROGRAM_SLOT while the management path works. -/
theorem exec_programSlot (up : mgmtUp (s.at t) = true) (sound : Bool) :
    exec (.programSlot msg sound t) s = .next (inSession [1] (programSlot msg sound) (s.at t)) :=
  (whenEnabled_of_mgmtUp up _ : execProgramSlot msg sound t s = _)

/-- EXPORT_KT while the management path works. -/
theorem exec_exportKt (up : mgmtUp (s.at t) = true) : exec (.exportKt msg t) s = .next (inSession [1]
    (fun u => if rfield u .secStatus 61 60 = 2 then answerError u 0x05 else answerVendor u keyKT) (s.at t)) :=
  (whenEnabled_of_mgmtUp up _ : execExportKt msg t s = _)

/-- SET_PRODUCTION while the management path works. -/
theorem exec_setProduction (up : mgmtUp (s.at t) = true) : exec (.setProduction msg t) s = .next (inSession [1]
    (fun u => if u.fuse.mldsaProg.testBit 1 && u.fuse.ecdsaProg.testBit 1 then
      answerVendor { u with fuse := { u.fuse with lifecycle := 2 } } [] else answerError u 0x05) (s.at t)) :=
  (whenEnabled_of_mgmtUp up _ : execSetProduction msg t s = _)

/-- GET_NONCE while the management path works. -/
theorem exec_getNonce (up : mgmtUp (s.at t) = true) : exec (.getNonce msg t) s = .next (inSession [0, 1, 2]
    (fun u => if u.sec.badSince.isSome then { u with sec := { u.sec with held := u.sec.held ++ [(true, msg)] } }
      else giveNonce u) (s.at t)) :=
  (whenEnabled_of_mgmtUp up _ : execGetNonce msg t s = _)

/-- What DEBUG_ENTER with a valid token does (R723). -/
def debugEntered (op : Nat) (u : State) : State :=
  let v := tamperReset (answerVendor u []) 0x69
  { v with sec := { v.sec with latch := op } }

/-- DEBUG_ENTER while the management path works. -/
theorem exec_debugEnter (up : mgmtUp (s.at t) = true) : exec (.debugEnter msg t) s = .next (inSession [1, 2]
    (fun u => if (fieldAt msg 4 1 = 1 ∨ fieldAt msg 4 1 = 2) ∧ tokenValid u msg (fieldAt msg 4 1) = true then
      debugEntered (fieldAt msg 4 1) u else answerError u 0x05) (s.at t)) :=
  (whenEnabled_of_mgmtUp up _ : execDebugEnter msg t s = _)

/-- What RETIRE with a valid token does (R720). -/
def retiredBy (u : State) : State := tamperReset { answerVendor u [] with fuse := { u.fuse with lifecycle := 3 } } 0x69

/-- RETIRE while the management path works. -/
theorem exec_retire (up : mgmtUp (s.at t) = true) : exec (.retire msg t) s = .next (inSession [1, 2]
    (fun u => if tokenValid u msg 3 = true then retiredBy u else answerError u 0x05) (s.at t)) :=
  (whenEnabled_of_mgmtUp up _ : execRetire msg t s = _)

end

/-! ### PROGRAM_SLOT (R706) -/

/-- A fresh slot's programmed bit is set, and its revoked bit where its words are not sound. -/
theorem testBit_or_slot (m n : Nat) (sound : Bool) :
    (m ||| 2 ^ n).testBit n = true ∧ (m ||| if sound then 0 else 2 ^ n).testBit n = (m.testBit n || !sound) := by
  cases sound <;> simp [Nat.testBit_or, Nat.testBit_two_pow_self]

/-- A slot that PROGRAM_SLOT may program: a known scheme, slots 1 to 3, not programmed yet, a key of the scheme's length. -/
def SlotGood (u : State) (msg : List Byte) : Prop :=
  let scheme := fieldAt msg 0 1
  let n := fieldAt msg 1 1
  scheme ≤ 1 ∧ 1 ≤ n ∧ n ≤ 3 ∧ (if scheme = 0 then u.fuse.mldsaProg else u.fuse.ecdsaProg).testBit n = false ∧
    (msg.drop 2).length = if scheme = 0 then 2592 else 97

/-- The check of PROGRAM_SLOT. -/
theorem slotGood_iff (u : State) (msg : List Byte) :
    SlotGood u msg ↔ ¬(1 < fieldAt msg 0 1 ∨ fieldAt msg 1 1 = 0 ∨ 4 ≤ fieldAt msg 1 1 ∨
      (if fieldAt msg 0 1 = 0 then u.fuse.mldsaProg else u.fuse.ecdsaProg).testBit (fieldAt msg 1 1) = true ∨
      (msg.drop 2).length ≠ if fieldAt msg 0 1 = 0 then 2592 else 97) := by
  simp only [SlotGood, not_or, Bool.not_eq_true, not_not]
  constructor
  · rintro ⟨known, low, high, fresh, len⟩
    exact ⟨by omega, by omega, by omega, fresh, len⟩
  · rintro ⟨known, low, high, fresh, len⟩
    exact ⟨by omega, by omega, by omega, fresh, len⟩

/-- A slot that may not be programmed is answered with an error. -/
theorem programSlot_of_bad {u : State} {msg : List Byte} (bad : ¬SlotGood u msg) (sound : Bool) :
    programSlot msg sound u = answerError u 0x05 :=
  if_pos (not_not.1 (mt (slotGood_iff u msg).2 bad))

/-- A slot that may be programmed is, and is revoked at once where its words are not sound. -/
theorem programSlot_of_good {u : State} {msg : List Byte} (good : SlotGood u msg) (sound : Bool) :
    let scheme := fieldAt msg 0 1
    let n := fieldAt msg 1 1
    let v := programSlot msg sound u
    (if scheme = 0 then v.fuse.mldsaProg else v.fuse.ecdsaProg).testBit n = true ∧
    (if scheme = 0 then v.fuse.mldsaRev else v.fuse.ecdsaRev).testBit n =
      ((if scheme = 0 then u.fuse.mldsaRev else u.fuse.ecdsaRev).testBit n || !sound) ∧
    v.fuse.lifecycle = u.fuse.lifecycle ∧ v.fuse.serial = u.fuse.serial ∧ v.sec = u.sec ∧
    v.mem = u.mem ∧ v.ctxs = u.ctxs ∧ v.regs = u.regs ∧ v.pwr = u.pwr := by
  intro scheme n v
  have programmed : v = _ := if_neg ((slotGood_iff u msg).1 good)
  rw [programmed]
  by_cases zero : scheme = 0
  · simp only [zero, if_true, scheme] at *
    exact ⟨(testBit_or_slot _ n sound).1, (testBit_or_slot _ n sound).2, rfl, rfl, rfl, rfl, rfl, rfl, rfl⟩
  · simp only [zero, if_false, scheme] at *
    exact ⟨(testBit_or_slot _ n sound).1, (testBit_or_slot _ n sound).2, rfl, rfl, rfl, rfl, rfl, rfl, rfl⟩

/-- A debug entry is a tamper reset that records its state (R723). -/
theorem debugEntered_spec {u : State} (ok : u.regsOk) (op : Nat) :
    Tampered u (debugEntered op u) 0x69 ∧ (debugEntered op u).sec.latch = op ∧ (debugEntered op u).fuse = u.fuse := by
  obtain ⟨tampered, fuse⟩ := tampered_tamperReset (u := answerVendor u []) ok 0x69
  unfold debugEntered
  generalize tamperReset (answerVendor u []) 0x69 = v at tampered fuse
  exact ⟨tampered, rfl, fuse⟩

/-- A retirement is a tamper reset after the kill fuse is blown (R720). -/
theorem retiredBy_spec {u : State} (ok : u.regsOk) :
    Tampered u (retiredBy u) 0x69 ∧ (retiredBy u).fuse = { u.fuse with lifecycle := 3 } := by
  obtain ⟨tampered, fuse⟩ := tampered_tamperReset (u := { answerVendor u [] with fuse := { u.fuse with lifecycle := 3 } }) ok 0x69
  unfold retiredBy
  generalize tamperReset { answerVendor u [] with fuse := { u.fuse with lifecycle := 3 } } 0x69 = v at tampered fuse
  exact ⟨tampered, fuse⟩

/-! ### The requests together -/

/-- Settles O60: the source's events act on the security state alone, a request is answered by what it meets, and a tamper reset
follows a glitch, a debug entry and a retirement. -/
theorem securityRequestsFollowTheirRules : Obligations.SecurityRequestsFollowTheirRules := by
  intro s t msg flag u err served only ok
  refine ⟨fun on => ⟨?_, ?_, fun good => ?_⟩, fun bad => ?_, fun b fresh since late => ?_, fun up => ?_⟩
  · obtain ⟨shown, repetition, adaptive, frame⟩ := entropyTestFail_spec ok flag
    refine ⟨_, (whenEnabled_of_true (by rw [on]; rfl) : execEntropyTestFail flag t s = _), ?_, shown, repetition, adaptive, ?_⟩
    · cases flag <;> rfl
    · cases flag <;> rfl
  · exact ⟨_, (whenEnabled_of_true (by rw [on]; rfl) : execSupplyGlitch t s = _), tampered_tamperReset ok 0x68⟩
  · exact (whenEnabled_of_true (by rw [on, good]; rfl) : execDrbgReseed t s = _)
  · obtain ⟨mem, ctxs, regs, pwr, good, waits, seeded, held, answers⟩ := serveAll_spec u.sec.held
      { u with sec := { u.sec with badSince := none, waitEntropy := false, seededAt := u.now, held := [] } }
    exact ⟨_, (whenEnabled_of_true bad : execEntropyStartupPass t s = _), good, waits, seeded, held, answers, mem, ctxs, regs, pwr⟩
  · obtain ⟨sec, begins⟩ := lossUnlisted_spec { u with sec := { u.sec with waitEntropy := true } } .sec (regAddr .secEntropy 0 0)
    exact ⟨_, exec_entropyRecoveryTimeout fresh since late, by rw [sec], begins⟩
  · have outside : ∀ {cycles : List Nat} {eff : State → State}, ¬served cycles →
        Host.Outcome.next (inSession cycles eff u) = err 0x05 := fun h => congrArg _ (inSession_of_not_served h _)
    have inside : ∀ {cycles : List Nat} {eff : State → State}, served cycles →
        (Host.Outcome.next (inSession cycles eff u) : Host.Outcome State Fault Refusal) = .next (eff u) :=
      fun h => congrArg _ (inSession_of_served h _)
    refine ⟨fun folding => ?_, fun calm unknown => ?_, fun calm known => ?_, fun barred => ?_,
      fun known valid => ⟨fun opened => ?_, fun closed bad => ?_, fun closed good => ?_⟩, fun opened => ?_,
      fun out => ⟨fun sound => ?_, ?_, ?_⟩, fun out => ?_, fun out => ⟨?_, ?_⟩,
      fun in_ => ⟨fun bad sound => ?_, fun good sound => ?_, fun open_ => ?_, fun shut => ?_, fun both => ?_, fun lacks => ?_⟩,
      fun in_ => ⟨fun bad => ?_, fun good => ?_⟩,
      fun in_ => ⟨fun known valid => ?_, fun invalid => ?_, fun valid => ?_, fun invalid => ?_⟩⟩
    · exact (exec_getMeasurements up).trans (congrArg _ (if_pos folding))
    · rw [exec_getMeasurements up, if_neg (by rw [calm]; decide), if_pos (by rw [unknown]; rfl)]
      rfl
    · rw [exec_getMeasurements up, if_neg (by rw [calm]; decide), if_neg (by rw [known]; decide)]
      rfl
    · rw [exec_keyExchange up, if_pos (by rwa [Bool.or_eq_true, Bool.not_eq_true'])]
      rfl
    · rw [exec_keyExchange up, if_neg (by rw [known, valid]; decide), if_pos opened]
      rfl
    · rw [exec_keyExchange up, if_neg (by rw [known, valid]; decide), if_neg (by rw [closed]; decide), if_pos bad]
    · refine ⟨openSession msg u, ?_, rfl, rfl, rfl, rfl, rfl, rfl, rfl⟩
      rw [exec_keyExchange up, if_neg (by rw [known, valid]; decide), if_neg (by rw [closed]; decide), if_neg (by rw [good]; decide)]
    · exact (whenEnabled_of_true (by rw [up, opened]; rfl) : execSpdmSessionEnd t s = _)
    · exact (exec_programSlot up sound).trans (outside out)
    · exact (exec_exportKt up).trans (outside out)
    · exact (exec_setProduction up).trans (outside out)
    · exact (exec_getNonce up).trans (outside out)
    · exact (exec_debugEnter up).trans (outside out)
    · exact (exec_retire up).trans (outside out)
    · exact ((exec_programSlot up sound).trans (inside in_)).trans (congrArg _ (programSlot_of_bad bad sound))
    · exact ⟨_, (exec_programSlot up sound).trans (inside in_), programSlot_of_good good sound⟩
    · exact ((exec_exportKt up).trans (inside in_)).trans (congrArg _ (if_pos open_))
    · exact ((exec_exportKt up).trans (inside in_)).trans (congrArg _ (if_neg shut))
    · exact ((exec_setProduction up).trans (inside in_)).trans (congrArg _ (if_pos both))
    · exact ((exec_setProduction up).trans (inside in_)).trans (congrArg _ (if_neg (by rw [lacks]; decide)))
    · exact ((exec_getNonce up).trans (inside in_)).trans (congrArg _ (if_pos bad))
    · exact ((exec_getNonce up).trans (inside in_)).trans (congrArg _ (if_neg (by rw [good]; decide)))
    · exact ⟨_, ((exec_debugEnter up).trans (inside in_)).trans (congrArg _ (if_pos ⟨known, valid⟩)),
        debugEntered_spec ok (fieldAt msg 4 1)⟩
    · exact ((exec_debugEnter up).trans (inside in_)).trans (congrArg _ (if_neg invalid))
    · exact ⟨_, ((exec_retire up).trans (inside in_)).trans (congrArg _ (if_pos valid)), retiredBy_spec ok⟩
    · exact ((exec_retire up).trans (inside in_)).trans (congrArg _ (if_neg (by rw [invalid]; decide)))

end Sys2Proof.Machine
end

section
/-! PROOFS. A fold reset whose lost step names no context shows no failed die (O55). -/

namespace Sys2Proof.Machine

/-! ### The counterexample -/

/-- A lost step of a context that the device does not have: the ring of its stall's function would have its pointers where
PWR_RST_FAIL_DIES stands. -/
def strayStep : LostStep := { c := 32652, req := StepReq.empty, attempt := 0, variant := 0 }

/-- A fold reset at its end, aligned and with no image waiting, that a chip loss began. The word that would be the ring's
configuration shows it enabled, with two entries. -/
def strayFold : State :=
  { State.reset with
    regs := [(Reg.hifEvtCfg.addr 0 16326, 0x101)]
    pwr := { Power.reset with fold := some (0, .chipLoss), foldRun := true, aligned := true, lost := [strayStep] } }

/-- No check that halts fails, and die 0, of which check 7 tells, is not fallow. -/
theorem strayFold_checks : haltedRow strayFold (some 7) = none ∧ fallow strayFold 0 = false := by decide +kernel

/-- With no buffer listed, the peaks of the buffers held start again at nothing. -/
theorem restartPeaks_of_no_bufs {s : State} (none_ : s.bufs = []) : restartPeaks s = rclear s [.grnHeld] := by
  have held : ∀ n k, heldCount (rclear s [.grnHeld]) n k = 0 := fun n k => by
    show (s.bufs.filter _).length = 0
    rw [none_]
    rfl
  exact List.foldl_fixed' (fun i => if_pos (held (i / 8) (i % 8))) _

/-- So the rebuild of the buffers clears their registers only. -/
theorem grnRebuild_strayFold : grnRebuild (dropVolatile strayFold) = rclear strayFold [.grnHeld] :=
  (restartPeaks_of_no_bufs rfl).trans rfl

/-- The event of the stray step advances the pointer in PWR_RST_FAIL_DIES, and the bit of die 0 is lost. -/
theorem failDies_strayFold : bitAt (rget (foldPassed 7 1 strayFold) .pwrRstFailDies) 0 = false := by
  rw [foldPassed, grnRebuild_strayFold]
  decide +kernel

/-- FOLD_DONE there passes with die 0 recorded. -/
theorem exec_foldDone_strayFold : exec (.foldDone (some 7) 0) strayFold = .next (foldPassed 7 1 strayFold) := by
  obtain ⟨none_, standing⟩ := strayFold_checks
  have enabled : (execFoldDone (some 7) 0 strayFold) = .next
      (match haltedRow strayFold (some 7) with
      | some r => foldHalted r strayFold
      | none => if (7 % 16 = 7 ∨ 7 % 16 = 8) ∧ 7 / 16 < 40 ∧ !fallow strayFold (7 / 16) then foldPassed (7 % 16) (2 ^ (7 / 16)) strayFold
          else foldPassed 0 0 strayFold) := rfl
  rw [none_] at enabled
  exact enabled.trans (congrArg _ (if_pos ⟨.inl rfl, by decide, by rw [standing]; rfl⟩))

/-- Refutes O55: a fold reset records a failed die in PWR_RST_FAIL_DIES and then tells of the steps that a chip loss ended. Nothing in
the statement bounds the context of such a step, and one beyond the sixteen has its ring's pointers in that very register. -/
theorem not_resetsFollowTheirPhases : ¬ Obligations.ResetsFollowTheirPhases := by
  intro h
  obtain ⟨none_, standing⟩ := strayFold_checks
  obtain ⟨-, -, -, -, -, -, -, -, -, -, -, ends, -⟩ := h strayFold .pf 0 0 0 none [] true (List.pairwise_singleton _ _)
  obtain ⟨-, -, failed⟩ := ends rfl (.inl rfl) rfl rfl
  obtain ⟨s', answer, -, -, shown⟩ := failed 0 (by decide) none_ standing rfl
  rw [show 16 * 0 + 7 = 7 from rfl, exec_foldDone_strayFold, Host.Outcome.next.injEq] at answer
  rw [← answer, failDies_strayFold] at shown
  exact absurd shown (by decide)

end Sys2Proof.Machine
end

section
/-! PROOFS. A stream table written over a key/value table takes away the right to write the output (O52). -/

namespace Sys2Proof.Machine

/-! ### What a command may go on with -/

/-- A handle that fits its span names its buffer's address (R247). -/
theorem withHandle_of_fits {s : State} {n hb off len : Nat} (fits : checkHandle s n (hb % 2 ^ 32) (hb / 2 ^ 32) off len = .ok)
    (src : Src) (k : Nat → State → State) : withHandle s src n hb off len k = k ((keySpan s (keyOf (hb % 2 ^ 32))).1 + off) s := by
  rw [withHandle, fits]

/-- A span that the context may use is read (R229). -/
theorem withUse_of_mayUse {s : State} {c a len : Nat} (may : mayUse s c a len = true) (sound : s.upsets = []) (src : Src)
    (k : List Byte → State → State) : withUse s src c a len k = k (readMem s a len) s := by
  rw [withUse, if_pos may, withBytes_of_sound sound]

/-- A command whose spans the context may use and write goes on. -/
theorem withSpans_of_may {s : State} {c : Nat} {rd wr : List (Nat × Nat)} (reads : ∀ p ∈ rd, mayUse s c p.1 p.2 = true)
    (writes : ∀ p ∈ wr, mayWrite s c p.1 p.2 = true) (src : Src) (k : State → State) : withSpans s src c rd wr k = k s := by
  have noRead : rd.find? (fun p => !mayUse s c p.1 p.2) = none := List.find?_eq_none.2 fun p hp => by simp [reads p hp]
  have noWrite : wr.find? (fun p => !mayWrite s c p.1 p.2) = none := List.find?_eq_none.2 fun p hp => by simp [writes p hp]
  rw [withSpans, noRead, noWrite]

/-- A transfer that its bay allows starts (R74). -/
theorem gated_of_go {s : State} {c : Nat} {res : List Nat} (go : gate s (stallNo c) res = .go) (src : Src) (addr : Nat)
    (k : State → State) : gated s src c res addr k = k s := by
  rw [gated, go]
  exact ite_self _

/-- A write that its context may not make is a violation (R155). -/
theorem engineWrite_of_not_mayWrite {s : State} {c a : Nat} {bs : List Byte} (some_ : bs ≠ []) (may : mayWrite s c a bs.length = false)
    (src : Src) : engineWrite s src c a bs = violation s src a := by
  rw [engineWrite, may, List.isEmpty_eq_false_iff.2 some_]
  rfl

/-- A violation that may begin a fold reset leaves every context idle. -/
theorem idle_of_violation {s : State} (may : s.mayFold) (src : Src) (a : Nat) {c : Nat} (hc : c < 16) :
    (ctxOf (violation s src a) c).st = .idle :=
  (lossEffects_of_mayFold (s := logRaw s none 4 src 0x01 a 0) may src 0x01 s.log.seq).2.2 c hc

/-- The table of a slot that the attempt has staged is written where it stands (R594). -/
theorem stageStream_of_staged {s : State} {c slot : Nat} {table : State → State × List Byte}
    (stream : (pubOf s (stallNo c) slot).kv = false) (staged : (ctxOf s c).staged.contains slot = true)
    (runs : (ctxOf (table s).1 c).st = .running) :
    let p := pubOf s (stallNo c) slot
    stageStream s c slot table = writeMem (table s).1 (keySpan (table s).1 (keyOf (p.handle (!p.side)))).1 (table s).2 := by
  dsimp only
  unfold stageStream
  dsimp only
  rw [stream, staged, if_neg (by decide), if_pos rfl, runs, if_neg (by decide)]

/-! ### The counterexample -/

/-- An ENCODE of superblock row 0 into the page of arena 0, with its source list in the Loft. -/
def clashDesc : List Byte :=
  [2, 0, 0, 0, 0, 0, 1, 0, 1, 0, 0x10, 0, 0xFE, 0xFF, 0xEF, 0xFF] ++ zeros 8 ++ [0, 0x80, 0, 0, 0, 0x10, 0, 0] ++ zeros 96

/-- The command of context 0 that encoder 0 has before it. -/
def clashCmd : Cmd :=
  { id := 1, c := 0, uid := 1, cls := 8, inst := 0, addr := loftBase + 0x10000, len := 128, null := false, sigTal := 0, sigAdd := 0
    arrive := 0, st := .queued, doneAt := 0, left := 0, desc := [], rows := [], next := 0, total := 0, unfixed := false }

/-- One buffer in the Loft that reads as a stream table, of a picture without columns and with one superblock row, and as a key/value
table of one layer with one token in row 0. -/
def clashMem : List Host.Cell :=
  memPuts (loftBase + 0x10000) clashDesc (memPuts (loftBase + 64) [1] (memPuts (loftBase + 18) [1] (memPuts loftBase [1, 1, 1, 0, 1] [])))

/-- Context 0 has staged slot 0, a stream, and slot 1, a key/value slot, and both name that buffer; context 1
is being killed. The page of arena 0 that the key/value table names belongs to the stall and to no attempt. -/
def clash : State :=
  rput (rput (rput (rput
    { State.reset with
      mem := clashMem
      ctxs := [(0, { Ctx.clear with st := .running, uid := 1, staged := [0, 1] }), (1, { Ctx.clear with st := .killing, uid := 2 })]
      pub := [(0, { PubSlot.clear with h1 := 1, c1 := onesComp 32 1, st1 := true }), (1, { PubSlot.clear with h0 := 1, kv := true })]
      bufs := [(bufKey true 0 1, { Buf.free with alloc := true })]
      cmds := [clashCmd]
      plan := { Plan.reset with extents := [{ base := 0, size := 2 ^ 48, owner := 0 }] }
      tide := { Tide.reset with expected := 1000000000 }
      pwr := { Power.reset with inReset := false } }
    .grnPool (word (2 * 2 ^ 61 + loftBase / 256))) .grnArena (word (2 ^ 40))) .grnRsv (word (2 * 2 ^ 20 + 1)) 64)
    .pwrRstStatus (word (4 * 2 ^ 60))

/-- The stream table that the command reads. -/
def clashTab : List Byte := readMem clash loftBase 4096

/-- Its configuration. -/
def clashCfg : EncCfg :=
  { width := 0, height := 1, depth := 0, rcMode := 0, colsLog2 := 0, rowsLog2 := 0, fpsNum := 0, fpsDen := 0, bitrate := 0, peak := 0
    bufMs := 0, baseQ := 0, nref := 0, keyInt := 0, goldenInt := 0, maxTg := 0, flags2 := 0 }

/-- The descriptor's fields. -/
def clashEnc : EncDesc :=
  { op := 2, forceKey := false, pair := false, markGolden := false, invalidate := 0, slot := 0, rowFirst := 0, rowCount := 1
    out := 0xFFEFFFFE00100001, outOff := 0, src := loftBase + 0x8000, hint := 0, patch_ := 0 }

/-- The state after the row buffer has been taken. -/
def clashRow : State := takeBuf clash (bufKey false 0 2) 8 0 0 1

/-- The frame of its group: a key frame that starts there. -/
def clashFrame : Frame := frameOf clashTab clashEnc clashCfg

/-! ### What holds there, by evaluation -/

/-- Time stands at 0. -/
theorem at_clash : clash.at 0 = clash := by decide +kernel

/-- Nothing disturbs memory. -/
theorem undisturbed_clash : clash.undisturbed := by unfold State.undisturbed State.memOk; decide +kernel

/-- Nor does anything once the row buffer has been taken. -/
theorem undisturbed_clashRow : clashRow.undisturbed := by unfold State.undisturbed State.memOk; decide +kernel

/-- A fold reset may begin. -/
theorem mayFold_clashRow : clashRow.mayFold := by unfold State.mayFold; decide +kernel

/-- The command stands before encoder 0. -/
theorem offered_clash : Offered clash 0 8 0 2 128 clashCmd clashDesc := by unfold Offered; decide +kernel

/-- The encoder is free for it. -/
theorem encIdle_clash : encIdle clash 0 0 = true := by decide +kernel

/-- The descriptor has the form, and these fields. -/
theorem desc_clash : encForm clashEnc clashDesc = true ∧ encDesc clashDesc = clashEnc ∧ clashDesc.take 128 = clashDesc := by
  decide +kernel

/-- The stream's slot is sound, and no other context has it staged. -/
theorem slot_clash : (pubOf clash 0 0).sound = true ∧ (pubOf clash 0 0).invalid = false ∧ slotBusy clash 0 0 = false := by
  decide +kernel

/-- The table reads as a configured stream with no frame begun. -/
theorem tab_clash : (fieldAt clashTab 0 1 = 1 ∧ fieldAt clashTab 1 1 = 1) ∧ encCfg (slice clashTab 16 48) = clashCfg := by
  decide +kernel

/-- It is the one that the command reads. -/
theorem streamAddr_clash : streamAddr clash 0 0 = some loftBase := by decide +kernel

/-- And so the statement names it. -/
theorem side_clash :
    (keySpan clash (keyOf ((pubOf clash (0 / 2) clashEnc.slot).handle
      (if (ctxOf clash 0).staged.contains clashEnc.slot = true then !(pubOf clash (0 / 2) clashEnc.slot).side
        else (pubOf clash (0 / 2) clashEnc.slot).side)))).1 = loftBase := by
  decide +kernel

/-- The spans that the command reads, its output's place, and no reference row. -/
theorem reads_clash :
    mayUse clash 0 clashEnc.src (8 * clashEnc.rowCount) = true ∧
    (chunks 8 (readMem clash clashEnc.src (8 * clashEnc.rowCount))).map leNat = [0] ∧ mayUse clash 0 0 0 = true ∧
    clashFrame.refs clashCfg = [] ∧ (keySpan clash (keyOf (clashEnc.out % 2 ^ 32))).1 + clashEnc.outOff = 0 := by
  decide +kernel

/-- The output's handle is sound. -/
theorem handle_clash : checkHandle clash 0 0x00100001 0xFFEFFFFE 0 64 = .ok := by decide +kernel

/-- The bay lets the transfer go. -/
theorem go_clash : gate clash 0 (mdRes (0 / 4) [0, 0]) = .go := by decide +kernel

/-- The page may be written, as the tail of the key/value table. -/
theorem may_clash : mayWrite clash 0 0 64 = true := by decide +kernel

/-- It may still be once the row buffer has been taken. -/
theorem may_clashRow : mayWrite clashRow 0 0 64 = true := by decide +kernel

/-- The one row buffer of the group. -/
theorem allocBuf_clash :
    allocBuf clash (16 * 0 + 8) 0 (ctxOf clash 0).uid 8 (classFor clashCfg.rowBytes) = some (bufKey false 0 2, clashRow) := by
  decide +kernel

/-- No buffer of the attempt holds the page. -/
theorem heldBuf_clashRow : inHeldBuf clashRow 1 0 64 = false := by decide +kernel

/-- Slot 1 names the stream table as its key/value table. -/
theorem table_clashRow : kvTableAddr clashRow 0 1 = loftBase := by decide +kernel

/-- The attempt has staged both slots, and slot 0 is none of key and value. -/
theorem ctx_clashRow :
    (ctxOf clashRow 0).staged = [0, 1] ∧ (ctxOf clashRow 0).uid = 1 ∧ (ctxOf clashRow 0).committed = false ∧
    (pubOf clashRow 0 0).kv = false := by
  decide +kernel

/-- The stream's slot is staged, by an attempt that runs, and its staged side is that table. -/
theorem staged_clash :
    (pubOf clash 0 0).kv = false ∧ (ctxOf clash 0).staged.contains 0 = true ∧ (ctxOf clashRow 0).st = .running ∧
    (keySpan clashRow (keyOf ((pubOf clash 0 0).handle (!(pubOf clash 0 0).side)))).1 = loftBase := by
  decide +kernel

/-! ### The command's work -/

/-- It passes every check of R598 and R600. -/
theorem encTake_clash :
    encTake 0 0 clashCmd clashDesc clash = encWork 0 0 clashCmd clashDesc clashTab clashEnc clashCfg 0 [[], []] clash := by
  obtain ⟨form, desc, whole⟩ := desc_clash
  obtain ⟨sound, valid, free⟩ := slot_clash
  obtain ⟨use, srcs, used, refs, place⟩ := reads_clash
  obtain ⟨⟨version, configured⟩, cfg⟩ := tab_clash
  have spans : ∀ p ∈ [(0, clashCfg.rowBytes)], mayUse clash 0 p.1 p.2 = true := fun p hp => List.mem_singleton.1 hp ▸ used
  unfold encTake
  dsimp only
  rw [desc, form, if_neg (by decide), show clashEnc.slot = 0 from rfl, show stallNo 0 = 0 from rfl, sound, if_neg (by decide), valid,
    if_neg (by decide), streamAddr_clash]
  dsimp only
  rw [withBytes_of_sound undisturbed_clash.2.1, ← clashTab, cfg, version, configured, ← clashFrame, refs, free, if_neg (by decide),
    if_neg (by decide), if_neg (by decide), if_neg (by decide), if_neg (by decide), if_neg (by decide), withHandle_of_fits handle_clash,
    show (keySpan clash (keyOf (clashEnc.out % 2 ^ 32))).1 + clashEnc.outOff = 0 from place,
    show isHbm 0 = true from rfl, show mayWrite clash 0 0 (64 + clashCfg.maxTg) = true from may_clash, if_neg (by decide),
    withUse_of_mayUse use undisturbed_clash.2.1, srcs, show clashEnc.hint = 0 from rfl, if_pos rfl,
    show [0].map (fun a => (a, clashCfg.rowBytes)) ++ [] = [(0, clashCfg.rowBytes)] from rfl, withSpans_of_may spans (by simp),
    List.flatMap_nil, List.nil_append, show clashEnc.rowFirst = 0 from rfl, if_pos rfl, withRows, gated_of_go (c := 0) go_clash,
    show clashCfg.rowBytes = 0 from rfl, whole]
  rfl

/-! ### What becomes of the output -/

/-- The first bytes of the table after the group, read as a key/value table: one without layers. -/
theorem layers_tableAfter (rate : List Byte) (f : Frame) :
    (kvHeadOf (tableAfter clashTab f clashCfg 1 rate)).layers = 0 := rfl

/-- Once such a table stands in the buffer, context 0 may no longer write the page. -/
theorem mayNot_write_clash {bs : List Byte} (len : 3 ≤ bs.length) (layers : (kvHeadOf bs).layers = 0) :
    mayWrite (writeMem clashRow loftBase bs) 0 0 64 = false := by
  have same := readMem_writeMem_same undisturbed_clashRow.1 loftBase bs
  have frame := writeMem_frame undisturbed_clashRow.2.2 loftBase bs
  obtain ⟨staged, uid, open_, stream⟩ := ctx_clashRow
  have heldBefore := heldBuf_clashRow
  have tableBefore := table_clashRow
  generalize writeMem clashRow loftBase bs = w at same frame ⊢
  generalize clashRow = v at *
  have bufs : w.bufs = v.bufs := (congrArg State.bufs frame :)
  have regs : w.regs = v.regs := (congrArg State.regs frame :)
  have ctxs : w.ctxs = v.ctxs := (congrArg State.ctxs frame :)
  have pub : w.pub = v.pub := (congrArg State.pub frame :)
  have ctx : ctxOf w 0 = ctxOf v 0 := by rw [ctxOf, ctxs, ctxOf]
  have slot (j : Nat) : pubOf w 0 j = pubOf v 0 j := by rw [pubOf, pub, pubOf]
  have span (k : Nat) : keySpan w k = keySpan v k := by simp only [keySpan, bufAddr, unitReg, rget, rgetX, regs]
  have held : inHeldBuf w 1 0 64 = false := by
    rw [← heldBefore, inHeldBuf, inHeldBuf, bufs]
    simp only [span]
  have table : kvTableAddr w 0 1 = loftBase := by rw [← tableBefore, kvTableAddr, kvTableAddr, slot, span]
  have none_ : (kvHeadOf (readMem w loftBase 16)).layers = 0 := by
    have whole := readMem_part w loftBase (off := 2) (len := bs.length) (n := 1) len
    have part := readMem_part w loftBase (off := 2) (len := 16) (n := 1) (by decide)
    rw [same] at whole
    exact (congrArg leNat (part.symm.trans whole) :).trans layers
  have noTail : inKvTail w 0 0 64 = false := by
    unfold inKvTail
    dsimp only
    rw [ctx, staged]
    simp [stallNo, slot, stream, table, none_]
  unfold mayWrite
  rw [ctx, uid, held, noTail, if_neg (by decide), open_]
  rfl

/-- The row buffer of the group: superblock rows of a picture without columns hold no byte. -/
theorem allocRows_clash (row : List Byte) :
    allocRows 0 (16 * 0 + 8) (classFor clashCfg.rowBytes)
      [(0, (row ++ zeros (clashCfg.rowBytes - row.length)).take clashCfg.rowBytes)] clash [] =
      some (clashRow, [(0, handle64 (handleOf clashRow (bufKey false 0 2)))]) := by
  rw [allocRows, allocBuf_clash]
  dsimp only
  rw [allocRows, show clashCfg.rowBytes = 0 from rfl, List.take_zero, List.nil_append]
  rfl

/-- A header of 64 bytes and nothing else is the output of a group that may hold no byte. -/
theorem length_output_clash (f : Frame) (obu : List Byte) (baseQ : Nat) (last capped : Bool) :
    (encHeader f clashEnc (obu.take clashCfg.maxTg).length baseQ last capped ++ obu.take clashCfg.maxTg ++
      zeros (clashCfg.maxTg - (obu.take clashCfg.maxTg).length)).length = 64 := by
  rw [show clashCfg.maxTg = 0 from rfl, List.take_zero]
  simp [encHeader, zeros]

/-- With the table written, the attempt still runs. -/
theorem running_after_table {bs : List Byte} : (ctxOf (writeMem clashRow loftBase bs) 0).st = .running := by
  have frame := writeMem_frame undisturbed_clashRow.2.2 loftBase bs
  obtain ⟨-, -, running, -⟩ := staged_clash
  generalize writeMem clashRow loftBase bs = w at frame ⊢
  generalize clashRow = v at *
  have ctxs : w.ctxs = v.ctxs := (congrArg State.ctxs frame :)
  rw [ctxOf, ctxs]
  exact running

/-- The output after such a table is a violation, and the fold reset leaves context 1 idle. -/
theorem idle_of_output_clash {bs out : List Byte} (len : 3 ≤ bs.length) (layers : (kvHeadOf bs).layers = 0) (size : out.length = 64) :
    (ctxOf (engineWrite (writeMem clashRow loftBase bs) .med 0 0 out) 1).st = .idle := by
  have frame := writeMem_frame undisturbed_clashRow.2.2 loftBase bs
  have mayNot := mayNot_write_clash len layers
  have may := mayFold_clashRow
  rw [← size] at mayNot
  rw [engineWrite_of_not_mayWrite (List.ne_nil_of_length_pos (by omega)) mayNot]
  refine idle_of_violation ?_ .med 0 (by decide)
  generalize writeMem clashRow loftBase bs = w at frame ⊢
  generalize clashRow = v at *
  rw [frame]
  exact may

/-- So the work ends in a violation. -/
theorem encWork_clash : (ctxOf (encWork 0 0 clashCmd clashDesc clashTab clashEnc clashCfg 0 [[], []] clash) 1).st = .idle := by
  obtain ⟨stream, staged, running, table⟩ := staged_clash
  unfold encWork
  dsimp only
  rw [show stallNo 0 = 0 from rfl, show clashEnc.slot = 0 from rfl, show clashCmd.null = false from rfl, if_neg (by decide),
    show clashEnc.rowFirst = 0 from rfl, show clashEnc.rowCount = 1 from rfl, if_pos rfl, List.nil_append, List.range_one,
    List.map_singleton, show clashEnc.patch_ = 0 from rfl, if_pos rfl,
    stageStream_of_staged stream staged (by rw [Nat.zero_add, allocRows_clash]; exact running), Nat.zero_add, allocRows_clash]
  dsimp only
  rw [show stallNo 0 = 0 from rfl, table, if_neg (by rw [running_after_table]; decide)]
  have done (v : State) (id at_ : Nat) : ctxOf (finishCmd v id at_) 1 = ctxOf v 1 := rfl
  have kept (v : State) (r : Reg) (f : Word → Word) (d i : Nat) : ctxOf (rmod v r f d i) 1 = ctxOf v 1 := rfl
  have long (f : Frame) (rate : List Byte) : 3 ≤ (tableAfter clashTab f clashCfg 1 rate).length := by
    simp [tableAfter]
    omega
  rw [done, rsetField, kept]
  split
  · rw [rbump, rbump, kept, kept]
    exact idle_of_output_clash (long ..) (layers_tableAfter ..) (length_output_clash ..)
  · rw [rbump, kept]
    exact idle_of_output_clash (long ..) (layers_tableAfter ..) (length_output_clash ..)

/-- ENCODE on an encoder that is free takes the oldest command (R600). -/
theorem exec_encode {s : State} {c e t : Nat} (hc : c < 16) (he : e < 8) (idle : encIdle (s.at t) c e = true) :
    exec (.encode c e t) s = .next (takeCmd (s.at t) .med c 8 e 2 128 encOpValid (encTake c e)) :=
  (whenEnabled_of_true (by simp [hc, he, idle]) : execEncode c e t s = _)

/-- ENCODE runs to that end. -/
theorem exec_encode_clash :
    exec (.encode 0 0 0) clash = .next (encWork 0 0 clashCmd clashDesc clashTab clashEnc clashCfg 0 [[], []] clash) := by
  rw [exec_encode (by decide) (by decide) (at_clash.symm ▸ encIdle_clash), at_clash, takeCmd_of_offered offered_clash, encTake_clash]

/-- Refutes O52: an ENCODE whose stream table stands in the buffer of a key/value table may write its output before it writes that table
and not after. The statement asks for the right before. -/
theorem not_mediaEnginesWriteTheirOutput : ¬ Obligations.MediaEnginesWriteTheirOutput := by
  intro h
  have all := h clash 0 0 0 clashCmd clashDesc (by decide) rfl
  rw [at_clash] at all
  obtain ⟨-, encoder⟩ := all undisturbed_clash
  rw [desc_clash.2.1] at encoder
  obtain ⟨-, encode⟩ := encoder (by decide) encIdle_clash slot_clash.1
  obtain ⟨-, works⟩ := encode offered_clash desc_clash.1 (fun pair => absurd pair (by decide)) fun bad => absurd bad (by decide +kernel)
  obtain ⟨-, -, -, -, works⟩ := works (by decide +kernel) (by decide +kernel)
  dsimp only at works
  rw [side_clash, ← clashTab, tab_clash.2, ← clashFrame] at works
  obtain ⟨use, srcs, used, refs, place⟩ := reads_clash
  rw [srcs, refs, show handleAddr clash clashEnc.out + clashEnc.outOff = 0 from place] at works
  obtain ⟨-, works⟩ := works (by decide +kernel) (by decide +kernel) slot_clash.2.2 (by decide +kernel) (by decide +kernel)
    (fun pair => absurd pair (by decide)) (.inl rfl) handle_clash rfl may_clash use
    (fun a ha => by rw [List.mem_singleton.1 ha]; exact used) (fun hint => absurd rfl hint) (fun h none_ => by cases none_)
    go_clash
  obtain ⟨s', answer, -, -, -, -, kept, -⟩ := works clash _ clashRow _ rfl (by decide +kernel) rfl (allocRows_clash _) may_clashRow
    (fun patch => absurd rfl patch)
  rw [exec_encode_clash, Host.Outcome.next.injEq] at answer
  have idle := encWork_clash
  rw [answer, kept 1 (by decide)] at idle
  exact absurd idle (by decide +kernel)

end Sys2Proof.Machine
end

section
/-! SUPPORT. How waiting posted writes leave (R626, R629, R637). -/

namespace Sys2Proof.Machine

/-! ### What sending changes -/

/-- What sends waiting writes changes the functions, the queue, the rotation and the posted writes of the host interface, the drains of
the stalls and the outputs. Bus mastering stays, and every output costs a credit. -/
structure Sends (s s' : State) : Prop where
  frame : s' = { s with
    stalls := s'.stalls, out := s'.out
    host := { s.host with
      fns := s'.host.fns, queue := s'.host.queue, credits := s'.host.credits, rot := s'.host.rot, posted := s'.host.posted } }
  bme : ∀ f, (fnOf s' f).bme = (fnOf s f).bme
  spent : s'.host.credits + s'.out.length = s.host.credits + s.out.length

/-- To do nothing sends nothing. -/
theorem Sends.refl (s : State) : Sends s s := ⟨rfl, fun _ => rfl, rfl⟩

/-- Two sendings are one. -/
theorem Sends.trans {s s' s'' : State} (h : Sends s s') (k : Sends s' s'') : Sends s s'' := by
  refine ⟨?_, fun f => (k.bme f).trans (h.bme f), k.spent.trans h.spent⟩
  have frame := k.frame
  rw [h.frame] at frame
  exact frame

/-- Both branches of a choice send. -/
theorem Sends.ite {p : Prop} [Decidable p] {s a b : State} (h : Sends s a) (k : Sends s b) : Sends s (if p then a else b) := by
  split
  · exact h
  · exact k

/-- The link, the reads, the registers, the log, memory and the contexts stay. -/
theorem Sends.keeps {s s' : State} (h : Sends s s') :
    s'.host.up = s.host.up ∧ s'.host.reads = s.host.reads ∧ s'.regs = s.regs ∧ s'.log = s.log ∧ s'.mem = s.mem ∧
    s'.ctxs = s.ctxs ∧ s'.pub = s.pub := by
  rw [h.frame]
  exact ⟨rfl, rfl, rfl, rfl, rfl, rfl, rfl⟩

/-- A write joins those that wait. -/
theorem sends_hostEnqueue (s : State) (x : HostTlp) : Sends s (hostEnqueue s x) := ⟨rfl, fun _ => rfl, rfl⟩

/-- A change of a function that leaves its bus mastering. -/
theorem sends_modFn (s : State) (f : Nat) {g : Fn → Fn} (bus : ∀ x, (g x).bme = x.bme) : Sends s (modFn s f g) := by
  refine ⟨rfl, fun k => ?_, rfl⟩
  by_cases hk : k = f
  · rw [hk, fnOf_modFn_same, bus]
  · rw [fnOf_modFn_ne s f g hk]

/-- A vector is signalled or held (R626). -/
theorem sends_signalVec (s : State) (fn vec : Nat) : Sends s (signalVec s fn vec) := by
  unfold signalVec
  refine Sends.ite ?_ (Sends.ite (Sends.trans ?_ (sends_hostEnqueue ..)) ?_) <;> exact sends_modFn s fn fun _ => rfl

/-! ### One write that leaves -/

/-- The state in which a write has left: out with its credit, and counted in the drain that it belongs to. -/
def tlpSent (s : State) (x : HostTlp) : State :=
  let o := if x.isMsix then Out.msix x.fn x.addr else Out.hostWrite x.fn x.addr x.bytes
  let s := { s with
    out := o :: s.out
    host := { s.host with
      queue := s.host.queue.erase x
      credits := s.host.credits - 1
      rot := if x.urgent then s.host.rot else x.fn
      posted := match x.census with | some c => (c, s.now) :: s.host.posted | none => s.host.posted } }
  match x.drain with
  | none => s
  | some (n, step) => modStall s n fun st =>
      { st with drains := st.drains.map fun d => if d.req.step = step then { d with left := d.left - 1 } else d }

/-- A write leaves where the link is up, credit is there and one may; its vector follows. -/
theorem hostSendOne_of_pick {s : State} (up : s.host.up = true) (credit : s.host.credits ≠ 0) {x : HostTlp} (pick : hostPick s = some x) :
    hostSendOne s = match x.vec with | none => tlpSent s x | some v => signalVec (tlpSent s x) x.fn v := by
  rw [hostSendOne, up, pick, if_neg (by simp [credit])]
  rfl

/-- Else nothing leaves. -/
theorem hostSendOne_of_stuck {s : State} (stuck : s.host.up = false ∨ s.host.credits = 0 ∨ hostPick s = none) : hostSendOne s = s := by
  unfold hostSendOne
  rcases stuck with down | spent | none_
  · rw [down]
    rfl
  · rw [spent]
    exact if_pos (Bool.or_true _)
  · rw [none_]
    exact ite_self _

/-- A write that leaves waits no longer and has cost a credit. -/
theorem tlpSent_host (s : State) (x : HostTlp) :
    (tlpSent s x).host.queue = s.host.queue.erase x ∧ (tlpSent s x).host.credits = s.host.credits - 1 ∧
    (tlpSent s x).host.fns = s.host.fns ∧ (tlpSent s x).host.up = s.host.up := by
  unfold tlpSent
  dsimp only
  split <;> exact ⟨rfl, rfl, rfl, rfl⟩

/-- It is a sending where there is credit. -/
theorem sends_tlpSent {s : State} (credit : s.host.credits ≠ 0) (x : HostTlp) : Sends s (tlpSent s x) := by
  have spent (o : Out) : s.host.credits - 1 + (o :: s.out).length = s.host.credits + s.out.length := by
    rw [List.length_cons]
    omega
  unfold tlpSent
  dsimp only
  split <;> exact ⟨rfl, fun _ => rfl, spent _⟩

/-- One write leaves, or none does. -/
theorem sends_hostSendOne (s : State) : Sends s (hostSendOne s) := by
  by_cases stuck : s.host.up = false ∨ s.host.credits = 0 ∨ hostPick s = none
  · rw [hostSendOne_of_stuck stuck]
    exact Sends.refl s
  · obtain ⟨up, credit, some_⟩ := not_or.1 stuck |>.imp_right not_or.1
    obtain ⟨x, pick⟩ := Option.ne_none_iff_exists'.1 some_
    rw [hostSendOne_of_pick (Bool.not_eq_false _ ▸ up) credit pick]
    split
    · exact sends_tlpSent credit x
    · exact (sends_tlpSent credit x).trans (sends_signalVec ..)

/-- Every write that may leave does so. -/
theorem sends_hostFlush (s : State) : Sends s (hostFlush s) :=
  foldl_keeps Sends.refl Sends.trans (fun s _ => sends_hostSendOne s) _ s

/-! ### All that may leave do (R629) -/

/-- The host posts that the waiting writes still cost: each its own, and one more where a vector follows. -/
def postsLeft (q : List HostTlp) : Nat := (q.map fun x => if x.vec.isSome then 2 else 1).sum

/-- Two for each write at most. -/
theorem postsLeft_le (q : List HostTlp) : postsLeft q ≤ 2 * q.length := by
  unfold postsLeft
  induction q with
  | nil => exact Nat.le_refl 0
  | cons x q ih =>
    rw [List.map_cons, List.sum_cons, List.length_cons]
    split <;> omega

/-- A message interrupt that joins costs one. -/
theorem postsLeft_hostEnqueue (s : State) (x : HostTlp) (plain : x.vec = none) :
    postsLeft (hostEnqueue s x).host.queue = postsLeft s.host.queue + 1 := by
  have parts : postsLeft (s.host.queue.filter (·.urgent)) + postsLeft (s.host.queue.filter fun y => !y.urgent) = postsLeft s.host.queue := by
    have perm := List.filter_append_perm (fun x : HostTlp => x.urgent) s.host.queue
    have sum := (perm.map fun x : HostTlp => if x.vec.isSome then 2 else 1).sum_eq
    simpa [postsLeft] using sum
  have one : postsLeft [x] = 1 := by simp [postsLeft, plain]
  unfold hostEnqueue
  dsimp only
  split <;> simp only [postsLeft, List.map_append, List.sum_append] at * <;> omega

/-- A vector that is signalled costs one at most. -/
theorem postsLeft_signalVec (s : State) (fn vec : Nat) :
    postsLeft (signalVec s fn vec).host.queue ≤ postsLeft s.host.queue + 1 := by
  have enqueue (g : Fn → Fn) (x : HostTlp) (plain : x.vec = none) :
      postsLeft (hostEnqueue (modFn s fn g) x).host.queue ≤ postsLeft s.host.queue + 1 :=
    Nat.le_of_eq (postsLeft_hostEnqueue _ x plain)
  have either {p : Prop} [Decidable p] {a b : State} {n : Nat} (ha : postsLeft a.host.queue ≤ n) (hb : postsLeft b.host.queue ≤ n) :
      postsLeft (if p then a else b).host.queue ≤ n := by
    split
    · exact ha
    · exact hb
  unfold signalVec
  exact either (Nat.le_succ _) (either (enqueue _ _ rfl) (Nat.le_succ _))

/-- A write that leaves costs no more. -/
theorem postsLeft_erase {q : List HostTlp} {x : HostTlp} (mem : x ∈ q) :
    postsLeft (q.erase x) + (if x.vec.isSome then 2 else 1) = postsLeft q := by
  rw [Nat.add_comm]
  exact List.sum_map_erase (fun x : HostTlp => if x.vec.isSome then 2 else 1) mem

/-- The write that leaves is one of those that wait. -/
theorem mem_of_hostPick {s : State} {x : HostTlp} (pick : hostPick s = some x) : x ∈ s.host.queue := by
  unfold hostPick at pick
  dsimp only at pick
  split at pick
  · next found => exact List.mem_of_mem_filter (Option.some.inj pick ▸ List.mem_of_find?_eq_some found)
  · refine List.mem_of_mem_filter (p := fun x => (fnOf s x.fn).bme) ?_
    generalize s.host.queue.filter _ = ok at pick ⊢
    refine List.foldlRecOn ok _ (motive := fun best => ∀ b, best = some b → b ∈ ok) (by simp) (fun best mem y hy b => ?_) x pick
    split
    · exact fun h => Option.some.inj h ▸ hy
    · split
      · exact fun h => Option.some.inj h ▸ hy
      · next z _ => exact fun h => Option.some.inj h ▸ mem z rfl

/-- Nothing may leave: there is no credit, or no write of a function that may issue it (R629, R643). -/
def Stuck (s : State) : Prop := s.host.credits = 0 ∨ hostPick s = none

/-- Where something may leave, less is left after it has. -/
theorem postsLeft_hostSendOne {s : State} (up : s.host.up = true) (free : ¬Stuck s) :
    postsLeft (hostSendOne s).host.queue < postsLeft s.host.queue := by
  obtain ⟨credit, some_⟩ := not_or.1 free
  obtain ⟨x, pick⟩ := Option.ne_none_iff_exists'.1 some_
  have less := postsLeft_erase (mem_of_hostPick pick)
  obtain ⟨queue, -⟩ := tlpSent_host s x
  rw [hostSendOne_of_pick up credit pick]
  split
  · next none_ =>
    rw [queue]
    rw [none_] at less
    simp only [Option.isSome_none, Bool.false_eq_true, if_false] at less
    omega
  · next v some_ =>
    rw [some_] at less
    rw [← queue] at less
    have signalled := postsLeft_signalVec (tlpSent s x) x.fn v
    simp only [Option.isSome_some, if_true] at less
    omega

/-- As many tries as there are posts left end with nothing that may leave. -/
theorem stuck_foldl {l : List Nat} {s : State} (up : s.host.up = true) (enough : postsLeft s.host.queue ≤ l.length) :
    Stuck (l.foldl (fun s _ => hostSendOne s) s) := by
  induction l generalizing s with
  | nil =>
    refine .inr ?_
    have empty : s.host.queue = [] := by
      cases h : s.host.queue with
      | nil => rfl
      | cons x q =>
        rw [h, postsLeft, List.map_cons, List.sum_cons] at enough
        split at enough <;> simp at enough
    show hostPick s = none
    rw [hostPick, empty]
    rfl
  | cons k l ih =>
    by_cases stuck : Stuck s
    · have fixed : hostSendOne s = s := hostSendOne_of_stuck (.inr stuck)
      rw [List.foldl_fixed' fun _ => fixed]
      exact stuck
    · have less := postsLeft_hostSendOne up stuck
      rw [List.length_cons] at enough
      exact ih ((sends_hostSendOne s).keeps.1.trans up) (by dsimp only; omega)

/-- After all that may leave has, nothing may (R629). -/
theorem stuck_hostFlush {s : State} (up : s.host.up = true) : Stuck (hostFlush s) :=
  stuck_foldl up (by rw [List.length_range]; exact (postsLeft_le _).trans (Nat.le_succ _))

/-- With the link down nothing leaves. -/
theorem hostFlush_of_stuck {s : State} (stuck : s.host.up = false ∨ Stuck s) : hostFlush s = s :=
  List.foldl_fixed' (fun _ => hostSendOne_of_stuck stuck) _

end Sys2Proof.Machine
end

section
/-! SUPPORT and PROOFS. The host side (O53). -/

namespace Sys2Proof.Machine

/-! ### Events (R623, R624) -/

/-- An event for a ring that is not enabled is none. -/
theorem postEvent_of_disabled {s : State} {fn : Nat} (off : bitAt (rget s .hifEvtCfg fn) 0 = false) (rec : List Byte) (vec : Nat)
    (census : Option Nat) : postEvent s fn rec vec census = s := by
  rw [postEvent, off]
  rfl

/-- With no event dropped, no OVERFLOW is due; nor is one where the ring is full. -/
theorem ringOverflow_of_none {s : State} {fn : Nat} (none_ : (fnOf s fn).dropped = 0 ∨ ringFull s fn = true) : ringOverflow s fn = s :=
  if_pos none_

/-- An event for a full ring is counted as dropped. -/
theorem postEvent_of_full {s : State} {fn : Nat} (on : bitAt (rget s .hifEvtCfg fn) 0 = true) (full : ringFull s fn = true)
    (rec : List Byte) (vec : Nat) (census : Option Nat) :
    postEvent s fn rec vec census = modFn (rbump s .hifFnStat 47 32 fn) fn fun f => { f with dropped := f.dropped + 1 } := by
  rw [postEvent, on, if_neg (by decide), ringOverflow_of_none (.inr full)]
  exact if_pos full

/-- An event for a ring with room and nothing dropped is written at TAIL, and what may leave does. -/
theorem postEvent_of_room {s : State} {fn : Nat} (on : bitAt (rget s .hifEvtCfg fn) 0 = true) (room : ringFull s fn = false)
    (kept : (fnOf s fn).dropped = 0) (rec : List Byte) (vec : Nat) (census : Option Nat) :
    postEvent s fn rec vec census = hostFlush (ringWrite s fn rec vec census) := by
  rw [postEvent, on, if_neg (by decide), ringOverflow_of_none (.inl kept)]
  exact if_neg (by rw [room]; decide)

/-- A write that joins waits. -/
theorem mem_hostEnqueue (s : State) (x : HostTlp) : x ∈ (hostEnqueue s x).host.queue := by
  unfold hostEnqueue
  dsimp only
  split <;> simp

/-- The record and its ring's pointer after the write (R623). -/
theorem ringWrite_spec {s : State} {fn : Nat} (ok : s.regsOk) (rec : List Byte) (vec : Nat) :
    let cfg := rget s .hifEvtCfg fn
    let tail := bf (rget s .hifEvtPtr fn) 16 0
    let size := 2 ^ bf cfg 12 8
    let v := ringWrite s fn rec vec none
    bf (rget v .hifEvtPtr fn) 16 0 = (tail + 1) % 2 ^ 17 ∧ bf (rget v .hifEvtPtr fn) 48 32 = bf (rget s .hifEvtPtr fn) 48 32 ∧
    (∃ q ∈ v.host.queue, q.fn = fn ∧ q.addr = (rget s .hifEvtBase fn).toNat / 64 * 64 + 32 * (tail % size) ∧ q.vec = some vec ∧
      q.bytes = rec.set 1 (rec.getD 1 0#8 ||| if tail / size % 2 = 0 then 0x80#8 else 0#8)) ∧
    v.mem = s.mem ∧ v.ctxs = s.ctxs ∧ v.log = s.log ∧ v.host.up = s.host.up :=
  ⟨rfield_rsetField_same ok (by decide) _, rfield_rsetField_apart ok (by decide) (.inl (by decide)) _,
    ⟨_, mem_hostEnqueue .., rfl, rfl, rfl, rfl⟩, rfl, rfl, rfl, rfl⟩

/-! ### NOTIFY (R640) -/

/-- NOTIFY takes its command. -/
theorem exec_notifyC {s : State} {c t : Nat} {m : Cmd} {b : List Byte} (hc : c < 17) (none_ : (ctxOf (s.at t) c).cen = none)
    (offered : Offered (s.at t) c 11 0 2 64 m b) : exec (.notifyC c t) s = .next (notifyTake c m b (s.at t)) := by
  have taken : exec (.notifyC c t) s = .next (takeCmd (s.at t) .hif c 11 0 2 64 mailOpValid (notifyTake c)) :=
    (whenEnabled_of_true (by simp [hc, none_]) : execNotifyC c t s = _)
  rw [taken, takeCmd_of_offered offered]

section
variable {u : State} {c : Nat} {m : Cmd} {b : List Byte}

/-- A descriptor with a field that NOTIFY does not have is a violation. -/
theorem notifyTake_of_bad (bad : ¬(allZero (slice b 1 7) = true ∧ allZero (slice b 16 48) = true)) :
    notifyTake c m b u = violation u .hif m.addr := by
  have breach : (allZero (slice b 1 7) && allZero (slice b 16 48)) = false :=
    Bool.eq_false_iff.2 fun both => bad (Bool.and_eq_true_iff.1 both)
  rw [notifyTake, breach]
  rfl

variable (plain : allZero (slice b 1 7) = true ∧ allZero (slice b 16 48) = true)
include plain

/-- BC8's is written at once. -/
theorem notifyTake_of_steward : notifyTake 16 m b u = postEvent (finishCmd u m.id u.now) 8
    (eventBytes u 0x06 0 0 0 0 0 0 0 false 0 (word (fieldAt b 8 8)).toNat) 2 := by
  rw [notifyTake, plain.1, plain.2]
  rfl

variable (hc : c < 16)
include hc

/-- Without bus mastering the step fails. -/
theorem notifyTake_of_noBus (bus : (fnOf u (c / 2)).bme = false) : notifyTake c m b u = stepFail u .hif c 0x63 := by
  rw [notifyTake, plain.1, plain.2, if_neg (by decide)]
  dsimp only
  rw [if_neg (by omega), stallNo, if_pos bus]

/-- A null command does nothing. -/
theorem notifyTake_of_null (bus : (fnOf u (c / 2)).bme = true) (null : m.null = true) :
    notifyTake c m b u = finishCmd u m.id u.now := by
  rw [notifyTake, plain.1, plain.2, if_neg (by decide)]
  dsimp only
  rw [if_neg (by omega), stallNo, if_neg (by simp [bus]), if_pos null]

/-- Any other is held until the commit point. -/
theorem notifyTake_of_held (bus : (fnOf u (c / 2)).bme = true) (null : m.null = false) :
    let v := notifyTake c m b u
    (∃ h, (ctxOf v c).held = (ctxOf u c).held ++ [h] ∧ h.note = some (word (fieldAt b 8 8)) ∧ h.cmd = m.id ∧ h.fn = c / 2) ∧
    v.cmds = u.cmds.map (fun y => if y.id = m.id then { y with st := .held, unfixed := true } else y) ∧
    v.host = u.host ∧ v.out = u.out ∧ v.mem = u.mem ∧ ∀ k, k ≠ c → ctxOf v k = ctxOf u k := by
  have cmds (w : State) : (markUnfixed (modCmd w m.id fun y => { y with st := .held }) m.id).cmds =
      w.cmds.map (fun y => if y.id = m.id then { y with st := .held, unfixed := true } else y) := by
    rw [markUnfixed, modCmd, modCmd, List.map_map]
    refine List.map_congr_left fun y _ => ?_
    by_cases id : y.id = m.id <;> simp [id]
  have ctx (w : State) (f : Cmd → Cmd) (k : Nat) : ctxOf (markUnfixed (modCmd w m.id f) m.id) k = ctxOf w k := rfl
  rw [notifyTake, plain.1, plain.2, if_neg (by decide)]
  dsimp only
  rw [if_neg (by omega), stallNo, if_neg (by simp [bus]), null, if_neg (by decide)]
  refine ⟨?_, cmds _, rfl, rfl, rfl, fun k hk => ?_⟩
  · rw [ctx, ctxOf_modCtx_same]
    exact ⟨_, rfl, rfl, rfl, rfl⟩
  · rw [ctx, ctxOf_modCtx_ne u c _ hk]

end

/-! ### Doorbells, interrupts and credits (R623, R626, R629, R643) -/

/-- The doorbell HEAD of a ring frees entries where its function may issue requests; without bus mastering it is dropped and counted. -/
theorem eventHead_spec {u : State} {fn : Nat} (v : Word) :
    ((fnOf u fn).bme = false → eventHead u fn v = rbump u .hifFnStat 63 48 fn) ∧
    ((fnOf u fn).bme = true → (fnOf u fn).dropped = 0 → Sends (rsetField u .hifEvtPtr 48 32 (bf v 16 0) fn) (eventHead u fn v)) := by
  refine ⟨fun off => if_pos off, fun on none_ => ?_⟩
  have kept : (fnOf (rsetField u .hifEvtPtr 48 32 (bf v 16 0) fn) fn).dropped = 0 := none_
  rw [eventHead, if_neg (by simp [on])]
  dsimp only
  rw [ringOverflow_of_none (.inl kept)]
  exact Sends.ite (sends_hostFlush _) (Sends.refl _)

/-- A message interrupt that waits alone leaves alone. -/
theorem hostFlush_of_single {s : State} {x : HostTlp} (single : s.host.queue = [x]) (urgent : x.urgent = true) (last : x.vec = none)
    (up : s.host.up = true) (credit : s.host.credits ≠ 0) (bus : (fnOf s x.fn).bme = true) : hostFlush s = tlpSent s x := by
  have pick : hostPick s = some x := by simp [hostPick, single, bus, urgent]
  have sent : hostSendOne s = tlpSent s x := by rw [hostSendOne_of_pick up credit pick, last]
  obtain ⟨queue, -⟩ := tlpSent_host s x
  have done : hostPick (tlpSent s x) = none := by
    rw [hostPick, queue, single, List.erase_cons_head]
    rfl
  have fixed : hostSendOne (tlpSent s x) = tlpSent s x := hostSendOne_of_stuck (.inr (.inr done))
  rw [hostFlush, single]
  show [0, 1, 2].foldl (fun s _ => hostSendOne s) s = tlpSent s x
  rw [List.foldl_cons, sent, List.foldl_fixed' fun _ => fixed]

/-- A vector that is due is signalled by a message interrupt (R626). -/
theorem signalVec_of_due {s : State} {fn vec : Nat} (clear : (fnOf s fn).masked.contains vec = false)
    (due : ∀ at_, Tab.find vec (fnOf s fn).sentAt = some at_ → at_ + bf (rget s .hifEvtCfg fn) 23 16 * 1000000 ≤ s.now) :
    signalVec s fn vec =
      hostEnqueue (modFn s fn fun f => { f with sentAt := Tab.put vec s.now f.sentAt, unsignalled := f.unsignalled.filter (· ≠ vec) })
        { fn := fn, addr := vec, bytes := [], urgent := true, vec := none, isMsix := true, drain := none, census := none } := by
  have passed (hold : Nat) (short : hold ≤ bf (rget s .hifEvtCfg fn) 23 16 * 1000000) :
      (match Tab.find vec (fnOf s fn).sentAt with | some t => t + hold | none => 0) ≤ s.now := by
    split
    · next at_ found => exact (Nat.add_le_add_left short at_).trans (due at_ found)
    · exact Nat.zero_le _
  rw [signalVec, clear, if_neg (by decide)]
  refine if_pos (passed _ ?_)
  split
  · exact Nat.zero_le _
  · exact Nat.le_refl _

/-- A vector whose holdoff has ended, with nothing else waiting, leaves at once (R626). -/
theorem holdoffEnds {u : State} {fn vec : Nat} (clear : (fnOf u fn).masked.contains vec = false) (empty : u.host.queue = [])
    (up : u.host.up = true) (credit : u.host.credits ≠ 0) (bus : (fnOf u fn).bme = true)
    (due : ∀ at_, Tab.find vec (fnOf u fn).sentAt = some at_ → at_ + bf (rget u .hifEvtCfg fn) 23 16 * 1000000 ≤ u.now) :
    let v := hostFlush (signalVec u fn vec)
    v.out = Out.msix fn vec :: u.out ∧ (fnOf v fn).unsignalled.contains vec = false ∧ Tab.find vec (fnOf v fn).sentAt = some u.now := by
  dsimp only
  rw [signalVec_of_due clear due]
  generalize hg : (fun f : Fn => { f with sentAt := Tab.put vec u.now f.sentAt, unsignalled := f.unsignalled.filter (· ≠ vec) }) = g
  have single (x : HostTlp) (urgent : x.urgent = true) : (hostEnqueue (modFn u fn g) x).host.queue = [x] := by
    simp [hostEnqueue, urgent, modFn, empty]
  have fns (x : HostTlp) : fnOf (hostEnqueue (modFn u fn g) x) fn = g (fnOf u fn) := fnOf_modFn_same u fn g
  rw [hostFlush_of_single (single _ rfl) rfl rfl up credit (by rw [fns, ← hg]; exact bus)]
  have left (s : State) (x : HostTlp) : fnOf (tlpSent s x) fn = fnOf s fn := congrArg (Tab.getD Fn.clear fn) (tlpSent_host s x).2.2.1
  rw [left, fns, ← hg]
  refine ⟨rfl, by simp, Tab.find_put_same ..⟩

/-! ### Host reads (R639, R648, R649) -/

/-- The read that a function's tag names has them. -/
theorem hostReadOf_some {s : State} {fn tag : Nat} {r : HostRd} (found : hostReadOf s fn tag = some r) : r.fn = fn ∧ r.tag = tag := by
  have named := List.find?_some found
  simpa using named

/-- Of the reads of other tags, none is that of a tag. -/
theorem find?_otherReads (l : List HostRd) (r : HostRd) :
    (l.filter fun y => !(y.fn == r.fn && y.tag == r.tag)).find? (fun y => y.fn == r.fn && y.tag == r.tag) = none :=
  List.find?_eq_none.2 fun y hy => by simpa [imp_iff_not_or] using (List.mem_filter.1 hy).2

/-- A read that is removed is found no more. -/
theorem hostReadOf_setRead_none (s : State) (r : HostRd) : hostReadOf (setRead s r none) r.fn r.tag = none := by
  show List.find? _ (_ ++ []) = none
  rw [List.append_nil]
  exact find?_otherReads s.host.reads r

/-- A read that is replaced is found as what replaces it. -/
theorem hostReadOf_setRead_some (s : State) (r : HostRd) {r' : HostRd} (fn : r'.fn = r.fn) (tag : r'.tag = r.tag) :
    hostReadOf (setRead s r (some r')) r.fn r.tag = some r' := by
  show List.find? _ (_ ++ [r']) = some r'
  rw [List.find?_append, find?_otherReads s.host.reads r]
  simp [fn, tag]

/-- A read that fails ends the step of its attempt, where that has not ended. -/
theorem readFails_cases {s : State} {r : HostRd} {cause : Nat} :
    (r.c < 16 → r.orphan = false → readFails s r cause = stepFail s .hif r.c cause) ∧ (r.orphan = true → readFails s r cause = s) := by
  refine ⟨fun hc own => ?_, fun orphan => if_pos orphan⟩
  rw [readFails, own, if_neg (by decide), if_neg (by omega)]

/-- What lands of a read: memory where its attempt has not ended, the read or its rest, and the part of its command (R639, R649). -/
def Lands (u : State) (r : HostRd) (b : List Byte) (v : State) : Prop :=
  (r.orphan = true → v.mem = u.mem) ∧
  (r.orphan = false → readMem v r.dst b.length = b ∧ ∀ a, a < r.dst ∨ r.dst + b.length ≤ a → readByte v a = readByte u a) ∧
  (b.length = r.len → hostReadOf v r.fn r.tag = none ∧ (r.orphan = false → v.cmds = partDone u r.cmd)) ∧
  (b.length < r.len → hostReadOf v r.fn r.tag = some { r with dst := r.dst + b.length, len := r.len - b.length, delayed := none } ∧
    v.cmds = u.cmds) ∧
  v.ctxs = u.ctxs ∧ v.pub = u.pub

/-- What lands of a read whose memory nothing disturbs. -/
theorem landRead_spec {u : State} (r : HostRd) (calm : u.undisturbed) (bytes : List Byte) :
    Lands u r (bytes.take r.len) (landRead u r bytes) := by
  generalize hb : bytes.take r.len = b
  generalize hw : (if r.orphan then u else writeMem u r.dst b) = w
  have land : landRead u r bytes = if b.length < r.len then
      setRead w r (some { r with dst := r.dst + b.length, len := r.len - b.length, delayed := none })
    else if r.orphan then setRead w r none else cmdPart (setRead w r none) r.cmd := by
    rw [landRead, hb, hw]
  have frame : w = { u with mem := w.mem, upsets := w.upsets } := by
    rw [← hw]
    split
    · rfl
    · exact writeMem_frame calm.2.2 r.dst b
  have mem : (r.orphan = true → w.mem = u.mem) ∧ (r.orphan = false → readMem w r.dst b.length = b ∧
      ∀ a, a < r.dst ∨ r.dst + b.length ≤ a → readByte w a = readByte u a) := by
    rw [← hw]
    refine ⟨fun own => by rw [own]; rfl, fun own => ?_⟩
    rw [own]
    exact ⟨readMem_writeMem_same calm.1 r.dst b, fun a out => readByte_writeMem_outside u out⟩
  have cmds : w.cmds = u.cmds := (congrArg State.cmds frame :)
  have now : w.now = u.now := (congrArg State.now frame :)
  have ctxs : w.ctxs = u.ctxs := (congrArg State.ctxs frame :)
  have pub : w.pub = u.pub := (congrArg State.pub frame :)
  rw [land]
  by_cases short : b.length < r.len
  · rw [if_pos short]
    exact ⟨mem.1, mem.2, fun all => absurd all short.ne, fun _ => ⟨hostReadOf_setRead_some w r rfl rfl, cmds⟩, ctxs, pub⟩
  · rw [if_neg short]
    have parts : (cmdPart (setRead w r none) r.cmd).cmds = partDone u r.cmd := by
      rw [partDone, ← cmds, ← now]
      rfl
    by_cases own : r.orphan = true
    · rw [if_pos own]
      exact ⟨mem.1, mem.2, fun _ => ⟨hostReadOf_setRead_none w r, fun not_ => absurd own (by simp [not_])⟩,
        fun h => absurd h short, ctxs, pub⟩
    · rw [if_neg own]
      exact ⟨mem.1, mem.2, fun _ => ⟨hostReadOf_setRead_none w r, fun _ => parts⟩, fun h => absurd h short, ctxs, pub⟩

end Sys2Proof.Machine
end

section
/-! SUPPORT. Resets from the host side (R641, R642). -/

namespace Sys2Proof.Machine

/-! ### What an attempt gives back -/

/-- What gives staged sides and buffers back changes contexts, slots and buffers. -/
def GivesBack (s s' : State) : Prop := s' = { s with ctxs := s'.ctxs, pub := s'.pub, bufs := s'.bufs }

/-- To do nothing gives nothing back. -/
theorem GivesBack.refl (s : State) : GivesBack s s := rfl

/-- Two that give back. -/
theorem GivesBack.trans {s s' s'' : State} (h : GivesBack s s') (k : GivesBack s' s'') : GivesBack s s'' := by
  unfold GivesBack at *
  rw [h] at k
  exact k

/-- Both branches of a choice. -/
theorem GivesBack.ite {p : Prop} [Decidable p] {s a b : State} (h : GivesBack s a) (k : GivesBack s b) :
    GivesBack s (if p then a else b) := by
  split
  · exact h
  · exact k

/-- The registers and the host interface stay. -/
theorem GivesBack.keeps {s s' : State} (h : GivesBack s s') : s'.regs = s.regs ∧ s'.host = s.host :=
  ⟨(congrArg State.regs h :), (congrArg State.host h :)⟩

/-- A context that changes. -/
theorem givesBack_modCtx (s : State) (c : Nat) (f : Ctx → Ctx) : GivesBack s (modCtx s c f) := rfl

/-- A side that empties. -/
theorem givesBack_unstage (s : State) (n uid j : Nat) : GivesBack s (unstage s n uid j) := by
  unfold unstage
  dsimp only
  split
  · split <;> rfl
  · rfl

/-- Buffers that return. -/
theorem givesBack_freeHeldBy (s : State) (uid : Nat) : GivesBack s (freeHeldBy s uid) := by
  unfold freeHeldBy
  refine GivesBack.ite (GivesBack.refl s) (foldl_keeps GivesBack.refl GivesBack.trans (fun s kb => ?_) _ s)
  refine GivesBack.ite ?_ (GivesBack.refl s)
  unfold freeBuf
  dsimp only
  split <;> rfl

/-- What an attempt gives back. -/
theorem givesBack_releaseAttempt (s : State) (c : Nat) : GivesBack s (releaseAttempt s c) := by
  unfold releaseAttempt
  dsimp only
  refine GivesBack.trans (GivesBack.trans ?_ (givesBack_modCtx _ c _)) (givesBack_freeHeldBy _ _)
  exact GivesBack.ite (GivesBack.refl s) (foldl_keeps GivesBack.refl GivesBack.trans (fun s j => givesBack_unstage ..) _ s)

/-- Dropped work leaves the registers. -/
theorem regs_dropWork (s : State) (uid : Nat) : (dropWork s uid).regs = s.regs := by
  unfold dropWork
  split <;> rfl

/-! ### Function level resets (R641) -/

/-- An attempt that ends leaves its context idle and every other one, and of the registers it meets HLT_INJECT only. -/
theorem endAttempt_spec (s : State) (c : Nat) :
    (ctxOf (endAttempt s c) c).st = .idle ∧ (∀ k, k ≠ c → ctxOf (endAttempt s c) k = ctxOf s k) ∧
    ChangesRegs [.hltInject] s (endAttempt s c) := by
  have dropped := endsIn_dropWork c s (ctxOf s c).uid
  have landed := dropped.trans (endsIn_landStores (dropWork s (ctxOf s c).uid) c)
  have freed := landed.toActsIn.trans (actsIn_freeHeldBy c (landStores (dropWork s (ctxOf s c).uid) c) (ctxOf s c).uid)
  refine ⟨?_, fun k hk => ?_, ?_⟩
  · rw [endAttempt, ctxOf_setCtx_same]
    rfl
  · rw [endAttempt, ctxOf_setCtx_ne _ c _ hk]
    exact freed.others k hk
  · have changes := changesRegs_landStores (dropWork s (ctxOf s c).uid) c
    have first : ChangesRegs [] s (dropWork s (ctxOf s c).uid) := ChangesRegs.of_eq (regs_dropWork ..)
    have last : ChangesRegs [] (landStores (dropWork s (ctxOf s c).uid) c) (endAttempt s c) :=
      ChangesRegs.of_eq (givesBack_freeHeldBy ..).keeps.1
    exact (first.trans changes).trans last

/-- A reset of its function ends the uncommitted step of a context in failure and stops a committed one; no other context changes. -/
theorem vfKill_spec (s : State) (c : Nat) :
    (MayFail s c → Failed (vfKill s c) c 0x65) ∧ ((ctxOf s c).committed = true → (ctxOf (vfKill s c) c).st = .idle) ∧
    (∀ k, k ≠ c → ctxOf (vfKill s c) k = ctxOf s k) ∧ (s.regsOk → (vfKill s c).regsOk) := by
  unfold vfKill
  by_cases committed : (ctxOf s c).committed = true
  · rw [if_pos committed]
    obtain ⟨idle, others, regs⟩ := endAttempt_spec s c
    exact ⟨fun may => absurd committed (by simp [may.1]), fun _ => idle, others, regs.regsOk⟩
  · rw [if_neg committed]
    exact ⟨fun may => failed_stepFail may .hif 0x65 0, fun h => absurd h committed,
      fun k hk => ctxOf_stepFail_ne hk s .hif 0x65 0, (fails_stepFail s .hif c 0x65 0).regsOk⟩

/-- Both contexts of a function at its reset. -/
theorem vfKills_spec (s : State) (fn : Nat) :
    let v := vfKill (vfKill s (2 * fn)) (2 * fn + 1)
    (∀ c, c / 2 = fn → MayFail s c → Failed v c 0x65) ∧ (∀ c, c / 2 = fn → (ctxOf s c).committed = true → (ctxOf v c).st = .idle) ∧
    (∀ c, c / 2 ≠ fn → ctxOf v c = ctxOf s c) ∧ (s.regsOk → v.regsOk) := by
  obtain ⟨fails, stops, others, regs⟩ := vfKill_spec s (2 * fn)
  obtain ⟨fails', stops', others', regs'⟩ := vfKill_spec (vfKill s (2 * fn)) (2 * fn + 1)
  have primary := others' (2 * fn) (by omega)
  have urgent := others (2 * fn + 1) (by omega)
  have either (c : Nat) (h : c / 2 = fn) : c = 2 * fn ∨ c = 2 * fn + 1 := by omega
  refine ⟨fun c h may => ?_, fun c h committed => ?_, fun c h => ?_, regs' ∘ regs⟩
  · rcases either c h with rfl | rfl
    · exact (by unfold Failed; rw [primary]; exact fails may)
    · exact fails' (by unfold MayFail; rw [urgent]; exact may)
  · rcases either c h with rfl | rfl
    · rw [primary]
      exact stops committed
    · exact stops' (by rw [urgent]; exact committed)
  · rw [others' c (by omega), others c (by omega)]

/-- What a function level reset leaves (R641). -/
theorem flr_spec {u : State} {fn : Nat} (hfn : fn < 8) (ok : u.regsOk) :
    let v := flr fn u
    fnOf v fn = Fn.clear ∧ (stallOf v fn).queue = [] ∧ (stallOf v fn).urgentReq = none ∧ (stallOf v fn).drains = [] ∧
    rget v .hifEvtCfg fn = 0 ∧ rget v .hifEvtBase fn = 0 ∧ rget v .hifCensusBase fn = 0 ∧ (∀ q ∈ v.host.queue, q.fn ≠ fn) ∧
    (∀ c, c / 2 = fn → MayFail u c → Failed v c 0x65) ∧ (∀ c, c / 2 = fn → (ctxOf u c).committed = true → (ctxOf v c).st = .idle) ∧
    ∀ c, c / 2 ≠ fn → ctxOf v c = ctxOf u c := by
  obtain ⟨fails, stops, others, regs⟩ := vfKills_spec u fn
  have ok' := regs ok
  dsimp only
  unfold flr
  generalize vfKill (vfKill u (2 * fn)) (2 * fn + 1) = w at fails stops others ok' ⊢
  have stall (s s' : State) (h : s'.stalls = s.stalls) : stallOf s' fn = stallOf s fn := by
    unfold stallOf
    rw [h]
  have stalls : stallOf (modStall w fn fun st => { st with queue := [], urgentReq := none, drains := [] }) fn =
      { stallOf w fn with queue := [], urgentReq := none, drains := [] } := stallOf_modStall_same ..
  have ok₁ (s : State) (h : s.regs = w.regs) : s.regsOk := by
    unfold State.regsOk
    rwa [h]
  have apart {r r' : Reg} (ne : r ≠ r') (h : r.inRange 0 fn) (h' : r'.inRange 0 fn) (s : State) (v : Word) :
      rget (rput s r' v fn) r fn = rget s r fn := rgetX_rputX_ne s (Reg.addr_ne ne h h') v
  have cfg : Reg.hifEvtCfg.inRange 0 fn := ⟨by decide, Nat.lt_succ_of_lt hfn⟩
  have base : Reg.hifEvtBase.inRange 0 fn := ⟨by decide, Nat.lt_succ_of_lt hfn⟩
  have census : Reg.hifCensusBase.inRange 0 fn := ⟨by decide, hfn⟩
  dsimp only
  generalize hd : dropHostWrites (modStall w fn fun st => { st with queue := [], urgentReq := none, drains := [] }) fn = d
  have queue : ∀ q ∈ d.host.queue, q.fn ≠ fn := by
    rw [← hd]
    intro q hq
    simpa using (List.mem_filter.1 hq).2
  have okd : d.regsOk := ok₁ d (by rw [← hd]; rfl)
  have stalld : stallOf d fn = { stallOf w fn with queue := [], urgentReq := none, drains := [] } := by
    rw [← hd, ← stalls]
    rfl
  have ctxs (c : Nat) : ctxOf d c = ctxOf w c := by
    rw [← hd]
    rfl
  refine ⟨fnOf_modFn_same .., ?_, ?_, ?_, ?_, ?_, ?_, queue, fun c h may => ?_, fun c h committed => ?_, fun c h => ?_⟩
  · exact congrArg Stall.queue stalld
  · exact congrArg Stall.urgentReq stalld
  · exact congrArg Stall.drains stalld
  · show rget (rput (rput (rput d .hifEvtCfg 0 fn) .hifEvtBase 0 fn) .hifCensusBase 0 fn) .hifEvtCfg fn = 0
    rw [apart (by decide) cfg census, apart (by decide) cfg base]
    exact rgetX_rputX_same okd ..
  · show rget (rput (rput (rput d .hifEvtCfg 0 fn) .hifEvtBase 0 fn) .hifCensusBase 0 fn) .hifEvtBase fn = 0
    rw [apart (by decide) base census]
    exact rgetX_rputX_same (regsOk_rputX okd ..) ..
  · show rget (rput (rput (rput d .hifEvtCfg 0 fn) .hifEvtBase 0 fn) .hifCensusBase 0 fn) .hifCensusBase fn = 0
    exact rgetX_rputX_same (regsOk_rputX (regsOk_rputX okd ..) ..) ..
  · show Failed d c 0x65
    unfold Failed
    rw [ctxs]
    exact fails c h may
  · show (ctxOf d c).st = .idle
    rw [ctxs]
    exact stops c h committed
  · show ctxOf d c = ctxOf u c
    rw [ctxs]
    exact others c h

/-! ### Registers that return to their reset values -/

/-- A key kept by a filter of keys is found as before, one taken out is not. -/
theorem Tab.find_filter {α : Type} (p : Nat → Bool) (k : Nat) (m : Tab α) :
    find k (m.filter fun c => p c.1) = if p k then find k m else none := by
  induction m with
  | nil => exact (ite_self _).symm
  | cons c m ih =>
    rw [List.filter_cons]
    by_cases same : c.1 = k
    · subst same
      by_cases kept : p c.1 = true <;> simp [kept, find] at ih ⊢
      exact ih
    · by_cases kept : p c.1 = true <;> simp [kept, find, same, ih]

/-- What clears registers leaves every other one, and each its reset value. -/
theorem rgetX_rclear (s : State) {rs : List Reg} {r : Reg} {d i : Nat} (hin : r.inRange d i) :
    rgetX (rclear s rs) r d i = if r ∈ rs then r.info.reset else rgetX s r d i := by
  have found := Tab.find_filter (fun a => match Reg.decode a with | some (r, _, _) => !rs.contains r | none => true) (r.addr d i) s.regs
  rw [Reg.decode_addr hin] at found
  refine (congrArg (fun o : Option Word => o.getD r.info.reset) found).trans ?_
  by_cases mem : r ∈ rs
  · simp [mem]
  · simp [mem]
    rfl

/-- Registers that are cleared keep their homes. -/
theorem regsOk_rclear {s : State} (ok : s.regsOk) (rs : List Reg) : (rclear s rs).regsOk := ok.sublist List.filter_sublist

/-! ### The host side cleared (R642, R646) -/

/-- No function's ring is enabled, as after a reset of the host side. -/
def RingsOff (s : State) : Prop := ∀ f < 9, rget s .hifEvtCfg f = 0

/-- The host side cleared keeps two counters and every register of other blocks. -/
theorem clearHostSide_spec {s : State} (ok : s.regsOk) :
    let v := clearHostSide s
    RingsOff v ∧ rfield v .hifLink 31 16 = rfield s .hifLink 31 16 ∧ rget v .hifDmaErr = rget s .hifDmaErr ∧ v.host.reads = [] ∧
    v.host.up = s.host.up ∧ v.host.perst = s.host.perst ∧ ChangesRegs Reg.blockHif s v := by
  have cleared : ChangesRegs Reg.blockHif s (rclear s Reg.blockHif) :=
    ⟨fun ok => regsOk_rclear ok _, fun hr hin => (rgetX_rclear s hin).trans (if_neg hr)⟩
  have ok₁ := cleared.regsOk ok
  have kept : WritesRegs [.hifDmaErr] (rclear s Reg.blockHif) (rput (rclear s Reg.blockHif) .hifDmaErr (rget s .hifDmaErr)) :=
    writesRegs_rputX List.mem_cons_self ⟨by decide, by decide⟩ _ _
  have ok₂ := kept.regsOk ok₁
  have counted : WritesRegs [.hifLink] (rput (rclear s Reg.blockHif) .hifDmaErr (rget s .hifDmaErr))
      (rsetField (rput (rclear s Reg.blockHif) .hifDmaErr (rget s .hifDmaErr)) .hifLink 31 16 (rfield s .hifLink 31 16)) :=
    writesRegs_rsetField List.mem_cons_self ⟨by decide, by decide⟩ _ _ _ _
  refine ⟨fun f hf => ?_, ?_, ?_, rfl, rfl, rfl, fun h => counted.regsOk (kept.regsOk (cleared.regsOk h)), fun {r d i} hr hin => ?_⟩
  · have hin : Reg.hifEvtCfg.inRange 0 f := ⟨by decide, hf⟩
    exact (counted.others (by decide) hin).trans ((kept.others (by decide) hin).trans ((rgetX_rclear s hin).trans (if_pos (by decide))))
  · exact (rfield_rsetField_same ok₂ (by decide) _).trans (Nat.mod_eq_of_lt (rfield_lt ..))
  · exact (counted.others (by decide) ⟨by decide, by decide⟩).trans (rgetX_rputX_same ok₁ ..)
  · have notLink : r ∉ [Reg.hifLink] := fun h => hr (List.mem_singleton.1 h ▸ by decide)
    have notErr : r ∉ [Reg.hifDmaErr] := fun h => hr (List.mem_singleton.1 h ▸ by decide)
    exact (counted.others notLink hin).trans ((kept.others notErr hin).trans (cleared.others hr hin))

/-! ### The fold reset of a host reset (R642, R746) -/

/-- What leaves the registers, the link and an empty list of reads. -/
structure LeavesHost (s s' : State) : Prop where
  regs : s'.regs = s.regs
  up : s'.host.up = s.host.up
  perst : s'.host.perst = s.host.perst
  reads : s.host.reads = [] → s'.host.reads = []

/-- What leaves the registers and the host interface. -/
theorem LeavesHost.of_eq {s s' : State} (regs : s'.regs = s.regs) (host : s'.host = s.host) : LeavesHost s s' :=
  ⟨regs, by rw [host], by rw [host], by rw [host]; exact id⟩

/-- One after the other. -/
theorem LeavesHost.trans {s s' s'' : State} (h : LeavesHost s s') (k : LeavesHost s' s'') : LeavesHost s s'' :=
  ⟨k.regs.trans h.regs, k.up.trans h.up, k.perst.trans h.perst, k.reads ∘ h.reads⟩

/-- Rings that are off stay so. -/
theorem LeavesHost.ringsOff {s s' : State} (h : LeavesHost s s') (off : RingsOff s) : RingsOff s' := by
  unfold RingsOff rget rgetX
  rw [h.regs]
  exact off

/-- Dropped work leaves it. -/
theorem leavesHost_dropWork (s : State) (uid : Nat) : LeavesHost s (dropWork s uid) := by
  unfold dropWork
  split
  · exact LeavesHost.of_eq rfl rfl
  · exact ⟨rfl, rfl, rfl, fun none_ => List.map_eq_nil_iff.2 none_⟩

/-- With the rings off no event is posted. -/
theorem RingsOff.postEvent {s : State} (off : RingsOff s) {fn : Nat} (hfn : fn < 9) (rec : List Byte) (vec : Nat) (census : Option Nat) :
    Machine.postEvent s fn rec vec census = s := postEvent_of_disabled (by rw [off fn hfn]; decide) ..

/-- With the rings off a host reset folds a context without an event. -/
theorem foldContext_hostReset_spec {s : State} {c : Nat} (off : RingsOff s) (hc : c < 16) :
    let v := foldContext s .hostReset c
    LeavesHost s v ∧ (ctxOf v c).st = .idle ∧ ∀ d, d ≠ c → ctxOf v d = ctxOf s d := by
  have stall : stallNo c < 9 := (Nat.div_lt_of_lt_mul (by omega : c < 2 * 8)).trans (by decide)
  have rest (w : State) (same : LeavesHost s w) (ctxs : w.ctxs = s.ctxs) (x : Ctx) (idle : x.st = .idle) (uid : Nat) :
      let v := setCtx (releaseAttempt (dropWork w uid) c) c x
      LeavesHost s v ∧ (ctxOf v c).st = .idle ∧ ∀ d, d ≠ c → ctxOf v d = ctxOf s d := by
    have dropped := leavesHost_dropWork w uid
    have released := givesBack_releaseAttempt (dropWork w uid) c
    have acts := (endsIn_dropWork c w uid).toActsIn.trans (actsIn_releaseAttempt (dropWork w uid) c)
    refine ⟨(same.trans dropped).trans (LeavesHost.of_eq released.keeps.1 released.keeps.2), ?_, fun d hd => ?_⟩
    · rw [ctxOf_setCtx_same]
      exact idle
    · rw [ctxOf_setCtx_ne _ c _ hd, acts.others d hd]
      unfold ctxOf
      rw [ctxs]
  unfold foldContext
  dsimp only
  refine rest _ ?_ ?_ _ rfl _
  · split
    · have written : LeavesHost s (writeOutcome (logRaw s (some c) 3 .hif 0x64 0 0) c 2 0x64) := by
        rw [writeOutcome_frame]
        exact LeavesHost.of_eq rfl rfl
      rw [postOutcome, (written.ringsOff off).postEvent stall]
      exact written
    · split
      · rw [postOutcome, off.postEvent stall]
        exact LeavesHost.of_eq rfl rfl
      · exact LeavesHost.of_eq rfl rfl
  · split
    · rw [postOutcome, (posts_postEvent ..).frame, writeOutcome_frame]
      rfl
    · split
      · rw [postOutcome, (posts_postEvent ..).frame]
      · rfl

/-- With the rings off a host reset folds contexts one by one. -/
theorem foldContexts_hostReset_spec (l : List Nat) (s : State) (off : RingsOff s) (below : ∀ c ∈ l, c < 16) :
    let v := l.foldl (fun s c => foldContext s .hostReset c) s
    LeavesHost s v ∧ ∀ d, d ∈ l ∨ (ctxOf s d).st = .idle → (ctxOf v d).st = .idle := by
  induction l generalizing s with
  | nil => exact ⟨LeavesHost.of_eq rfl rfl, fun d h => h.resolve_left List.not_mem_nil⟩
  | cons c l ih =>
    obtain ⟨leaves, idle, others⟩ := foldContext_hostReset_spec off (below c List.mem_cons_self)
    obtain ⟨rest, stays⟩ := ih (foldContext s .hostReset c) (leaves.ringsOff off) fun d hd => below d (List.mem_cons_of_mem c hd)
    refine ⟨leaves.trans rest, fun d h => stays d ?_⟩
    by_cases hd : d = c
    · exact .inr (hd ▸ idle)
    · rw [others d hd]
      exact h.imp_left fun hm => (List.mem_cons.1 hm).resolve_left hd

/-- With the rings off an image that is rejected is shown and not posted. -/
theorem rejectImage_ringsOff {s : State} (off : RingsOff s) (r : Reject) :
    ChangesRegs [.secImgStatus, .pwrRstStatus] s (rejectImage s r) ∧ (rejectImage s r).host = s.host := by
  have shown : WritesRegs [.secImgStatus] s (showImage s r) := writesRegs_rputX List.mem_cons_self ⟨by decide, by decide⟩ _ _
  have noted : WritesRegs [.secImgStatus] s
      (if r.1 = 0 then showImage s r else logRaw (showImage s r) none 6 .sec 5 r.1 (r.2.1 + 256 * r.2.2)) :=
    shown.ite (shown.then (writesRegs_logRaw ..))
  have reported : WritesRegs [.secImgStatus] s (reportImage s r) := by
    rw [reportImage]
    generalize (if r.1 = 0 then showImage s r else logRaw (showImage s r) none 6 .sec 5 r.1 (r.2.1 + 256 * r.2.2)) = x at noted ⊢
    have quiet : RingsOff x := fun f hf => (noted.others (by decide) ⟨by decide, hf⟩).trans (off f hf)
    rw [postPf, quiet.postEvent (by decide)]
    exact noted
  have phased : WritesRegs [.pwrRstStatus] (reportImage s r) (rejectImage s r) := by
    unfold rejectImage backToWaiting
    exact (writesRegs_rsetField List.mem_cons_self ⟨by decide, by decide⟩ _ _ _ _).ite (WritesRegs.refl _ _)
  have both := reported.trans phased
  exact ⟨both.toChangesRegs, (congrArg State.host both.frame :)⟩

/-- With the rings off the images that are discarded are shown and not posted. -/
theorem discardImages_ringsOff {s : State} (off : RingsOff s) (waiting : Bool) :
    ChangesRegs [.secImgStatus, .pwrRstStatus] s (discardImages s waiting) ∧ (discardImages s waiting).host = s.host := by
  unfold discardImages
  dsimp only
  split
  · have rejects := rejectImage_ringsOff (s := { s with img := { s.img with
        checking := none, pending := none, applying := false, changes := 0, applyTide := 0
        waiting := if waiting then none else s.img.waiting } }) off (0x17, 0xFF, 0)
    exact ⟨⟨rejects.1.regsOk, rejects.1.others⟩, rejects.2⟩
  · exact ⟨ChangesRegs.of_eq rfl, rfl⟩

/-- With the rings off a host reset that may fold does: PHASE 6, every context idle, the registers of other blocks and the link kept. -/
theorem triggerFold_hostReset_spec {s : State} (off : RingsOff s) (may : s.mayFold) :
    let v := triggerFold s .hostReset
    v.pwr.fold = some (s.now, .hostReset) ∧ phase v = 6 ∧ (∀ c < 16, (ctxOf v c).st = .idle) ∧
    (s.host.reads = [] → v.host.reads = []) ∧ v.host.up = s.host.up ∧ v.host.perst = s.host.perst ∧
    ChangesRegs [.secImgStatus, .pwrRstStatus] s v := by
  have below : ∀ c ∈ List.range 16, c < 16 := fun c => List.mem_range.1
  obtain ⟨leaves, idle⟩ := foldContexts_hostReset_spec (List.range 16) s off below
  have folds : Folds s ((List.range 16).foldl (fun s c => foldContext s .hostReset c) s) :=
    foldl_keeps Folds.refl Folds.trans (fun s c => folds_foldContext s .hostReset c) _ s
  obtain ⟨fold, inReset, cold, phase1, phase8⟩ := may
  have allowed : ¬(s.pwr.fold.isSome ∨ s.pwr.inReset ∨ s.pwr.coldDue ∨ phase s = 1 ∨ phase s = 8) := by
    simp [fold, inReset, cold, phase1, phase8]
  have begun : triggerFold s .hostReset =
      foldBegun (discardImages ((List.range 16).foldl (fun s c => foldContext s .hostReset c) s) false) .hostReset := by
    unfold triggerFold
    rw [if_neg allowed]
    dsimp only [foldBegun]
  dsimp only at leaves idle ⊢
  rw [begun]
  generalize (List.range 16).foldl (fun s c => foldContext s .hostReset c) s = w at leaves idle folds ⊢
  have now : w.now = s.now := (congrArg State.now folds :)
  obtain ⟨regs, host⟩ := discardImages_ringsOff (leaves.ringsOff off) false
  have report := reports_discardImages w false
  generalize discardImages w false = x at regs host report ⊢
  obtain ⟨timed, six, ctxs, -⟩ := foldBegun_spec x .hostReset
  have shown : ChangesRegs [.pwrRstStatus] x (foldBegun x .hostReset) := by
    have first : WritesRegs [.pwrRstStatus] x (setPhase x 6) := writesRegs_rsetField List.mem_cons_self ⟨by decide, by decide⟩ ..
    have second : WritesRegs [.pwrRstStatus] (setPhase x 6) (rsetField (setPhase x 6) .pwrRstStatus 59 56 FoldCause.hostReset.code) :=
      writesRegs_rsetField List.mem_cons_self ⟨by decide, by decide⟩ ..
    have both := first.then second
    exact ⟨both.regsOk, both.others⟩
  refine ⟨?_, six, fun c hc => ?_, fun none_ => ?_, ?_, ?_, ?_⟩
  · rw [timed, report.now, now]
  · unfold ctxOf
    rw [ctxs, report.ctxs]
    exact idle c (.inl (List.mem_range.2 hc))
  · show x.host.reads = []
    rw [host]
    exact leaves.reads none_
  · show x.host.up = _
    rw [host, leaves.up]
  · show x.host.perst = _
    rw [host, leaves.perst]
  · have first : ChangesRegs [] s w := ChangesRegs.of_eq leaves.regs
    have all := (first.trans regs).trans shown
    exact ⟨all.regsOk, fun hr hin => all.others (by simpa using hr) hin⟩

/-- What a host reset leaves (R642). -/
theorem hostReset_spec {u : State} (kind : HostResetKind) (may : u.mayFold) (ok : u.regsOk) (below : bf (rget u .hifLink) 31 16 < 65535) :
    let v := hostReset kind u
    v.pwr.fold = some (u.now, .hostReset) ∧ phase v = 6 ∧ v.host.reads = [] ∧ (∀ f < 9, rget v .hifEvtCfg f = 0) ∧
    bf (rget v .hifLink) 31 16 = bf (rget u .hifLink) 31 16 + 1 ∧ rget v .hifDmaErr = rget u .hifDmaErr ∧
    (kind = .perst → v.host.up = false ∧ v.host.perst = true) ∧ ∀ c < 16, (ctxOf v c).st = .idle := by
  have counted : WritesRegs [.hifLink] u (rbump u .hifLink 31 16) := writesRegs_rbump List.mem_cons_self ⟨by decide, by decide⟩ ..
  obtain ⟨off, link, err, reads, -, -, others⟩ := clearHostSide_spec (counted.regsOk ok)
  have one : rfield (rbump u .hifLink 31 16) .hifLink 31 16 = rfield u .hifLink 31 16 + 1 := by
    rw [rfield_rbump_same ok (by decide)]
    exact Nat.min_eq_left below
  have cleared : ChangesRegs ([.hifLink] ++ Reg.blockHif) u (clearHostSide (rbump u .hifLink 31 16)) := counted.toChangesRegs.trans others
  have pwr : (clearHostSide (rbump u .hifLink 31 16)).pwr = u.pwr := rfl
  have now : (clearHostSide (rbump u .hifLink 31 16)).now = u.now := rfl
  have err' := err.trans (counted.others (r := .hifDmaErr) (by decide) ⟨by decide, by decide⟩)
  have link' := link.trans one
  dsimp only [hostReset]
  generalize clearHostSide (rbump u .hifLink 31 16) = a at off reads cleared pwr now err' link' ⊢
  generalize hb : (if kind = .perst then { a with host := { a.host with perst := true, up := false } } else a) = b
  have bare : b.regs = a.regs ∧ b.pwr = a.pwr ∧ b.now = a.now ∧ b.host.reads = a.host.reads ∧
      (kind = .perst → b.host.up = false ∧ b.host.perst = true) := by
    rw [← hb]
    split
    · exact ⟨rfl, rfl, rfl, rfl, fun _ => ⟨rfl, rfl⟩⟩
    · next other => exact ⟨rfl, rfl, rfl, rfl, fun h => absurd h other⟩
  have clocks : WritesRegs [.clkLockLost, .clkLockStatus] b (if kind = .lockLoss then
      rmod (rmod b .clkLockLost fun w => setBit w 47 true) .clkLockStatus fun w => setBit w 47 false else b) :=
    ((writesRegs_rputX List.mem_cons_self ⟨by decide, by decide⟩ _ _).then
      (writesRegs_rputX (List.mem_cons_of_mem _ List.mem_cons_self) ⟨by decide, by decide⟩ _ _)).ite (WritesRegs.refl _ _)
  generalize (if kind = .lockLoss then
      rmod (rmod b .clkLockLost fun w => setBit w 47 true) .clkLockStatus fun w => setBit w 47 false else b) = d at clocks ⊢
  generalize hw : ({ d with ctxs := d.ctxs.map fun x => (x.1, { x.2 with held := [] }) } : State) = w
  have frame : w.regs = d.regs ∧ w.host = b.host ∧ w.pwr = u.pwr ∧ w.now = u.now := by
    rw [← hw]
    exact ⟨rfl, (congrArg State.host clocks.frame :), (congrArg State.pwr clocks.frame :).trans (bare.2.1.trans pwr),
      (congrArg State.now clocks.frame :).trans (bare.2.2.1.trans now)⟩
  obtain ⟨regs, host, pwrW, nowW⟩ := frame
  have step : ChangesRegs [.clkLockLost, .clkLockStatus] a w := by
    have first : ChangesRegs [] a b := ChangesRegs.of_eq bare.1
    have last : ChangesRegs [] d w := ChangesRegs.of_eq regs
    exact ⟨last.regsOk ∘ clocks.regsOk ∘ first.regsOk,
      fun hr hin => (last.others (by simp) hin).trans ((clocks.others hr hin).trans (first.others (by simp) hin))⟩
  have all := cleared.trans step
  have phaseW : phase w = phase u := all.rfield (by decide) ⟨by decide, by decide⟩ 63 60
  have offw : RingsOff w := fun f hf => (step.others (by decide) ⟨by decide, hf⟩).trans (off f hf)
  obtain ⟨fold, inReset, cold, phase1, phase8⟩ := may
  obtain ⟨begun, six, idle, none_, up, perst, rest⟩ := triggerFold_hostReset_spec offw
    ⟨pwrW ▸ fold, pwrW ▸ inReset, pwrW ▸ cold, phaseW ▸ phase1, phaseW ▸ phase8⟩
  have finally_ {r : Reg} {i : Nat} (h : r ∉ [Reg.secImgStatus, .pwrRstStatus]) (h' : r ∉ [Reg.clkLockLost, .clkLockStatus])
      (hin : r.inRange 0 i) : rget (triggerFold w .hostReset) r i = rget a r i := (rest.others h hin).trans (step.others h' hin)
  refine ⟨by rw [begun, nowW], six, none_ (by rw [host, bare.2.2.2.1, reads]), fun f hf => ?_, ?_, ?_, fun h => ?_, idle⟩
  · rw [finally_ (by decide) (by decide) ⟨by decide, hf⟩, off f hf]
  · rw [finally_ (by decide) (by decide) ⟨by decide, by decide⟩]
    exact link'
  · rw [finally_ (by decide) (by decide) ⟨by decide, by decide⟩]
    exact err'
  · rw [up, perst, host]
    exact bare.2.2.2.2 h

end Sys2Proof.Machine
end

section
/-! PROOFS. The host side (O53). -/

namespace Sys2Proof.Machine

/-- A posting to a ring (R623, R624). -/
theorem eventPosted (u : State) (fn vec : Nat) (rec : List Byte) :
    let cfg := rget u .hifEvtCfg fn
    let tail := bf (rget u .hifEvtPtr fn) 16 0
    let head := bf (rget u .hifEvtPtr fn) 48 32
    let size := 2 ^ bf cfg 12 8
    let v := postEvent u fn rec vec
    (bitAt cfg 0 = false → v = u) ∧
    (bitAt cfg 0 = true → (tail + 2 ^ 17 - head) % 2 ^ 17 = size →
      v = modFn (rbump u .hifFnStat 47 32 fn) fn fun f => { f with dropped := f.dropped + 1 }) ∧
    (bitAt cfg 0 = true → (tail + 2 ^ 17 - head) % 2 ^ 17 ≠ size → (fnOf u fn).dropped = 0 → u.host.up = false → u.regsOk → fn < 9 →
      bf (rget v .hifEvtPtr fn) 16 0 = (tail + 1) % 2 ^ 17 ∧ bf (rget v .hifEvtPtr fn) 48 32 = head ∧
      (∃ q ∈ v.host.queue, q.fn = fn ∧ q.addr = (rget u .hifEvtBase fn).toNat / 64 * 64 + 32 * (tail % size) ∧ q.vec = some vec ∧
        q.bytes = rec.set 1 (rec.getD 1 0#8 ||| if tail / size % 2 = 0 then 0x80#8 else 0#8)) ∧
      v.mem = u.mem ∧ v.ctxs = u.ctxs ∧ v.log = u.log) := by
  refine ⟨fun off => postEvent_of_disabled off rec vec none, fun on full => postEvent_of_full on (beq_iff_eq.2 full) rec vec none,
    fun on room kept down ok _ => ?_⟩
  obtain ⟨tail, head, written, mem, ctxs, log, up⟩ := ringWrite_spec (fn := fn) ok rec vec
  rw [postEvent_of_room on (beq_eq_false_iff_ne.2 room) kept, hostFlush_of_stuck (.inl (up.trans down))]
  exact ⟨tail, head, written, mem, ctxs, log⟩

/-! ### The moments at which waiting writes may leave (R623, R626, R629, R643), and the release of PERST_N (R739) -/

/-- The doorbell HEAD acts where it is in reach. -/
theorem exec_evtHeadDb {s : State} {fn t : Nat} (hfn : fn < 9) (open_ : reachable (s.at t) .pf = true) (v : Word) :
    exec (.evtHeadDb fn v t) s = .next (eventHead (s.at t) fn v) := by
  have enabled : (reachable (s.at t) .pf && decide (fn < 9)) = true := by rw [open_, decide_eq_true hfn]; rfl
  exact (whenEnabled_of_true enabled : execEvtHeadDb fn v t s = _)

/-- A holdoff ends where its vector has an unsignalled event. -/
theorem exec_msixHoldoff {s : State} {fn vec t : Nat} (waits : (fnOf (s.at t) fn).unsignalled.contains vec = true)
    (clear : (fnOf (s.at t) fn).masked.contains vec = false)
    (due : ∀ at_, Tab.find vec (fnOf (s.at t) fn).sentAt = some at_ → at_ + us (rfield (s.at t) .hifEvtCfg 23 16 fn) ≤ (s.at t).now) :
    exec (.msixHoldoff fn vec t) s = .next (hostFlush (signalVec (s.at t) fn vec)) := by
  have passed : ((Tab.find vec (fnOf (s.at t) fn).sentAt).map (· + us (rfield (s.at t) .hifEvtCfg 23 16 fn))).getD 0 ≤ (s.at t).now := by
    cases found : Tab.find vec (fnOf (s.at t) fn).sentAt with
    | none => exact Nat.zero_le _
    | some at_ =>
      rw [Option.map_some, Option.getD_some]
      exact due at_ found
  have enabled : ((fnOf (s.at t) fn).unsignalled.contains vec && !(fnOf (s.at t) fn).masked.contains vec &&
      decide (((Tab.find vec (fnOf (s.at t) fn).sentAt).map (· + us (rfield (s.at t) .hifEvtCfg 23 16 fn))).getD 0 ≤ (s.at t).now)) = true := by
    rw [waits, clear, decide_eq_true passed]
    rfl
  exact (whenEnabled_of_true enabled : execMsixHoldoff fn vec t s = _)

/-- Bus mastering is set while the link is up. -/
theorem exec_busMasterEnable {s : State} {fn t : Nat} (up : (s.at t).host.up = true) (hfn : fn < 9) (on : Bool) :
    exec (.busMasterEnable fn on t) s = .next (hostFlush (modFn (s.at t) fn fun f => { f with bme := on })) := by
  have enabled : ((s.at t).host.up && decide (fn < 9)) = true := by rw [up, decide_eq_true hfn]; rfl
  exact (whenEnabled_of_true enabled : execBusMasterEnable fn on t s = _)

/-- PERST_N rises where it was low. -/
theorem exec_perstNRelease {s : State} {speed width t : Nat} {flit : Bool} (running : (s.at t).pwr.inReset = false)
    (perst : (s.at t).host.perst = true) :
    exec (.perstNRelease speed width flit t) s = .next { s.at t with host := { (s.at t).host with
      perst := false, up := phase (s.at t) != 1, trained := speed % 16 + width % 64 * 16 + flit.toNat * 2 ^ 10, credits := 0 } } := by
  have enabled : (!(s.at t).pwr.inReset && (s.at t).host.perst) = true := by rw [running, perst]; rfl
  exact (whenEnabled_of_true enabled : execPerstNRelease speed width flit t s = _)

/-- Memory, the contexts, the log and the publication table stay. -/
def SameWork (u v : State) : Prop := v.mem = u.mem ∧ v.ctxs = u.ctxs ∧ v.log = u.log ∧ v.pub = u.pub

/-- What sends leaves them. -/
theorem Sends.sameWork {s s' : State} (h : Sends s s') : SameWork s s' := by
  obtain ⟨-, -, -, log, mem, ctxs, pub⟩ := h.keeps
  exact ⟨mem, ctxs, log, pub⟩

/-- The doorbell HEAD. -/
theorem headRung {s : State} {fn t : Nat} (hfn : fn < 9) (open_ : reachable (s.at t) .pf = true) (v : Word) :
    ((fnOf (s.at t) fn).bme = false → exec (.evtHeadDb fn v t) s = .next (rbump (s.at t) .hifFnStat 63 48 fn)) ∧
    ((fnOf (s.at t) fn).bme = true → (fnOf (s.at t) fn).dropped = 0 → Answers (.evtHeadDb fn v t) s fun s' =>
      s'.regs = (rsetField (s.at t) .hifEvtPtr 48 32 (bf v 16 0) fn).regs ∧ SameWork (s.at t) s') := by
  rw [Answers, exec_evtHeadDb hfn open_]
  generalize s.at t = u
  obtain ⟨dropped, sends⟩ := eventHead_spec (u := u) (fn := fn) v
  exact ⟨fun off => by rw [dropped off], fun bus none_ => ⟨_, rfl, (sends bus none_).keeps.2.2.1, (sends bus none_).sameWork⟩⟩

/-- The end of a holdoff. -/
theorem holdoffSignals {s : State} {fn vec t : Nat} (waits : (fnOf (s.at t) fn).unsignalled.contains vec = true)
    (clear : (fnOf (s.at t) fn).masked.contains vec = false) (empty : (s.at t).host.queue = []) (up : (s.at t).host.up = true)
    (credit : (s.at t).host.credits ≠ 0) (bus : (fnOf (s.at t) fn).bme = true)
    (due : Tab.find vec (fnOf (s.at t) fn).sentAt = none ∨ ∃ at_, Tab.find vec (fnOf (s.at t) fn).sentAt = some at_ ∧
      at_ + bf (rget (s.at t) .hifEvtCfg fn) 23 16 * 1000000 ≤ (s.at t).now) :
    Answers (.msixHoldoff fn vec t) s fun s' =>
      s'.out = Out.msix fn vec :: (s.at t).out ∧ (fnOf s' fn).unsignalled.contains vec = false ∧
      Tab.find vec (fnOf s' fn).sentAt = some (s.at t).now ∧ s'.regs = (s.at t).regs ∧ SameWork (s.at t) s' := by
  have due' : ∀ at_, Tab.find vec (fnOf (s.at t) fn).sentAt = some at_ →
      at_ + bf (rget (s.at t) .hifEvtCfg fn) 23 16 * 1000000 ≤ (s.at t).now := by
    intro at_ found
    rcases due with none_ | ⟨at', found', late⟩
    · exact absurd (none_.symm.trans found) (by simp)
    · rwa [Option.some.inj (found.symm.trans found')]
  rw [Answers, exec_msixHoldoff waits clear due']
  generalize s.at t = u at clear empty up credit bus due' ⊢
  obtain ⟨out, signalled, sent⟩ := holdoffEnds clear empty up credit bus due'
  have sends := (sends_signalVec u fn vec).trans (sends_hostFlush _)
  exact ⟨_, rfl, out, signalled, sent, sends.keeps.2.2.1, sends.sameWork⟩

/-- Bus mastering. -/
theorem busMastered {s : State} {fn t : Nat} (up : (s.at t).host.up = true) (hfn : fn < 9) (on : Bool) :
    Answers (.busMasterEnable fn on t) s fun s' =>
      (fnOf s' fn).bme = on ∧ (∀ k, k ≠ fn → (fnOf s' k).bme = (fnOf (s.at t) k).bme) ∧
        s'.regs = (s.at t).regs ∧ SameWork (s.at t) s' := by
  rw [Answers, exec_busMasterEnable up hfn]
  generalize s.at t = u
  have sends := sends_hostFlush (modFn u fn fun f => { f with bme := on })
  refine ⟨_, rfl, ?_, fun k hk => ?_, sends.keeps.2.2.1, sends.sameWork⟩
  · rw [sends.bme, fnOf_modFn_same]
  · rw [sends.bme, fnOf_modFn_ne u fn _ hk]

/-- Credits. -/
theorem creditsGiven {s : State} {t : Nat} (up : (s.at t).host.up = true) (n : Nat) :
    Answers (.postedCreditReturn n t) s fun s' =>
      s'.host.credits + s'.out.length = (s.at t).host.credits + n + (s.at t).out.length ∧ (s'.host.credits = 0 ∨ hostPick s' = none) ∧
      s'.regs = (s.at t).regs ∧ SameWork (s.at t) s' := by
  have given : exec (.postedCreditReturn n t) s =
      .next (hostFlush { s.at t with host := { (s.at t).host with credits := (s.at t).host.credits + n } }) :=
    (whenEnabled_of_true up : execPostedCreditReturn n t s = _)
  rw [Answers, given]
  generalize s.at t = u at up ⊢
  have sends := sends_hostFlush { u with host := { u.host with credits := u.host.credits + n } }
  exact ⟨_, rfl, sends.spent, stuck_hostFlush up, sends.keeps.2.2.1, sends.sameWork⟩

/-- The release of PERST_N. -/
theorem perstReleased {s : State} {speed width t : Nat} {flit : Bool} (running : (s.at t).pwr.inReset = false)
    (perst : (s.at t).host.perst = true) (phase1 : phase (s.at t) ≠ 1) :
    Answers (.perstNRelease speed width flit t) s fun s' =>
      s'.host.perst = false ∧ s'.host.up = true ∧ s'.host.credits = 0 ∧ s'.regs = (s.at t).regs ∧ s'.out = (s.at t).out ∧
      SameWork (s.at t) s' := by
  rw [Answers, exec_perstNRelease running perst]
  generalize s.at t = u at phase1 ⊢
  exact ⟨_, rfl, rfl, bne_iff_ne.2 phase1, rfl, rfl, rfl, rfl, rfl, rfl, rfl⟩

/-- NOTIFY (R640). -/
theorem notifyHolds (s : State) (c t : Nat) (m : Cmd) (b : List Byte) :
    let u := s.at t
    let x := ctxOf u c
    let plain := allZero (slice b 1 7) = true ∧ allZero (slice b 16 48) = true
    c < 17 → x.cen = none → Offered u c 11 0 2 64 m b →
    (¬plain → exec (.notifyC c t) s = .next (violation u .hif m.addr)) ∧
    (plain → c = 16 → exec (.notifyC c t) s = .next (postEvent (finishCmd u m.id u.now) 8
      (eventBytes u 0x06 0 0 0 0 0 0 0 false 0 (word (fieldAt b 8 8)).toNat) 2)) ∧
    (plain → c < 16 → (fnOf u (c / 2)).bme = false → exec (.notifyC c t) s = .next (stepFail u .hif c 0x63)) ∧
    (plain → c < 16 → (fnOf u (c / 2)).bme = true →
      (m.null = true → exec (.notifyC c t) s = .next (finishCmd u m.id u.now)) ∧
      (m.null = false → Answers (.notifyC c t) s fun s' =>
        (∃ h, (ctxOf s' c).held = x.held ++ [h] ∧ h.note = some (word (fieldAt b 8 8)) ∧ h.cmd = m.id ∧ h.fn = c / 2) ∧
        s'.cmds = u.cmds.map (fun y => if y.id = m.id then { y with st := .held, unfixed := true } else y) ∧
        s'.host = u.host ∧ s'.out = u.out ∧ s'.mem = u.mem ∧ ∀ k, k ≠ c → ctxOf s' k = ctxOf u k)) := by
  intro u x plain hc none_ offered
  have taken := exec_notifyC hc none_ offered
  refine ⟨fun bad => by rw [taken, notifyTake_of_bad bad], fun plain h => ?_, fun plain hc bus => by rw [taken, notifyTake_of_noBus plain hc bus],
    fun plain hc bus => ⟨fun null => by rw [taken, notifyTake_of_null plain hc bus null],
      fun null => ⟨_, taken, notifyTake_of_held plain hc bus null⟩⟩⟩
  subst h
  rw [taken, notifyTake_of_steward plain]

/-! ### The completions of host reads (R639, R648, R649) -/

/-- The command ends in the failure of its read's step, or quietly where the attempt has ended. -/
def ReadFails (i : Instr) (s : State) (r : HostRd) (w : State) (new : Option HostRd) (cause : Nat) : Prop :=
  (r.c < 16 → r.orphan = false → exec i s = .next (stepFail (setRead w r new) .hif r.c cause)) ∧
  (r.orphan = true → exec i s = .next (setRead w r new))

/-- A command that fails a read. -/
theorem readFails_of_exec {i : Instr} {s w : State} {r : HostRd} {new : Option HostRd} {cause : Nat}
    (h : exec i s = .next (readFails (setRead w r new) r cause)) : ReadFails i s r w new cause := by
  obtain ⟨ends, quiet⟩ := readFails_cases (s := setRead w r new) (r := r) (cause := cause)
  exact ⟨fun hc own => by rw [h, ends hc own], fun orphan => by rw [h, quiet orphan]⟩

/-- A completion arrives while the link is up. -/
theorem exec_readCompletion {s : State} {t : Nat} (up : (s.at t).host.up = true) (fn tag : Nat) (res : CplStatus) (bytes : List Byte) :
    exec (.readCompletion fn tag res bytes t) s = .next (readArrives (s.at t) fn tag res bytes) :=
  (whenEnabled_of_true up : execReadCompletion fn tag res bytes t s = _)

/-- A completion that no read expects (R648). -/
theorem lateAnswers {s : State} {fn tag t : Nat} (up : (s.at t).host.up = true) (none_ : hostReadOf (s.at t) fn tag = none)
    (res : CplStatus) (bytes : List Byte) :
    Answers (.readCompletion fn tag res bytes t) s fun s' =>
      s'.out = Out.aer fn tag :: (s.at t).out ∧ s'.mem = (s.at t).mem ∧ s'.ctxs = (s.at t).ctxs ∧ s'.cmds = (s.at t).cmds := by
  rw [Answers, exec_readCompletion up]
  generalize s.at t = u at none_ ⊢
  have late : readArrives u fn tag res bytes = lateCompletion u fn tag := by rw [readArrives, none_]
  exact ⟨_, rfl, by rw [late]; exact ⟨rfl, rfl, rfl, rfl⟩⟩

/-- The completion that a read waits for. -/
theorem readArrives_of_awaited {u : State} {fn tag : Nat} {r : HostRd} (found : hostReadOf u fn tag = some r) (waits : r.timedOut = none)
    (fresh : r.delayed = none) (bytes : List Byte) :
    readArrives u fn tag .abort bytes = readFails (setRead (dmaLast (rbump u .hifDmaErr 31 16) fn tag 2) r none) r 0x61 ∧
    readArrives u fn tag .poison bytes = readFails (setRead (dmaLast (rbump u .hifDmaErr 15 0) fn tag 3) r none) r 0x62 ∧
    ((r.c < 16 → squallOn u 6 (r.c / 2) = false) → readArrives u fn tag .ok bytes = landRead u r bytes) := by
  have awaited : (r.timedOut.isSome || r.delayed.isSome) = false := by
    rw [waits, fresh]
    rfl
  refine ⟨?_, ?_, fun calm => ?_⟩
  · rw [readArrives, found]
    dsimp only
    rw [awaited, if_neg Bool.false_ne_true]
  · rw [readArrives, found]
    dsimp only
    rw [awaited, if_neg Bool.false_ne_true]
  · have still : (decide (r.c < 16) && squallOn u 6 (stallNo r.c)) = false := by
      by_cases hc : r.c < 16
      · rw [stallNo, calm hc, Bool.and_false]
      · rw [decide_eq_false hc, Bool.false_and]
    rw [readArrives, found]
    dsimp only
    rw [awaited, if_neg Bool.false_ne_true, still, if_neg Bool.false_ne_true]

/-- A completion timeout of a read that waits (R639, R649). -/
theorem exec_completionTimeout {s : State} {fn tag t : Nat} {r : HostRd} (found : hostReadOf (s.at t) fn tag = some r)
    (waits : r.timedOut = none) (fresh : r.delayed = none) :
    exec (.completionTimeout fn tag t) s = .next (readFails (setRead (dmaLast (rbump (s.at t) .hifDmaErr 47 32) fn tag 1) r
      (some { r with timedOut := some (s.at t).now, orphan := true })) r 0x60) := by
  have enabled : (match hostReadOf (s.at t) fn tag with | some r => r.timedOut.isNone && r.delayed.isNone | none => false) = true := by
    rw [found]
    dsimp only
    rw [waits, fresh]
    rfl
  refine ((whenEnabled_of_true enabled : execCompletionTimeout fn tag t s = _)).trans (congrArg Host.Outcome.next ?_)
  rw [found]
  rfl

/-- The landing of a read that was delayed (R789). -/
theorem exec_hostDelayedLanding {s : State} {fn tag t d : Nat} {r : HostRd} {bytes : List Byte} (found : hostReadOf (s.at t) fn tag = some r)
    (delayed : r.delayed = some (d, bytes)) (late : d ≤ (s.at t).now) :
    exec (.hostDelayedLanding fn tag t) s = .next (landRead (s.at t) r bytes) := by
  have enabled : (match hostReadOf (s.at t) fn tag with | some r => due (r.delayed.map (·.1)) (s.at t).now | none => false) = true := by
    rw [found]
    dsimp only
    rw [delayed]
    exact decide_eq_true late
  refine ((whenEnabled_of_true enabled : execHostDelayedLanding fn tag t s = _)).trans (congrArg Host.Outcome.next ?_)
  rw [found]
  dsimp only
  rw [delayed]

/-- Settles O53: each clause follows the operation that serves its command; the writes that leave do so one by one, and a host reset folds
with every ring off. -/
theorem hostSideFollowsItsRules : Obligations.HostSideFollowsItsRules := by
  refine ⟨eventPosted, notifyHolds, fun s fn vec n speed width t on flit v => ?moments, fun s fn tag t bytes r => ?reads,
    fun s fn t kind => ?resets⟩
  case moments =>
    exact ⟨fun hfn open_ => headRung hfn open_ v, holdoffSignals, fun up hfn => busMastered up hfn on, fun up => creditsGiven up n,
      perstReleased⟩
  case reads =>
    refine ⟨fun up none_ res => lateAnswers up none_ res bytes, fun found waits => ?_⟩
    obtain ⟨rfl, rfl⟩ := hostReadOf_some found
    refine ⟨fun up fresh => ?_, fun fresh => readFails_of_exec (exec_completionTimeout found waits fresh),
      fun d delayed late calm => ⟨_, exec_hostDelayedLanding found delayed late, landRead_spec r calm bytes⟩⟩
    obtain ⟨abort, poison, lands⟩ := readArrives_of_awaited found waits fresh bytes
    exact ⟨readFails_of_exec ((exec_readCompletion up ..).trans (congrArg _ abort)),
      readFails_of_exec ((exec_readCompletion up ..).trans (congrArg _ poison)),
      fun still calm => ⟨_, (exec_readCompletion up ..).trans (congrArg _ (lands still)), landRead_spec r calm bytes⟩⟩
  case resets =>
    refine ⟨fun up hfn ok => ?_, fun running perst fold cold phase1 phase8 ok below => ?_⟩
    · have enabled : ((s.at t).host.up && decide (fn < 8)) = true := by rw [up, decide_eq_true hfn]; rfl
      have done : exec (.functionLevelReset fn t) s = .next (flr fn (s.at t)) :=
        (whenEnabled_of_true enabled : execFunctionLevelReset fn t s = _)
      obtain ⟨fn_, queue, urgent, drains, cfg, base, census, writes, fails, stops, others⟩ := flr_spec hfn ok
      exact ⟨_, done, fn_, queue, urgent, drains, cfg, base, census, writes,
        fun c h busy uncommitted none_ => fails c h ⟨uncommitted, busy, none_⟩, stops, others⟩
    · have enabled : (!(s.at t).pwr.inReset && !(s.at t).host.perst) = true := by rw [running, perst]; rfl
      have done : exec (.hostReset kind t) s = .next (hostReset kind (s.at t)) :=
        (whenEnabled_of_true enabled : execHostReset kind t s = _)
      exact ⟨_, done, hostReset_spec kind ⟨fold, running, cold, phase1, phase8⟩ ok below⟩

end Sys2Proof.Machine
end

section
/-! SUPPORT. What Breakwater's operations on the light leave (R654, R664 to R666). -/

namespace Sys2Proof.Machine

/-! ### What an operation on one port changes -/

/-- What acts on port p changes that port, Breakwater's part of it and the outputs. -/
structure ActsOnPort (p : Nat) (s s' : State) : Prop where
  frame : s' = { s with ports := s'.ports, bw := { s.bw with ports := s'.bw.ports }, out := s'.out }
  others : ∀ o, o ≠ p → portOf s' o = portOf s o ∧ bwPortOf s' o = bwPortOf s o

section
variable {p : Nat} {s s' s'' : State}

/-- To do nothing acts on any port. -/
theorem ActsOnPort.refl (p : Nat) (s : State) : ActsOnPort p s s := ⟨rfl, fun _ _ => ⟨rfl, rfl⟩⟩

/-- One act after the other. -/
theorem ActsOnPort.trans (h : ActsOnPort p s s') (k : ActsOnPort p s' s'') : ActsOnPort p s s'' := by
  refine ⟨?_, fun o ne => ⟨(k.others o ne).1.trans (h.others o ne).1, (k.others o ne).2.trans (h.others o ne).2⟩⟩
  have frame := k.frame
  rw [h.frame] at frame
  exact frame

/-- Both branches of a choice. -/
theorem ActsOnPort.ite {c : Prop} [Decidable c] (h : ActsOnPort p s s') (k : ActsOnPort p s s'') :
    ActsOnPort p s (if c then s' else s'') := by
  split
  · exact h
  · exact k

/-- Memory, the contexts, the registers and the time stay. -/
theorem ActsOnPort.keeps (h : ActsOnPort p s s') : s'.mem = s.mem ∧ s'.ctxs = s.ctxs ∧ s'.regs = s.regs ∧ s'.now = s.now := by
  rw [h.frame]
  exact ⟨rfl, rfl, rfl, rfl⟩

/-- A register reads as before. -/
theorem ActsOnPort.reg (h : ActsOnPort p s s') (r : Reg) (d i : Nat) : rgetX s' r d i = rgetX s r d i := by
  unfold rgetX
  rw [h.keeps.2.2.1]

end

/-- A port that changes. -/
theorem actsOnPort_modPort (s : State) (p : Nat) (f : Port → Port) : ActsOnPort p s (modPort s p f) :=
  ⟨rfl, fun _ ne => ⟨portOf_modPort_ne s p f ne, rfl⟩⟩

/-- Breakwater's part of a port that changes. -/
theorem actsOnPort_modBwPort (s : State) (p : Nat) (f : BwPort → BwPort) : ActsOnPort p s (modBwPort s p f) :=
  ⟨rfl, fun _ ne => ⟨rfl, bwPortOf_modBwPort_ne s p f ne⟩⟩

/-- The link's side of a port that Breakwater changes. -/
@[simp] theorem portOf_modBwPort (s : State) (p o : Nat) (f : BwPort → BwPort) : portOf (modBwPort s p f) o = portOf s o := rfl

/-- Breakwater's side of a port that the link changes. -/
@[simp] theorem bwPortOf_modPort (s : State) (p o : Nat) (f : Port → Port) : bwPortOf (modPort s p f) o = bwPortOf s o := rfl

/-- A level that changes may drive the laser's pin and nothing else. -/
theorem setLevel_eq (s : State) (p level : Nat) :
    setLevel s p level = { modBwPort s p (fun b => { b with level := level }) with out := (setLevel s p level).out } := by
  unfold setLevel
  dsimp only
  split <;> rfl

/-- A level is its port's. -/
theorem actsOnPort_setLevel (s : State) (p level : Nat) : ActsOnPort p s (setLevel s p level) := by
  have changed := actsOnPort_modBwPort s p fun b => { b with level := level }
  rw [setLevel_eq]
  exact ⟨rfl, changed.others⟩

/-- The link does not see the level. -/
@[simp] theorem portOf_setLevel (s : State) (p level o : Nat) : portOf (setLevel s p level) o = portOf s o := by
  rw [setLevel_eq]
  rfl

/-- No port of the link changes with it. -/
@[simp] theorem setLevel_ports (s : State) (p level : Nat) : (setLevel s p level).ports = s.ports := by
  rw [setLevel_eq]
  rfl

/-- The level that is set. -/
@[simp] theorem bwPortOf_setLevel (s : State) (p level : Nat) :
    bwPortOf (setLevel s p level) p = { bwPortOf s p with level := level } := by
  rw [setLevel_eq]
  exact bwPortOf_modBwPort_same s p fun b => { b with level := level }

/-- The time stays. -/
@[simp] theorem setLevel_now (s : State) (p level : Nat) : (setLevel s p level).now = s.now := (actsOnPort_setLevel s p level).keeps.2.2.2

/-! ### The end of a brake test -/

/-- A test that ends leaves its timer's expiry and no test. -/
theorem endTest_spec (s : State) (p : Nat) :
    ActsOnPort p s (endTest s p) ∧ portOf (endTest s p) p = { portOf s p with ackDue := ackExpiry s p } ∧
    bwPortOf (endTest s p) p = { bwPortOf s p with test := none } := by
  refine ⟨(actsOnPort_modPort s p fun x => { x with ackDue := ackExpiry s p }).trans
    (actsOnPort_modBwPort _ p fun b => { b with test := none }), ?_, ?_⟩
  · rw [endTest, portOf_modBwPort, portOf_modPort_same]
  · rw [endTest, bwPortOf_modBwPort_same, bwPortOf_modPort]

/-! ### A port's return to PROBE and its cut -/

/-- A port that returns to PROBE keeps its session and what it holds of it. -/
theorem enterProbe_spec (s : State) (p : Nat) :
    ActsOnPort p s (enterProbe s p) ∧ bwPortOf (enterProbe s p) p = bwPortOf s p ∧
    ∃ due rest, portOf (enterProbe s p) p = { portOf s p with
      ackDue := due, ackRest := rest, st := 1, cause := 0, since := s.now, adapted := none, qualified := false, rxOk := false
      farOk := false, retrain := false, replayAt := none } := by
  refine ⟨(actsOnPort_modPort s p _).trans (actsOnPort_modPort _ p _), rfl, ?_⟩
  rw [enterProbe, portOf_modPort_same, pauseAck, portOf_modPort_same]
  split <;> exact ⟨_, _, rfl⟩

/-- A port that enters TRAIN. -/
theorem enterTrain_spec (s : State) (p : Nat) :
    ActsOnPort p s (enterTrain s p) ∧ bwPortOf (enterTrain s p) p = bwPortOf s p ∧
    ∃ due rest, portOf (enterTrain s p) p = { portOf s p with
      ackDue := due, ackRest := rest, st := 2, cause := 0, since := s.now, adapted := none, qualified := false, rxOk := false
      farOk := false, heard := [] } := by
  refine ⟨(actsOnPort_modPort s p _).trans (actsOnPort_modPort _ p _), rfl, ?_⟩
  rw [enterTrain, portOf_modPort_same, pauseAck, portOf_modPort_same]
  split <;> exact ⟨_, _, rfl⟩

/-- A port that is reduced: its level, the reason, and its session (R666). -/
theorem reduceProbe_spec (s : State) (p held : Nat) :
    ReducedToProbe s (reduceProbe s p held) p ∧ ActsOnPort p s (reduceProbe s p held) ∧
    bwPortOf (reduceProbe s p held) p = { bwPortOf s p with test := none, level := 1, held := held } := by
  obtain ⟨ended, link, light⟩ := endTest_spec s p
  have lowered := actsOnPort_setLevel (endTest s p) p 1
  have marked := actsOnPort_modBwPort (setLevel (endTest s p) p 1) p fun b => { b with held := held }
  have acts := (ended.trans lowered).trans marked
  have light' : bwPortOf (modBwPort (setLevel (endTest s p) p 1) p fun b => { b with held := held }) p =
      { bwPortOf s p with test := none, level := 1, held := held } := by
    rw [bwPortOf_modBwPort_same, bwPortOf_setLevel, light]
  have link' : portOf (modBwPort (setLevel (endTest s p) p 1) p fun b => { b with held := held }) p =
      { portOf s p with ackDue := ackExpiry s p } := by
    rw [portOf_modBwPort, portOf_setLevel, link]
  have reduced : reduceProbe s p held = if (portOf (modBwPort (setLevel (endTest s p) p 1) p fun b => { b with held := held }) p).st = 8 ∨
      (portOf (modBwPort (setLevel (endTest s p) p 1) p fun b => { b with held := held }) p).st = 0 ∨
      (portOf (modBwPort (setLevel (endTest s p) p 1) p fun b => { b with held := held }) p).st = 1
      then modBwPort (setLevel (endTest s p) p 1) p fun b => { b with held := held }
      else enterProbe (modBwPort (setLevel (endTest s p) p 1) p fun b => { b with held := held }) p := rfl
  rw [reduced]
  generalize (modBwPort (setLevel (endTest s p) p 1) p fun b => { b with held := held }) = w at acts light' link' ⊢
  split
  · next stays =>
    rw [link'] at stays
    have st : (portOf w p).st = if (portOf s p).st = 8 ∨ (portOf s p).st = 0 then (portOf s p).st else 1 := by
      rw [link']
      dsimp only at stays ⊢
      split
      · rfl
      · omega
    refine ⟨⟨by rw [light'], by rw [light'], st, ?_, ?_, ?_, ?_, ?_, acts.keeps.1, acts.keeps.2.1, acts.others⟩, acts, light'⟩ <;>
      rw [link']
  · next goes =>
    obtain ⟨probes, same, due, rest, probe⟩ := enterProbe_spec w p
    rw [link'] at goes probe
    have st : (portOf (enterProbe w p) p).st = if (portOf s p).st = 8 ∨ (portOf s p).st = 0 then (portOf s p).st else 1 := by
      rw [probe]
      dsimp only at goes ⊢
      rw [if_neg (by omega)]
    have all := acts.trans probes
    rw [light'] at same
    refine ⟨⟨by rw [same], by rw [same], st, ?_, ?_, ?_, ?_, ?_, all.keeps.1, all.keeps.2.1, all.others⟩, all, same⟩ <;>
      rw [probe]

/-- A port that is cut (R666, R693, R695). -/
theorem cutOff_spec (s : State) (p : Nat) :
    CutToOff (cutOff s p) p ∧ ActsOnPort p s (cutOff s p) ∧
    bwPortOf (cutOff s p) p = { bwPortOf s p with test := none, level := 0, held := 0 } := by
  obtain ⟨ended, -, light⟩ := endTest_spec s p
  have lowered := actsOnPort_setLevel (endTest s p) p 0
  have marked := actsOnPort_modBwPort (setLevel (endTest s p) p 0) p fun b => { b with held := 0 }
  have light' : bwPortOf (modBwPort (setLevel (endTest s p) p 0) p fun b => { b with held := 0 }) p =
      { bwPortOf s p with test := none, level := 0, held := 0 } := by
    rw [bwPortOf_modBwPort_same, bwPortOf_setLevel, light]
  have acts := ((ended.trans lowered).trans marked).trans (actsOnPort_modPort _ p fun x =>
    { x with st := 0, cause := 0, since := (modBwPort (setLevel (endTest s p) p 0) p fun b => { b with held := 0 }).now
             ackDue := none, replayAt := none, retrain := false })
  have cut : bwPortOf (cutOff s p) p = { bwPortOf s p with test := none, level := 0, held := 0 } := by
    rw [cutOff, bwPortOf_modPort, light']
  refine ⟨⟨by rw [cut], by rw [cut], ?_⟩, acts, cut⟩
  rw [cutOff, portOf_modPort_same]

/-- The ports of an edge die, cut one by one. -/
theorem cutPorts_spec (e : Nat) (l : List Nat) (s : State) :
    let v := l.foldl (fun s k => cutOff s (4 * k + e)) s
    v = { s with ports := v.ports, bw := { s.bw with ports := v.bw.ports }, out := v.out } ∧
    (∀ p, CutToOff s p → CutToOff v p) ∧ (∀ k ∈ l, CutToOff v (4 * k + e)) ∧
    ∀ p, (∀ k ∈ l, p ≠ 4 * k + e) → portOf v p = portOf s p ∧ bwPortOf v p = bwPortOf s p := by
  induction l generalizing s with
  | nil => exact ⟨rfl, fun _ h => h, fun _ h => absurd h List.not_mem_nil, fun _ _ => ⟨rfl, rfl⟩⟩
  | cons k l ih =>
    obtain ⟨cut, acts, -⟩ := cutOff_spec s (4 * k + e)
    obtain ⟨frame, stays, all, others⟩ := ih (cutOff s (4 * k + e))
    have kept (p : Nat) (h : CutToOff s p) : CutToOff (cutOff s (4 * k + e)) p := by
      by_cases same : p = 4 * k + e
      · exact same ▸ cut
      · unfold CutToOff
        rw [(acts.others p same).1, (acts.others p same).2]
        exact h
    dsimp only at frame stays all others ⊢
    rw [List.foldl_cons]
    generalize l.foldl (fun s k => cutOff s (4 * k + e)) (cutOff s (4 * k + e)) = v at frame stays all others ⊢
    refine ⟨?_, fun p h => stays p (kept p h), fun j hj => ?_, fun p ne => ?_⟩
    · rw [acts.frame] at frame
      exact frame
    · rcases List.mem_cons.1 hj with rfl | hj
      · exact stays _ cut
      · exact all j hj
    · have apart := acts.others p (ne k List.mem_cons_self)
      have rest := others p fun j hj => ne j (List.mem_cons_of_mem k hj)
      exact ⟨rest.1.trans apart.1, rest.2.trans apart.2⟩

/-- Every port of an edge die is cut, and only those. -/
theorem cutDie_spec (s : State) {e : Nat} (he : e < 4) :
    DieCut s (cutDie s e) e ∧
    cutDie s e = { s with ports := (cutDie s e).ports, bw := { s.bw with ports := (cutDie s e).bw.ports }, out := (cutDie s e).out } := by
  obtain ⟨frame, -, all, others⟩ := cutPorts_spec e (List.range 8) s
  refine ⟨fun p hp => ⟨fun own => ?_, fun other => others p fun k _ => by omega⟩, frame⟩
  have found := all (p / 4) (List.mem_range.2 (by omega))
  have same : 4 * (p / 4) + e = p := by omega
  rwa [same] at found

/-- A cut edge die is cut again, or left. -/
theorem DieCut.trans {u v w : State} {e : Nat} (h : DieCut u v e) (k : DieCut v w e) : DieCut u w e := fun p hp =>
  ⟨(k p hp).1, fun other => ⟨((k p hp).2 other).1.trans ((h p hp).2 other).1, ((k p hp).2 other).2.trans ((h p hp).2 other).2⟩⟩

end Sys2Proof.Machine
end

section
/-! SUPPORT. Safety messages and the decision of a lock-out (R676, R686). -/

namespace Sys2Proof.Machine

/-! ### Messages of VC0 -/

/-- A field of what follows a first part. -/
theorem fieldAt_append_right {a b : List Byte} {off n : Nat} : fieldAt (a ++ b) (a.length + off) n = fieldAt b off n := by
  simp [fieldAt, slice]

/-- A message is its 16 bytes of header and its body. -/
theorem vc0Message_parts (s : State) (type stall ctx : Nat) (body : List Byte) :
    ∃ h : List Byte, h.length = 16 ∧ vc0Message s type stall ctx body = h ++ body ∧
      fieldAt (vc0Message s type stall ctx body) 0 1 = type % 256 := by
  refine ⟨_, ?_, rfl, ?_⟩
  · simp [length_leBytes, zeros]
  · simp [vc0Message, fieldAt, slice, leBytes, leNat]

/-- The message type of a safety message and its reason. -/
theorem safetyBody_fields (s : State) (p msg reason hold : Nat) :
    fieldAt (safetyBody s p msg reason hold) 0 1 = msg % 256 ∧ fieldAt (safetyBody s p msg reason hold) 16 2 = reason % 65536 := by
  refine ⟨?_, ?_⟩
  · simp [safetyBody, fieldAt, slice, leBytes, leNat]
  · simp [safetyBody, fieldAt, slice, leBytes, leNat]
    omega

/-- Unit m stands in VC0 of port p to be sent. -/
def Queued (s : State) (p : Nat) (m : TxUnit) : Prop := m ∈ (Tab.getD (TxChan.clear 0) 0 (portOf s p).tx).units

/-- A unit that joins VC0 stands in it with those that stood in it. -/
theorem queued_sendUnit (s : State) (p : Nat) (m : TxUnit) :
    Queued (sendUnit s p 0 m) p m ∧ ∀ v, Queued s p v → Queued (sendUnit s p 0 m) p v := by
  have units : (Tab.getD (TxChan.clear 0) 0 (portOf (sendUnit s p 0 m) p).tx).units =
      if m.safety then ((Tab.getD (TxChan.clear 0) 0 (portOf s p).tx).units.takeWhile fun v => v.started || v.safety) ++ [m] ++
        ((Tab.getD (TxChan.clear 0) 0 (portOf s p).tx).units.dropWhile fun v => v.started || v.safety)
      else (Tab.getD (TxChan.clear 0) 0 (portOf s p).tx).units ++ [m] := by
    rw [sendUnit, portOf_modPort_same, Tab.getD, Tab.find_put_same]
    rfl
  unfold Queued
  rw [units]
  generalize (Tab.getD (TxChan.clear 0) 0 (portOf s p).tx).units = l
  split
  · refine ⟨by simp, fun v hv => ?_⟩
    rw [← List.takeWhile_append_dropWhile (p := fun v => v.started || v.safety) (l := l)] at hv
    rcases List.mem_append.1 hv with h | h
    · exact List.mem_append_left _ (List.mem_append_left _ h)
    · exact List.mem_append_right _ h
  · exact ⟨by simp, fun v hv => List.mem_append_left _ hv⟩

/-- The unit of a safety message. -/
def safetyUnit (s : State) (p msg reason hold : Nat) : TxUnit :=
  { bytes := vc0Message s 7 0 0 (safetyBody s p msg reason hold), started := false, safety := true, reply := false, c := 0, uid := 0
    cmd := 0 }

/-- A safety message that is sent joins VC0 of its port with the next number (R521, R676). -/
theorem sendSafety_spec (s : State) (p msg reason hold : Nat) :
    let v := sendSafety s p msg reason hold
    ActsOnPort p s v ∧ (∃ tx, portOf v p = { portOf s p with tx := tx }) ∧
    bwPortOf v p = { bwPortOf s p with
      seq := ((bwPortOf s p).seq + 1) % 2 ^ 32
      sent := ((bwPortOf s p).seq, s.now) :: (bwPortOf s p).sent.filter fun x => decide (s.now ≤ x.2 + rttMax s) } ∧
    Queued v p (safetyUnit s p msg reason hold) ∧ ∀ m, Queued s p m → Queued v p m := by
  have sent : sendSafety s p msg reason hold = modBwPort (sendUnit s p 0 (safetyUnit s p msg reason hold)) p fun b =>
      { b with seq := (b.seq + 1) % 2 ^ 32, sent := (b.seq, s.now) :: b.sent.filter fun x => decide (s.now ≤ x.2 + rttMax s) } := rfl
  obtain ⟨joins, stay⟩ := queued_sendUnit s p (safetyUnit s p msg reason hold)
  have acts : ActsOnPort p s (sendUnit s p 0 (safetyUnit s p msg reason hold)) := actsOnPort_modPort ..
  have link : ∃ tx, portOf (sendUnit s p 0 (safetyUnit s p msg reason hold)) p = { portOf s p with tx := tx } := by
    rw [sendUnit, portOf_modPort_same]
    exact ⟨_, rfl⟩
  have light : bwPortOf (sendUnit s p 0 (safetyUnit s p msg reason hold)) p = bwPortOf s p := rfl
  dsimp only
  rw [sent]
  generalize sendUnit s p 0 (safetyUnit s p msg reason hold) = w at joins stay acts link light ⊢
  refine ⟨acts.trans (actsOnPort_modBwPort ..), link, ?_, joins, stay⟩
  rw [bwPortOf_modBwPort_same, light]

/-! ### The decision of a lock-out (R686, R695) -/

/-- SHUTDOWN with a reason stands in VC0 of a port. -/
def Told (s : State) (p cause : Nat) : Prop :=
  ∃ m, Queued s p m ∧ m.safety = true ∧ fieldAt m.bytes 0 1 = 7 ∧ fieldAt m.bytes 16 1 = 2 ∧ fieldAt m.bytes 32 2 = cause

/-- A message of SHUTDOWN that is sent tells of its reason. -/
theorem told_sendSafety (s : State) (p : Nat) {cause : Nat} (small : cause < 65536) (hold : Nat) :
    Told (sendSafety s p 2 cause hold) p cause := by
  obtain ⟨-, -, -, queued, -⟩ := sendSafety_spec s p 2 cause hold
  obtain ⟨h, length, parts, type⟩ := vc0Message_parts s 7 0 0 (safetyBody s p 2 cause hold)
  obtain ⟨msg, reason⟩ := safetyBody_fields s p 2 cause hold
  refine ⟨_, queued, rfl, type, ?_, ?_⟩
  · show fieldAt (vc0Message s 7 0 0 (safetyBody s p 2 cause hold)) 16 1 = 2
    rw [parts]
    have field : fieldAt (h ++ safetyBody s p 2 cause hold) (h.length + 0) 1 = _ := fieldAt_append_right
    rw [length] at field
    exact field.trans msg
  · show fieldAt (vc0Message s 7 0 0 (safetyBody s p 2 cause hold)) 32 2 = cause
    rw [parts]
    have field : fieldAt (h ++ safetyBody s p 2 cause hold) (h.length + 16) 2 = _ := fieldAt_append_right
    rw [length] at field
    exact (field.trans reason).trans (Nat.mod_eq_of_lt small)

/-- SHUTDOWN sent on every ACTIVE port of a list. -/
def shutdownAll (cause : Nat) (l : List Nat) (s : State) : State :=
  l.foldl (fun s p => if (portOf s p).st = 4 then sendSafety s p 2 cause (safetyOf s 8 2) else s) s

/-- Every ACTIVE port is told, and no other port changes. -/
theorem shutdownAll_spec {cause : Nat} (small : cause < 65536) (l : List Nat) (s : State) :
    let v := shutdownAll cause l s
    v = { s with ports := v.ports, bw := { s.bw with ports := v.bw.ports }, out := v.out } ∧
    (∀ p, (portOf v p).st = (portOf s p).st) ∧ (∀ p, (portOf s p).st ≠ 4 → portOf v p = portOf s p ∧ bwPortOf v p = bwPortOf s p) ∧
    (∀ p, Told s p cause → Told v p cause) ∧ ∀ p ∈ l, (portOf s p).st = 4 → Told v p cause := by
  induction l generalizing s with
  | nil => exact ⟨rfl, fun _ => rfl, fun _ _ => ⟨rfl, rfl⟩, fun _ h => h, fun _ h => absurd h List.not_mem_nil⟩
  | cons q l ih =>
    have step : shutdownAll cause (q :: l) s =
        shutdownAll cause l (if (portOf s q).st = 4 then sendSafety s q 2 cause (safetyOf s 8 2) else s) := rfl
    dsimp only
    rw [step]
    by_cases active : (portOf s q).st = 4
    · rw [if_pos active]
      obtain ⟨acts, ⟨tx, link⟩, -, -, stay⟩ := sendSafety_spec s q 2 cause (safetyOf s 8 2)
      have told := told_sendSafety s q small (safetyOf s 8 2)
      dsimp only at acts link stay
      generalize sendSafety s q 2 cause (safetyOf s 8 2) = w at acts link stay told ⊢
      obtain ⟨frame, st, others, keeps, all⟩ := ih w
      dsimp only at frame st others keeps all
      generalize shutdownAll cause l w = v at frame st others keeps all ⊢
      have stw (p : Nat) : (portOf w p).st = (portOf s p).st := by
        by_cases same : p = q
        · rw [same, link]
        · rw [(acts.others p same).1]
      have toldw (p : Nat) (h : Told s p cause) : Told w p cause := by
        by_cases same : p = q
        · exact same ▸ told
        · unfold Told Queued
          rw [(acts.others p same).1]
          exact h
      refine ⟨?_, fun p => (st p).trans (stw p), fun p h => ?_, fun p h => keeps p (toldw p h), fun p hp h => ?_⟩
      · rw [acts.frame] at frame
        exact frame
      · have ne : p ≠ q := fun same => h (same ▸ active)
        have rest := others p (by rw [stw]; exact h)
        exact ⟨rest.1.trans (acts.others p ne).1, rest.2.trans (acts.others p ne).2⟩
      · by_cases same : p = q
        · exact keeps p (same ▸ told)
        · exact all p ((List.mem_cons.1 hp).resolve_left same) (by rw [stw]; exact h)
    · rw [if_neg active]
      obtain ⟨frame, st, others, keeps, all⟩ := ih s
      exact ⟨frame, st, others, keeps, fun p hp h => all p ((List.mem_cons.1 hp).resolve_left fun same => active (same ▸ h)) h⟩

/-- A lock-out's cause refuses the reset that is armed or runs (R695). -/
def lockRefused (s : State) : State :=
  if s.bw.armAt.isSome || s.bw.confirm.isSome then
    rsetField (rsetField { s with bw := { s.bw with armAt := none, confirm := none } } .bwrResetStatus 63 63 0) .bwrResetStatus 59 56 2
  else s

/-- LOCKOUT, its cause and the next LOCK_ID written. -/
def lockWritten (s : State) (cause : Nat) : State :=
  let s := rsetField (rsetField s .bwrStatus 63 63 1) .bwrStatus 31 24 cause
  rsetField s .bwrStatus 15 0 (rfield s .bwrStatus 15 0 + 1)

/-- A cause that is decided in lock-out. -/
theorem decideLockout_of_locked {s : State} (locked : inLockout s = true) (cause : Nat) :
    decideLockout s cause = if s.bw.armAt.isSome || s.bw.confirm.isSome then rsetField (lockRefused s) .bwrStatus 31 24 cause else s := by
  unfold decideLockout lockRefused
  dsimp only
  rw [if_pos locked]

/-- A cause that is decided outside lock-out. -/
theorem decideLockout_of_open {s : State} (open_ : inLockout s = false) (cause : Nat) :
    decideLockout s cause =
      let v := shutdownAll cause (List.range 32) (lockWritten (lockRefused s) cause)
      { v with bw := { v.bw with entry := some (cause, v.now) } } := by
  unfold decideLockout lockRefused lockWritten shutdownAll
  dsimp only
  rw [if_neg (by rw [open_]; decide)]

/-- Lock-out is bit 63 of BWR_STATUS. -/
theorem inLockout_eq (s : State) : inLockout s = (rfield s .bwrStatus 63 63).testBit 0 := by
  rw [rfield, testBit_bf]
  rfl

/-- A refused reset is neither armed nor running. -/
theorem lockRefused_spec {s : State} (ok : s.regsOk) :
    ChangesRegs [.bwrResetStatus] s (lockRefused s) ∧
    lockRefused s = { s with regs := (lockRefused s).regs, bw := { s.bw with armAt := none, confirm := none } } ∧
    ((s.bw.armAt.isSome || s.bw.confirm.isSome) = true →
      rfield (lockRefused s) .bwrResetStatus 63 63 = 0 ∧ rfield (lockRefused s) .bwrResetStatus 59 56 = 2) := by
  unfold lockRefused
  by_cases running : (s.bw.armAt.isSome || s.bw.confirm.isSome) = true
  · rw [if_pos running]
    generalize hw : ({ s with bw := { s.bw with armAt := none, confirm := none } } : State) = w
    have same : ChangesRegs [] s w := ChangesRegs.of_eq (by rw [← hw])
    have okw := same.regsOk ok
    have first : WritesRegs [.bwrResetStatus] w (rsetField w .bwrResetStatus 63 63 0) :=
      writesRegs_rsetField List.mem_cons_self ⟨by decide, by decide⟩ ..
    have both := first.then (writesRegs_rsetField (d := 0) (i := 0) List.mem_cons_self ⟨by decide, by decide⟩ _ 59 56 2)
    refine ⟨same.trans both.toChangesRegs, ?_, fun _ => ⟨?_, ?_⟩⟩
    · rw [← hw]
      rfl
    · rw [rfield_rsetField_apart (first.regsOk okw) (by decide) (.inl (by decide))]
      exact rfield_rsetField_same okw (by decide) 0
    · exact rfield_rsetField_same (first.regsOk okw) (by decide) 2
  · rw [if_neg running]
    have none_ : s.bw.armAt = none ∧ s.bw.confirm = none := by simpa [not_or] using running
    have same : s.bw = { s.bw with armAt := none, confirm := none } := by
      obtain ⟨arm, confirm⟩ := none_
      generalize s.bw = b at arm confirm ⊢
      cases b
      dsimp only at arm confirm
      rw [arm, confirm]
    exact ⟨ChangesRegs.of_eq rfl, congrArg (fun b => { s with bw := b }) same, fun h => absurd h running⟩

/-- The fields that are written. -/
theorem lockWritten_spec {s : State} (ok : s.regsOk) {cause : Nat} (small : cause < 256) :
    WritesRegs [.bwrStatus] s (lockWritten s cause) ∧ inLockout (lockWritten s cause) = true ∧
    rfield (lockWritten s cause) .bwrStatus 31 24 = cause ∧
    rfield (lockWritten s cause) .bwrStatus 15 0 = (rfield s .bwrStatus 15 0 + 1) % 65536 := by
  have writes (w : State) (hi lo v : Nat) : WritesRegs [.bwrStatus] w (rsetField w .bwrStatus hi lo v) :=
    writesRegs_rsetField List.mem_cons_self ⟨by decide, by decide⟩ ..
  have ok₁ := (writes s 63 63 1).regsOk ok
  have ok₂ := (writes _ 31 24 cause).regsOk ok₁
  have id : rfield (rsetField (rsetField s .bwrStatus 63 63 1) .bwrStatus 31 24 cause) .bwrStatus 15 0 = rfield s .bwrStatus 15 0 := by
    rw [rfield_rsetField_apart ok₁ (by decide) (.inr (by decide)), rfield_rsetField_apart ok (by decide) (.inr (by decide))]
  unfold lockWritten
  dsimp only
  rw [id]
  refine ⟨((writes s 63 63 1).then (writes _ 31 24 cause)).then (writes _ 15 0 _), ?_, ?_, ?_⟩
  · rw [inLockout_eq, rfield_rsetField_apart ok₂ (by decide) (.inl (by decide)), rfield_rsetField_apart ok₁ (by decide) (.inl (by decide)),
      rfield_rsetField_same ok (by decide)]
    decide
  · rw [rfield_rsetField_apart ok₂ (by decide) (.inl (by decide)), rfield_rsetField_same ok₁ (by decide)]
    exact Nat.mod_eq_of_lt small
  · exact rfield_rsetField_same ok₂ (by decide) _

/-- What the decision of a lock-out leaves. -/
theorem decideLockout_spec {u : State} (ok : u.regsOk) {cause : Nat} (small : cause < 256) :
    let v := decideLockout u cause
    LockoutDecided u v cause ∧ v.mem = u.mem ∧ v.ctxs = u.ctxs ∧ ChangesRegs [.bwrStatus, .bwrResetStatus] u v ∧
    ∀ p, (portOf u p).st ≠ 4 → portOf v p = portOf u p ∧ bwPortOf v p = bwPortOf u p := by
  obtain ⟨changes, frame, refused⟩ := lockRefused_spec ok
  have okr := changes.regsOk ok
  have statusR (hi lo : Nat) : rfield (lockRefused u) .bwrStatus hi lo = rfield u .bwrStatus hi lo :=
    changes.rfield (by decide) ⟨by decide, by decide⟩ hi lo
  by_cases locked : inLockout u = true
  · dsimp only
    rw [decideLockout_of_locked locked]
    by_cases running : (u.bw.armAt.isSome || u.bw.confirm.isSome) = true
    · rw [if_pos running]
      have writes : WritesRegs [.bwrStatus] (lockRefused u) (rsetField (lockRefused u) .bwrStatus 31 24 cause) :=
        writesRegs_rsetField List.mem_cons_self ⟨by decide, by decide⟩ ..
      have result (hi lo : Nat) := writes.rfield (r := .bwrResetStatus) (d := 0) (i := 0) (by decide) ⟨by decide, by decide⟩ hi lo
      have lock : inLockout (rsetField (lockRefused u) .bwrStatus 31 24 cause) = true := by
        rw [inLockout_eq, rfield_rsetField_apart okr (by decide) (.inl (by decide)), statusR, ← inLockout_eq, locked]
      have bw : (rsetField (lockRefused u) .bwrStatus 31 24 cause).bw = { u.bw with armAt := none, confirm := none } :=
        (congrArg State.bw writes.frame :).trans (congrArg State.bw frame :)
      have ports : (rsetField (lockRefused u) .bwrStatus 31 24 cause).ports = u.ports :=
        (congrArg State.ports writes.frame :).trans (congrArg State.ports frame :)
      refine ⟨⟨lock, fun _ => ⟨by rw [bw], by rw [bw], ?_, ?_⟩,
        fun open_ => absurd locked (by simp [open_]), fun _ => ⟨?_, ?_, by rw [bw]⟩⟩,
        writes.mem.trans (congrArg State.mem frame :), (congrArg State.ctxs writes.frame :).trans (congrArg State.ctxs frame :),
        ?_, fun p _ => ⟨by unfold portOf; rw [ports], by unfold bwPortOf; rw [bw]⟩⟩
      · rw [result, (refused running).1]
      · rw [result, (refused running).2]
      · rw [rfield_rsetField_same okr (by decide), if_pos running]
        exact Nat.mod_eq_of_lt small
      · rw [rfield_rsetField_apart okr (by decide) (.inr (by decide)), statusR]
      · have all := changes.trans writes.toChangesRegs
        exact ⟨all.regsOk, fun hr hin => all.others (fun h => hr (by simp at h ⊢; tauto)) hin⟩
    · rw [if_neg running]
      exact ⟨⟨locked, fun h => absurd h running, fun open_ => absurd locked (by simp [open_]), fun _ => ⟨(if_neg running).symm, rfl, rfl⟩⟩,
        rfl, rfl, ChangesRegs.of_eq rfl, fun _ _ => ⟨rfl, rfl⟩⟩
  · have open_ : inLockout u = false := Bool.not_eq_true _ ▸ locked
    obtain ⟨writes, lock, cause_, id⟩ := lockWritten_spec okr small
    dsimp only
    rw [decideLockout_of_open open_]
    have bwW : (lockWritten (lockRefused u) cause).bw = { u.bw with armAt := none, confirm := none } :=
      (congrArg State.bw writes.frame :).trans (congrArg State.bw frame :)
    have portsW : (lockWritten (lockRefused u) cause).ports = u.ports :=
      (congrArg State.ports writes.frame :).trans (congrArg State.ports frame :)
    have nowW : (lockWritten (lockRefused u) cause).now = u.now :=
      (congrArg State.now writes.frame :).trans (congrArg State.now frame :)
    have memW : (lockWritten (lockRefused u) cause).mem = u.mem := writes.mem.trans (congrArg State.mem frame :)
    have ctxsW : (lockWritten (lockRefused u) cause).ctxs = u.ctxs :=
      (congrArg State.ctxs writes.frame :).trans (congrArg State.ctxs frame :)
    have result (hi lo : Nat) := writes.rfield (r := .bwrResetStatus) (d := 0) (i := 0) (by decide) ⟨by decide, by decide⟩ hi lo
    have all := changes.trans writes.toChangesRegs
    rw [statusR] at id
    generalize lockWritten (lockRefused u) cause = w at *
    have portW (p : Nat) : portOf w p = portOf u p := by unfold portOf; rw [portsW]
    have bwPortW (p : Nat) : bwPortOf w p = bwPortOf u p := by unfold bwPortOf; rw [bwW]
    obtain ⟨frameV, -, others, -, told⟩ := shutdownAll_spec (cause := cause) (by omega) (List.range 32) w
    dsimp only at frameV others told ⊢
    generalize shutdownAll cause (List.range 32) w = v at frameV others told ⊢
    have regs : v.regs = w.regs := (congrArg State.regs frameV :)
    have now : v.now = w.now := (congrArg State.now frameV :)
    have bw : v.bw = { w.bw with ports := v.bw.ports } := (congrArg State.bw frameV :)
    have fields (r : Reg) (hi lo : Nat) : rfield { v with bw := { v.bw with entry := some (cause, v.now) } } r hi lo = rfield w r hi lo := by
      show bf (Tab.getD _ _ v.regs) hi lo = _
      rw [regs]
      rfl
    refine ⟨⟨?_, fun running => ⟨?_, ?_, ?_, ?_⟩, fun _ => ⟨?_, ?_, ?_, fun p hp active => ?_⟩, fun h => absurd h locked⟩, ?_, ?_, ?_,
      fun p idle => ?_⟩
    · rw [inLockout_eq, fields, ← inLockout_eq, lock]
    · show v.bw.armAt = none
      rw [bw, bwW]
    · show v.bw.confirm = none
      rw [bw, bwW]
    · rw [fields, result, (refused running).1]
    · rw [fields, result, (refused running).2]
    · rw [fields, cause_]
    · rw [fields, id]
    · show some (cause, v.now) = some (cause, u.now)
      rw [now, nowW]
    · exact told p (List.mem_range.2 hp) (by rw [portW]; exact active)
    · exact (congrArg State.mem frameV :).trans memW
    · exact (congrArg State.ctxs frameV :).trans ctxsW
    · have last : ChangesRegs [] w { v with bw := { v.bw with entry := some (cause, v.now) } } := ChangesRegs.of_eq regs
      exact ⟨last.regsOk ∘ all.regsOk, fun hr hin => (last.others (by simp) hin).trans (all.others (fun h => hr (by simp at h ⊢; tauto)) hin)⟩
    · have same := others p (by rw [portW]; exact idle)
      exact ⟨same.1.trans (portW p), same.2.trans (bwPortW p)⟩

end Sys2Proof.Machine
end

section
/-! PROOFS. Breakwater governs the light (O58). -/

namespace Sys2Proof.Machine

/-! ### What raises and lowers a port (R499, R654, R664 to R666) -/

/-- A port with a fresh session (R503): its state of the light and its failed authentications stay, all else starts anew. -/
def freshPort (x : Port) (session nonce : Nat) : Port :=
  { Port.clear with
    st := x.st, cause := x.cause, back := x.back, since := x.since, tries := x.tries, session := session % 2 ^ 32
    nonce := leBytes 16 nonce, authFails := x.authFails, light := x.light, losAt := x.losAt, goodAt := x.goodAt, consRetrain := 0 }

/-- A fresh session of a port. -/
theorem freshSession_spec (s : State) (p : Nat) :
    freshSession s p = { s with free := (freshSession s p).free, ports := (freshSession s p).ports } ∧
    (∀ o, o ≠ p → portOf (freshSession s p) o = portOf s o) ∧
    ∃ a b, ((portOf s p).nonce ≠ [] → a = (portOf s p).session + 1) ∧ portOf (freshSession s p) p = freshPort (portOf s p) a b := by
  have drawn (w : State) (ports : w.ports = s.ports) (frame : w = { s with free := w.free, ports := w.ports }) (a b : Nat) :
      modPort w p (fun x => freshPort x a b) = { s with
        free := (modPort w p fun x => freshPort x a b).free, ports := (modPort w p fun x => freshPort x a b).ports } ∧
      (∀ o, o ≠ p → portOf (modPort w p fun x => freshPort x a b) o = portOf s o) ∧
      portOf (modPort w p fun x => freshPort x a b) p = freshPort (portOf s p) a b := by
    have same (o : Nat) : portOf w o = portOf s o := congrArg (Tab.getD Port.clear o) ports
    refine ⟨?_, fun o ne => (portOf_modPort_ne w p _ ne).trans (same o), ?_⟩
    · rw [frame]
      rfl
    · rw [portOf_modPort_same, same]
  by_cases empty : (portOf s p).nonce.isEmpty = true
  · have fresh : freshSession s p = modPort { s with free := s.free + 1 + 1 } p fun x =>
        freshPort x (Config.freeRandom s.free) (Config.freeRandom (s.free + 1)) := by
      unfold freshSession
      dsimp only
      rw [if_pos empty]
      rfl
    rw [fresh]
    obtain ⟨frame, others, port⟩ := drawn { s with free := s.free + 1 + 1 } rfl rfl (Config.freeRandom s.free) (Config.freeRandom (s.free + 1))
    exact ⟨frame, others, _, _, fun some_ => absurd (List.isEmpty_iff.1 empty) some_, port⟩
  · have fresh : freshSession s p = modPort { s with free := s.free + 1 } p fun x =>
        freshPort x ((portOf s p).session + 1) (Config.freeRandom s.free) := by
      unfold freshSession
      dsimp only
      rw [if_neg empty]
      rfl
    rw [fresh]
    obtain ⟨frame, others, port⟩ := drawn { s with free := s.free + 1 } rfl rfl ((portOf s p).session + 1) (Config.freeRandom s.free)
    exact ⟨frame, others, _, _, fun _ => rfl, port⟩

/-- Steps of owners that end are failures. -/
theorem fails_failOwners (s : State) (src : Src) (cause : Nat) (l : List (Nat × Nat)) : Fails s (failOwners s src cause l) := by
  refine foldl_keeps Fails.refl Fails.trans (fun s o => ?_) l s
  split
  · exact fails_stepFail ..
  · exact Fails.refl s

/-- A session that is lost leaves a fresh one, and no other port changes. -/
theorem sessionLost_spec (s : State) (p : Nat) :
    (sessionLost s p).bw = s.bw ∧ (∀ o, o ≠ p → portOf (sessionLost s p) o = portOf s o) ∧
    ∃ a b, ((portOf s p).nonce ≠ [] → a = (portOf s p).session + 1) ∧
      portOf (sessionLost s p) p = freshPort (portOf s p) a b := by
  have fails := (fails_failOwners s .dkl 0x51 (portOwners s p)).frame
  have lost : sessionLost s p = freshSession (failOwners s .dkl 0x51 (portOwners s p)) p := rfl
  rw [lost]
  generalize failOwners s .dkl 0x51 (portOwners s p) = w at fails ⊢
  have ports (o : Nat) : portOf w o = portOf s o := congrArg (Tab.getD Port.clear o) (congrArg State.ports fails :)
  obtain ⟨frame, others, fresh⟩ := freshSession_spec w p
  rw [ports p] at fresh
  exact ⟨(congrArg State.bw frame :).trans (congrArg State.bw fails :), fun o ne => (others o ne).trans (ports o), fresh⟩

/-- A port that starts in PROBE. -/
theorem probeStarted (u : State) (p : Nat) :
    let v := setLevel (modPort (sessionLost u p) p fun x =>
      { x with st := 1, cause := 0, since := u.now, tries := 0 }) p 1
    (portOf v p).st = 1 ∧ (bwPortOf v p).level = 1 ∧ (portOf v p).txExt = 0 ∧ (portOf v p).rxExt = 0 ∧
    (portOf v p).replayBuf = [] ∧ (portOf v p).far = [] ∧
    ((portOf u p).nonce ≠ [] → (portOf v p).session = ((portOf u p).session + 1) % 2 ^ 32) ∧
    ∀ o, o ≠ p → portOf v o = portOf u o ∧ bwPortOf v o = bwPortOf u o := by
  obtain ⟨bw, others, a, b, next, fresh⟩ := sessionLost_spec u p
  dsimp only
  generalize hf : (fun x : Port => { x with st := 1, cause := 0, since := u.now, tries := 0 }) = f
  generalize sessionLost u p = w at bw others fresh hf ⊢
  have link : portOf (setLevel (modPort w p f) p 1) p =
      { freshPort (portOf u p) a b with st := 1, cause := 0, since := u.now, tries := 0 } := by
    rw [portOf_setLevel, portOf_modPort_same, fresh, ← hf]
  have light (o : Nat) : bwPortOf (modPort w p f) o = bwPortOf u o := congrArg (Tab.getD BwPort.clear o) (congrArg Bw.ports bw)
  rw [link]
  refine ⟨rfl, by rw [bwPortOf_setLevel], rfl, rfl, rfl, rfl, fun some_ => by rw [← next some_]; rfl, fun o ne => ⟨?_, ?_⟩⟩
  · rw [portOf_setLevel, portOf_modPort_ne w p f ne, others o ne]
  · rw [((actsOnPort_setLevel (modPort w p f) p 1).others o ne).2, light]

/-- A port whose cut-off paths have passed goes to FULL and TRAIN. -/
theorem granted (u : State) (p : Nat) :
    let v := enterTrain (modBwPort (setLevel u p 2) p fun b => { b with held := 0 }) p
    (portOf v p).st = 2 ∧ (portOf v p).since = u.now ∧ (bwPortOf v p).level = 2 ∧ (bwPortOf v p).held = 0 ∧
    (∀ o, o ≠ p → portOf v o = portOf u o ∧ bwPortOf v o = bwPortOf u o) ∧ v.mem = u.mem := by
  have raised := (actsOnPort_setLevel u p 2).trans (actsOnPort_modBwPort (setLevel u p 2) p fun b => { b with held := 0 })
  have light : bwPortOf (modBwPort (setLevel u p 2) p fun b => { b with held := 0 }) p = { bwPortOf u p with level := 2, held := 0 } := by
    rw [bwPortOf_modBwPort_same, bwPortOf_setLevel]
  dsimp only
  generalize (modBwPort (setLevel u p 2) p fun b => { b with held := 0 }) = w at raised light ⊢
  obtain ⟨acts, same, due, rest, link⟩ := enterTrain_spec w p
  have all := raised.trans acts
  rw [same, light, link]
  exact ⟨rfl, raised.keeps.2.2.2, rfl, rfl, all.others, all.keeps.1⟩

/-- A brake test that starts. -/
theorem startTest_spec (u : State) (p : Nat) :
    ActsOnPort p u (startTest u p) ∧ (startTest u p).ports = u.ports ∧
    bwPortOf (startTest u p) p = { bwPortOf u p with level := 3, was := (bwPortOf u p).level, test := some (u.now, false) } := by
  have marked := actsOnPort_modBwPort u p fun b => { b with was := (bwPortOf u p).level, test := some (u.now, false) }
  refine ⟨marked.trans (actsOnPort_setLevel _ p 3), ?_, ?_⟩
  · rw [startTest, setLevel_ports]
    rfl
  · rw [startTest, bwPortOf_setLevel, bwPortOf_modBwPort_same]

/-- A bit that is set reads 1, and every other one as before. -/
theorem bitAt_setBit_true (w : Word) {i n : Nat} (hn : n < 64) : bitAt (setBit w i true) n = (bitAt w n || n == i) := by
  rw [setBit, bitAt_setBf w _ hn]
  by_cases same : n = i
  · subst same
    rw [if_pos ⟨Nat.le_refl _, Nat.lt_succ_self _⟩, Nat.sub_self]
    simp
  · rw [if_neg (by omega)]
    simp [same]

/-- A latch of BWR_INTLK that is set. -/
theorem bitAt_latch {s : State} (ok : s.regsOk) (i : Nat) {n : Nat} (hn : n < 64) :
    bitAt (rget (rmod s .bwrIntlk fun w => setBit w i true) .bwrIntlk) n = (bitAt (rget s .bwrIntlk) n || n == i) := by
  rw [rmod, rget, rgetX_rputX_same ok, bitAt_setBit_true _ hn]

/-- Registers that are kept keep their homes. -/
theorem regsOk_of_regs {s s' : State} (same : s'.regs = s.regs) (ok : s.regsOk) : s'.regsOk := by
  unfold State.regsOk
  rwa [same]

/-- Over-power cuts a port and sets the latch of its edge die. -/
theorem overPowered {u : State} (ok : u.regsOk) (p : Nat) :
    let v := rmod (cutOff u p) .bwrIntlk fun w => setBit w (4 * (p % 4) + 3) true
    CutToOff v p ∧ (∀ o, o ≠ p → portOf v o = portOf u o ∧ bwPortOf v o = bwPortOf u o) ∧
    (∀ n < 64, bitAt (rget v .bwrIntlk) n = (bitAt (rget u .bwrIntlk) n || n == 4 * (p % 4) + 3)) ∧ v.mem = u.mem := by
  obtain ⟨cut, acts, -⟩ := cutOff_spec u p
  refine ⟨cut, acts.others, fun n hn => ?_, acts.keeps.1⟩
  rw [bitAt_latch (regsOk_of_regs acts.keeps.2.2.1 ok) _ hn, rget, acts.reg]

/-! ### Interlocks (R668 to R670) -/

/-- A table whose keys rise keeps rising where a key is taken out. -/
theorem rising_del {α : Type} {m : Tab α} (rising : m.Pairwise fun a b => a.1 < b.1) (k : Nat) :
    (Tab.del k m).Pairwise fun a b => a.1 < b.1 := rising.sublist (Tab.del_sublist _ _)

/-- The contacts of a receptacle read a moment of closing and a count of wrong pulses each. -/
def SameContact (s v : State) (n : Nat) : Prop := Tab.find n v.bw.closed = Tab.find n s.bw.closed ∧ Tab.find n v.bw.wrong = Tab.find n s.bw.wrong

/-- The contacts' tables are in order. -/
def ContactsRise (s : State) : Prop :=
  (s.bw.closed.Pairwise fun a b => a.1 < b.1) ∧ s.bw.wrong.Pairwise fun a b => a.1 < b.1

/-- Edge die e is cut for a wiring fault, its latch set. -/
def WiringCut (s v : State) (e : Nat) : Prop := DieCut s v e ∧ bitAt (rget v .bwrIntlk) (4 * e + 2) = true

/-- What a pulse of a contact of edge die e leaves: the work, the other contacts, and the light or the fault's cut. -/
structure Pulses (e key : Nat) (s v : State) : Prop where
  work : v.mem = s.mem ∧ v.ctxs = s.ctxs ∧ v.now = s.now
  regs : ChangesRegs [.bwrIntlk] s v
  rise : ContactsRise s → ContactsRise v
  others : ∀ n, n ≠ key → SameContact s v n
  light : (v.ports = s.ports ∧ v.bw.ports = s.bw.ports ∧ v.regs = s.regs) ∨ WiringCut s v e

/-- What a right or wrong pulse shows of its contact (R668, R670). -/
def Shows (e key : Nat) (sense : Bool) (s v : State) : Prop :=
  (sense = true → Tab.find key v.bw.closed = some (Tab.getD s.now key s.bw.closed) ∧ Tab.find key v.bw.wrong = none) ∧
  (sense = false → (Tab.find key s.bw.closed).isSome = true →
    Tab.find key v.bw.wrong = some (Tab.getD 0 key s.bw.wrong + 1) ∧ (1 ≤ Tab.getD 0 key s.bw.wrong → WiringCut s v e))

/-- A pulse. -/
theorem pulse_spec {s : State} (ok : s.regsOk) {e : Nat} (he : e < 4) (key : Nat) (sense : Bool) (rise : ContactsRise s) :
    Pulses e key s (pulse s e key sense) ∧ Shows e key sense s (pulse s e key sense) := by
  cases sense with
  | true =>
    have right : pulse s e key true = { s with bw := { s.bw with
        closed := Tab.put key (Tab.getD s.now key s.bw.closed) s.bw.closed, wrong := Tab.del key s.bw.wrong } } := rfl
    rw [right]
    exact ⟨⟨⟨rfl, rfl, rfl⟩, ChangesRegs.of_eq rfl, fun h => ⟨Tab.rising_put h.1, rising_del h.2 key⟩,
      fun n ne => ⟨Tab.find_put_ne ne .., Tab.find_del_ne ne _⟩, .inl ⟨rfl, rfl, rfl⟩⟩,
      fun _ => ⟨Tab.find_put_same .., find_del_same rise.2⟩, fun h => absurd h (by decide)⟩
  | false =>
    by_cases unseen : (Tab.find key s.bw.closed).isNone = true
    · have idle : pulse s e key false = s := by
        rw [pulse, if_neg (by decide), if_pos unseen]
      rw [idle]
      exact ⟨⟨⟨rfl, rfl, rfl⟩, ChangesRegs.of_eq rfl, id, fun _ _ => ⟨rfl, rfl⟩, .inl ⟨rfl, rfl, rfl⟩⟩,
        fun h => absurd h (by decide), fun _ seen => absurd unseen (by simpa using Option.isSome_iff_ne_none.1 seen)⟩
    · generalize hw : ({ s with bw := { s.bw with wrong := Tab.put key (Tab.getD 0 key s.bw.wrong + 1) s.bw.wrong } } : State) = w
      have counted : w.regs = s.regs ∧ w.mem = s.mem ∧ w.ctxs = s.ctxs ∧ w.now = s.now ∧ w.ports = s.ports ∧ w.bw.ports = s.bw.ports ∧
          w.bw.closed = s.bw.closed ∧ w.bw.wrong = Tab.put key (Tab.getD 0 key s.bw.wrong + 1) s.bw.wrong := by
        rw [← hw]
        exact ⟨rfl, rfl, rfl, rfl, rfl, rfl, rfl, rfl⟩
      obtain ⟨regs, mem, ctxs, now, ports, light, closed, wrong⟩ := counted
      have wrongPulse : pulse s e key false = if Tab.getD 0 key s.bw.wrong + 1 < 2 then w
          else rmod (cutDie w e) .bwrIntlk fun x => setBit x (4 * e + 2) true := by
        rw [pulse, if_neg (by decide), if_neg unseen, ← hw]
      have rises (v : State) (sameClosed : v.bw.closed = w.bw.closed) (sameWrong : v.bw.wrong = w.bw.wrong) : ContactsRise s → ContactsRise v := by
        unfold ContactsRise
        rw [sameClosed, sameWrong, closed, wrong]
        exact fun h => ⟨h.1, Tab.rising_put h.2⟩
      have others (v : State) (sameClosed : v.bw.closed = w.bw.closed) (sameWrong : v.bw.wrong = w.bw.wrong) (n : Nat) (ne : n ≠ key) :
          SameContact s v n := by
        unfold SameContact
        rw [sameClosed, sameWrong, closed, wrong]
        exact ⟨rfl, Tab.find_put_ne ne ..⟩
      have count (v : State) (sameWrong : v.bw.wrong = w.bw.wrong) : Tab.find key v.bw.wrong = some (Tab.getD 0 key s.bw.wrong + 1) := by
        rw [sameWrong, wrong]
        exact Tab.find_put_same ..
      rw [wrongPulse]
      split
      · next first =>
        exact ⟨⟨⟨mem, ctxs, now⟩, ChangesRegs.of_eq regs, rises w rfl rfl, others w rfl rfl, .inl ⟨ports, light, regs⟩⟩,
          fun h => absurd h (by decide), fun _ _ => ⟨count w rfl, fun again => absurd first (by omega)⟩⟩
      · obtain ⟨cut, frame⟩ := cutDie_spec w he
        have okw := regsOk_of_regs regs ok
        generalize cutDie w e = x at cut frame ⊢
        have okx : x.regsOk := regsOk_of_regs (congrArg State.regs frame :) okw
        have bw : x.bw = { w.bw with ports := x.bw.ports } := (congrArg State.bw frame :)
        have first : ChangesRegs [] s x := ChangesRegs.of_eq ((congrArg State.regs frame :).trans regs)
        have second : WritesRegs [.bwrIntlk] x (rmod x .bwrIntlk fun y => setBit y (4 * e + 2) true) :=
          writesRegs_rputX List.mem_cons_self ⟨by decide, by decide⟩ ..
        have latch : bitAt (rget (rmod x .bwrIntlk fun y => setBit y (4 * e + 2) true) .bwrIntlk) (4 * e + 2) = true := by
          rw [bitAt_latch okx _ (by omega), beq_self_eq_true, Bool.or_true]
        have whole : DieCut s (rmod x .bwrIntlk fun y => setBit y (4 * e + 2) true) e := fun p hp =>
          ⟨(cut p hp).1, fun other => ⟨((cut p hp).2 other).1.trans (congrArg (Tab.getD Port.clear p) ports),
            ((cut p hp).2 other).2.trans (congrArg (Tab.getD BwPort.clear p) light)⟩⟩
        have fault : WiringCut s (rmod x .bwrIntlk fun y => setBit y (4 * e + 2) true) e := ⟨whole, latch⟩
        have closedX : (rmod x .bwrIntlk fun y => setBit y (4 * e + 2) true).bw.closed = w.bw.closed := (congrArg Bw.closed bw :)
        have wrongX : (rmod x .bwrIntlk fun y => setBit y (4 * e + 2) true).bw.wrong = w.bw.wrong := (congrArg Bw.wrong bw :)
        exact ⟨⟨⟨(congrArg State.mem frame :).trans mem, (congrArg State.ctxs frame :).trans ctxs, (congrArg State.now frame :).trans now⟩,
          first.trans second.toChangesRegs, rises _ closedX wrongX, others _ closedX wrongX, .inr fault⟩,
          fun h => absurd h (by decide), fun _ _ => ⟨count _ wrongX, fun _ => fault⟩⟩

/-- A cut for a wiring fault outlasts a further pulse. -/
theorem WiringCut.pulses {u s v : State} {e key : Nat} (cut : WiringCut u s e) (h : Pulses e key s v) : WiringCut u v e := by
  rcases h.light with ⟨ports, light, regs⟩ | again
  · refine ⟨fun p hp => ?_, ?_⟩
    · have port : portOf v p = portOf s p := congrArg (Tab.getD Port.clear p) ports
      have bwPort : bwPortOf v p = bwPortOf s p := congrArg (Tab.getD BwPort.clear p) light
      unfold CutToOff
      rw [port, bwPort]
      exact cut.1 p hp
    · have same : rget v .bwrIntlk = rget s .bwrIntlk := by
        unfold rget rgetX
        rw [regs]
      rw [same]
      exact cut.2
  · exact ⟨cut.1.trans again.1, again.2⟩

/-- A pulse after one that left the light, or cut the edge die. -/
theorem WiringCut.after {u s v : State} {e key : Nat} (h : Pulses e key u s) (cut : WiringCut s v e) : WiringCut u v e := by
  rcases h.light with ⟨ports, light, -⟩ | again
  · refine ⟨fun p hp => ⟨(cut.1 p hp).1, fun other => ⟨((cut.1 p hp).2 other).1.trans ?_, ((cut.1 p hp).2 other).2.trans ?_⟩⟩, cut.2⟩
    · exact congrArg (Tab.getD Port.clear p) ports
    · exact congrArg (Tab.getD BwPort.clear p) light
  · exact ⟨again.1.trans cut.1, cut.2⟩

/-- What the statement says of one channel's contact. -/
def ContactClause (u v : State) (e : Nat) (c : Channel) (n : Nat) (sense : Bool) : Prop :=
  (channelBad u c e = true → Tab.find n v.bw.closed = Tab.find n u.bw.closed ∧ Tab.find n v.bw.wrong = Tab.find n u.bw.wrong) ∧
  (channelBad u c e = false → sense = true →
    Tab.find n v.bw.closed = some (Tab.getD u.now n u.bw.closed) ∧ Tab.find n v.bw.wrong = none) ∧
  (channelBad u c e = false → sense = false → (Tab.find n u.bw.closed).isSome = true →
    Tab.find n v.bw.wrong = some (Tab.getD 0 n u.bw.wrong + 1) ∧
    (1 ≤ Tab.getD 0 n u.bw.wrong → DieCut u v e ∧ bitAt (rget v .bwrIntlk) (4 * e + 2) = true))

/-- A channel's part of a period. -/
def channelPulse (s : State) (e : Nat) (c : Channel) (key : Nat) (sense : Bool) : State :=
  if channelBad s c e then s else pulse s e key sense

/-- A channel's part of a period is a pulse or nothing, and shows its contact. -/
theorem channelPulse_spec {s : State} (ok : s.regsOk) {e : Nat} (he : e < 4) (c : Channel) (key : Nat) (sense : Bool)
    (rise : ContactsRise s) :
    Pulses e key s (channelPulse s e c key sense) ∧ ContactClause s (channelPulse s e c key sense) e c key sense := by
  unfold channelPulse
  by_cases bad : channelBad s c e = true
  · rw [if_pos bad]
    exact ⟨⟨⟨rfl, rfl, rfl⟩, ChangesRegs.of_eq rfl, id, fun _ _ => ⟨rfl, rfl⟩, .inl ⟨rfl, rfl, rfl⟩⟩,
      fun _ => ⟨rfl, rfl⟩, fun good => absurd bad (by simp [good]), fun good => absurd bad (by simp [good])⟩
  · rw [if_neg bad]
    obtain ⟨pulses, right, wrong⟩ := pulse_spec ok he key sense rise
    exact ⟨pulses, fun h => absurd h bad, fun _ => right, fun _ => wrong⟩

/-- One period of both channels (R668, R670). -/
theorem periodPulsed {u : State} (ok : u.regsOk) {e : Nat} (he : e < 4) (a b : Bool) (rise : ContactsRise u) :
    let v := channelPulse (channelPulse u e .p (2 * e) a) e .h (2 * e + 1) b
    ContactClause u v e .p (2 * e) a ∧ ContactClause u v e .h (2 * e + 1) b ∧ v.mem = u.mem ∧ v.ctxs = u.ctxs := by
  obtain ⟨first, showsP⟩ := channelPulse_spec ok he .p (2 * e) a rise
  dsimp only
  generalize channelPulse u e .p (2 * e) a = w at first showsP ⊢
  obtain ⟨second, showsH⟩ := channelPulse_spec (first.regs.regsOk ok) he .h (2 * e + 1) b (first.rise rise)
  generalize channelPulse w e .h (2 * e + 1) b = v at second showsH ⊢
  have contactP := second.others (2 * e) (by omega)
  have contactH := first.others (2 * e + 1) (by omega)
  have channel : channelBad w .h e = channelBad u .h e := by
    show bitAt (rget w .bwrStatus) _ = bitAt (rget u .bwrStatus) _
    rw [rget, first.regs.others (by decide) ⟨by decide, by decide⟩]
  obtain ⟨badP, rightP, wrongP⟩ := showsP
  obtain ⟨badH, rightH, wrongH⟩ := showsH
  rw [channel] at badH rightH wrongH
  have getD (d n : Nat) (m m' : Tab Nat) (same : Tab.find n m = Tab.find n m') : Tab.getD d n m = Tab.getD d n m' := by
    rw [Tab.getD, same]
    rfl
  refine ⟨⟨fun bad => ?_, fun good sense => ?_, fun good sense seen => ?_⟩,
    ⟨fun bad => ?_, fun good sense => ?_, fun good sense seen => ?_⟩,
    second.work.1.trans first.work.1, second.work.2.1.trans first.work.2.1⟩
  · exact ⟨contactP.1.trans (badP bad).1, contactP.2.trans (badP bad).2⟩
  · exact ⟨contactP.1.trans (rightP good sense).1, contactP.2.trans (rightP good sense).2⟩
  · obtain ⟨count, cut⟩ := wrongP good sense seen
    exact ⟨contactP.2.trans count, fun again => WiringCut.pulses (cut again) second⟩
  · exact ⟨(badH bad).1.trans contactH.1, (badH bad).2.trans contactH.2⟩
  · obtain ⟨closed, none_⟩ := rightH good sense
    rw [first.work.2.2, getD _ _ _ _ contactH.1] at closed
    exact ⟨closed, none_⟩
  · obtain ⟨count, cut⟩ := wrongH good sense (by rw [contactH.1]; exact seen)
    rw [getD _ _ _ _ contactH.2] at count cut
    exact ⟨count, fun again => WiringCut.after first (cut again)⟩

/-- A contact that opens cuts its receptacle's ports (R669). -/
theorem opened {u : State} {e : Nat} (he : e < 4) (key : Nat) :
    let v := cutDie (contactOpen u key) e
    DieCut u v e ∧ v.mem = u.mem ∧ ((u.bw.closed.Pairwise fun a b => a.1 < b.1) → Tab.find key v.bw.closed = none) := by
  obtain ⟨cut, frame⟩ := cutDie_spec (contactOpen u key) he
  dsimp only
  generalize cutDie (contactOpen u key) e = v at cut frame ⊢
  have closed : v.bw.closed = Tab.del key u.bw.closed := congrArg Bw.closed (congrArg State.bw frame :)
  exact ⟨cut, (congrArg State.mem frame :), fun rise => by rw [closed]; exact find_del_same rise⟩

/-- A disagreement of the channels cuts the edge die (R661). -/
theorem disagreed {u : State} {e : Nat} (he : e < 4) :
    let v := { cutDie u e with bw := { (cutDie u e).bw with disagree := some e } }
    DieCut u v e ∧ v.bw.disagree = some e ∧ v.mem = u.mem := by
  obtain ⟨cut, frame⟩ := cutDie_spec u he
  dsimp only
  generalize cutDie u e = v at cut frame ⊢
  exact ⟨cut, rfl, (congrArg State.mem frame :)⟩

/-! ### Messages between chips (R676, R678 to R680) -/

/-- A PERMIT that is sent. -/
theorem permitSent (u : State) (p : Nat) :
    let v := modBwPort (sendSafety u p 1 0 0) p fun b => { b with permitDue := u.now + permitPeriod u }
    (∃ m ∈ (Tab.getD (TxChan.clear 0) 0 (portOf v p).tx).units, m.safety = true ∧ m.bytes = vc0Message u 7 0 0 (safetyBody u p 1 0 0)) ∧
    (bwPortOf v p).seq = ((bwPortOf u p).seq + 1) % 2 ^ 32 ∧ ((bwPortOf u p).seq, u.now) ∈ (bwPortOf v p).sent ∧
    (bwPortOf v p).permitDue = u.now + fieldAt u.plan.safety 2 2 * 1000000 ∧ v.mem = u.mem := by
  obtain ⟨acts, -, light, queued, -⟩ := sendSafety_spec u p 1 0 0
  dsimp only at acts light queued ⊢
  generalize sendSafety u p 1 0 0 = w at acts light queued ⊢
  have period : permitPeriod u = fieldAt u.plan.safety 2 2 * 1000000 := by rw [permitPeriod, safetyOf]
  have sent : bwPortOf (modBwPort w p fun b => { b with permitDue := u.now + permitPeriod u }) p = { bwPortOf u p with
      seq := ((bwPortOf u p).seq + 1) % 2 ^ 32
      sent := ((bwPortOf u p).seq, u.now) :: (bwPortOf u p).sent.filter fun x => decide (u.now ≤ x.2 + rttMax u)
      permitDue := u.now + permitPeriod u } := by
    rw [bwPortOf_modBwPort_same, light]
  have all := acts.trans (actsOnPort_modBwPort w p fun b => { b with permitDue := u.now + permitPeriod u })
  rw [← period, portOf_modBwPort]
  exact ⟨⟨_, queued, rfl, rfl⟩, by rw [sent], by rw [sent]; exact List.mem_cons_self, by rw [sent], all.keeps.1⟩

/-- Credits that are returned change what a port has received only. -/
theorem freeCredits_eq (s : State) (p vc : Nat) :
    ∃ (w : State) (rx : Port → Tab RxChan), freeCredits s p vc = modPort w p (fun x => { x with rx := rx x }) ∧ w.ports = s.ports := by
  unfold freeCredits
  dsimp only
  refine ⟨_, _, rfl, ?_⟩
  split
  · exact List.foldlRecOn _ _ (motive := fun acc : List Nat × State => acc.2.ports = s.ports) rfl fun acc h _ _ => h
  · rfl

/-- So every other port stays. -/
theorem portOf_freeCredits (s : State) (p vc : Nat) :
    (∃ rx, portOf (freeCredits s p vc) p = { portOf s p with rx := rx }) ∧ ∀ o, o ≠ p → portOf (freeCredits s p vc) o = portOf s o := by
  obtain ⟨w, rx, freed, ports⟩ := freeCredits_eq s p vc
  have same (o : Nat) : portOf w o = portOf s o := congrArg (Tab.getD Port.clear o) ports
  rw [freed]
  refine ⟨?_, fun o ne => (portOf_modPort_ne w p _ ne).trans (same o)⟩
  rw [portOf_modPort_same, same]
  exact ⟨_, rfl⟩

/-- A unit that leaves its receive buffer changes what its port has received and no other port. -/
theorem portOf_dropUnit (s : State) (p vc : Nat) :
    (∃ rx, portOf (dropUnit s p vc) p = { portOf s p with rx := rx }) ∧ ∀ o, o ≠ p → portOf (dropUnit s p vc) o = portOf s o := by
  obtain ⟨⟨rx, own⟩, others⟩ := portOf_freeCredits (modPort s p fun x =>
    let r := Tab.getD RxChan.clear vc x.rx
    { x with rx := Tab.put vc { r with units := r.units.tail } x.rx }) p vc
  refine ⟨⟨rx, own.trans ?_⟩, fun o ne => (others o ne).trans (portOf_modPort_ne s p _ ne)⟩
  rw [portOf_modPort_same]

/-- What a safety message is judged by stays when it leaves its buffer. -/
structure SameJudge (p : Nat) (u w : State) : Prop where
  far : (portOf w p).far = (portOf u p).far
  st : (portOf w p).st = (portOf u p).st
  since : (portOf w p).since = (portOf u p).since
  light : bwPortOf w p = bwPortOf u p
  plan : w.plan = u.plan
  now : w.now = u.now
  mem : w.mem = u.mem
  regs : ChangesRegs [.sqlStat] u w

/-- A message that leaves its buffer. -/
theorem sameJudge_dropUnit (u : State) (p : Nat) : SameJudge p u (dropUnit u p 0) := by
  obtain ⟨⟨rx, own⟩, -⟩ := portOf_dropUnit u p 0
  have returns := returnsCredits_dropUnit u p 0
  have frame := returns.frame
  exact ⟨by rw [own], by rw [own], by rw [own], congrArg (Tab.getD BwPort.clear p) (congrArg Bw.ports (congrArg State.bw frame :)),
    (congrArg State.plan frame :), (congrArg State.now frame :), (congrArg State.mem frame :), returns.toChangesRegs⟩

/-- It is judged as before. -/
theorem SameJudge.accepts {p : Nat} {u w : State} (h : SameJudge p u w) (body : List Byte) : safetyAccepts w p body = safetyAccepts u p body := by
  unfold safetyAccepts
  rw [h.far, h.light, h.plan]

/-- A PERMIT is timely as before. -/
theorem SameJudge.timely {p : Nat} {u w : State} (h : SameJudge p u w) (echo : Nat) : Machine.timely w p echo = Machine.timely u p echo := by
  unfold Machine.timely permitExpect rttMax safetyOf
  rw [h.since, h.light, h.plan, h.now]

/-- The rejections of a port within 10 ms. -/
def freshRejects (s : State) (p : Nat) : Nat := ((bwPortOf s p).rejects.filter fun t => decide (s.now ≤ t + 10000000000)).length

/-- A counter that is raised leaves a field of its register that it does not meet. -/
theorem rfield_rbump_apart {s : State} {r : Reg} {hi lo hi' lo' d i : Nat} (ok : s.regsOk) (hhi' : hi' < 64) (hap : hi < lo' ∨ hi' < lo)
    (n : Nat) : rfield (rbump s r hi lo i n d) r hi' lo' i d = rfield s r hi' lo' i d := by
  rw [rfield, rbump, rmod, rgetX_rputX_same ok, bumpField, bf_setBf_apart _ _ hhi' hap, rfield]

/-- A port in which a rejected message has been counted. -/
def rejectCounted (s : State) (p : Nat) : State :=
  modBwPort (rbump s .bwrPort 31 16 p) p fun b => { b with rejects := (s.now :: b.rejects.filter fun t => decide (s.now ≤ t + ms 10)).take 3 }

/-- The third rejected message reduces the port. -/
theorem rejectSafety_eq (s : State) (p : Nat) :
    rejectSafety s p =
      if (bwPortOf (rejectCounted s p) p).rejects.length < 3 then rejectCounted s p
      else if (bwPortOf (modBwPort (rejectCounted s p) p fun b => { b with rejects := [] }) p).level = 0
        then modBwPort (rejectCounted s p) p fun b => { b with rejects := [] }
      else reduceProbe (modBwPort (rejectCounted s p) p fun b => { b with rejects := [] }) p 5 := rfl

/-- What a rejection leaves of its port's registers, of memory and of the time. -/
def RejectKept (s v : State) (p : Nat) : Prop :=
  ChangesRegs [.bwrPort] s v ∧ rfield v .bwrPort 31 16 p = min (rfield s .bwrPort 31 16 p + 1) 65535 ∧
  rfield v .bwrPort 15 0 p = rfield s .bwrPort 15 0 p ∧ v.mem = s.mem ∧ v.now = s.now

/-- A rejection that is counted. -/
theorem rejectCounted_spec {s : State} (ok : s.regsOk) {p : Nat} (hp : p < 32) :
    RejectKept s (rejectCounted s p) p ∧ portOf (rejectCounted s p) p = portOf s p ∧
    bwPortOf (rejectCounted s p) p =
      { bwPortOf s p with rejects := (s.now :: (bwPortOf s p).rejects.filter fun t => decide (s.now ≤ t + ms 10)).take 3 } := by
  have hin : Reg.bwrPort.inRange 0 p := ⟨by decide, hp⟩
  have counted : WritesRegs [.bwrPort] s (rbump s .bwrPort 31 16 p) := writesRegs_rbump List.mem_cons_self hin ..
  have count : rfield (rbump s .bwrPort 31 16 p) .bwrPort 31 16 p = min (rfield s .bwrPort 31 16 p + 1) 65535 :=
    rfield_rbump_same ok (by decide) 1
  have apart : rfield (rbump s .bwrPort 31 16 p) .bwrPort 15 0 p = rfield s .bwrPort 15 0 p :=
    rfield_rbump_apart ok (by decide) (.inr (by decide)) 1
  refine ⟨⟨⟨counted.regsOk, counted.others⟩, count, apart, counted.mem, (congrArg State.now counted.frame :)⟩, rfl, ?_⟩
  rw [rejectCounted, bwPortOf_modBwPort_same]
  rfl

/-- An act on a port after it keeps that. -/
theorem RejectKept.acts {s w v : State} {p : Nat} (h : RejectKept s w p) (acts : ActsOnPort p w v) : RejectKept s v p := by
  obtain ⟨changes, count, apart, mem, now⟩ := h
  obtain ⟨memV, -, regs, nowV⟩ := acts.keeps
  have field (hi lo : Nat) : rfield v .bwrPort hi lo p = rfield w .bwrPort hi lo p := by rw [rfield, acts.reg, rfield]
  have same : ChangesRegs [] w v := ChangesRegs.of_eq regs
  have all := changes.trans same
  exact ⟨⟨all.regsOk, fun hr hin => all.others (by simpa using hr) hin⟩, (field 31 16).trans count, (field 15 0).trans apart,
    memV.trans mem, nowV.trans now⟩

/-- A rejected message is counted; the third within 10 ms reduces the port (R678). -/
theorem rejectSafety_spec {s : State} (ok : s.regsOk) {p : Nat} (hp : p < 32) :
    let v := rejectSafety s p
    RejectKept s v p ∧ (bwPortOf v p).acc = (bwPortOf s p).acc ∧ (bwPortOf v p).permitAt = (bwPortOf s p).permitAt ∧
    (bwPortOf v p).holdTill = (bwPortOf s p).holdTill ∧
    (freshRejects s p < 2 → (bwPortOf v p).level = (bwPortOf s p).level ∧ (bwPortOf v p).rejects.length = freshRejects s p + 1) ∧
    (2 ≤ freshRejects s p → (bwPortOf v p).rejects = [] ∧ ((bwPortOf s p).level ≠ 0 →
      (bwPortOf v p).level = 1 ∧ (bwPortOf v p).held = 5 ∧
      (portOf v p).st = if (portOf s p).st = 8 ∨ (portOf s p).st = 0 then (portOf s p).st else 1)) := by
  obtain ⟨kept, link, light⟩ := rejectCounted_spec ok hp
  dsimp only
  rw [rejectSafety_eq]
  generalize rejectCounted s p = w at kept link light ⊢
  have fresh : (bwPortOf w p).rejects.length = min 3 (freshRejects s p + 1) := by
    rw [light, List.length_take, List.length_cons, freshRejects]
  split
  · next few =>
    exact ⟨kept, by rw [light], by rw [light], by rw [light], fun two => ⟨by rw [light], by omega⟩, fun many => absurd few (by omega)⟩
  · next third =>
    have cleared := actsOnPort_modBwPort w p fun b => { b with rejects := [] }
    have lightX : bwPortOf (modBwPort w p fun b => { b with rejects := [] }) p = { bwPortOf s p with rejects := [] } := by
      rw [bwPortOf_modBwPort_same, light]
    have linkX : portOf (modBwPort w p fun b => { b with rejects := [] }) p = portOf s p := link
    generalize (modBwPort w p fun b => { b with rejects := [] }) = x at cleared lightX linkX ⊢
    have keptX := kept.acts cleared
    split
    · next dark =>
      rw [lightX] at dark
      exact ⟨keptX, by rw [lightX], by rw [lightX], by rw [lightX], fun few => absurd third (by omega),
        fun _ => ⟨by rw [lightX], fun lit => absurd dark lit⟩⟩
    · obtain ⟨reduced, acts, lightY⟩ := reduceProbe_spec x p 5
      obtain ⟨-, -, st, -⟩ := reduced
      rw [linkX] at st
      rw [lightX] at lightY
      exact ⟨keptX.acts acts, by rw [lightY], by rw [lightY], by rw [lightY], fun few => absurd third (by omega),
        fun _ => ⟨by rw [lightY], fun _ => ⟨by rw [lightY], by rw [lightY], st⟩⟩⟩

/-- A message that leaves its buffer and is rejected. -/
theorem rejectedMessage {u : State} (ok : u.regsOk) {p : Nat} (hp : p < 32) :
    let v := rejectSafety (dropUnit u p 0) p
    (v.regsOk ∧ rfield v .bwrPort 31 16 p = min (rfield u .bwrPort 31 16 p + 1) 65535 ∧
      rfield v .bwrPort 15 0 p = rfield u .bwrPort 15 0 p ∧ v.mem = u.mem ∧ v.now = u.now) ∧
      (bwPortOf v p).acc = (bwPortOf u p).acc ∧ (bwPortOf v p).permitAt = (bwPortOf u p).permitAt ∧
    (bwPortOf v p).holdTill = (bwPortOf u p).holdTill ∧
    (freshRejects u p < 2 → (bwPortOf v p).level = (bwPortOf u p).level ∧ (bwPortOf v p).rejects.length = freshRejects u p + 1) ∧
    (2 ≤ freshRejects u p → (bwPortOf v p).rejects = [] ∧ ((bwPortOf u p).level ≠ 0 →
      (bwPortOf v p).level = 1 ∧ (bwPortOf v p).held = 5 ∧
      (portOf v p).st = if (portOf u p).st = 8 ∨ (portOf u p).st = 0 then (portOf u p).st else 1)) := by
  have judge := sameJudge_dropUnit u p
  obtain ⟨kept, rest⟩ := rejectSafety_spec (judge.regs.regsOk ok) hp
  have fresh : freshRejects (dropUnit u p 0) p = freshRejects u p := by rw [freshRejects, judge.light, judge.now, freshRejects]
  dsimp only at kept rest ⊢
  rw [fresh, judge.light, judge.st] at rest
  refine ⟨?_, rest⟩
  obtain ⟨changes, count, apart, mem, now⟩ := kept
  have hin : Reg.bwrPort.inRange 0 p := ⟨by decide, hp⟩
  have field (hi lo : Nat) := judge.regs.rfield (r := .bwrPort) (by decide) hin hi lo
  rw [field] at count apart
  exact ⟨changes.regsOk (judge.regs.regsOk ok), count, apart, mem.trans judge.mem, now.trans judge.now⟩

/-- A PERMIT that both channels accept (R679). -/
theorem permitTaken (u : State) (p : Nat) (body : List Byte) :
    let w := dropUnit u p 0
    let v := modBwPort w p fun b => { b with
      acc := some (fieldAt body 8 4), permitAt := if timely w p (fieldAt body 12 4) then w.now else b.permitAt }
    (bwPortOf v p).acc = some (fieldAt body 8 4) ∧ (bwPortOf v p).level = (bwPortOf u p).level ∧
    (bwPortOf v p).permitAt = (if timely u p (fieldAt body 12 4) = true then u.now else (bwPortOf u p).permitAt) ∧ v.mem = u.mem := by
  have judge := sameJudge_dropUnit u p
  dsimp only
  rw [judge.timely, judge.now]
  generalize dropUnit u p 0 = w at judge ⊢
  have taken : bwPortOf (modBwPort w p fun b => { b with
      acc := some (fieldAt body 8 4), permitAt := if timely u p (fieldAt body 12 4) then u.now else b.permitAt }) p = { bwPortOf u p with
      acc := some (fieldAt body 8 4), permitAt := if timely u p (fieldAt body 12 4) then u.now else (bwPortOf u p).permitAt } := by
    rw [bwPortOf_modBwPort_same, judge.light]
  have acts := actsOnPort_modBwPort w p fun b => { b with
      acc := some (fieldAt body 8 4), permitAt := if timely u p (fieldAt body 12 4) then u.now else b.permitAt }
  exact ⟨by rw [taken], by rw [taken], by rw [taken], acts.keeps.1.trans judge.mem⟩

/-- The hold of a SHUTDOWN on a port (R680). -/
def shutdownHeld (s : State) (p : Nat) (body : List Byte) : State :=
  let s := rbump (cutOff s p) .bwrPort 15 0 p
  modBwPort s p fun b => { b with acc := some (fieldAt body 8 4), holdTill := some (s.now + ms (fieldAt body 18 2)) }

/-- A SHUTDOWN that is accepted cuts its port. -/
theorem shutdownHeld_spec {s : State} (ok : s.regsOk) {p : Nat} (hp : p < 32) (body : List Byte) :
    let v := shutdownHeld s p body
    CutToOff v p ∧ (bwPortOf v p).holdTill = some (s.now + fieldAt body 18 2 * 1000000000) ∧
    (bwPortOf v p).acc = some (fieldAt body 8 4) ∧ rfield v .bwrPort 15 0 p = min (rfield s .bwrPort 15 0 p + 1) 65535 ∧
    rfield v .bwrPort 31 16 p = rfield s .bwrPort 31 16 p ∧ v.mem = s.mem := by
  obtain ⟨⟨level, test, st⟩, acts, light⟩ := cutOff_spec s p
  obtain ⟨mem, -, regs, now⟩ := acts.keeps
  have okc := regsOk_of_regs regs ok
  have field (hi lo : Nat) : rfield (cutOff s p) .bwrPort hi lo p = rfield s .bwrPort hi lo p := by rw [rfield, acts.reg, rfield]
  dsimp only
  rw [shutdownHeld]
  generalize cutOff s p = c at *
  have hin : Reg.bwrPort.inRange 0 p := ⟨by decide, hp⟩
  have counted : WritesRegs [.bwrPort] c (rbump c .bwrPort 15 0 p) := writesRegs_rbump List.mem_cons_self hin ..
  have count : rfield (rbump c .bwrPort 15 0 p) .bwrPort 15 0 p = min (rfield c .bwrPort 15 0 p + 1) 65535 :=
    rfield_rbump_same okc (by decide) 1
  have apart : rfield (rbump c .bwrPort 15 0 p) .bwrPort 31 16 p = rfield c .bwrPort 31 16 p :=
    rfield_rbump_apart okc (by decide) (.inl (by decide)) 1
  have lightR : bwPortOf (rbump c .bwrPort 15 0 p) p = bwPortOf c p := rfl
  have linkR : portOf (rbump c .bwrPort 15 0 p) p = portOf c p := rfl
  have nowR : (rbump c .bwrPort 15 0 p).now = s.now := now
  have memR : (rbump c .bwrPort 15 0 p).mem = s.mem := mem
  rw [field] at count apart
  generalize rbump c .bwrPort 15 0 p = r at *
  have held := actsOnPort_modBwPort r p fun b => { b with acc := some (fieldAt body 8 4), holdTill := some (r.now + ms (fieldAt body 18 2)) }
  have lightV : bwPortOf (modBwPort r p fun b => { b with
      acc := some (fieldAt body 8 4), holdTill := some (r.now + ms (fieldAt body 18 2)) }) p = { bwPortOf c p with
      acc := some (fieldAt body 8 4), holdTill := some (s.now + fieldAt body 18 2 * 1000000000) } := by
    rw [bwPortOf_modBwPort_same, lightR, nowR]
  have fieldV (hi lo : Nat) : rfield (modBwPort r p fun b => { b with
      acc := some (fieldAt body 8 4), holdTill := some (r.now + ms (fieldAt body 18 2)) }) .bwrPort hi lo p = rfield r .bwrPort hi lo p := by
    rw [rfield, held.reg, rfield]
  refine ⟨⟨?_, ?_, ?_⟩, by rw [lightV], by rw [lightV], (fieldV 15 0).trans count, (fieldV 31 16).trans apart, held.keeps.1.trans memR⟩
  · rw [lightV]
    exact level
  · rw [lightV]
    exact test
  · rw [portOf_modBwPort, linkR]
    exact st

/-! ### Brake tests (R671 to R674) -/

/-- A decision rests on what the state before shows of Breakwater. -/
theorem LockoutDecided.of_same {u u' v : State} {cause : Nat} (h : LockoutDecided u v cause)
    (bw : u'.bw.armAt = u.bw.armAt ∧ u'.bw.confirm = u.bw.confirm ∧ u'.bw.entry = u.bw.entry) (now : u'.now = u.now)
    (status : rget u' .bwrStatus = rget u .bwrStatus) (st : ∀ p, (portOf u' p).st = (portOf u p).st) : LockoutDecided u' v cause := by
  obtain ⟨armAt, confirm, entry⟩ := bw
  have lock : inLockout u' = inLockout u := by rw [inLockout, status, inLockout]
  have field (hi lo : Nat) : rfield u' .bwrStatus hi lo = rfield u .bwrStatus hi lo := by
    show bf (rget u' .bwrStatus) hi lo = bf (rget u .bwrStatus) hi lo
    rw [status]
  unfold LockoutDecided at h ⊢
  simp only [armAt, confirm, entry, now, lock, field, st]
  exact h

/-- The word of BWR_LAST_TEST for a check. -/
def lastTest (u : State) (n : Nat) (second ok : Bool) : Word :=
  word (tideNo u % 2 ^ 48 * 2 ^ 16 + n * 64 + second.toNat * 32 + ok.toNat)

/-- A failed check cuts its port and decides a lock-out. -/
theorem checkFailed {u : State} (ok : u.regsOk) (n : Nat) (w : Word) :
    let v := decideLockout (cutOff (rput u .bwrLastTest w) n) 1
    rget v .bwrLastTest = w ∧ v.mem = u.mem ∧ CutToOff v n ∧ LockoutDecided (cutOff u n) v 1 := by
  have writes : WritesRegs [.bwrLastTest] u (rput u .bwrLastTest w) := writesRegs_rputX List.mem_cons_self ⟨by decide, by decide⟩ ..
  have shown : rget (rput u .bwrLastTest w) .bwrLastTest = w := rgetX_rputX_same ok ..
  have ports (o : Nat) : portOf (rput u .bwrLastTest w) o = portOf u o := rfl
  have bw : (rput u .bwrLastTest w).bw = u.bw := rfl
  have now : (rput u .bwrLastTest w).now = u.now := rfl
  have okr := writes.regsOk ok
  generalize rput u .bwrLastTest w = r at *
  obtain ⟨cut, acts, -⟩ := cutOff_spec r n
  obtain ⟨cutU, actsU, -⟩ := cutOff_spec u n
  have okc := regsOk_of_regs acts.keeps.2.2.1 okr
  obtain ⟨decided, mem, -, changes, others⟩ := decideLockout_spec okc (cause := 1) (by decide)
  have dark := others n (by rw [cut.2.2]; decide)
  have bwC : (cutOff r n).bw = { r.bw with ports := (cutOff r n).bw.ports } := (congrArg State.bw acts.frame :)
  have bwU : (cutOff u n).bw = { u.bw with ports := (cutOff u n).bw.ports } := (congrArg State.bw actsU.frame :)
  refine ⟨?_, mem.trans (acts.keeps.1.trans writes.mem), ?_, decided.of_same ?_ ?_ ?_ fun p => ?_⟩
  · rw [rget, changes.others (by decide) ⟨by decide, by decide⟩, acts.reg]
    exact shown
  · unfold CutToOff
    rw [dark.1, dark.2]
    exact cut
  · rw [bwC, bwU, bw]
    exact ⟨rfl, rfl, rfl⟩
  · rw [acts.keeps.2.2.2, actsU.keeps.2.2.2, now]
  · rw [rget, rget, acts.reg, actsU.reg]
    exact (writes.others (by decide) ⟨by decide, by decide⟩).symm
  · by_cases same : p = n
    · rw [same, cut.2.2, cutU.2.2]
    · rw [(acts.others p same).1, (actsU.others p same).1, ports]

/-- A first check that passes is followed by the second. -/
theorem firstPassed {u : State} (ok : u.regsOk) {n t0 : Nat} (w : Word) (test : (bwPortOf u n).test = some (t0, false)) :
    let v := modBwPort (rput u .bwrLastTest w) n fun b => { b with test := b.test.map fun x => (x.1, true) }
    rget v .bwrLastTest = w ∧ v.mem = u.mem ∧ bwPortOf v n = { bwPortOf u n with test := some (t0, true) } ∧ v.ports = u.ports := by
  refine ⟨rgetX_rputX_same ok .., rfl, ?_, rfl⟩
  rw [bwPortOf_modBwPort_same]
  show { bwPortOf u n with test := (bwPortOf u n).test.map fun x : Nat × Bool => (x.1, true) } = _
  rw [test]
  rfl

/-- A second check that passes ends the test and returns the level. -/
theorem secondPassed {u : State} (ok : u.regsOk) (n : Nat) (w : Word) :
    let r := rput u .bwrLastTest w
    let v := modBwPort (setLevel (endTest r n) n (bwPortOf r n).was) n fun b => { b with tested := true, passed := some r.now }
    rget v .bwrLastTest = w ∧ v.mem = u.mem ∧ (bwPortOf v n).level = (bwPortOf u n).was ∧ (bwPortOf v n).test = none ∧
    (bwPortOf v n).tested = true ∧ (bwPortOf v n).passed = some u.now ∧ (portOf v n).st = (portOf u n).st := by
  have shown : rget (rput u .bwrLastTest w) .bwrLastTest = w := rgetX_rputX_same ok ..
  have port : portOf (rput u .bwrLastTest w) n = portOf u n := rfl
  have light : bwPortOf (rput u .bwrLastTest w) n = bwPortOf u n := rfl
  have now : (rput u .bwrLastTest w).now = u.now := rfl
  have mem : (rput u .bwrLastTest w).mem = u.mem := rfl
  dsimp only
  generalize rput u .bwrLastTest w = r at *
  obtain ⟨ended, link, bare⟩ := endTest_spec r n
  have levelled := actsOnPort_setLevel (endTest r n) n (bwPortOf r n).was
  have lightL : bwPortOf (setLevel (endTest r n) n (bwPortOf r n).was) n = { bwPortOf u n with test := none, level := (bwPortOf u n).was } := by
    rw [bwPortOf_setLevel, bare, light]
  have linkL : portOf (setLevel (endTest r n) n (bwPortOf r n).was) n = { portOf u n with ackDue := ackExpiry r n } := by
    rw [portOf_setLevel, link, port]
  have acts := ended.trans levelled
  generalize setLevel (endTest r n) n (bwPortOf r n).was = x at *
  have marked := acts.trans (actsOnPort_modBwPort x n fun b => { b with tested := true, passed := some r.now })
  have lightV : bwPortOf (modBwPort x n fun b => { b with tested := true, passed := some r.now }) n =
      { bwPortOf u n with test := none, level := (bwPortOf u n).was, tested := true, passed := some u.now } := by
    rw [bwPortOf_modBwPort_same, lightL, now]
  refine ⟨?_, marked.keeps.1.trans mem, by rw [lightV], by rw [lightV], by rw [lightV], by rw [lightV], ?_⟩
  · rw [rget, marked.reg]
    exact shown
  · rw [portOf_modBwPort, linkL]

end Sys2Proof.Machine
end

section
/-! PROOFS. Breakwater governs the light (O58), assembled. -/

namespace Sys2Proof.Machine

/-! ### Commands of one port -/

section
variable {s : State} {p t : Nat} (hp : p < 32)
include hp

/-- PORT_PROBE_START (R499). -/
theorem portProbeStart_spec (off : (portOf (s.at t) p).st = 0) (inForce : (s.at t).img.inForce = true) (isSealed : (s.at t).img.isSealed = true)
    (fold : (s.at t).pwr.fold = none) (entropy : (s.at t).sec.badSince = none) (allowed : lightAllowed (s.at t) p = true) :
    Answers (.portProbeStart p t) s fun s' =>
      (portOf s' p).st = 1 ∧ (bwPortOf s' p).level = 1 ∧ (portOf s' p).txExt = 0 ∧ (portOf s' p).rxExt = 0 ∧
      (portOf s' p).replayBuf = [] ∧ (portOf s' p).far = [] ∧
      ((portOf (s.at t) p).nonce ≠ [] → (portOf s' p).session = ((portOf (s.at t) p).session + 1) % 2 ^ 32) ∧
      ∀ o, o ≠ p → portOf s' o = portOf (s.at t) o ∧ bwPortOf s' o = bwPortOf (s.at t) o := by
  refine ⟨_, (whenEnabled_of_true ?on : execPortProbeStart p t s = _), probeStarted (s.at t) p⟩
  case on => simp only [hp, off, inForce, isSealed, fold, entropy, allowed, decide_true, beq_self_eq_true, Option.isNone_none, Bool.and_self]

/-- FULL_POWER_GRANT (R664, R673). -/
theorem fullPowerGrant_spec (may : mayGrant (s.at t) p = true) :
    ((bwPortOf (s.at t) p).tested = true → Answers (.fullPowerGrant p t) s fun s' =>
      (portOf s' p).st = 2 ∧ (portOf s' p).since = (s.at t).now ∧ (bwPortOf s' p).level = 2 ∧ (bwPortOf s' p).held = 0 ∧
      (∀ o, o ≠ p → portOf s' o = portOf (s.at t) o ∧ bwPortOf s' o = bwPortOf (s.at t) o) ∧ s'.mem = (s.at t).mem) ∧
    ((bwPortOf (s.at t) p).tested = false → Answers (.fullPowerGrant p t) s fun s' =>
      s'.ports = (s.at t).ports ∧ bwPortOf s' p = { bwPortOf (s.at t) p with level := 3, was := 1, test := some ((s.at t).now, false) } ∧
      (∀ o, o ≠ p → bwPortOf s' o = bwPortOf (s.at t) o) ∧ s'.mem = (s.at t).mem) := by
  have runs : exec (.fullPowerGrant p t) s = .next (if (bwPortOf (s.at t) p).tested then
      enterTrain (modBwPort (setLevel (s.at t) p 2) p fun b => { b with held := 0 }) p else startTest (s.at t) p) := by
    refine (whenEnabled_of_true ?on : execFullPowerGrant p t s = _)
    case on => simp only [hp, may, decide_true, Bool.and_self]
  have probe : (bwPortOf (s.at t) p).level = 1 := by
    simp only [mayGrant, Bool.and_eq_true, beq_iff_eq] at may
    exact may.1.1.2
  refine ⟨fun tested => ?_, fun untested => ?_⟩
  · rw [tested] at runs
    exact ⟨_, runs, granted (s.at t) p⟩
  · rw [untested] at runs
    obtain ⟨acts, ports, light⟩ := startTest_spec (s.at t) p
    rw [probe] at light
    exact ⟨_, runs, ports, light, fun o ne => (acts.others o ne).2, acts.keeps.1⟩

/-- APR_REDUCE (R665). -/
theorem aprReduce_spec (lit : 2 ≤ (bwPortOf (s.at t) p).level) (dark : (portOf (s.at t) p).light = none)
    (span : (portOf (s.at t) p).losAt + 50000000 ≤ (s.at t).now) :
    Answers (.aprReduce p t) s fun s' => ReducedToProbe (s.at t) s' p := by
  have late : (portOf (s.at t) p).losAt + us 50 ≤ (s.at t).now := span
  refine ⟨_, (whenEnabled_of_true ?on : execAprReduce p t s = _), (reduceProbe_spec (s.at t) p 0).1⟩
  case on => simp only [hp, lit, dark, late, decide_true, Option.isNone_none, Bool.and_self]

/-- OVER_POWER (R654). -/
theorem overPower_spec (ok : (s.at t).regsOk) {chan : Channel} (lit : (bwPortOf (s.at t) p).level ≠ 0)
    (good : channelBad (s.at t) chan (p % 4) = false) :
    Answers (.overPower p chan t) s fun s' =>
      CutToOff s' p ∧ (∀ o, o ≠ p → portOf s' o = portOf (s.at t) o ∧ bwPortOf s' o = bwPortOf (s.at t) o) ∧
      (∀ n < 64, bitAt (rget s' .bwrIntlk) n = (bitAt (rget (s.at t) .bwrIntlk) n || n == 4 * (p % 4) + 3)) ∧ s'.mem = (s.at t).mem := by
  refine ⟨_, (whenEnabled_of_true ?on : execOverPower p chan t s = _), overPowered ok p⟩
  case on => simp only [hp, lit, good, decide_true, ne_eq, not_false_eq_true, Bool.not_false, Bool.and_self]

/-- CHANNEL_DISCREPANCY (R661). -/
theorem channelDiscrepancy_spec (on : (s.at t).bw.sfOn = true) (none_ : (s.at t).bw.disagree = none) :
    Answers (.channelDiscrepancy p t) s fun s' =>
      DieCut (s.at t) s' (p % 4) ∧ s'.bw.disagree = some (p % 4) ∧ s'.mem = (s.at t).mem := by
  refine ⟨_, (whenEnabled_of_true ?on : execChannelDiscrepancy p t s = _), disagreed (Nat.mod_lt p (by decide))⟩
  case on => simp only [hp, on, none_, decide_true, Option.isNone_none, Bool.and_self]

/-- PERMIT_SEND (R676). -/
theorem permitSend_spec (active : (portOf (s.at t) p).st = 4) (on : (s.at t).bw.sfOn = true)
    (due : (bwPortOf (s.at t) p).permitDue ≤ (s.at t).now) :
    Answers (.permitSend p t) s fun s' =>
      (∃ m ∈ (Tab.getD (TxChan.clear 0) 0 (portOf s' p).tx).units,
        m.safety = true ∧ m.bytes = vc0Message (s.at t) 7 0 0 (safetyBody (s.at t) p 1 0 0)) ∧
      (bwPortOf s' p).seq = ((bwPortOf (s.at t) p).seq + 1) % 2 ^ 32 ∧ ((bwPortOf (s.at t) p).seq, (s.at t).now) ∈ (bwPortOf s' p).sent ∧
      (bwPortOf s' p).permitDue = (s.at t).now + fieldAt (s.at t).plan.safety 2 2 * 1000000 ∧ s'.mem = (s.at t).mem := by
  refine ⟨_, (whenEnabled_of_true ?on : execPermitSend p t s = _), permitSent (s.at t) p⟩
  case on => simp only [hp, active, on, due, decide_true, beq_self_eq_true, Bool.and_self]

/-- PERMIT_LOSS (R679). -/
theorem permitLoss_spec (active : (portOf (s.at t) p).st = 4)
    (late : (bwPortOf (s.at t) p).permitAt + fieldAt (s.at t).plan.safety 4 2 * 1000000 ≤ (s.at t).now) :
    Answers (.permitLoss p t) s fun s' => ReducedToProbe (s.at t) s' p ∧ (bwPortOf s' p).held = 5 := by
  have expect : (bwPortOf (s.at t) p).permitAt + permitExpect (s.at t) ≤ (s.at t).now := by
    rw [permitExpect, safetyOf]
    exact late
  obtain ⟨reduced, -, light⟩ := reduceProbe_spec (s.at t) p 5
  refine ⟨_, (whenEnabled_of_true ?on : execPermitLoss p t s = _), reduced, by rw [light]⟩
  case on => simp only [hp, active, expect, decide_true, beq_self_eq_true, Bool.and_self]

/-- SHUTDOWN_HOLD_END (R680). -/
theorem shutdownHoldEnd_spec {d : Nat} (hold : (bwPortOf (s.at t) p).holdTill = some d) (past : d ≤ (s.at t).now) :
    Answers (.shutdownHoldEnd p t) s fun s' =>
      bwPortOf s' p = { bwPortOf (s.at t) p with holdTill := none } ∧ s' = { s.at t with bw := s'.bw } := by
  refine ⟨_, (whenEnabled_of_true ?on : execShutdownHoldEnd p t s = _), bwPortOf_modBwPort_same .., rfl⟩
  case on =>
    rw [hold]
    simp only [hp, due, past, decide_true, Bool.and_self]

/-- BRAKE_TEST_OVERDUE (R674). -/
theorem brakeTestOverdue_spec (full : (bwPortOf (s.at t) p).level = 2) (late : overdue (s.at t) p = true) :
    Answers (.brakeTestOverdue p t) s fun s' => ReducedToProbe (s.at t) s' p := by
  refine ⟨_, (whenEnabled_of_true ?on : execBrakeTestOverdue p t s = _), (reduceProbe_spec (s.at t) p 0).1⟩
  case on => simp only [hp, full, late, decide_true, beq_self_eq_true, Bool.and_self]

end

/-! ### Messages -/

section
variable {s : State} {p t : Nat} {b : List Byte} (message : MessageAt (s.at t) p 7 b)
include message

/-- The first message of VC0 is a safety message with this body. -/
theorem safetyHead_of_messageAt : headIs (s.at t) p 7 = true ∧ safetyHead (s.at t) p = b.drop 16 := by
  obtain ⟨-, head, type⟩ := message
  rw [headIs, safetyHead, head]
  exact ⟨beq_iff_eq.2 type, rfl⟩

/-- PERMIT takes it where it is no SHUTDOWN (R679). -/
theorem exec_permit (kind : fieldAt (b.drop 16) 0 1 ≠ 2) :
    exec (.permit p t) s = .next (
      if !((safetyAccepts (s.at t) p (b.drop 16)).1 && (safetyAccepts (s.at t) p (b.drop 16)).2)
      then rejectSafety (dropUnit (s.at t) p 0) p
      else modBwPort (dropUnit (s.at t) p 0) p fun y => { y with
        acc := some (fieldAt (b.drop 16) 8 4)
        permitAt := if timely (dropUnit (s.at t) p 0) p (fieldAt (b.drop 16) 12 4) then (dropUnit (s.at t) p 0).now else y.permitAt }) := by
  obtain ⟨head, body⟩ := safetyHead_of_messageAt message
  refine (whenEnabled_of_true ?on : execPermit p t s = _).trans (congrArg _ ?_)
  case on => simp only [message.1, head, body, bne_iff_ne.2 kind, decide_true, Bool.and_self]
  dsimp only
  rw [body]

/-- SHUTDOWN takes it where it is one (R680). -/
theorem exec_shutdown (kind : fieldAt (b.drop 16) 0 1 = 2) :
    exec (.shutdown p t) s = .next (
      let ok := safetyAccepts (s.at t) p (b.drop 16)
      let r := if ok.1 && ok.2 then dropUnit (s.at t) p 0 else rejectSafety (dropUnit (s.at t) p 0) p
      if !(ok.1 || ok.2) then r else shutdownHeld r p (b.drop 16)) := by
  obtain ⟨head, body⟩ := safetyHead_of_messageAt message
  refine (whenEnabled_of_true ?on : execShutdown p t s = _).trans (congrArg _ ?_)
  case on => simp only [message.1, head, body, kind, decide_true, beq_self_eq_true, Bool.and_self]
  dsimp only [shutdownHeld]
  rw [body]

/-- PERMIT (R678, R679). -/
theorem permit_spec (ok : (s.at t).regsOk) (kind : fieldAt (b.drop 16) 0 1 ≠ 2) :
    (safetyAccepts (s.at t) p (b.drop 16) = (true, true) → Answers (.permit p t) s fun s' =>
      (bwPortOf s' p).acc = some (fieldAt (b.drop 16) 8 4) ∧ (bwPortOf s' p).level = (bwPortOf (s.at t) p).level ∧
      (bwPortOf s' p).permitAt =
        (if timely (s.at t) p (fieldAt (b.drop 16) 12 4) = true then (s.at t).now else (bwPortOf (s.at t) p).permitAt) ∧
      s'.mem = (s.at t).mem) ∧
    (safetyAccepts (s.at t) p (b.drop 16) ≠ (true, true) → Answers (.permit p t) s fun s' =>
      rfield s' .bwrPort 31 16 p = min (rfield (s.at t) .bwrPort 31 16 p + 1) 65535 ∧
      (bwPortOf s' p).acc = (bwPortOf (s.at t) p).acc ∧ (bwPortOf s' p).permitAt = (bwPortOf (s.at t) p).permitAt ∧
      (freshRejects (s.at t) p < 2 →
        (bwPortOf s' p).level = (bwPortOf (s.at t) p).level ∧ (bwPortOf s' p).rejects.length = freshRejects (s.at t) p + 1) ∧
      (2 ≤ freshRejects (s.at t) p → (bwPortOf s' p).rejects = [] ∧ ((bwPortOf (s.at t) p).level ≠ 0 →
        (bwPortOf s' p).level = 1 ∧ (bwPortOf s' p).held = 5 ∧
        (portOf s' p).st = if (portOf (s.at t) p).st = 8 ∨ (portOf (s.at t) p).st = 0 then (portOf (s.at t) p).st else 1)) ∧
      s'.mem = (s.at t).mem) := by
  have runs := exec_permit message kind
  refine ⟨fun both => ?_, fun rejected => ?_⟩
  · rw [both] at runs
    exact ⟨_, runs, permitTaken (s.at t) p (b.drop 16)⟩
  · have refused : ((safetyAccepts (s.at t) p (b.drop 16)).1 && (safetyAccepts (s.at t) p (b.drop 16)).2) = false := by
      refine Bool.eq_false_iff.2 fun both => rejected ?_
      obtain ⟨first, second⟩ := Bool.and_eq_true_iff.1 both
      exact Prod.ext first second
    rw [refused] at runs
    obtain ⟨⟨-, count, -, mem, -⟩, acc, permitAt, -, few, many⟩ := rejectedMessage ok message.1
    exact ⟨_, runs, count, acc, permitAt, few, many, mem⟩

/-- SHUTDOWN (R678, R680). -/
theorem shutdown_spec (ok : (s.at t).regsOk) (kind : fieldAt (b.drop 16) 0 1 = 2) :
    (((safetyAccepts (s.at t) p (b.drop 16)).1 || (safetyAccepts (s.at t) p (b.drop 16)).2) = true → Answers (.shutdown p t) s fun s' =>
      CutToOff s' p ∧ (bwPortOf s' p).holdTill = some ((s.at t).now + fieldAt (b.drop 16) 18 2 * 1000000000) ∧
      (bwPortOf s' p).acc = some (fieldAt (b.drop 16) 8 4) ∧
      rfield s' .bwrPort 15 0 p = min (rfield (s.at t) .bwrPort 15 0 p + 1) 65535 ∧
      (safetyAccepts (s.at t) p (b.drop 16) ≠ (true, true) →
        rfield s' .bwrPort 31 16 p = min (rfield (s.at t) .bwrPort 31 16 p + 1) 65535) ∧ s'.mem = (s.at t).mem) ∧
    (safetyAccepts (s.at t) p (b.drop 16) = (false, false) → Answers (.shutdown p t) s fun s' =>
      rfield s' .bwrPort 31 16 p = min (rfield (s.at t) .bwrPort 31 16 p + 1) 65535 ∧
      (bwPortOf s' p).holdTill = (bwPortOf (s.at t) p).holdTill ∧
      (freshRejects (s.at t) p < 2 → (bwPortOf s' p).level = (bwPortOf (s.at t) p).level) ∧ s'.mem = (s.at t).mem) := by
  have runs := exec_shutdown message kind
  have rejects := rejectedMessage ok message.1
  have hin : Reg.bwrPort.inRange 0 p := ⟨by decide, message.1⟩
  dsimp only at runs rejects
  refine ⟨fun one => ?_, fun none_ => ?_⟩
  · rw [one, Bool.not_true, if_neg Bool.false_ne_true] at runs
    by_cases both : (safetyAccepts (s.at t) p (b.drop 16)).1 && (safetyAccepts (s.at t) p (b.drop 16)).2
    · rw [if_pos both] at runs
      have judge := sameJudge_dropUnit (s.at t) p
      obtain ⟨cut, hold, acc, count, -, mem⟩ := shutdownHeld_spec (judge.regs.regsOk ok) message.1 (b.drop 16)
      rw [judge.now] at hold
      rw [judge.regs.rfield (by decide) hin] at count
      obtain ⟨first, second⟩ := Bool.and_eq_true_iff.1 both
      exact ⟨_, runs, cut, hold, acc, count, fun rejected => absurd (Prod.ext first second) rejected, mem.trans judge.mem⟩
    · rw [if_neg both] at runs
      obtain ⟨⟨okR, countR, apartR, memR, nowR⟩, -⟩ := rejects
      obtain ⟨cut, hold, acc, count, apart, mem⟩ := shutdownHeld_spec okR message.1 (b.drop 16)
      rw [nowR] at hold
      rw [apartR] at count
      exact ⟨_, runs, cut, hold, acc, count, fun _ => apart.trans countR, mem.trans memR⟩
  · rw [none_] at runs
    obtain ⟨⟨-, count, -, mem, -⟩, -, -, hold, few, -⟩ := rejects
    exact ⟨_, runs, count, hold, fun h => (few h).1, mem⟩

end

/-! ### Commands of an edge die -/

section
variable {s : State} {e t : Nat} (he : e < 4)
include he

/-- INTERLOCK_PULSE (R668, R670). -/
theorem interlockPulse_spec (ok : (s.at t).regsOk) (on : (s.at t).bw.sfOn = true) (a b : Bool) :
    Answers (.interlockPulse e a b t) s fun s' => ContactsRise (s.at t) →
      ContactClause (s.at t) s' e .p (2 * e) a ∧ ContactClause (s.at t) s' e .h (2 * e + 1) b ∧
      s'.mem = (s.at t).mem ∧ s'.ctxs = (s.at t).ctxs := by
  have runs : exec (.interlockPulse e a b t) s =
      .next (channelPulse (channelPulse (s.at t) e .p (2 * e) a) e .h (2 * e + 1) b) := by
    unfold channelPulse
    refine (whenEnabled_of_true ?on : execInterlockPulse e a b t s = _)
    case on => simp only [he, on, decide_true, Bool.and_self]
  exact ⟨_, runs, periodPulsed ok he a b⟩

/-- INTERLOCK_OPEN (R669). -/
theorem interlockOpen_spec (chan : Channel) : channelBad (s.at t) chan e = false →
    Answers (.interlockOpen e chan t) s fun s' =>
      DieCut (s.at t) s' e ∧ s'.mem = (s.at t).mem ∧
      (((s.at t).bw.closed.Pairwise fun a b => a.1 < b.1) →
        Tab.find (2 * e + (match chan with | .p => 0 | .h => 1)) s'.bw.closed = none) := by
  intro good
  refine ⟨_, (whenEnabled_of_true ?on : execInterlockOpen e chan t s = _), opened he _⟩
  case on => simp only [he, good, decide_true, Bool.not_false, Bool.and_self]

/-- BRAKE_TEST_START (R671). -/
theorem brakeTestStart_spec {n : Nat} (on : (s.at t).bw.sfOn = true) (running : (s.at t).tide.running = true)
    (open_ : (s.at t).tide.sampled = false) (bay : (s.at t).tide.bay = safetyOf (s.at t) 12 1)
    (occurs : bayOccurs (s.at t) (safetyOf (s.at t) 12 1) = true) (begun : brakeMoment (s.at t) ≤ (s.at t).now)
    (room : (s.at t).now + us 60 ≤ bayEndAt (s.at t) (s.at t).tide.bay)
    (fresh : ∀ a, Tab.find e (s.at t).bw.testAt = some a → a < (s.at t).tide.tick) (port : brakePort (s.at t) e = some n) :
    Answers (.brakeTestStart e t) s fun s' =>
      bwPortOf s' n = { bwPortOf (s.at t) n with level := 3, was := (bwPortOf (s.at t) n).level, test := some ((s.at t).now, false) } ∧
      (∀ o, o ≠ n → bwPortOf s' o = bwPortOf (s.at t) o) ∧ s'.ports = (s.at t).ports ∧ s'.mem = (s.at t).mem := by
  have first : (match Tab.find e (s.at t).bw.testAt with | some a => decide (a < (s.at t).tide.tick) | none => true) = true := by
    split
    · next a found => exact decide_eq_true (fresh a found)
    · rfl
  obtain ⟨acts, ports, light⟩ := startTest_spec (s.at t) n
  have runs : exec (.brakeTestStart e t) s = .next { startTest (s.at t) n with
      bw := { (startTest (s.at t) n).bw with testAt := Tab.put e (s.at t).now (startTest (s.at t) n).bw.testAt } } := by
    refine (whenEnabled_of_true ?on : execBrakeTestStart e t s = _).trans (congrArg _ ?_)
    case on =>
      simp only [he, on, running, open_, bay, occurs, begun, port, decide_true, beq_self_eq_true, Bool.not_false, Bool.and_self,
        Option.isSome_some, Bool.true_and, Bool.and_true]
      rw [decide_eq_true (bay ▸ room), Bool.true_and]
      exact first
    rw [port]
    rfl
  exact ⟨_, runs, light, fun o ne => (acts.others o ne).2, ports, acts.keeps.1⟩

/-- BRAKE_TEST_CHECK (R672, R673). -/
theorem brakeTestCheck_spec {n t0 : Nat} {monP monH second : Bool} (ok : (s.at t).regsOk) (port : checkPort (s.at t) e = some n)
    (test : (bwPortOf (s.at t) n).test = some (t0, second)) :
    Answers (.brakeTestCheck e monP monH t) s fun s' =>
      rget s' .bwrLastTest = word (tideNo (s.at t) % 2 ^ 48 * 2 ^ 16 + n * 64 + second.toNat * 32 + (monP && monH).toNat) ∧
      s'.mem = (s.at t).mem ∧
      ((monP && monH) = false → CutToOff s' n ∧ LockoutDecided (cutOff (s.at t) n) s' 1) ∧
      ((monP && monH) = true → second = false →
        bwPortOf s' n = { bwPortOf (s.at t) n with test := some (t0, true) } ∧ s'.ports = (s.at t).ports) ∧
      ((monP && monH) = true → second = true → (bwPortOf s' n).level = (bwPortOf (s.at t) n).was ∧ (bwPortOf s' n).test = none ∧
        (bwPortOf s' n).tested = true ∧ (bwPortOf s' n).passed = some (s.at t).now ∧ (portOf s' n).st = (portOf (s.at t) n).st) := by
  have runs : exec (.brakeTestCheck e monP monH t) s = .next (
      let r := rput (s.at t) .bwrLastTest (lastTest (s.at t) n second (monP && monH))
      if !(monP && monH) then decideLockout (cutOff r n) 0x01
      else if !second then modBwPort r n fun b => { b with test := b.test.map fun x => (x.1, true) }
      else modBwPort (setLevel (endTest r n) n (bwPortOf r n).was) n fun b => { b with tested := true, passed := some r.now }) := by
    refine (whenEnabled_of_true ?on : execBrakeTestCheck e monP monH t s = _).trans (congrArg _ ?_)
    case on => simp only [he, port, decide_true, Option.isSome_some, Bool.and_self]
    dsimp only
    rw [port, Option.getD_some, test]
    rfl
  dsimp only at runs
  generalize hw : lastTest (s.at t) n second (monP && monH) = w at runs
  rw [lastTest] at hw
  rw [hw]
  generalize (monP && monH) = passes at runs ⊢
  cases passes with
  | false =>
    obtain ⟨shown, mem, cut, decided⟩ := checkFailed ok n w
    exact ⟨_, runs, shown, mem, fun _ => ⟨cut, decided⟩, fun h => absurd h (by decide), fun h => absurd h (by decide)⟩
  | true =>
    cases second with
    | false =>
      obtain ⟨shown, mem, light, ports⟩ := firstPassed ok w test
      exact ⟨_, runs, shown, mem, fun h => absurd h (by decide), fun _ _ => ⟨light, ports⟩, fun _ h => absurd h (by decide)⟩
    | true =>
      obtain ⟨shown, mem, rest⟩ := secondPassed ok n w
      exact ⟨_, runs, shown, mem, fun h => absurd h (by decide), fun _ h => absurd h (by decide), fun _ _ => rest⟩

end

/-- Settles O58: each clause follows the command that raises, lowers or tests the light. -/
theorem breakwaterGovernsTheLight : Obligations.BreakwaterGovernsTheLight := by
  intro s p e t u x bp permitSpan ok
  refine ⟨fun hp => ⟨?_, ?_, ?_, ?_, ?_, ?_, ?_, ?_, ?_, ?_⟩, fun he => ⟨?_, ?_, ?_, ?_⟩⟩
  · exact portProbeStart_spec hp
  · exact fullPowerGrant_spec hp
  · exact aprReduce_spec hp
  · exact fun chan lit good => overPower_spec hp ok lit good
  · exact channelDiscrepancy_spec hp
  · exact permitSend_spec hp
  · exact permitLoss_spec hp
  · exact fun d hold past => shutdownHoldEnd_spec hp hold past
  · exact brakeTestOverdue_spec hp
  · exact fun b message => ⟨permit_spec message ok, shutdown_spec message ok⟩
  · intro a b on
    obtain ⟨s', runs, pulsed⟩ := interlockPulse_spec he ok on a b
    exact ⟨s', runs, fun closed wrong => pulsed ⟨closed, wrong⟩⟩
  · exact interlockOpen_spec he
  · exact fun n on running open_ bay occurs begun room fresh port =>
      brakeTestStart_spec he on running open_ bay (by rw [safetyOf, ← bay]; exact occurs) begun room fresh port
  · exact fun n monP monH t0 second port test => brakeTestCheck_spec he ok port test

end Sys2Proof.Machine
end

section
/-! SUPPORT. What the operations of a link port leave (R511 to R514, R538 to R542). -/

namespace Sys2Proof.Machine

/-! ### A port that fails (R541, R542) -/

/-- A step that has failed with a cause stays so over further failures of owners. -/
theorem Failed.failOwners {cause : Nat} (src : Src) (cause' : Nat) (l : List (Nat × Nat)) {s : State} {c : Nat} (failed : Failed s c cause) :
    Failed (failOwners s src cause' l) c cause := by
  refine List.foldlRecOn l _ (motive := fun s => Failed s c cause) failed fun s h o _ => ?_
  split
  · exact h.stepFail ..
  · exact h

/-- Every uncommitted running step among the owners ends with the cause. -/
theorem failOwners_fails (src : Src) (cause : Nat) (l : List (Nat × Nat)) (s : State) :
    ∀ o ∈ l, o.2 ≠ 0 → (ctxOf s o.1).uid = o.2 → (ctxOf s o.1).st = .running → (ctxOf s o.1).committed = false →
      (ctxOf s o.1).cause = none → Failed (failOwners s src cause l) o.1 cause := by
  induction l generalizing s with
  | nil => exact fun o ho => absurd ho List.not_mem_nil
  | cons q l ih =>
    intro o ho some_ uid running uncommitted none_
    have step : failOwners s src cause (q :: l) = failOwners
        (if q.2 ≠ 0 ∧ (ctxOf s q.1).uid = q.2 ∧ (ctxOf s q.1).st = .running then stepFail s src q.1 cause else s) src cause l := rfl
    have may : MayFail s o.1 := ⟨uncommitted, by rw [running]; decide, none_⟩
    rw [step]
    split
    · next fires =>
      by_cases same : o.1 = q.1
      · exact Failed.failOwners src cause l (same ▸ failed_stepFail (same ▸ may) src cause 0)
      · have kept := ctxOf_stepFail_ne same s src cause 0
        refine ih _ o ((List.mem_cons.1 ho).resolve_left fun h => same (h ▸ rfl)) some_ ?_ ?_ ?_ ?_ <;> rw [kept] <;> assumption
    · next idle =>
      refine ih s o ((List.mem_cons.1 ho).resolve_left fun h => idle ?_) some_ uid running uncommitted none_
      exact h ▸ ⟨some_, uid, running⟩

/-- The clocks, the configuration of the ports and the other ports stay. -/
structure LinkKept (p : Nat) (s s' : State) : Prop where
  now : s'.now = s.now
  cfg : ∀ {d i}, Reg.dklCfg.inRange d i → rgetX s' .dklCfg d i = rgetX s .dklCfg d i
  others : ∀ o, o ≠ p → portOf s' o = portOf s o

section
variable {p : Nat} {s s' s'' : State}

/-- To do nothing keeps them. -/
theorem LinkKept.refl (p : Nat) (s : State) : LinkKept p s s := ⟨rfl, fun _ => rfl, fun _ _ => rfl⟩

/-- One after the other. -/
theorem LinkKept.trans (h : LinkKept p s s') (k : LinkKept p s' s'') : LinkKept p s s'' :=
  ⟨k.now.trans h.now, fun hin => (k.cfg hin).trans (h.cfg hin), fun o ne => (k.others o ne).trans (h.others o ne)⟩

/-- Both branches of a choice. -/
theorem LinkKept.ite {c : Prop} [Decidable c] (h : LinkKept p s s') (k : LinkKept p s s'') : LinkKept p s (if c then s' else s'') := by
  split
  · exact h
  · exact k

/-- What leaves the time, the registers but a few and the ports. -/
theorem LinkKept.of_regs {rs : List Reg} (regs : ChangesRegs rs s s') (cfg : .dklCfg ∉ rs) (now : s'.now = s.now) (ports : s'.ports = s.ports) :
    LinkKept p s s' :=
  ⟨now, regs.others cfg, fun o _ => congrArg (Tab.getD Port.clear o) ports⟩

/-- A field of DKL_CFG stays. -/
theorem LinkKept.portCfg (h : LinkKept p s s') (hp : p < 32) (hi lo : Nat) : Machine.portCfg s' p hi lo = Machine.portCfg s p hi lo := by
  have hin : Reg.dklCfg.inRange (p % 4) (p / 4) := ⟨Nat.mod_lt p (by decide), Nat.div_lt_of_lt_mul hp⟩
  unfold Machine.portCfg rfield
  rw [h.cfg hin]

end

/-- A port that changes. -/
theorem linkKept_modPort (s : State) (p : Nat) (f : Port → Port) : LinkKept p s (modPort s p f) :=
  ⟨rfl, fun _ => rfl, fun _ ne => portOf_modPort_ne s p f ne⟩

/-- Failures leave the links. -/
theorem Fails.linkKept {s s' : State} (h : Fails s s') (p : Nat) : LinkKept p s s' ∧ s'.ports = s.ports := by
  have ports : s'.ports = s.ports := (congrArg State.ports h.frame :)
  exact ⟨LinkKept.of_regs h.toChangesRegs (by decide) (congrArg State.now h.frame :) ports, ports⟩

/-- An event for the PF leaves the links and the registers of other blocks. -/
theorem postPf_linkKept (s : State) (type result data vec p : Nat) :
    LinkKept p s (postPf s type result data vec) ∧ (postPf s type result data vec).ports = s.ports ∧
    rget (postPf s type result data vec) .topEvent = rget s .topEvent ∧ (postPf s type result data vec).ctxs = s.ctxs := by
  have posts := posts_postPf s type result data vec
  have ports : (postPf s type result data vec).ports = s.ports := (congrArg State.ports posts.frame :)
  have reg {r : Reg} {d i : Nat} (ptr : r ≠ .hifEvtPtr) (stat : r ≠ .hifFnStat) (hin : r.inRange d i) :
      rgetX (postPf s type result data vec) r d i = rgetX s r d i :=
    posts.others _ _ _ (Reg.addr_ne ptr hin ⟨by decide, by decide⟩) (Reg.addr_ne stat hin ⟨by decide, by decide⟩)
  exact ⟨⟨(congrArg State.now posts.frame :), reg (by decide) (by decide), fun o _ => congrArg (Tab.getD Port.clear o) ports⟩, ports,
    reg (by decide) (by decide) ⟨by decide, by decide⟩, (congrArg State.ctxs posts.frame :)⟩

/-- A bit that is set in TOP_EVENT is read there. -/
theorem bitAt_topEvent (s : State) {n : Nat} (hn : n < 64) : bitAt (rget (rmod s .topEvent fun w => setBit w n true) .topEvent) n = true := by
  have one : bitAt (setBit (rget s .topEvent) n true) n = true := by
    rw [bitAt_setBit_true _ hn, beq_self_eq_true, Bool.or_true]
  have ne : setBit (rget s .topEvent) n true ≠ Reg.topEvent.info.reset := fun reset => by
    rw [reset] at one
    simp [bitAt, Reg.info] at one
  rw [rmod, rget, rgetX_rputX_of_ne_reset s 0 0 ne]
  exact one

/-- The host is told of a bit of TOP_EVENT. -/
theorem topologyEvent_spec (s : State) (n p : Nat) (hn : n < 64) :
    let v := topologyEvent (rmod s .topEvent fun w => setBit w n true)
    LinkKept p s v ∧ v.ports = s.ports ∧ bitAt (rget v .topEvent) n = true ∧ v.ctxs = s.ctxs := by
  have writes : WritesRegs [.topEvent] s (rmod s .topEvent fun w => setBit w n true) :=
    writesRegs_rputX List.mem_cons_self ⟨by decide, by decide⟩ ..
  have bit := bitAt_topEvent s hn
  have first : LinkKept p s (rmod s .topEvent fun w => setBit w n true) := LinkKept.of_regs writes.toChangesRegs (by decide) rfl rfl
  obtain ⟨kept, ports, reg, ctxs⟩ := postPf_linkKept (rmod s .topEvent fun w => setBit w n true) 0x11 0
    (rget (rmod s .topEvent fun w => setBit w n true) .topEvent).toNat 2 p
  exact ⟨first.trans kept, ports, by rw [topologyEvent, reg]; exact bit, ctxs⟩

/-- A port that fails. -/
theorem failPort_spec (s : State) (p cause : Nat) (hp : p < 32) :
    LinkKept p s (failPort s p cause) ∧
    ((portOf s p).st ≠ 8 → PortFails s (failPort s p cause) p cause ∧
      portOf (failPort s p cause) p =
        { portOf s p with st := 8, cause := cause, since := s.now, ackDue := none, replayAt := none }) ∧
    ((portOf s p).st = 8 → failPort s p cause = s) := by
  by_cases failed : (portOf s p).st = 8
  · have same : failPort s p cause = s := if_pos failed
    rw [same]
    exact ⟨LinkKept.refl p s, fun h => absurd failed h, fun _ => rfl⟩
  · generalize hf : (fun x : Port => { x with st := 8, cause := cause, since := s.now, ackDue := none, replayAt := none }) = f
    have run : failPort s p cause = topologyEvent
        (rmod (failOwners (modPort s p f) .dkl 0x50 (portOwners s p)) .topEvent fun w => setBit w p true) := by
      rw [failPort, if_neg failed, ← hf]
    have changed := linkKept_modPort s p f
    have port : portOf (modPort s p f) p = f (portOf s p) := portOf_modPort_same ..
    have ctxs (c : Nat) : ctxOf (modPort s p f) c = ctxOf s c := rfl
    have ends := failOwners_fails .dkl 0x50 (portOwners s p) (modPort s p f)
    obtain ⟨kept, ports⟩ := (fails_failOwners (modPort s p f) .dkl 0x50 (portOwners s p)).linkKept p
    rw [run]
    generalize failOwners (modPort s p f) .dkl 0x50 (portOwners s p) = w at ends kept ports ⊢
    obtain ⟨told, portsT, bit, ctxsT⟩ := topologyEvent_spec w p p (by omega)
    generalize topologyEvent (rmod w .topEvent fun y => setBit y p true) = v at told portsT bit ctxsT ⊢
    have all := (changed.trans kept).trans told
    have last : portOf v p = f (portOf s p) := by
      rw [← port]
      exact congrArg (Tab.getD Port.clear p) (portsT.trans ports)
    have became : portOf v p = { portOf s p with st := 8, cause := cause, since := s.now, ackDue := none, replayAt := none } := by
      rw [last, ← hf]
    refine ⟨all, fun _ => ⟨⟨by rw [became], by rw [became], bit, all.others, fun o ho some_ uid running uncommitted none_ => ?_⟩, became⟩,
      fun h => absurd h failed⟩
    have failedW := ends o ho some_ (by rw [ctxs]; exact uid) (by rw [ctxs]; exact running) (by rw [ctxs]; exact uncommitted)
      (by rw [ctxs]; exact none_)
    unfold ctxOf
    rw [ctxsT]
    exact failedW.2

/-- The owners of a port's units rest on what it queues, keeps and has received in part. -/
theorem portOwners_of_same {s s' : State} {p : Nat} (tx : (portOf s' p).tx = (portOf s p).tx)
    (replayBuf : (portOf s' p).replayBuf = (portOf s p).replayBuf) (rx : (portOf s' p).rx = (portOf s p).rx) (ctxs : s'.ctxs = s.ctxs) :
    portOwners s' p = portOwners s p := by
  have ctx (c : Nat) : ctxOf s' c = ctxOf s c := congrArg (Tab.getD Ctx.clear c) ctxs
  unfold portOwners
  simp only [tx, replayBuf, rx, ctx]

/-- A failure of a port rests on its owners, the contexts and the other ports. -/
theorem PortFails.of_same {u s v : State} {p cause : Nat} (h : PortFails s v p cause) (owners : portOwners s p = portOwners u p)
    (ctxs : s.ctxs = u.ctxs) (others : ∀ o, o ≠ p → portOf s o = portOf u o) : PortFails u v p cause := by
  obtain ⟨st, why, bit, rest, ends⟩ := h
  have ctx (c : Nat) : ctxOf s c = ctxOf u c := congrArg (Tab.getD Ctx.clear c) ctxs
  simp only [owners, ctx] at ends
  exact ⟨st, why, bit, fun o ne => (rest o ne).trans (others o ne), ends⟩

/-! ### Retrains and replays (R513, R514, R538, R539) -/

/-- A counter of DKL_ERR that is raised leaves the links, and all but that register. -/
theorem dklBump_spec {s : State} {p : Nat} (hp : p < 32) (hi lo : Nat) :
    WritesRegs [.dklErr] s (dklBump s p hi lo) ∧ LinkKept p s (dklBump s p hi lo) := by
  have writes : WritesRegs [.dklErr] s (dklBump s p hi lo) :=
    writesRegs_rbump List.mem_cons_self ⟨Nat.mod_lt p (by decide), Nat.div_lt_of_lt_mul hp⟩ s hi lo 1
  exact ⟨writes, LinkKept.of_regs writes.toChangesRegs (by decide) rfl rfl⟩

/-- A pause of the acknowledgement timer changes that timer only. -/
theorem pauseAck_spec (s : State) (p : Nat) :
    pauseAck s p = { s with ports := (pauseAck s p).ports } ∧ LinkKept p s (pauseAck s p) ∧
    ∃ due rest, portOf (pauseAck s p) p = { portOf s p with ackDue := due, ackRest := rest } := by
  refine ⟨rfl, linkKept_modPort s p _, ?_⟩
  rw [pauseAck, portOf_modPort_same]
  split <;> exact ⟨_, _, rfl⟩

/-- A port in a retrain that begins at a moment. -/
def retrainBegun (x : Port) (now : Nat) (due : Option Nat) (rest : Nat) : Port :=
  { x with
    ackDue := due, ackRest := rest, st := 6, since := now, adapted := none, qualified := false, rxOk := false, farOk := false, heard := []
    retrain := true, retrainAt := now, consRetrain := x.consRetrain + 1, replayAt := none }

/-- A retrain that starts, or the failure in its place. -/
theorem startRetrain_eq (s : State) {p : Nat} (hp : p < 32) :
    ∃ w due rest, startRetrain s p = (if 4 ≤ (portOf s p).consRetrain + 1 then failPort w p 9 else w) ∧
      portOf w p = retrainBegun (portOf s p) s.now due rest ∧ LinkKept p s w ∧ w = { s with ports := w.ports, regs := w.regs } ∧
      ChangesRegs [.dklErr] s w := by
  obtain ⟨frame, paused, due, rest, port⟩ := pauseAck_spec s p
  obtain ⟨writes, counted⟩ := dklBump_spec (s := pauseAck s p) hp 31 24
  have run : startRetrain s p =
      let s := dklBump (pauseAck s p) p 31 24
      let s := modPort s p fun x =>
        { x with st := 6, since := s.now, adapted := none, qualified := false, rxOk := false, farOk := false, heard := []
                 retrain := true, retrainAt := s.now, consRetrain := x.consRetrain + 1, replayAt := none }
      if 4 ≤ (portOf s p).consRetrain then failPort s p 9 else s := rfl
  have same : portOf (dklBump (pauseAck s p) p 31 24) p = portOf (pauseAck s p) p := rfl
  have first : ChangesRegs [] s (pauseAck s p) := ChangesRegs.of_eq rfl
  dsimp only at run
  have now : (dklBump (pauseAck s p) p 31 24).now = s.now := rfl
  have frameB := writes.frame
  have log : (dklBump (pauseAck s p) p 31 24).log = s.log := rfl
  rw [run, now]
  generalize dklBump (pauseAck s p) p 31 24 = b at writes counted same now frameB log ⊢
  generalize hf : (fun x : Port =>
    { x with st := 6, since := s.now, adapted := none, qualified := false, rxOk := false, farOk := false, heard := []
             retrain := true, retrainAt := s.now, consRetrain := x.consRetrain + 1, replayAt := none }) = f
  have became : portOf (modPort b p f) p = retrainBegun (portOf s p) s.now due rest := by
    rw [portOf_modPort_same, same, port, ← hf]
    rfl
  have changes := first.trans writes.toChangesRegs
  refine ⟨modPort b p f, due, rest, ?_, became, (paused.trans counted).trans (linkKept_modPort b p f), ?_,
    changes.regsOk, fun hr hin => changes.others hr hin⟩
  · rw [became]
    rfl
  · rw [log, frame] at frameB
    rw [frameB]
    rfl

/-- A retrain that starts keeps the session and what is not acknowledged; the fourth in succession fails the port. -/
theorem startRetrain_spec (s : State) {p : Nat} (hp : p < 32) :
    Retrains s (startRetrain s p) p ∧ LinkKept p s (startRetrain s p) ∧ (portOf (startRetrain s p) p).light = (portOf s p).light := by
  obtain ⟨w, due, rest, run, port, kept, frame, -⟩ := startRetrain_eq s hp
  have tx : (portOf w p).tx = (portOf s p).tx := by rw [port]; rfl
  have rx : (portOf w p).rx = (portOf s p).rx := by rw [port]; rfl
  have replayBuf : (portOf w p).replayBuf = (portOf s p).replayBuf := by rw [port]; rfl
  have ctxs : w.ctxs = s.ctxs := (congrArg State.ctxs frame :)
  rw [run]
  split
  · next fourth =>
    obtain ⟨keptF, fails, -⟩ := failPort_spec w p 9 hp
    obtain ⟨failed, became⟩ := fails (by rw [port]; show 6 ≠ 8; decide)
    rw [port] at became
    have owners := portOwners_of_same tx replayBuf rx ctxs
    refine ⟨?_, kept.trans keptF, by rw [became]; rfl⟩
    unfold Retrains
    dsimp only
    rw [became]
    exact ⟨rfl, rfl, rfl, rfl, rfl, rfl, rfl, rfl, rfl, rfl, fun few => absurd fourth (by omega),
      fun _ => failed.of_same owners ctxs kept.others⟩
  · next few =>
    refine ⟨?_, kept, by rw [port]; rfl⟩
    unfold Retrains
    dsimp only
    rw [port]
    exact ⟨rfl, rfl, rfl, rfl, rfl, rfl, rfl, rfl, rfl, rfl,
      fun _ => ⟨rfl, ctxs, (congrArg State.mem frame :), (congrArg State.log frame :), kept.others⟩, fun many => absurd many (by omega)⟩

/-- A retrain rests on the session, the contexts, memory, the log and the other ports. -/
theorem Retrains.of_same {u s v : State} {p : Nat} (h : Retrains s v p) (now : s.now = u.now)
    (port : ∃ light, portOf s p = { portOf u p with light := light }) (ctxs : s.ctxs = u.ctxs) (mem : s.mem = u.mem) (log : s.log = u.log)
    (others : ∀ o, o ≠ p → portOf s o = portOf u o) : Retrains u v p := by
  obtain ⟨light, port⟩ := port
  have owners : portOwners s p = portOwners u p :=
    portOwners_of_same (by rw [port]) (by rw [port]) (by rw [port]) ctxs
  unfold Retrains at h ⊢
  dsimp only at h ⊢
  rw [port, now] at h
  obtain ⟨retrain, at_, count, adapted, qualified, session, far, txExt, rxExt, replayBuf, goes, fails⟩ := h
  refine ⟨retrain, at_, count, adapted, qualified, session, far, txExt, rxExt, replayBuf, fun few => ?_,
    fun many => (fails many).of_same owners ctxs others⟩
  obtain ⟨st, ctxsV, memV, logV, othersV⟩ := goes few
  exact ⟨st, ctxsV.trans ctxs, memV.trans mem, logV.trans log, fun o ne => (othersV o ne).trans (others o ne)⟩

/-- A replay that starts from the oldest flit that is not acknowledged (R513). -/
theorem startReplay_of_few {s : State} {p : Nat} (hp : p < 32) (waits : (portOf s p).txExt ≠ (portOf s p).oldest)
    (few : (portOf s p).consReplay < 8) :
    startReplay s p = { s with ports := (startReplay s p).ports, regs := (startReplay s p).regs } ∧
    portOf (startReplay s p) p = { portOf s p with
      replayAt := some (portOf s p).oldest, consReplay := (portOf s p).consReplay + 1
      lastReplay := some ((portOf s p).oldest % 4096, s.now), ackDue := some (s.now + 2000000) } ∧
    LinkKept p s (startReplay s p) ∧ ∀ hi lo, rfield (startReplay s p) .dklErr hi lo (p / 4) (p % 4) =
      rfield (dklBump s p 47 32) .dklErr hi lo (p / 4) (p % 4) := by
  have run : startReplay s p = modPort (dklBump s p 47 32) p fun x => { x with
      replayAt := some x.oldest, consReplay := x.consReplay + 1, lastReplay := some (x.oldest % 4096, s.now)
      ackDue := some (s.now + us 2) } := by
    rw [startReplay, if_neg waits, if_neg (by omega)]
    rfl
  obtain ⟨-, counted⟩ := dklBump_spec hp 47 32 (s := s)
  have same : portOf (dklBump s p 47 32) p = portOf s p := rfl
  rw [run]
  refine ⟨rfl, ?_, counted.trans (linkKept_modPort _ p _), fun _ _ => rfl⟩
  rw [portOf_modPort_same, same]

/-- A replay leaves the links, whatever it does. -/
theorem linkKept_startReplay (s : State) {p : Nat} (hp : p < 32) : LinkKept p s (startReplay s p) := by
  unfold startReplay
  dsimp only
  refine LinkKept.ite (LinkKept.refl p s) (LinkKept.ite (startRetrain_spec s hp).2.1 ?_)
  exact (dklBump_spec hp 47 32).2.trans (linkKept_modPort _ p _)

/-! ### Acknowledgements (R511, R513) -/

/-- Parts of commands that are done leave the links and the ports. -/
theorem cmdParts_kept (l : List TxFlit) (s : State) (p : Nat) :
    let v := l.foldl (fun s f => f.cmds.foldl cmdPart s) s
    LinkKept p s v ∧ v.ports = s.ports ∧ v.regs = s.regs := by
  have parts (s : State) (m : List Nat) : LinkKept p s (m.foldl cmdPart s) ∧ (m.foldl cmdPart s).ports = s.ports ∧
      (m.foldl cmdPart s).regs = s.regs :=
    List.foldlRecOn m cmdPart (motive := fun v => LinkKept p s v ∧ v.ports = s.ports ∧ v.regs = s.regs) ⟨LinkKept.refl p s, rfl, rfl⟩
      fun _ h _ _ => ⟨h.1.trans ⟨rfl, fun _ => rfl, fun _ _ => rfl⟩, h.2.1, h.2.2⟩
  refine List.foldlRecOn l _ (motive := fun v => LinkKept p s v ∧ v.ports = s.ports ∧ v.regs = s.regs) ⟨LinkKept.refl p s, rfl, rfl⟩
    fun w h f _ => ?_
  obtain ⟨kept, ports, regs⟩ := parts w f.cmds
  exact ⟨h.1.trans kept, ports.trans h.2.1, regs.trans h.2.2⟩

/-- An acknowledgement that advances, and what it keeps (R511). -/
theorem ackTo_eq {s : State} {p next : Nat} (new : (portOf s p).oldest < next) :
    ∃ (f : Port → Port) (gone : List TxFlit), ackTo s p next = gone.foldl (fun s f => f.cmds.foldl cmdPart s) (modPort s p f) ∧
      (f (portOf s p)).oldest = next ∧
      (f (portOf s p)).replayBuf = (portOf s p).replayBuf.filter (fun f => decide (next ≤ f.ext)) ∧
      (f (portOf s p)).txExt = (portOf s p).txExt ∧ (f (portOf s p)).session = (portOf s p).session ∧
      (f (portOf s p)).far = (portOf s p).far ∧ (f (portOf s p)).st = (portOf s p).st := by
  have left : (portOf s p).replayBuf.filter (not ∘ fun f => decide (f.ext < next)) =
      (portOf s p).replayBuf.filter fun f => decide (next ≤ f.ext) :=
    List.filter_congr fun f _ => by
      rw [Function.comp_apply, ← decide_not]
      exact decide_eq_decide.2 Nat.not_lt
  unfold ackTo
  dsimp only
  rw [if_neg (Nat.not_le.2 new), List.partition_eq_filter_filter, left]
  exact ⟨_, _, rfl, rfl, rfl, rfl, rfl, rfl, rfl⟩

/-- Flits up to a number leave the replay buffer (R511). -/
theorem ackTo_spec (s : State) (p next : Nat) :
    LinkKept p s (ackTo s p next) ∧ (next ≤ (portOf s p).oldest → ackTo s p next = s) ∧
    ((portOf s p).oldest < next → (portOf (ackTo s p next) p).oldest = next ∧
      (portOf (ackTo s p next) p).replayBuf = (portOf s p).replayBuf.filter fun f => decide (next ≤ f.ext)) ∧
    (portOf (ackTo s p next) p).txExt = (portOf s p).txExt ∧ (portOf (ackTo s p next) p).session = (portOf s p).session ∧
    (portOf (ackTo s p next) p).far = (portOf s p).far ∧ (portOf (ackTo s p next) p).st = (portOf s p).st := by
  by_cases old : next ≤ (portOf s p).oldest
  · have same : ackTo s p next = s := if_pos old
    rw [same]
    exact ⟨LinkKept.refl p s, fun _ => rfl, fun h => absurd old (by omega), rfl, rfl, rfl, rfl⟩
  · obtain ⟨f, gone, run, oldest, replayBuf, txExt, session, far, st⟩ := ackTo_eq (Nat.not_le.1 old)
    obtain ⟨kept, ports, -⟩ := cmdParts_kept gone (modPort s p f) p
    rw [run]
    generalize gone.foldl (fun s f => f.cmds.foldl cmdPart s) (modPort s p f) = v at kept ports ⊢
    have port : portOf v p = f (portOf s p) := by
      rw [← portOf_modPort_same s p f]
      exact congrArg (Tab.getD Port.clear p) ports
    rw [port]
    exact ⟨(linkKept_modPort s p f).trans kept, fun h => absurd h old, fun _ => ⟨oldest, replayBuf⟩, txExt, session, far, st⟩

/-- An acknowledgement that names a flit on its way, and any other (R511). -/
theorem receiveAck_spec (s : State) (p a : Nat) :
    let x := portOf s p
    let d := (a + 4096 - x.oldest % 4096) % 4096
    LinkKept p s (receiveAck s p a) ∧
    (portOf (receiveAck s p a) p).oldest = (if d < x.txExt - x.oldest then x.oldest + d + 1 else x.oldest) ∧
    (∀ k, k ∈ (portOf (receiveAck s p a) p).replayBuf ↔ k ∈ x.replayBuf ∧ (d < x.txExt - x.oldest → x.oldest + d + 1 ≤ k.ext)) ∧
    (x.txExt - x.oldest ≤ d → receiveAck s p a = s) := by
  intro x d
  have run : receiveAck s p a = if d < x.txExt - x.oldest then ackTo s p (x.oldest + d + 1) else s := rfl
  rw [run]
  by_cases named : d < x.txExt - x.oldest
  · rw [if_pos named, if_pos named]
    obtain ⟨kept, -, acked, -⟩ := ackTo_spec s p (x.oldest + d + 1)
    obtain ⟨oldest, replayBuf⟩ := acked (by show x.oldest < _; omega)
    refine ⟨kept, oldest, fun k => ?_, fun h => absurd named (by omega)⟩
    rw [replayBuf, List.mem_filter, decide_eq_true_iff]
    exact and_congr_right fun _ => ⟨fun h _ => h, fun h => h named⟩
  · rw [if_neg named, if_neg named]
    exact ⟨LinkKept.refl p s, rfl, fun k => ⟨fun h => ⟨h, fun h' => absurd h' named⟩, fun h => h.1⟩, fun _ => rfl⟩

/-- A NAK leaves the links, whatever it brings on (R513). -/
theorem linkKept_receiveNak (s : State) {p : Nat} (hp : p < 32) (a : Nat) : LinkKept p s (receiveNak s p a) :=
  LinkKept.ite (LinkKept.refl p s) (linkKept_startReplay s hp)

/-- The effects of a flit's header leave the links, the time and the configuration (R511, R513, R520). -/
theorem linkKept_headerEffects (s : State) {p : Nat} (hp : p < 32) (h : FlitHead) : LinkKept p s (headerEffects s p h) := by
  obtain ⟨acked, -⟩ := receiveAck_spec s p h.ack
  unfold headerEffects
  dsimp only
  generalize receiveAck s p h.ack = w at acked ⊢
  split
  · exact (acked.trans (linkKept_modPort w p _)).trans (linkKept_receiveNak _ hp _)
  · exact acked.trans (linkKept_modPort w p _)

end Sys2Proof.Machine
end

section
/-! PROOFS. Replays, training and darkness of a link port (O57). -/

namespace Sys2Proof.Machine

/-- A counter of DKL_ERR that is raised stops at the end of its width. -/
theorem rfield_dklBump {p : Nat} {u : State} (ok : u.regsOk) {hi : Nat} (hhi : hi < 64) (lo : Nat) :
    rfield (dklBump u p hi lo) .dklErr hi lo (p / 4) (p % 4) = min (rfield u .dklErr hi lo (p / 4) (p % 4) + 1) (2 ^ (hi + 1 - lo) - 1) :=
  rfield_rbump_same ok hhi 1

/-- A port that changes alone. -/
theorem onlyPort_modPort (u : State) (p : Nat) (f : Port → Port) : onlyPort u (modPort u p f) p (f (portOf u p)) :=
  ⟨rfl, portOf_modPort_same u p f, fun _ ne => portOf_modPort_ne u p f ne⟩

/-- The write of DKL_CTRL that takes effect or is an access error (R533, R538). -/
theorem writeDklCtrl_of_takes {p : Nat} {u : State} {q : Requester} {v : Word} (takes : u.takesWrite q .dklCtrl (p % 4) (p / 4) v) :
    writeDklCtrl q p v u =
      if ((!bitAt v 0 || portUp u p) && (!bitAt v 1 || (portOf u p).st == 7)) = true then
        (let s := if bitAt v 0 then startRetrain (u.noteWrite q .dklCtrl (p % 4) (p / 4)) p else u.noteWrite q .dklCtrl (p % 4) (p / 4)
         if bitAt v 1 then enterProbe s p else s)
      else logAccess u .dkl 0x02 (regAddr .dklCtrl (p % 4) (p / 4)) (reqCode q) :=
  guardedWrite_of_takes takes _ _

/-- A port that loses light (R540). -/
theorem loseLight_spec {p : Nat} {u : State} (ok : u.regsOk) :
    (((portOf u p).st = 4 ∨ (portOf u p).st = 5 ∨ (portOf u p).st = 6) →
      (portOf (loseLight u p) p).st = 9 ∧ (portOf (loseLight u p) p).back = (portOf u p).st ∧ (portOf (loseLight u p) p).light = none ∧
      (portOf (loseLight u p) p).losAt = u.now ∧ (portOf (loseLight u p) p).replayBuf = (portOf u p).replayBuf ∧
      (portOf (loseLight u p) p).session = (portOf u p).session ∧
      rfield (loseLight u p) .dklErr 23 16 (p / 4) (p % 4) = min (rfield u .dklErr 23 16 (p / 4) (p % 4) + 1) 255 ∧
      loseLight u p = { u with ports := (loseLight u p).ports, regs := (loseLight u p).regs }) ∧
    ((portOf u p).st ≠ 4 → (portOf u p).st ≠ 5 → (portOf u p).st ≠ 6 →
      onlyPort u (loseLight u p) p { portOf u p with light := none, losAt := u.now }) := by
  refine ⟨fun up => ?_, fun ne4 ne5 ne6 => ?_⟩
  · have run : loseLight u p = modPort (dklBump (pauseAck (modPort u p fun x => { x with light := none, losAt := u.now }) p) p 23 16) p
        fun y => { y with st := 9, back := (portOf u p).st, since := u.now, replayAt := none } := by
      rw [loseLight]
      exact if_pos up
    obtain ⟨-, -, due, rest, port⟩ := pauseAck_spec (modPort u p fun x => { x with light := none, losAt := u.now }) p
    rw [portOf_modPort_same] at port
    have last : portOf (loseLight u p) p = { portOf u p with
        light := none, losAt := u.now, ackDue := due, ackRest := rest, st := 9, back := (portOf u p).st, since := u.now
        replayAt := none } := by
      rw [run, portOf_modPort_same]
      show (fun y : Port => { y with st := 9, back := (portOf u p).st, since := u.now, replayAt := none })
        (portOf (pauseAck (modPort u p fun x => { x with light := none, losAt := u.now }) p) p) = _
      rw [port]
    have count := rfield_dklBump (p := p) (u := pauseAck (modPort u p fun x => { x with light := none, losAt := u.now }) p) ok
      (hi := 23) (by decide) 16
    refine ⟨by rw [last], by rw [last], by rw [last], by rw [last], by rw [last], by rw [last], ?_, ?_⟩
    · rw [run]
      exact count
    · rw [run]
      rfl
  · have run : loseLight u p = modPort u p fun x => { x with light := none, losAt := u.now } := by
      rw [loseLight]
      exact if_neg (by omega)
    rw [run]
    exact onlyPort_modPort u p _

/-- The state in which light has returned and its domain is locked. -/
def lightBack (u : State) (p : Nat) : State :=
  modPort (rmod u .clkLockStatus fun w => setBit w (32 + p % 4) true) p fun y => { y with light := some u.now }

/-- Light that returns is its port's, and the lock of its domain. -/
theorem lightBack_spec {u : State} (ok : u.regsOk) (p : Nat) :
    bitAt (rget (lightBack u p) .clkLockStatus) (32 + p % 4) = true ∧ portOf (lightBack u p) p = { portOf u p with light := some u.now } ∧
    lightBack u p = { u with regs := (lightBack u p).regs, ports := (lightBack u p).ports } ∧
    ∀ o, o ≠ p → portOf (lightBack u p) o = portOf u o := by
  refine ⟨?_, ?_, rfl, fun o ne => portOf_modPort_ne _ p _ ne⟩
  · show bitAt (rget (rmod u .clkLockStatus fun w => setBit w (32 + p % 4) true) .clkLockStatus) (32 + p % 4) = true
    rw [rmod, rget, rgetX_rputX_same ok, bitAt_setBit_true _ (by omega), beq_self_eq_true, Bool.or_true]
  · rw [lightBack, portOf_modPort_same]
    rfl

section
variable {s : State} {p t : Nat} (hp : p < 32)
include hp

/-- ACK_TIMEOUT (R513, R514). -/
theorem ackTimeout_spec (ok : (s.at t).regsOk) (active : (portOf (s.at t) p).st = 4)
    (waits : (portOf (s.at t) p).txExt ≠ (portOf (s.at t) p).oldest) (past : ∃ d, ackExpiry (s.at t) p = some d ∧ d ≤ (s.at t).now) :
    ((portOf (s.at t) p).consReplay < 8 → Answers (.ackTimeout p t) s fun s' =>
      rfield s' .dklErr 47 32 (p / 4) (p % 4) = min (rfield (s.at t) .dklErr 47 32 (p / 4) (p % 4) + 1) 65535 ∧
      s' = { s.at t with ports := s'.ports, regs := s'.regs } ∧
      portOf s' p = { portOf (s.at t) p with
        replayAt := some (portOf (s.at t) p).oldest, consReplay := (portOf (s.at t) p).consReplay + 1
        lastReplay := some ((portOf (s.at t) p).oldest % 4096, (s.at t).now), ackDue := some ((s.at t).now + 2000000) }) ∧
    (8 ≤ (portOf (s.at t) p).consReplay → Answers (.ackTimeout p t) s fun s' => Retrains (s.at t) s' p) := by
  have runs : exec (.ackTimeout p t) s = .next (startReplay (s.at t) p) := by
    refine (whenEnabled_of_true ?on : execAckTimeout p t s = _)
    case on =>
      obtain ⟨d, expiry, late⟩ := past
      rw [expiry]
      simp only [hp, active, due, late, decide_true, beq_self_eq_true, Bool.and_self]
  refine ⟨fun few => ?_, fun many => ?_⟩
  · obtain ⟨frame, port, -, count⟩ := startReplay_of_few hp waits few
    exact ⟨_, runs, (count 47 32).trans (rfield_dklBump ok (by decide) 32), frame, port⟩
  · have retrains : startReplay (s.at t) p = startRetrain (s.at t) p := by
      rw [startReplay, if_neg waits, if_pos many]
    rw [retrains] at runs
    exact ⟨_, runs, (startRetrain_spec (s.at t) hp).1⟩

/-- RECEIVER_ADAPTED (R501). -/
theorem receiverAdapted_spec (trains : (portOf (s.at t) p).st = 2 ∨ (portOf (s.at t) p).st = 6) (none_ : (portOf (s.at t) p).adapted = none)
    (lit : (portOf (s.at t) p).light.isSome = true) :
    Answers (.receiverAdapted p t) s fun s' => onlyPort (s.at t) s' p { portOf (s.at t) p with adapted := some (s.at t).now } := by
  refine ⟨_, (whenEnabled_of_true ?on : execReceiverAdapted p t s = _), onlyPort_modPort _ p _⟩
  case on => simp only [hp, trains, none_, lit, decide_true, Option.isNone_none, Bool.and_self]

/-- RX_QUALIFY (R501, R538). -/
theorem rxQualify_spec {a : Nat} (not_ : (portOf (s.at t) p).qualified = false) (adapted : (portOf (s.at t) p).adapted = some a)
    (clean : (portOf (s.at t) p).st = 2 ∧ a + 209715200 ≤ (s.at t).now ∨ (portOf (s.at t) p).st = 6 ∧ a + 26214400 ≤ (s.at t).now) :
    Answers (.rxQualify p t) s fun s' => onlyPort (s.at t) s' p { portOf (s.at t) p with qualified := true } := by
  have trains : (portOf (s.at t) p).st = 2 ∨ (portOf (s.at t) p).st = 6 := clean.imp And.left And.left
  have span : a + qualifySpan (portOf (s.at t) p) ≤ (s.at t).now := by
    rcases clean with ⟨st, late⟩ | ⟨st, late⟩
    · rw [qualifySpan, st]
      exact late
    · rw [qualifySpan, st]
      exact late
  refine ⟨_, (whenEnabled_of_true ?on : execRxQualify p t s = _), onlyPort_modPort _ p _⟩
  case on =>
    rw [adapted]
    simp only [hp, trains, not_, due, Option.map_some, span, decide_true, Bool.not_false, Bool.and_self]

/-- A failed attempt to train goes on with the next, the third fails the port (R502). -/
theorem trainFailed_spec {u : State} (st : (portOf u p).st ≠ 8) :
    ((portOf u p).tries < 2 → (portOf (trainFailed u p) p).st = 2 ∧ (portOf (trainFailed u p) p).since = u.now ∧
      (portOf (trainFailed u p) p).tries = (portOf u p).tries + 1 ∧ (portOf (trainFailed u p) p).adapted = none ∧
      (portOf (trainFailed u p) p).session = (portOf u p).session ∧ trainFailed u p = { u with ports := (trainFailed u p).ports } ∧
      ∀ o, o ≠ p → portOf (trainFailed u p) o = portOf u o) ∧
    (2 ≤ (portOf u p).tries → PortFails u (trainFailed u p) p 8) := by
  have run : trainFailed u p = if 3 ≤ (portOf u p).tries + 1
      then failPort (modPort u p fun x => { x with tries := (portOf u p).tries + 1, retrain := false }) p 8
      else enterTrain (modPort u p fun x => { x with tries := (portOf u p).tries + 1, retrain := false }) p := rfl
  rw [run]
  have frame : modPort u p (fun x => { x with tries := (portOf u p).tries + 1, retrain := false }) =
      { u with ports := (modPort u p fun x => { x with tries := (portOf u p).tries + 1, retrain := false }).ports } := rfl
  have kept := linkKept_modPort u p fun x => { x with tries := (portOf u p).tries + 1, retrain := false }
  have port : portOf (modPort u p fun x => { x with tries := (portOf u p).tries + 1, retrain := false }) p =
      { portOf u p with tries := (portOf u p).tries + 1, retrain := false } := portOf_modPort_same ..
  have ctxs : (modPort u p fun x => { x with tries := (portOf u p).tries + 1, retrain := false }).ctxs = u.ctxs := rfl
  generalize (modPort u p fun x => { x with tries := (portOf u p).tries + 1, retrain := false }) = w at frame kept port ctxs ⊢
  refine ⟨fun few => ?_, fun many => ?_⟩
  · rw [if_neg (by omega)]
    obtain ⟨-, -, due, rest, last⟩ := enterTrain_spec w p
    have whole : enterTrain w p = { w with ports := (enterTrain w p).ports } := rfl
    rw [port] at last
    rw [last]
    refine ⟨rfl, kept.now, rfl, rfl, rfl, ?_, fun o ne => ?_⟩
    · rw [frame] at whole
      rw [frame]
      exact whole
    · exact ((enterTrain_spec w p).1.others o ne).1.trans (kept.others o ne)
  · rw [if_pos (by omega)]
    obtain ⟨-, fails, -⟩ := failPort_spec w p 8 hp
    refine (fails (by rw [port]; exact st)).1.of_same (portOwners_of_same ?_ ?_ ?_ ctxs) ctxs kept.others <;> rw [port]

/-- TRAIN_TIMEOUT (R502). -/
theorem trainTimeout_spec (late : (portOf (s.at t) p).st = 2 ∧ (portOf (s.at t) p).since + 2000000000 ≤ (s.at t).now ∨
      (portOf (s.at t) p).st = 3 ∧ (portOf (s.at t) p).since + 100000000 ≤ (s.at t).now) :
    ((portOf (s.at t) p).tries < 2 → Answers (.trainTimeout p t) s fun s' => (portOf s' p).st = 2 ∧ (portOf s' p).since = (s.at t).now ∧
      (portOf s' p).tries = (portOf (s.at t) p).tries + 1 ∧ (portOf s' p).adapted = none ∧
      (portOf s' p).session = (portOf (s.at t) p).session ∧ s' = { s.at t with ports := s'.ports } ∧
      ∀ o, o ≠ p → portOf s' o = portOf (s.at t) o) ∧
    (2 ≤ (portOf (s.at t) p).tries → Answers (.trainTimeout p t) s fun s' => PortFails (s.at t) s' p 8) := by
  have runs : exec (.trainTimeout p t) s = .next (trainFailed (s.at t) p) := by
    refine (whenEnabled_of_true ?on : execTrainTimeout p t s = _)
    case on =>
      rcases late with ⟨st, span⟩ | ⟨st, span⟩
      · have passed : (portOf (s.at t) p).since + ms 2 ≤ (s.at t).now := span
        simp only [hp, st, passed, decide_true, beq_self_eq_true, Bool.and_self, Bool.true_or]
      · have passed : (portOf (s.at t) p).since + us 100 ≤ (s.at t).now := span
        simp only [hp, st, passed, decide_true, beq_self_eq_true, Bool.and_self, Bool.or_true]
  have st : (portOf (s.at t) p).st ≠ 8 := by
    rcases late with ⟨st, -⟩ | ⟨st, -⟩ <;> rw [st] <;> decide
  obtain ⟨again, fails⟩ := trainFailed_spec hp st
  exact ⟨fun few => ⟨_, runs, again few⟩, fun many => ⟨_, runs, fails many⟩⟩

/-- RX_SILENCE, CODEWORD_LOCK_LOST and PRBS_RX (R538). -/
theorem retrainEvents_spec (up : (portOf (s.at t) p).st = 4 ∨ (portOf (s.at t) p).st = 5) :
    ((portOf (s.at t) p).goodAt + 4000000 ≤ (s.at t).now → Answers (.rxSilence p t) s fun s' => Retrains (s.at t) s' p) ∧
    (Answers (.codewordLockLost p t) s fun s' => Retrains (s.at t) s' p) ∧
    (Answers (.prbsRx p t) s fun s' => Retrains (s.at t) s' p) := by
  have portUp_ : portUp (s.at t) p = true := by simp only [portUp, hp, up, decide_true, Bool.and_self]
  have retrains := (startRetrain_spec (s.at t) hp).1
  refine ⟨fun silent => ⟨_, (whenEnabled_of_true ?on : execRxSilence p t s = _), retrains⟩,
    ⟨_, (whenEnabled_of_true portUp_ : execCodewordLockLost p t s = _), retrains⟩,
    ⟨_, (whenEnabled_of_true portUp_ : execPrbsRx p t s = _), retrains⟩⟩
  case on =>
    have passed : (portOf (s.at t) p).goodAt + us 4 ≤ (s.at t).now := silent
    simp only [portUp_, passed, decide_true, Bool.and_self]

/-- RETRAIN_TIMEOUT (R539). -/
theorem retrainTimeout_spec (retrains : (portOf (s.at t) p).retrain = true)
    (st : (portOf (s.at t) p).st = 6 ∨ (portOf (s.at t) p).st = 3) (late : (portOf (s.at t) p).retrainAt + 200000000 ≤ (s.at t).now) :
    Answers (.retrainTimeout p t) s fun s' =>
      (portOf s' p).st = 2 ∧ (portOf s' p).retrain = false ∧ (portOf s' p).since = (s.at t).now ∧ (portOf s' p).adapted = none ∧
      (portOf s' p).session = (portOf (s.at t) p).session ∧ (portOf s' p).replayBuf = (portOf (s.at t) p).replayBuf ∧
      s' = { s.at t with ports := s'.ports } ∧ ∀ o, o ≠ p → portOf s' o = portOf (s.at t) o := by
  have passed : (portOf (s.at t) p).retrainAt + us 200 ≤ (s.at t).now := late
  have runs : exec (.retrainTimeout p t) s = .next (enterTrain (modPort (s.at t) p fun x => { x with retrain := false }) p) := by
    refine (whenEnabled_of_true ?on : execRetrainTimeout p t s = _)
    case on => simp only [hp, retrains, st, passed, decide_true, Bool.and_self]
  refine ⟨_, runs, ?_⟩
  generalize s.at t = u
  obtain ⟨acts, -, due, rest, last⟩ := enterTrain_spec (modPort u p fun x => { x with retrain := false }) p
  rw [portOf_modPort_same] at last
  rw [last]
  exact ⟨rfl, rfl, rfl, rfl, rfl, rfl, rfl, fun o ne => (acts.others o ne).1.trans (portOf_modPort_ne u p _ ne)⟩

/-- RETRAIN (R538). -/
theorem retrain_spec {q : Requester} (open_ : reachable (s.at t) q = true) (takes : (s.at t).takesWrite q .dklCtrl (p % 4) (p / 4) 1) :
    (((portOf (s.at t) p).st = 4 ∨ (portOf (s.at t) p).st = 5) → Answers (.retrain q p t) s fun s' => Retrains (s.at t) s' p) ∧
    ((portOf (s.at t) p).st ≠ 4 → (portOf (s.at t) p).st ≠ 5 → exec (.retrain q p t) s =
      .next (logAccess (s.at t) .dkl 0x02 (regAddr .dklCtrl (p % 4) (p / 4)) (reqCode q))) := by
  have runs : exec (.retrain q p t) s = .next (if portUp (s.at t) p = true then startRetrain ((s.at t).noteWrite q .dklCtrl (p % 4) (p / 4)) p
      else logAccess (s.at t) .dkl 0x02 (regAddr .dklCtrl (p % 4) (p / 4)) (reqCode q)) := by
    refine (whenEnabled_of_true ?on : execRetrain q p t s = _).trans (congrArg _ ?_)
    case on => simp only [hp, open_, decide_true, Bool.and_self]
    rw [writeDklCtrl_of_takes takes]
    have one : bitAt (1 : Word) 0 = true ∧ bitAt (1 : Word) 1 = false := by decide
    rw [one.1, one.2]
    simp only [Bool.not_true, Bool.false_or, Bool.not_false, Bool.true_or, Bool.and_true, if_true, Bool.false_eq_true, if_false]
  refine ⟨fun up => ?_, fun ne4 ne5 => ?_⟩
  · have portUp_ : portUp (s.at t) p = true := by simp only [portUp, hp, up, decide_true, Bool.and_self]
    rw [if_pos portUp_] at runs
    exact ⟨_, runs, (startRetrain_spec _ hp).1.of_same rfl ⟨_, rfl⟩ rfl rfl rfl fun _ _ => rfl⟩
  · have down : portUp (s.at t) p = false := by simp only [portUp, hp, ne4, ne5, or_self, decide_true, decide_false, Bool.and_false]
    rw [down] at runs
    exact runs

/-- REPROBE (R533). -/
theorem reprobe_spec {q : Requester} (open_ : reachable (s.at t) q = true) (takes : (s.at t).takesWrite q .dklCtrl (p % 4) (p / 4) 2) :
    ((portOf (s.at t) p).st = 7 → Answers (.reprobe q p t) s fun s' =>
      (portOf s' p).st = 1 ∧ (portOf s' p).session = (portOf (s.at t) p).session ∧ (portOf s' p).since = (s.at t).now ∧
      s'.mem = (s.at t).mem ∧ ∀ o, o ≠ p → portOf s' o = portOf (s.at t) o) ∧
    ((portOf (s.at t) p).st ≠ 7 → exec (.reprobe q p t) s =
      .next (logAccess (s.at t) .dkl 0x02 (regAddr .dklCtrl (p % 4) (p / 4)) (reqCode q))) := by
  have runs : exec (.reprobe q p t) s = .next (if (portOf (s.at t) p).st = 7 then enterProbe ((s.at t).noteWrite q .dklCtrl (p % 4) (p / 4)) p
      else logAccess (s.at t) .dkl 0x02 (regAddr .dklCtrl (p % 4) (p / 4)) (reqCode q)) := by
    refine (whenEnabled_of_true ?on : execReprobe q p t s = _).trans (congrArg _ ?_)
    case on => simp only [hp, open_, decide_true, Bool.and_self]
    rw [writeDklCtrl_of_takes takes]
    have two : bitAt (2 : Word) 0 = false ∧ bitAt (2 : Word) 1 = true := by decide
    rw [two.1, two.2]
    simp only [Bool.not_true, Bool.false_or, Bool.not_false, Bool.true_or, Bool.true_and, if_true, Bool.false_eq_true, if_false, beq_iff_eq]
  refine ⟨fun hold => ?_, fun other => ?_⟩
  · rw [if_pos hold] at runs
    obtain ⟨acts, -, due, rest, port⟩ := enterProbe_spec ((s.at t).noteWrite q .dklCtrl (p % 4) (p / 4)) p
    refine ⟨_, runs, by rw [port], by rw [port]; rfl, by rw [port]; rfl, acts.keeps.1, fun o ne => (acts.others o ne).1⟩
  · rw [if_neg other] at runs
    exact runs

/-! ### Darkness (R533, R540) -/

/-- LOSS_OF_SIGNAL (R540). -/
theorem lossOfSignal_spec (ok : (s.at t).regsOk) (lit : (portOf (s.at t) p).light.isSome = true) :
    (((portOf (s.at t) p).st = 4 ∨ (portOf (s.at t) p).st = 5 ∨ (portOf (s.at t) p).st = 6) → Answers (.lossOfSignal p t) s fun s' =>
      (portOf s' p).st = 9 ∧ (portOf s' p).back = (portOf (s.at t) p).st ∧ (portOf s' p).light = none ∧
      (portOf s' p).losAt = (s.at t).now ∧ (portOf s' p).replayBuf = (portOf (s.at t) p).replayBuf ∧
      (portOf s' p).session = (portOf (s.at t) p).session ∧
      rfield s' .dklErr 23 16 (p / 4) (p % 4) = min (rfield (s.at t) .dklErr 23 16 (p / 4) (p % 4) + 1) 255 ∧
      s' = { s.at t with ports := s'.ports, regs := s'.regs }) ∧
    ((portOf (s.at t) p).st ≠ 4 → (portOf (s.at t) p).st ≠ 5 → (portOf (s.at t) p).st ≠ 6 → Answers (.lossOfSignal p t) s fun s' =>
      onlyPort (s.at t) s' p { portOf (s.at t) p with light := none, losAt := (s.at t).now }) := by
  have runs : exec (.lossOfSignal p t) s = .next (loseLight (s.at t) p) := by
    refine (whenEnabled_of_true ?on : execLossOfSignal p t s = _)
    case on => simp only [hp, lit, decide_true, Bool.and_self]
  obtain ⟨up, down⟩ := loseLight_spec (p := p) ok
  exact ⟨fun h => ⟨_, runs, up h⟩, fun ne4 ne5 ne6 => ⟨_, runs, down ne4 ne5 ne6⟩⟩

/-- SIGNAL_RETURN of a dark port (R540). -/
theorem exec_signalReturn (dark : (portOf (s.at t) p).light = none) (relocked : Bool) :
    exec (.signalReturn p relocked t) s = .next (
      if (portOf (s.at t) p).st ≠ 9 then lightBack (s.at t) p
      else if !relocked then startRetrain (lightBack (s.at t) p) p
      else
        let w := modPort (lightBack (s.at t) p) p fun y =>
          { y with st := (portOf (s.at t) p).back, since := (s.at t).now, goodAt := (s.at t).now, consReplay := 0
                   retrainAt := y.retrainAt + ((s.at t).now - (portOf (s.at t) p).losAt) }
        if (portOf (s.at t) p).back = 6 then w else resumeReplay w p) := by
  refine (whenEnabled_of_true ?on : execSignalReturn p relocked t s = _)
  case on => simp only [hp, dark, decide_true, Option.isNone_none, Bool.and_self]

/-- A replay on resumption (R513, R538). -/
theorem resumeReplay_spec (w : State) :
    (portOf (resumeReplay w p) p).st = (portOf w p).st ∧ (portOf (resumeReplay w p) p).light = (portOf w p).light ∧
    (portOf (resumeReplay w p) p).goodAt = (portOf w p).goodAt ∧ (portOf (resumeReplay w p) p).replayBuf = (portOf w p).replayBuf ∧
    (portOf (resumeReplay w p) p).oldest = (portOf w p).oldest ∧ (portOf (resumeReplay w p) p).txExt = (portOf w p).txExt ∧
    (portOf (resumeReplay w p) p).session = (portOf w p).session ∧
    (portOf (resumeReplay w p) p).replayAt =
      (if (portOf w p).txExt ≠ (portOf w p).oldest then some (portOf w p).oldest else (portOf w p).replayAt) ∧
    (resumeReplay w p).mem = w.mem := by
  have cleared : portOf (modPort w p fun x => { x with consReplay := 0 }) p = { portOf w p with consReplay := 0 } := portOf_modPort_same ..
  have mem : (modPort w p fun x => { x with consReplay := 0 }).mem = w.mem := rfl
  have run : resumeReplay w p =
      modPort (startReplay (modPort w p fun x => { x with consReplay := 0 }) p) p fun x => { x with consReplay := 0 } := rfl
  rw [run, portOf_modPort_same]
  generalize (modPort w p fun x => { x with consReplay := 0 }) = c at cleared mem ⊢
  by_cases waits : (portOf w p).txExt = (portOf w p).oldest
  · have same : startReplay c p = c := by
      rw [startReplay]
      exact if_pos (by rw [cleared]; exact waits)
    rw [same, cleared, if_neg (not_not.2 waits)]
    exact ⟨rfl, rfl, rfl, rfl, rfl, rfl, rfl, rfl, mem⟩
  · obtain ⟨frame, port, -⟩ := startReplay_of_few hp (s := c) (by rw [cleared]; exact waits)
      (by rw [cleared]; show 0 < 8; decide)
    rw [port, cleared, if_pos waits]
    exact ⟨rfl, rfl, rfl, rfl, rfl, rfl, rfl, rfl, (congrArg State.mem frame :).trans mem⟩

/-- SIGNAL_RETURN (R540). -/
theorem signalReturn_spec (ok : (s.at t).regsOk) (dark : (portOf (s.at t) p).light = none) (relocked : Bool) :
    ((portOf (s.at t) p).st ≠ 9 → Answers (.signalReturn p relocked t) s fun s' =>
      bitAt (rget s' .clkLockStatus) (32 + p % 4) = true ∧ portOf s' p = { portOf (s.at t) p with light := some (s.at t).now } ∧
      s'.mem = (s.at t).mem) ∧
    ((portOf (s.at t) p).st = 9 → relocked = false → Answers (.signalReturn p relocked t) s fun s' =>
      Retrains (s.at t) s' p ∧ (portOf s' p).light = some (s.at t).now) ∧
    ((portOf (s.at t) p).st = 9 → relocked = true → Answers (.signalReturn p relocked t) s fun s' =>
      (portOf s' p).st = (portOf (s.at t) p).back ∧ (portOf s' p).light = some (s.at t).now ∧ (portOf s' p).goodAt = (s.at t).now ∧
      (portOf s' p).replayAt = (if (portOf (s.at t) p).back ≠ 6 ∧ (portOf (s.at t) p).txExt ≠ (portOf (s.at t) p).oldest
        then some (portOf (s.at t) p).oldest else (portOf (s.at t) p).replayAt) ∧
      (portOf s' p).replayBuf = (portOf (s.at t) p).replayBuf ∧ s'.mem = (s.at t).mem) := by
  have runs := exec_signalReturn hp dark relocked
  obtain ⟨lock, port, frame, others⟩ := lightBack_spec ok p
  have mem : (lightBack (s.at t) p).mem = (s.at t).mem := (congrArg State.mem frame :)
  refine ⟨fun other => ?_, fun was failed => ?_, fun was good => ?_⟩
  · rw [if_pos other] at runs
    exact ⟨_, runs, lock, port, mem⟩
  · subst failed
    rw [if_neg (not_not.2 was)] at runs
    obtain ⟨retrains, -, light⟩ := startRetrain_spec (lightBack (s.at t) p) hp
    rw [port] at light
    exact ⟨_, runs, retrains.of_same (congrArg State.now frame :) ⟨_, port⟩ (congrArg State.ctxs frame :) mem
      (congrArg State.log frame :) others, light⟩
  · subst good
    rw [if_neg (not_not.2 was), if_neg (by decide)] at runs
    dsimp only at runs
    generalize hw : (modPort (lightBack (s.at t) p) p fun y =>
          { y with st := (portOf (s.at t) p).back, since := (s.at t).now, goodAt := (s.at t).now, consReplay := 0
                   retrainAt := y.retrainAt + ((s.at t).now - (portOf (s.at t) p).losAt) }) = w at runs
    have last : portOf w p = { portOf (s.at t) p with
        light := some (s.at t).now, st := (portOf (s.at t) p).back, since := (s.at t).now, goodAt := (s.at t).now, consReplay := 0
        retrainAt := (portOf (s.at t) p).retrainAt + ((s.at t).now - (portOf (s.at t) p).losAt) } := by
      rw [← hw, portOf_modPort_same, port]
    have memW : w.mem = (s.at t).mem := by
      rw [← hw]
      exact mem
    by_cases six : (portOf (s.at t) p).back = 6
    · rw [if_pos six] at runs
      refine ⟨_, runs, by rw [last], by rw [last], by rw [last], ?_, by rw [last], memW⟩
      rw [last, if_neg fun h => h.1 six]
    · rw [if_neg six] at runs
      obtain ⟨st, light, good_, replayBuf, -, -, -, replayAt, memR⟩ := resumeReplay_spec hp w
      rw [last] at st light good_ replayBuf replayAt
      refine ⟨_, runs, st, light, good_, ?_, replayBuf, memR.trans memW⟩
      rw [replayAt]
      by_cases waits : (portOf (s.at t) p).txExt = (portOf (s.at t) p).oldest
      · rw [if_neg (not_not.2 waits), if_neg fun h => h.2 waits]
      · rw [if_pos waits, if_pos ⟨six, waits⟩]

/-- LOS_TIMEOUT (R533, R540). -/
theorem losTimeout_spec (dark : (portOf (s.at t) p).light = none)
    (st : (portOf (s.at t) p).st = 9 ∨ (portOf (s.at t) p).st = 7 ∨ (portOf (s.at t) p).st = 3 ∨ (portOf (s.at t) p).st = 2)
    (late : (portOf (s.at t) p).losAt + 50000000 < (s.at t).now) :
    Answers (.losTimeout p t) s fun s' => (portOf s' p).st = 1 ∧ (portOf s' p).session = (portOf (s.at t) p).session ∧
      (portOf s' p).replayBuf = (portOf (s.at t) p).replayBuf ∧ s' = { s.at t with ports := s'.ports } ∧
      ∀ o, o ≠ p → portOf s' o = portOf (s.at t) o := by
  have passed : (portOf (s.at t) p).losAt + us 50 < (s.at t).now := late
  obtain ⟨acts, -, due, rest, port⟩ := enterProbe_spec (s.at t) p
  refine ⟨_, (whenEnabled_of_true ?on : execLosTimeout p t s = _), by rw [port], by rw [port], by rw [port], rfl,
    fun o ne => (acts.others o ne).1⟩
  case on => simp only [hp, dark, st, passed, decide_true, Option.isNone_none, Bool.and_self]

end

end Sys2Proof.Machine
end

section
/-! PROOFS. What a link port sends in a flit time (O57: R504, R521). -/

namespace Sys2Proof.Machine

/-- Notices that leave become units on ports, and nothing else changes. -/
theorem flushNotices_eq (u : State) : flushNotices u = { u with ports := (flushNotices u).ports, notices := [] } := by
  have units : ∀ (l : List Notice) (s : State), (l.foldl (fun s n => n.chips.foldl (fun s pos =>
      match activeTo s pos with
      | [] => s
      | p :: _ => sendUnit s p 0
          { bytes := vc0Message s 4 (stallNo n.c) (n.c % 2) (killBody n), started := false, safety := false, reply := false
            c := n.c, uid := 0, cmd := 0 }) s) s) = { s with ports := (l.foldl (fun s n => n.chips.foldl (fun s pos =>
      match activeTo s pos with
      | [] => s
      | p :: _ => sendUnit s p 0
          { bytes := vc0Message s 4 (stallNo n.c) (n.c % 2) (killBody n), started := false, safety := false, reply := false
            c := n.c, uid := 0, cmd := 0 }) s) s).ports } := by
    have refl (s : State) : s = { s with ports := s.ports } := rfl
    have trans {s s' s'' : State} (h : s' = { s with ports := s'.ports }) (k : s'' = { s' with ports := s''.ports }) :
        s'' = { s with ports := s''.ports } := by
      rw [h] at k
      exact k
    intro l s
    refine foldl_keeps (R := fun s s' => s' = { s with ports := s'.ports }) refl trans (fun s n => ?_) l s
    refine foldl_keeps (R := fun s s' => s' = { s with ports := s'.ports }) refl trans (fun s pos => ?_) n.chips s
    split <;> rfl
  have frame := units u.notices u
  unfold flushNotices
  dsimp only
  generalize u.notices.foldl _ u = v at frame ⊢
  rw [frame]

/-- A flit as it leaves (R507, R793). -/
def flitWire (u : State) (p : Nat) (h : FlitHead) (payload : List Byte) : Out :=
  let body := leBytes 8 h.word ++ payload
  Out.flit p (body ++ leBytes 8 (if h.kind = 1 ∧ bf (rget u .hltInject) 63 62 = 3 ∧ bf (rget u .hltInject) 52 48 = p
    then crc64 body ^^^ 1 else crc64 body))

/-- A flit has left, and the notices with it. -/
def FlitSent (u s' : State) (p : Nat) (h : FlitHead) (payload : List Byte) : Prop :=
  s'.out = flitWire u p h payload :: u.out ∧ s'.mem = u.mem ∧ s'.ctxs = u.ctxs ∧ s'.notices = []

/-- A port after a flit has left it: the NAK that it carried is sent, and the credit rotation moves on. -/
def Port.afterFlit (x : Port) : Port :=
  { x with creditVc := (x.creditVc + 1) % 4, nak := false, nakSent := x.nakSent || x.nak }

/-- A flit that is put on the wire, after what an armed injection does to the register that armed it. -/
theorem putFlit_eq (f : State) (p : Nat) (h : FlitHead) (payload : List Byte) :
    ∃ d : State, d = { f with regs := d.regs, log := d.log } ∧
      putFlit f p h payload = { modPort d p Port.afterFlit with out := flitWire f p h payload :: d.out } := by
  have armed : (h.kind == 1 && bf (rget f .hltInject) 63 62 == 3 && bf (rget f .hltInject) 52 48 == p) =
      decide (h.kind = 1 ∧ bf (rget f .hltInject) 63 62 = 3 ∧ bf (rget f .hltInject) 52 48 = p) := by
    simp only [Bool.decide_and, Bool.and_assoc, beq_eq_decide]
  by_cases hit : h.kind = 1 ∧ bf (rget f .hltInject) 63 62 = 3 ∧ bf (rget f .hltInject) 52 48 = p
  · refine ⟨rsetField f .hltInject 63 62 0, rfl, ?_⟩
    unfold putFlit flitWire
    dsimp only
    rw [armed, decide_eq_true hit, if_pos hit]
    rfl
  · refine ⟨f, rfl, ?_⟩
    unfold putFlit flitWire
    dsimp only
    rw [armed, decide_eq_false hit, if_neg hit]
    rfl

/-- What a flit put on the wire leaves. -/
theorem putFlit_spec (u : State) (p : Nat) (h : FlitHead) (payload : List Byte) :
    FlitSent u (putFlit (flushNotices u) p h payload) p h payload ∧
    portOf (putFlit (flushNotices u) p h payload) p = (portOf (flushNotices u) p).afterFlit := by
  have frame := flushNotices_eq u
  generalize flushNotices u = f at frame ⊢
  have wire : flitWire f p h payload = flitWire u p h payload := by
    unfold flitWire rget rgetX
    rw [frame]
  obtain ⟨d, same, run⟩ := putFlit_eq f p h payload
  have out : d.out = u.out := (congrArg State.out same :).trans (congrArg State.out frame :)
  have mem : d.mem = u.mem := (congrArg State.mem same :).trans (congrArg State.mem frame :)
  have ctxs : d.ctxs = u.ctxs := (congrArg State.ctxs same :).trans (congrArg State.ctxs frame :)
  have notices : d.notices = [] := (congrArg State.notices same :).trans (congrArg State.notices frame :)
  have port : portOf d p = portOf f p := congrArg (Tab.getD Port.clear p) (congrArg State.ports same :)
  rw [run, wire]
  refine ⟨⟨congrArg _ out, mem, ctxs, notices⟩, ?_⟩
  rw [← port]
  exact portOf_modPort_same d p _

/-- A change of the port after it leaves what was sent. -/
theorem FlitSent.modPort {u w : State} {p : Nat} {h : FlitHead} {payload : List Byte} (sent : FlitSent u w p h payload) (f : Port → Port) :
    FlitSent u (Machine.modPort w p f) p h payload := sent

/-- The header of a port's next new DATA flit (R509, R536). -/
def dataHead (f : State) (p vc fill : Nat) (crypt : Bool) : FlitHead :=
  { baseHead f p 1 fill with
    seq := (portOf f p).txExt % 4096, vc := vc, crypt := crypt
    phase := if crypt = true then keyEpochOf (portOf f p).txExt % 2 else 0 }

/-- A new DATA flit is put on the wire and joins the replay buffer (R509, R511). -/
theorem sendData_eq (f : State) (p vc rot : Nat) :
    ∃ (k : TxFlit) (g : Port → Port),
      sendData f p vc rot = modPort (putFlit f p (dataHead f p vc k.fill (portEnc f p)) k.payload) p g ∧
      k.ext = (portOf f p).txExt ∧ k.vc = vc ∧ k.crypt = portEnc f p ∧ (∀ y, (g y).replayBuf = y.replayBuf ++ [k]) ∧
      (∀ y, (g y).txExt = y.txExt + 1) ∧ ∀ y, (g y).ackDue.isSome = true := by
  unfold sendData
  dsimp only
  obtain ⟨b, owners, cmds, rest⟩ := fillFlit (if portEnc f p = true then 224 else 240)
    (Tab.getD (TxChan.clear 0) vc (portOf f p).tx).units
  dsimp only
  generalize (if portEnc f p = true then _ else b ++ zeros (240 - b.length)) = payload
  generalize hw : putFlit f p _ payload = w
  refine ⟨{ ext := (portOf f p).txExt, vc := vc, fill := b.length, crypt := portEnc f p
            phase := if portEnc f p = true then keyEpochOf (portOf f p).txExt % 2 else 0, payload := payload
            owners := owners, cmds := cmds }, _, (congrArg (fun w => modPort w p _) hw.symm :), rfl, rfl, rfl,
    fun _ => rfl, fun _ => rfl, fun y => ?_⟩
  dsimp only
  cases due : y.ackDue <;> rfl

/-- What an ACTIVE port sends: a replay, a new flit of a channel, or an IDLE flit (R521). -/
theorem flitTx_active {u : State} {p : Nat} (active : (portOf (flushNotices u) p).st = 4) :
    flitTx p u = match (portOf (flushNotices u) p).replayAt with
      | some r => sendReplay (flushNotices u) p r
      | none =>
        match chooseVc (portOf (flushNotices u) p) with
        | some (vc, rot) => sendData (flushNotices u) p vc rot
        | none => putFlit (flushNotices u) p (baseHead (flushNotices u) p 0 0) (zeros 240) := by
  unfold flitTx
  dsimp only
  rw [active]
  rfl

section
variable {s : State} {p t : Nat} (hp : p < 32) (sends : sendsFlits (portOf (s.at t) p) = true)
include hp sends

/-- FLIT_TX while the port carries flits. -/
theorem exec_flitTx : exec (.flitTx p t) s = .next (flitTx p (s.at t)) := by
  refine (whenEnabled_of_true ?on : execFlitTx p t s = _)
  case on => simp only [hp, sends, decide_true, Bool.and_self]

/-- A port in IDENT or HOLD, or one that is qualified, sends CTRL flits. -/
theorem flitTx_ctrl (st : (portOf (flushNotices (s.at t)) p).st = 3 ∨ (portOf (flushNotices (s.at t)) p).st = 7 ∨
      ((portOf (flushNotices (s.at t)) p).st = 2 ∨ (portOf (flushNotices (s.at t)) p).st = 6) ∧
        (portOf (flushNotices (s.at t)) p).qualified = true) :
    Answers (.flitTx p t) s fun s' => FlitSent (s.at t) s' p (baseHead (flushNotices (s.at t)) p 2 64)
      (identRecord (flushNotices (s.at t)) p ++ zeros 176) := by
  have ctrl : flitTx p (s.at t) = putFlit (flushNotices (s.at t)) p (baseHead (flushNotices (s.at t)) p 2 64)
      (identRecord (flushNotices (s.at t)) p ++ zeros 176) := by
    unfold flitTx
    dsimp only
    rcases st with three | seven | ⟨two | six, qualified⟩
    · rw [three]
      rfl
    · rw [seven]
      rfl
    · rw [two, qualified]
      rfl
    · rw [six, qualified]
      rfl
  exact ⟨_, exec_flitTx hp sends, ctrl ▸ (putFlit_spec (s.at t) p _ _).1⟩

/-- One in STANDBY or DARK, or not qualified, sends IDLE flits. -/
theorem flitTx_idle (st : (portOf (flushNotices (s.at t)) p).st = 5 ∨ (portOf (flushNotices (s.at t)) p).st = 9 ∨
      ((portOf (flushNotices (s.at t)) p).st = 2 ∨ (portOf (flushNotices (s.at t)) p).st = 6) ∧
        (portOf (flushNotices (s.at t)) p).qualified = false) :
    Answers (.flitTx p t) s fun s' => FlitSent (s.at t) s' p (baseHead (flushNotices (s.at t)) p 0 0) (zeros 240) := by
  have idle : flitTx p (s.at t) = putFlit (flushNotices (s.at t)) p (baseHead (flushNotices (s.at t)) p 0 0) (zeros 240) := by
    unfold flitTx
    dsimp only
    rcases st with five | nine | ⟨two | six, not_⟩
    · rw [five]
      rfl
    · rw [nine]
      rfl
    · rw [two, not_]
      rfl
    · rw [six, not_]
      rfl
  exact ⟨_, exec_flitTx hp sends, idle ▸ (putFlit_spec (s.at t) p _ _).1⟩

variable (active : (portOf (flushNotices (s.at t)) p).st = 4)
include active

/-- An ACTIVE port with nothing to send sends an IDLE flit. -/
theorem flitTx_nothing (none_ : (portOf (flushNotices (s.at t)) p).replayAt = none)
    (nothing : chooseVc (portOf (flushNotices (s.at t)) p) = none) :
    Answers (.flitTx p t) s fun s' => FlitSent (s.at t) s' p (baseHead (flushNotices (s.at t)) p 0 0) (zeros 240) := by
  have idle : flitTx p (s.at t) = putFlit (flushNotices (s.at t)) p (baseHead (flushNotices (s.at t)) p 0 0) (zeros 240) := by
    rw [flitTx_active active, none_, nothing]
  exact ⟨_, exec_flitTx hp sends, idle ▸ (putFlit_spec (s.at t) p _ _).1⟩

/-- A replay sends the flit that it stands at (R513). -/
theorem flitTx_replay {r : Nat} {k : TxFlit} (at_ : (portOf (flushNotices (s.at t)) p).replayAt = some r)
    (found : (portOf (flushNotices (s.at t)) p).replayBuf.find? (·.ext == r) = some k) :
    Answers (.flitTx p t) s fun s' =>
      FlitSent (s.at t) s' p { baseHead (flushNotices (s.at t)) p 1 k.fill with
        seq := k.ext % 4096, vc := k.vc, crypt := k.crypt, phase := k.phase } k.payload ∧
      (portOf s' p).replayAt = (if r + 1 < (portOf (flushNotices (s.at t)) p).txExt then some (r + 1) else none) ∧
      (portOf s' p).replayBuf = (portOf (flushNotices (s.at t)) p).replayBuf := by
  have replay : flitTx p (s.at t) = modPort (putFlit (flushNotices (s.at t)) p { baseHead (flushNotices (s.at t)) p 1 k.fill with
        seq := k.ext % 4096, vc := k.vc, crypt := k.crypt, phase := k.phase } k.payload) p fun x =>
      { x with replayAt := if r + 1 < x.txExt then some (r + 1) else none } := by
    rw [flitTx_active active, at_]
    dsimp only [sendReplay]
    rw [found]
  obtain ⟨sent, port⟩ := putFlit_spec (s.at t) p { baseHead (flushNotices (s.at t)) p 1 k.fill with
        seq := k.ext % 4096, vc := k.vc, crypt := k.crypt, phase := k.phase } k.payload
  refine ⟨_, (exec_flitTx hp sends).trans (congrArg _ replay), sent.modPort _, ?_, ?_⟩
  · rw [portOf_modPort_same, port]
    rfl
  · rw [portOf_modPort_same, port]
    rfl

/-- A channel that may send sends its next DATA flit (R509, R520, R537). -/
theorem flitTx_data {vc rot : Nat} (none_ : (portOf (flushNotices (s.at t)) p).replayAt = none)
    (chosen : chooseVc (portOf (flushNotices (s.at t)) p) = some (vc, rot)) :
    Answers (.flitTx p t) s fun s' =>
      ∃ k : TxFlit, (portOf s' p).replayBuf = (portOf (flushNotices (s.at t)) p).replayBuf ++ [k] ∧
        k.ext = (portOf (flushNotices (s.at t)) p).txExt ∧ k.vc = vc ∧ k.crypt = portEnc (s.at t) p ∧
        (portOf s' p).txExt = (portOf (flushNotices (s.at t)) p).txExt + 1 ∧ (portOf s' p).ackDue.isSome = true ∧
        FlitSent (s.at t) s' p { baseHead (flushNotices (s.at t)) p 1 k.fill with
          seq := (portOf (flushNotices (s.at t)) p).txExt % 4096, vc := vc, crypt := portEnc (s.at t) p
          phase := if portEnc (s.at t) p = true then keyEpochOf (portOf (flushNotices (s.at t)) p).txExt % 2 else 0 } k.payload := by
  have data : flitTx p (s.at t) = sendData (flushNotices (s.at t)) p vc rot := by
    rw [flitTx_active active, none_, chosen]
  have enc : portEnc (flushNotices (s.at t)) p = portEnc (s.at t) p := by
    unfold portEnc portCfg rfield rgetX
    rw [flushNotices_eq]
  refine ⟨_, (exec_flitTx hp sends).trans (congrArg _ data), ?_⟩
  obtain ⟨k, g, run, ext, channel, crypt, buf, count, due⟩ := sendData_eq (flushNotices (s.at t)) p vc rot
  rw [enc] at run crypt
  obtain ⟨sent, port⟩ := putFlit_spec (s.at t) p (dataHead (flushNotices (s.at t)) p vc k.fill (portEnc (s.at t) p)) k.payload
  have last := portOf_modPort_same (putFlit (flushNotices (s.at t)) p
    (dataHead (flushNotices (s.at t)) p vc k.fill (portEnc (s.at t) p)) k.payload) p g
  rw [port] at last
  rw [run, last, buf, count]
  exact ⟨k, rfl, ext, channel, crypt, rfl, due _, sent.modPort g⟩

end

end Sys2Proof.Machine
end

section
/-! SUPPORT. What a DATA flit that is accepted leaves of its port (O57: R508, R512). -/

namespace Sys2Proof.Machine

/-! ### The units of a channel's stream (R517, R529) -/

/-- What the units of an accepted flit leave: the sequence of the port and its NAK, and the other ports. -/
structure StreamKept (p : Nat) (s s' : State) : Prop where
  rxExt : (portOf s' p).rxExt = (portOf s p).rxExt
  nak : (portOf s' p).nak = (portOf s p).nak
  nakSent : (portOf s' p).nakSent = (portOf s p).nakSent
  others : ∀ o, o ≠ p → portOf s' o = portOf s o

section
variable {p : Nat} {s s' s'' : State}

/-- One after the other. -/
theorem StreamKept.trans (h : StreamKept p s s') (k : StreamKept p s' s'') : StreamKept p s s'' :=
  ⟨k.rxExt.trans h.rxExt, k.nak.trans h.nak, k.nakSent.trans h.nakSent, fun o ne => (k.others o ne).trans (h.others o ne)⟩

/-- Both branches of a choice. -/
theorem StreamKept.ite {c : Prop} [Decidable c] (h : StreamKept p s s') (k : StreamKept p s s'') :
    StreamKept p s (if c then s' else s'') := by
  split
  · exact h
  · exact k

/-- What leaves the ports. -/
theorem StreamKept.of_ports (ports : s'.ports = s.ports) : StreamKept p s s' := by
  have same (o : Nat) : portOf s' o = portOf s o := congrArg (Tab.getD Port.clear o) ports
  exact ⟨by rw [same], by rw [same], by rw [same], fun o _ => same o⟩

/-- What changes other parts of the port. -/
theorem StreamKept.of_modPort {f : Port → Port} (rxExt : (f (portOf s p)).rxExt = (portOf s p).rxExt)
    (nak : (f (portOf s p)).nak = (portOf s p).nak) (nakSent : (f (portOf s p)).nakSent = (portOf s p).nakSent) :
    StreamKept p s (modPort s p f) := by
  refine ⟨?_, ?_, ?_, fun o ne => portOf_modPort_ne s p f ne⟩ <;> rw [portOf_modPort_same] <;> assumption

end

/-- A chip loss leaves the ports. -/
theorem chipLoss_ports (s : State) (src : Src) (code d0 d1 : Nat) : (chipLoss s src code d0 d1).ports = s.ports := by
  have folds := folds_lossEffects (logRaw s none 4 src code d0 d1) src code s.log.seq
  exact (congrArg State.ports folds :)

/-- A delay that Squall draws leaves the ports. -/
theorem linkDelay_ports (s : State) (p vc : Nat) (b : List Byte) : (linkDelay s p vc b).2.ports = s.ports := by
  unfold linkDelay
  dsimp only
  split <;> rfl

section
variable {p : Nat} (hp : p < 32)
include hp

/-- A failure of the port keeps what it has received in order. -/
theorem streamKept_failPort (s : State) (cause : Nat) : StreamKept p s (failPort s p cause) := by
  obtain ⟨kept, fails, same⟩ := failPort_spec s p cause hp
  by_cases failed : (portOf s p).st = 8
  · rw [same failed]
    exact StreamKept.of_ports rfl
  · obtain ⟨-, port⟩ := fails failed
    exact ⟨by rw [port], by rw [port], by rw [port], kept.others⟩

/-- The checks of a VC0 message keep it where what follows them does. -/
theorem streamKept_vc0Check (s : State) (b : List Byte) {k : State → State} (next : StreamKept p s (k s)) :
    StreamKept p s (vc0Check s p b k) :=
  StreamKept.ite (StreamKept.of_ports (chipLoss_ports ..)) (StreamKept.ite (streamKept_failPort hp s 14) next)

/-- So does the choice between a VC0 message and the units of another channel. -/
theorem streamKept_checked {vc : Nat} {b : List Byte} {k : State → State} (s : State) (next : ∀ s, StreamKept p s (k s)) :
    StreamKept p s (if vc = 0 then vc0Check s p b k else k s) :=
  StreamKept.ite (streamKept_vc0Check hp s b (next s)) (next s)

/-- The units that are taken off a stream. -/
theorem streamKept_takeUnits (vc fuel : Nat) (s : State) : StreamKept p s (takeUnits p vc fuel s) := by
  induction fuel generalizing s with
  | zero => exact StreamKept.of_ports rfl
  | succ fuel ih =>
    unfold takeUnits
    dsimp only
    split
    · exact StreamKept.of_ports rfl
    · next n _ =>
      refine StreamKept.ite (StreamKept.of_ports rfl) ?_
      generalize List.take n _ = b
      refine streamKept_checked hp s fun w => ?_
      refine (StreamKept.of_ports (linkDelay_ports w p vc b)).trans ?_
      refine StreamKept.ite (streamKept_failPort hp _ 14) (StreamKept.ite (StreamKept.ite (streamKept_failPort hp _ 14) ?_) ?_)
      · exact (StreamKept.of_modPort rfl rfl rfl).trans (ih _)
      · exact (StreamKept.of_modPort rfl rfl rfl).trans (ih _)

/-- The bytes of an accepted flit. -/
theorem streamKept_streamBytes (s : State) (vc : Nat) (bytes : List Byte) : StreamKept p s (streamBytes s p vc bytes) := by
  unfold streamBytes
  dsimp only
  generalize hf : (fun x : Port => _) = f
  have joined : StreamKept p s (modPort s p f) := by
    rw [← hf]
    exact StreamKept.of_modPort rfl rfl rfl
  have taken := joined.trans (streamKept_takeUnits hp vc (bytes.length + 1) (modPort s p f))
  generalize takeUnits p vc _ _ = w at taken ⊢
  obtain ⟨⟨rx, port⟩, others⟩ := portOf_freeCredits w p vc
  exact taken.trans ⟨by rw [port], by rw [port], by rw [port], others⟩

/-! ### DATA flits (R512) -/

/-- The next DATA flit in order, in the clear, is accepted. -/
theorem receiveData_next (w : State) {h : FlitHead} (payload : List Byte)
    (next : (h.seq + 4096 - (portOf w p).rxExt % 4096) % 4096 = 0) (plain : h.crypt = false) :
    (portOf (receiveData w p h payload) p).rxExt = (portOf w p).rxExt + 1 ∧ (portOf (receiveData w p h payload) p).nak = false ∧
    (portOf (receiveData w p h payload) p).nakSent = false ∧ ∀ o, o ≠ p → portOf (receiveData w p h payload) o = portOf w o := by
  have run : receiveData w p h payload = streamBytes
      (modPort w p fun x => { x with rxExt := x.rxExt + 1, nak := false, nakSent := false }) p h.vc (payload.take h.fill) := by
    unfold receiveData
    dsimp only
    rw [if_pos next, plain]
    rfl
  have port : portOf (modPort w p fun x => { x with rxExt := x.rxExt + 1, nak := false, nakSent := false }) p =
      { portOf w p with rxExt := (portOf w p).rxExt + 1, nak := false, nakSent := false } := portOf_modPort_same ..
  rw [run]
  obtain ⟨rxExt, nak, nakSent, others⟩ := streamKept_streamBytes hp
    (modPort w p fun x => { x with rxExt := x.rxExt + 1, nak := false, nakSent := false }) h.vc (payload.take h.fill)
  rw [port] at rxExt nak nakSent
  exact ⟨rxExt, nak, nakSent, fun o ne => (others o ne).trans (portOf_modPort_ne w p _ ne)⟩

/-- A flit behind a gap is discarded, one too far ahead fails the port, and one received before does nothing. -/
theorem receiveData_other (w : State) (h : FlitHead) (payload : List Byte) (up : (portOf w p).st = 4 ∨ (portOf w p).st = 5) :
    let d := (h.seq + 4096 - (portOf w p).rxExt % 4096) % 4096
    (1 ≤ d → d ≤ 2046 → onlyPort w (receiveData w p h payload) p
      (if (portOf w p).nakSent = false then { portOf w p with nak := true } else portOf w p)) ∧
    (d = 2047 ∨ d = 2048 → PortFails w (receiveData w p h payload) p 10) ∧
    (2049 ≤ d → receiveData w p h payload = w) := by
  intro d
  refine ⟨fun ahead near => ?_, fun lost => ?_, fun behind => ?_⟩
  · have run : receiveData w p h payload = discardFlit w p := by
      unfold receiveData
      dsimp only
      rw [if_neg (by omega), if_pos near]
    have only := onlyPort_modPort w p fun x => if (x.st = 4 ∨ x.st = 5) ∧ x.nakSent = false then { x with nak := true } else x
    simp only [up, true_and] at only
    rw [run]
    exact only
  · have run : receiveData w p h payload = failPort w p 10 := by
      unfold receiveData
      dsimp only
      rw [if_neg (by omega), if_neg (by omega), if_pos (by omega)]
    rw [run]
    exact ((failPort_spec w p 10 hp).2.1 (by rcases up with st | st <;> rw [st] <;> decide)).1
  · unfold receiveData
    dsimp only
    rw [if_neg (by omega), if_neg (by omega), if_neg (by omega)]

/-! ### The check of a flit that arrives (R508) -/

omit hp in
/-- A flit whose CRC fails is discarded and counted. -/
theorem receiveFlit_badCrc {u : State} (ok : u.regsOk) {b : List Byte} (bad : ¬ fieldAt b 248 8 = crc64 (b.take 248))
    (kinds : List Nat) (eff : FlitHead → List Byte → State → State) :
    let s' := receiveFlit kinds p b eff u
    rfield s' .dklErr 63 48 (p / 4) (p % 4) = min (rfield u .dklErr 63 48 (p / 4) (p % 4) + 1) 65535 ∧
    portOf s' p = (if ((portOf u p).st = 4 ∨ (portOf u p).st = 5) ∧ (portOf u p).nakSent = false
      then { portOf u p with nak := true } else portOf u p) ∧
    s' = { u with ports := s'.ports, regs := s'.regs } ∧ u.otherRegs s' .dklErr (p % 4) (p / 4) := by
  have run : receiveFlit kinds p b eff u = discardFlit (dklBump u p 63 48) p := if_pos bad
  have same : portOf (dklBump u p 63 48) p = portOf u p := rfl
  dsimp only
  rw [run]
  refine ⟨rfield_dklBump ok (by decide) 48, ?_, rfl, fun r' d' i' other => rgetX_rputX_ne u other _⟩
  rw [discardFlit, portOf_modPort_same, same]

/-- A flit of a known kind whose header breaks the protocol fails the port. -/
theorem receiveFlit_badHead {u : State} {b : List Byte} (receives : receivesFlits (portOf u p) = true)
    (sound : fieldAt b 248 8 = crc64 (b.take 248)) {kinds : List Nat} (kind : kinds.contains (flitHead (fieldAt b 0 8)).kind = true)
    (bad : headerBad u p (fieldAt b 0 8) = true) (eff : FlitHead → List Byte → State → State) :
    PortFails u (receiveFlit kinds p b eff u) p 14 := by
  have run : receiveFlit kinds p b eff u = failPort u p 14 := by
    unfold receiveFlit
    dsimp only
    rw [if_neg (not_not.2 sound), kind, bad]
    rfl
  have alive : (portOf u p).st ≠ 8 := fun failed => by
    simp [receivesFlits, failed] at receives
  rw [run]
  exact ((failPort_spec u p 14 hp).2.1 alive).1

omit hp in
/-- A sound flit acts after its header. -/
theorem receiveFlit_sound {u : State} {b : List Byte} (sound : fieldAt b 248 8 = crc64 (b.take 248)) {kinds : List Nat}
    (kind : kinds.contains (flitHead (fieldAt b 0 8)).kind = true) (good : headerBad u p (fieldAt b 0 8) = false)
    (eff : FlitHead → List Byte → State → State) :
    receiveFlit kinds p b eff u = eff (flitHead (fieldAt b 0 8)) (slice b 8 240)
      (headerEffects (modPort u p fun x => { x with goodAt := u.now }) p (flitHead (fieldAt b 0 8))) := by
  unfold receiveFlit
  dsimp only
  rw [if_neg (not_not.2 sound), kind, good]
  rfl

end

/-- What a DATA flit does after its header (R512). -/
def dataEffect (p : Nat) (h : FlitHead) (payload : List Byte) (s : State) : State :=
  if (portOf s p).st = 4 ∨ (portOf s p).st = 5 then receiveData s p h payload else s

section
variable {s : State} {p t : Nat} {b : List Byte} (hp : p < 32) (len : b.length = 256)
  (receives : receivesFlits (portOf (s.at t) p) = true) (lit : (portOf (s.at t) p).light.isSome = true)
include hp len receives lit

/-- A flit of 256 bytes arrives. -/
theorem flitArrives_of : flitArrives (s.at t) p b = true := by
  simp only [flitArrives, hp, len, receives, lit, decide_true, beq_self_eq_true, Bool.and_self]

/-- DATA_FLIT_RX (R512). -/
theorem exec_dataFlitRx : exec (.dataFlitRx p b t) s = .next (receiveFlit [1, 3] p b (dataEffect p) (s.at t)) :=
  (whenEnabled_of_true (flitArrives_of hp len receives lit) : execDataFlitRx p b t s = _)

/-- IDLE_FLIT_RX (R509). -/
theorem exec_idleFlitRx : exec (.idleFlitRx p b t) s = .next (receiveFlit [0] p b (fun _ _ s => s) (s.at t)) :=
  (whenEnabled_of_true (flitArrives_of hp len receives lit) : execIdleFlitRx p b t s = _)

/-- CTRL_FLIT_RX (R530, R531). -/
theorem exec_ctrlFlitRx : exec (.ctrlFlitRx p b t) s =
    .next (receiveFlit [2] p b (fun _ payload s => receiveCtrl s p (payload.take 64)) (s.at t)) :=
  (whenEnabled_of_true (flitArrives_of hp len receives lit) : execCtrlFlitRx p b t s = _)

end

end Sys2Proof.Machine
end

section
/-! SUPPORT. How the identity exchange of a link port ends (O57: R501, R531 to R534, R538). -/

namespace Sys2Proof.Machine

/-- The port enters HOLD with a cause, and the host is told (R532). -/
theorem enterHold_spec (s : State) {p : Nat} (hp : p < 32) (cause : Nat) :
    (portOf (enterHold s p cause) p).st = 7 ∧ (portOf (enterHold s p cause) p).cause = cause ∧
    bitAt (rget (enterHold s p cause) .topEvent) (32 + p) = true := by
  generalize hf : (fun x : Port => { x with st := 7, cause := cause, since := s.now, retrain := false }) = f
  have port : portOf (modPort s p f) p = { portOf s p with st := 7, cause := cause, since := s.now, retrain := false } := by
    rw [portOf_modPort_same, ← hf]
  have run : enterHold s p cause = topologyEvent
      (logNote (rmod (modPort s p f) .topEvent fun w => setBit w (32 + p) true) .top (regAddr .topCable 0 p)) := by
    rw [enterHold, ← hf]
  have bit := bitAt_topEvent (modPort s p f) (n := 32 + p) (by omega)
  have ports : (logNote (rmod (modPort s p f) .topEvent fun w => setBit w (32 + p) true) .top (regAddr .topCable 0 p)).ports =
      (modPort s p f).ports := rfl
  have reg : rget (logNote (rmod (modPort s p f) .topEvent fun w => setBit w (32 + p) true) .top (regAddr .topCable 0 p)) .topEvent =
      rget (rmod (modPort s p f) .topEvent fun w => setBit w (32 + p) true) .topEvent := rfl
  rw [run]
  generalize logNote (rmod (modPort s p f) .topEvent fun w => setBit w (32 + p) true) .top (regAddr .topCable 0 p) = w at ports reg ⊢
  obtain ⟨-, portsT, told, -⟩ := postPf_linkKept w 0x11 0 (rget w .topEvent).toNat 2 p
  have last : portOf (topologyEvent w) p = portOf (modPort s p f) p := congrArg (Tab.getD Port.clear p) (portsT.trans ports)
  rw [last, port]
  refine ⟨rfl, rfl, ?_⟩
  rw [topologyEvent, told, reg]
  exact bit

/-- A draw of the random bit generator leaves the ports. -/
theorem portOf_draw (s : State) (p : Nat) : portOf (draw s).2 p = portOf s p := rfl

/-- The port enters ACTIVE or STANDBY (R502, R534). -/
theorem enterUp_port (s : State) (p : Nat) :
    portOf (enterUp s p) p = { portOf s p with
      st := if portRole s p = 2 then 5 else 4, cause := 0, since := s.now, tries := 0, retrain := false, goodAt := s.now } := by
  unfold enterUp
  dsimp only
  by_cases spare : portRole s p = 2
  · rw [if_pos spare, if_pos rfl, portOf_modPort_same]
  · rw [if_neg spare, if_neg (by decide), portOf_modBwPort, portOf_draw, portOf_modPort_same]

/-- A port that is in IDENT and fails for what a record says. -/
theorem portFails_heard {w : State} {p cause : Nat} (hp : p < 32) (ident : (portOf w p).st = 3) (r : List Byte) (ok far : Bool) :
    PortFails w (failPort (modPort w p fun x => { x with heard := r, rxOk := ok, farOk := far }) p cause) p cause := by
  have port : portOf (modPort w p fun x => { x with heard := r, rxOk := ok, farOk := far }) p =
      { portOf w p with heard := r, rxOk := ok, farOk := far } := portOf_modPort_same ..
  have others (o : Nat) (ne : o ≠ p) := portOf_modPort_ne w p (fun x => { x with heard := r, rxOk := ok, farOk := far }) ne
  have ctxs : (modPort w p fun x => { x with heard := r, rxOk := ok, farOk := far }).ctxs = w.ctxs := rfl
  generalize (modPort w p fun x => { x with heard := r, rxOk := ok, farOk := far }) = v at port others ctxs ⊢
  have alive : (portOf v p).st ≠ 8 := by
    rw [port]
    show (portOf w p).st ≠ 8
    rw [ident]
    decide
  exact ((failPort_spec v p cause hp).2.1 alive).1.of_same
    (portOwners_of_same (by rw [port]) (by rw [port]) (by rw [port]) ctxs) ctxs others

/-- A session that resumes counts the far end's RX_EXT as an acknowledgement, and replays what remains (R534, R538). -/
theorem resumeSession_spec (v : State) {p : Nat} (hp : p < 32) (r : List Byte) (inside : (portOf v p).oldest ≤ fieldAt r 48 8)
    (sent : fieldAt r 48 8 ≤ (portOf v p).txExt) :
    (portOf (resumeSession v p r) p).st = (if portRole v p = 2 then 5 else 4) ∧
    (portOf (resumeSession v p r) p).oldest = fieldAt r 48 8 ∧ (portOf (resumeSession v p r) p).session = (portOf v p).session ∧
    (portOf (resumeSession v p r) p).txExt = (portOf v p).txExt ∧
    (fieldAt r 48 8 < (portOf v p).txExt → (portOf (resumeSession v p r) p).replayAt = some (fieldAt r 48 8)) := by
  have run : resumeSession v p r = resumeReplay (enterUp (ackTo v p (fieldAt r 48 8)) p) p := by
    unfold resumeSession
    dsimp only
    rw [if_neg (by omega)]
  generalize fieldAt r 48 8 = rx at inside sent run ⊢
  rw [run]
  obtain ⟨kept, same, acked, txExt, session, -⟩ := ackTo_spec v p rx
  have role : portRole (ackTo v p rx) p = portRole v p := kept.portCfg hp 1 0
  have oldest : (portOf (ackTo v p rx) p).oldest = rx := by
    by_cases new : (portOf v p).oldest < rx
    · exact (acked new).1
    · rw [same (by omega)]
      omega
  have up := enterUp_port (ackTo v p rx) p
  rw [role] at up
  obtain ⟨st, -, -, -, oldestR, txExtR, sessionR, replayAt, -⟩ := resumeReplay_spec hp (enterUp (ackTo v p rx) p)
  rw [up] at st oldestR txExtR sessionR replayAt
  refine ⟨st, oldestR.trans oldest, sessionR.trans session, txExtR.trans txExt, fun more => ?_⟩
  rw [replayAt, if_pos (by show (portOf (ackTo v p rx) p).txExt ≠ (portOf (ackTo v p rx) p).oldest; omega)]
  exact congrArg some oldest

/-- The credit that a channel starts with is the far end's. -/
theorem startCredits (x : Port) (adv : List Nat) {n : Nat} (hn : n < 4) :
    (Tab.getD (TxChan.clear 0) n ((List.range 4).map fun v => (v, { Tab.getD (TxChan.clear 0) v x.tx with adv := adv.getD v 0 }))).adv =
      adv.getD n 0 := by
  interval_cases n <;> rfl

/-- What a record advertises: the credits of each channel (Table 13.8). -/
def advertised (r : List Byte) : List Nat := (List.range 4).map fun n => fieldAt r (36 + 2 * n) 2

/-- Whether advertised credits fail the check of R531. -/
theorem advertised_check (r : List Byte) :
    ((advertised r).any fun a => decide (a < 16) || decide (2047 < a)) = decide (∃ a ∈ advertised r, a < 16 ∨ 2047 < a) := by
  rw [Bool.eq_iff_iff, List.any_eq_true, decide_eq_true_iff]
  simp only [Bool.or_eq_true, decide_eq_true_iff]

section
variable {v : State} {p : Nat} {r : List Byte}

/-- The end of the first identity of a session. -/
theorem identEnd_first (first : (portOf v p).far = []) :
    identEnd v p r =
      if ∃ a ∈ advertised r, a < 16 ∨ 2047 < a then failPort v p 14
      else if identCause v p r ≠ 0 then enterHold v p (identCause v p r)
      else enterUp (modPort v p fun x => { x with
        far := r
        tx := (List.range 4).map fun n => (n, { Tab.getD (TxChan.clear 0) n x.tx with adv := (advertised r).getD n 0 }) }) p := by
  have check := advertised_check r
  unfold identEnd
  dsimp only
  rw [first, List.isEmpty_nil, if_pos rfl]
  unfold advertised at check ⊢
  rw [check]
  simp only [decide_eq_true_iff]

/-- The end of a later one. -/
theorem identEnd_later (later : (portOf v p).far ≠ []) :
    identEnd v p r =
      if slice r 0 11 ≠ slice (portOf v p).far 0 11 then failPort v p 11
      else if fieldAt r 16 4 = fieldAt (portOf v p).far 16 4 then resumeSession v p r
      else modPort (sessionLost v p) p fun x =>
        { x with st := 3, since := (sessionLost v p).now, qualified := true, rxOk := false, farOk := false, heard := [] } := by
  have some_ : ¬ (portOf v p).far.isEmpty = true := mt List.isEmpty_iff.1 later
  unfold identEnd
  dsimp only
  rw [if_neg some_]

end

section
variable {w : State} {p : Nat} (hp : p < 32) (ident : (portOf w p).st = 3) {r : List Byte} (heard : (portOf w p).heard = r)
  (farOk : fieldAt r 14 1 / 2 % 2 = 1)
include ident

/-- A record before both ends have confirmed stays with the port. -/
theorem receiveCtrl_waits {r : List Byte}
    (waits : (((portOf w p).rxOk || (portOf w p).heard == r) && ((portOf w p).farOk || decide (fieldAt r 14 1 / 2 % 2 = 1))) = false) :
    onlyPort w (receiveCtrl w p r) p { portOf w p with
      heard := r, rxOk := (portOf w p).rxOk || (portOf w p).heard == r
      farOk := (portOf w p).farOk || decide (fieldAt r 14 1 / 2 % 2 = 1) } := by
  have run : receiveCtrl w p r = modPort w p fun x => { x with
      heard := r, rxOk := (portOf w p).rxOk || (portOf w p).heard == r
      farOk := x.farOk || decide (fieldAt r 14 1 / 2 % 2 = 1) } := by
    unfold receiveCtrl
    dsimp only
    rw [if_neg (by omega), if_pos ident, waits]
    rfl
  rw [run]
  exact onlyPort_modPort w p _

include heard farOk

/-- The record that confirms both ends ends IDENT. -/
theorem receiveCtrl_ends : receiveCtrl w p r = identEnd (modPort w p fun x => { x with heard := r, rxOk := true, farOk := true }) p r := by
  have rxOk : ((portOf w p).rxOk || (portOf w p).heard == r) = true := by rw [heard, beq_self_eq_true, Bool.or_true]
  have both (x : Port) : (x.farOk || decide (fieldAt r 14 1 / 2 % 2 = 1)) = true := by rw [farOk, decide_eq_true rfl, Bool.or_true]
  unfold receiveCtrl
  dsimp only
  rw [if_neg (by omega), if_pos ident]
  simp only [rxOk, both, Bool.and_self, if_true]

include hp

/-- The state in which IDENT ends. -/
theorem identEnds : ∃ v, receiveCtrl w p r = identEnd v p r ∧
    portOf v p = { portOf w p with heard := r, rxOk := true, farOk := true } ∧ identCause v p r = identCause w p r ∧
    portRole v p = portRole w p ∧ ∀ cause, PortFails w (failPort v p cause) p cause :=
  ⟨_, receiveCtrl_ends ident heard farOk, portOf_modPort_same .., rfl, rfl, fun _ => portFails_heard hp ident r true true⟩

/-- The first identity of a session (R531, R532). -/
theorem ident_first (first : (portOf w p).far = []) :
    ((∃ a ∈ advertised r, a < 16 ∨ 2047 < a) → PortFails w (receiveCtrl w p r) p 14) ∧
    ((∀ a ∈ advertised r, 16 ≤ a ∧ a ≤ 2047) →
      (identCause w p r ≠ 0 → (portOf (receiveCtrl w p r) p).st = 7 ∧ (portOf (receiveCtrl w p r) p).cause = identCause w p r ∧
        bitAt (rget (receiveCtrl w p r) .topEvent) (32 + p) = true) ∧
      (identCause w p r = 0 → (portOf (receiveCtrl w p r) p).st = (if portRole w p = 2 then 5 else 4) ∧
        (portOf (receiveCtrl w p r) p).far = r ∧ (portOf (receiveCtrl w p r) p).tries = 0 ∧
        ∀ n < 4, (Tab.getD (TxChan.clear 0) n (portOf (receiveCtrl w p r) p).tx).adv = (advertised r).getD n 0)) := by
  obtain ⟨v, run, port, cause, role, fails⟩ := identEnds hp ident heard farOk
  have none_ : (portOf v p).far = [] := by
    rw [port]
    exact first
  rw [run, identEnd_first none_, cause]
  refine ⟨fun bad => ?_, fun good => ?_⟩
  · rw [if_pos bad]
    exact fails 14
  · have sound : ¬ ∃ a ∈ advertised r, a < 16 ∨ 2047 < a := fun ⟨a, ha, out⟩ => by
      have := good a ha
      omega
    rw [if_neg sound]
    refine ⟨fun wrong => ?_, fun right => ?_⟩
    · rw [if_pos wrong]
      exact enterHold_spec v hp _
    · rw [if_neg (not_not.2 right), enterUp_port, portOf_modPort_same, ← role]
      exact ⟨rfl, rfl, rfl, fun n hn => startCredits _ _ hn⟩

/-- An identity after a retrain (R533, R534, R538). -/
theorem ident_later (later : (portOf w p).far ≠ []) :
    (slice r 0 11 ≠ slice (portOf w p).far 0 11 → PortFails w (receiveCtrl w p r) p 11) ∧
    (slice r 0 11 = slice (portOf w p).far 0 11 →
      (fieldAt r 16 4 ≠ fieldAt (portOf w p).far 16 4 →
        (portOf (receiveCtrl w p r) p).st = 3 ∧ (portOf (receiveCtrl w p r) p).far = [] ∧
        (portOf (receiveCtrl w p r) p).txExt = 0 ∧ (portOf (receiveCtrl w p r) p).rxExt = 0 ∧
        (portOf (receiveCtrl w p r) p).replayBuf = []) ∧
      (fieldAt r 16 4 = fieldAt (portOf w p).far 16 4 →
        ((fieldAt r 48 8 < (portOf w p).oldest ∨ (portOf w p).txExt < fieldAt r 48 8) → PortFails w (receiveCtrl w p r) p 10) ∧
        ((portOf w p).oldest ≤ fieldAt r 48 8 → fieldAt r 48 8 ≤ (portOf w p).txExt →
          (portOf (receiveCtrl w p r) p).st = (if portRole w p = 2 then 5 else 4) ∧
          (portOf (receiveCtrl w p r) p).oldest = fieldAt r 48 8 ∧
          (portOf (receiveCtrl w p r) p).session = (portOf w p).session ∧
          (portOf (receiveCtrl w p r) p).txExt = (portOf w p).txExt ∧
          (fieldAt r 48 8 < (portOf w p).txExt → (portOf (receiveCtrl w p r) p).replayAt = some (fieldAt r 48 8))))) := by
  obtain ⟨v, run, port, -, role, fails⟩ := identEnds hp ident heard farOk
  have far : (portOf v p).far = (portOf w p).far := by rw [port]
  have oldest : (portOf v p).oldest = (portOf w p).oldest := by rw [port]
  have txExt : (portOf v p).txExt = (portOf w p).txExt := by rw [port]
  have session : (portOf v p).session = (portOf w p).session := by rw [port]
  rw [run, identEnd_later (far ▸ later), far]
  refine ⟨fun other => ?_, fun same => ?_⟩
  · rw [if_pos other]
    exact fails 11
  · rw [if_neg (not_not.2 same)]
    refine ⟨fun started => ?_, fun resumed => ?_⟩
    · obtain ⟨-, -, a, b, -, fresh⟩ := sessionLost_spec v p
      rw [if_neg started, portOf_modPort_same, fresh]
      exact ⟨rfl, rfl, rfl, rfl, rfl⟩
    · rw [if_pos resumed, ← role, ← oldest, ← txExt, ← session]
      refine ⟨fun outside => ?_, fun inside sent => resumeSession_spec v hp r inside sent⟩
      have run : resumeSession v p r = failPort v p 10 := if_pos outside
      rw [run]
      exact fails 10

end

end Sys2Proof.Machine
end

section
/-! PROOFS. The links (O57: R499 to R502, R504, R508, R510 to R514, R521, R531 to R534, R538 to R542). -/

namespace Sys2Proof.Machine

/-- The time and the role of the port after a header's effects. -/
theorem effects_kept {u w : State} {p : Nat} (hp : p < 32) {h : FlitHead}
    (effects : headerEffects (modPort u p fun x => { x with goodAt := u.now }) p h = w) :
    w.now = u.now ∧ portRole w p = portRole u p := by
  have kept := (linkKept_modPort u p fun x => { x with goodAt := u.now }).trans
    (linkKept_headerEffects (modPort u p fun x => { x with goodAt := u.now }) hp h)
  rw [effects] at kept
  exact ⟨kept.now, kept.portCfg hp 1 0⟩

/-- A record in TRAIN or RETRAIN enters IDENT, and one outside them and IDENT does nothing (R501, R531). -/
theorem receiveCtrl_outside (w : State) (p : Nat) (r : List Byte) :
    (((portOf w p).st = 2 ∨ (portOf w p).st = 6) → (portOf w p).qualified = true → onlyPort w (receiveCtrl w p r) p { portOf w p with
      st := 3, since := w.now, heard := r, rxOk := false, farOk := decide (fieldAt r 14 1 / 2 % 2 = 1) }) ∧
    ((portOf w p).st ≠ 2 → (portOf w p).st ≠ 6 → (portOf w p).st ≠ 3 → receiveCtrl w p r = w) := by
  refine ⟨fun trains qualified => ?_, fun ne2 ne6 ne3 => ?_⟩
  · have run : receiveCtrl w p r = modPort w p fun x =>
        { x with st := 3, since := w.now, heard := r, rxOk := false, farOk := decide (fieldAt r 14 1 / 2 % 2 = 1) } :=
      if_pos ⟨trains, qualified⟩
    rw [run]
    exact onlyPort_modPort w p _
  · unfold receiveCtrl
    dsimp only
    rw [if_neg (by omega), if_neg ne3]

section
variable {s : State} {p t : Nat} {b : List Byte} (hp : p < 32) (len : b.length = 256)
  (receives : receivesFlits (portOf (s.at t) p) = true) (lit : (portOf (s.at t) p).light.isSome = true)
include hp len receives lit

/-- A flit whose CRC fails is discarded and counted, whatever its kind (R508). -/
theorem badCrc_arrives (ok : (s.at t).regsOk) (bad : ¬ fieldAt b 248 8 = crc64 (b.take 248)) :
    ∀ i ∈ [Instr.dataFlitRx p b t, Instr.idleFlitRx p b t, Instr.ctrlFlitRx p b t], Answers i s fun s' =>
      rfield s' .dklErr 63 48 (p / 4) (p % 4) = min (rfield (s.at t) .dklErr 63 48 (p / 4) (p % 4) + 1) 65535 ∧
      portOf s' p = (if ((portOf (s.at t) p).st = 4 ∨ (portOf (s.at t) p).st = 5) ∧ (portOf (s.at t) p).nakSent = false
        then { portOf (s.at t) p with nak := true } else portOf (s.at t) p) ∧
      s' = { s.at t with ports := s'.ports, regs := s'.regs } ∧ (s.at t).otherRegs s' .dklErr (p % 4) (p / 4) := by
  have data := exec_dataFlitRx hp len receives lit
  have idle := exec_idleFlitRx hp len receives lit
  have ctrl := exec_ctrlFlitRx hp len receives lit
  intro i hi
  rcases List.mem_cons.1 hi with rfl | hi
  · exact ⟨_, data, receiveFlit_badCrc ok bad ..⟩
  · rcases List.mem_cons.1 hi with rfl | hi
    · exact ⟨_, idle, receiveFlit_badCrc ok bad ..⟩
    · rw [List.mem_singleton.1 hi]
      exact ⟨_, ctrl, receiveFlit_badCrc ok bad ..⟩

variable (sound : fieldAt b 248 8 = crc64 (b.take 248))
include sound

/-- A sound flit whose header breaks the protocol fails the port, and so does one of no kind (R508). -/
theorem badHead_arrives :
    ((flitHead (fieldAt b 0 8)).kind = 3 → Answers (.dataFlitRx p b t) s fun s' => PortFails (s.at t) s' p 14) ∧
    (headerBad (s.at t) p (fieldAt b 0 8) = true →
      ((flitHead (fieldAt b 0 8)).kind = 0 → Answers (.idleFlitRx p b t) s fun s' => PortFails (s.at t) s' p 14) ∧
      ((flitHead (fieldAt b 0 8)).kind = 1 → Answers (.dataFlitRx p b t) s fun s' => PortFails (s.at t) s' p 14) ∧
      ((flitHead (fieldAt b 0 8)).kind = 2 → Answers (.ctrlFlitRx p b t) s fun s' => PortFails (s.at t) s' p 14)) := by
  have data := exec_dataFlitRx hp len receives lit
  have idle := exec_idleFlitRx hp len receives lit
  have ctrl := exec_ctrlFlitRx hp len receives lit
  refine ⟨fun kind => ⟨_, data, receiveFlit_badHead hp receives sound (by rw [kind]; rfl) ?_ _⟩, fun bad =>
    ⟨fun kind => ⟨_, idle, receiveFlit_badHead hp receives sound (by rw [kind]; rfl) bad _⟩,
     fun kind => ⟨_, data, receiveFlit_badHead hp receives sound (by rw [kind]; rfl) bad _⟩,
     fun kind => ⟨_, ctrl, receiveFlit_badHead hp receives sound (by rw [kind]; rfl) bad _⟩⟩⟩
  unfold headerBad
  dsimp only
  rw [kind]
  rfl

variable (good : headerBad (s.at t) p (fieldAt b 0 8) = false) {w : State}
  (effects : headerEffects (modPort (s.at t) p fun x => { x with goodAt := (s.at t).now }) p (flitHead (fieldAt b 0 8)) = w)
include good effects

/-- A sound IDLE flit is what its header is. -/
theorem idle_arrives (kind : (flitHead (fieldAt b 0 8)).kind = 0) : exec (.idleFlitRx p b t) s = .next w := by
  rw [exec_idleFlitRx hp len receives lit, receiveFlit_sound sound (by rw [kind]; rfl) good, effects]

/-- A sound DATA flit acts after its header. -/
theorem data_arrives (kind : (flitHead (fieldAt b 0 8)).kind = 1) :
    exec (.dataFlitRx p b t) s = .next (dataEffect p (flitHead (fieldAt b 0 8)) (slice b 8 240) w) := by
  rw [exec_dataFlitRx hp len receives lit, receiveFlit_sound sound (by rw [kind]; rfl) good, effects]

/-- So does a sound CTRL flit. -/
theorem ctrl_arrives (kind : (flitHead (fieldAt b 0 8)).kind = 2) :
    exec (.ctrlFlitRx p b t) s = .next (receiveCtrl w p ((slice b 8 240).take 64)) := by
  rw [exec_ctrlFlitRx hp len receives lit, receiveFlit_sound sound (by rw [kind]; rfl) good, effects]

/-- A sound DATA flit by the distance of its number (R512). -/
theorem dataFlit_spec (kind : (flitHead (fieldAt b 0 8)).kind = 1) :
    ((portOf w p).st ≠ 4 → (portOf w p).st ≠ 5 → exec (.dataFlitRx p b t) s = .next w) ∧
    (((portOf w p).st = 4 ∨ (portOf w p).st = 5) →
      let d := ((flitHead (fieldAt b 0 8)).seq + 4096 - (portOf w p).rxExt % 4096) % 4096
      (d = 0 → (flitHead (fieldAt b 0 8)).crypt = false → Answers (.dataFlitRx p b t) s fun s' =>
        (portOf s' p).rxExt = (portOf w p).rxExt + 1 ∧ (portOf s' p).nak = false ∧ (portOf s' p).nakSent = false ∧
        ∀ o, o ≠ p → portOf s' o = portOf w o) ∧
      (1 ≤ d → d ≤ 2046 → Answers (.dataFlitRx p b t) s fun s' =>
        onlyPort w s' p (if (portOf w p).nakSent = false then { portOf w p with nak := true } else portOf w p)) ∧
      (d = 2047 ∨ d = 2048 → Answers (.dataFlitRx p b t) s fun s' => PortFails w s' p 10) ∧
      (2049 ≤ d → exec (.dataFlitRx p b t) s = .next w)) := by
  have runs := data_arrives hp len receives lit sound good effects kind
  refine ⟨fun ne4 ne5 => ?_, fun up => ?_⟩
  · rw [dataEffect, if_neg (by omega)] at runs
    exact runs
  · intro d
    rw [dataEffect, if_pos up] at runs
    obtain ⟨gap, far, behind⟩ := receiveData_other hp w (flitHead (fieldAt b 0 8)) (slice b 8 240) up
    exact ⟨fun next plain => ⟨_, runs, receiveData_next hp w (slice b 8 240) next plain⟩, fun ahead near => ⟨_, runs, gap ahead near⟩,
      fun lost => ⟨_, runs, far lost⟩, fun old => (behind old) ▸ runs⟩

end

/-- Settles O57: in every state of a port, the flit that it sends and what it makes of one that arrives (by the check of R508, the
distance of R512 and the identity exchange), and what its timers and its light do to its session. -/
theorem portsFollowTheirStates : Obligations.PortsFollowTheirStates := by
  intro s q p t b u x v h soundCrc w y f z hit wire sends ctrl idle rises hp ok
  refine ⟨fun carries => ⟨flitTx_ctrl hp carries, flitTx_idle hp carries, flitTx_nothing hp carries,
      fun _ _ active => flitTx_replay hp carries active,
      fun _ _ active => flitTx_data hp carries active⟩, fun len receives lit => ⟨fun i hi bad => badCrc_arrives hp len receives lit ok bad i hi,
      fun sound => ?_⟩,
    (receiveAck_spec u p h.ack).2, ackTimeout_spec hp ok, receiverAdapted_spec hp, fun a => rxQualify_spec hp, trainTimeout_spec hp,
    retrainEvents_spec hp, retrainTimeout_spec hp,
    fun open_ => ⟨retrain_spec hp open_, reprobe_spec hp open_⟩, lossOfSignal_spec hp ok, signalReturn_spec hp ok, losTimeout_spec hp⟩
  obtain ⟨noKind, badHead⟩ := badHead_arrives hp len receives lit sound
  refine ⟨noKind, badHead, fun good => ?_⟩
  have effects : headerEffects (modPort (s.at t) p fun x => { x with goodAt := (s.at t).now }) p (flitHead (fieldAt b 0 8)) = w := rfl
  obtain ⟨now, role⟩ := effects_kept hp effects
  have data (kind : h.kind = 1) := dataFlit_spec hp len receives lit sound good effects kind
  have control (kind : h.kind = 2) := ctrl_arrives hp len receives lit sound good effects kind
  obtain ⟨enters, passes⟩ := receiveCtrl_outside w p ((slice b 8 240).take 64)
  rw [now] at enters
  refine ⟨idle_arrives hp len receives lit sound good effects, fun kind => (data kind).1, fun kind => (data kind).2,
    fun kind trains qualified => ⟨_, control kind, enters trains qualified⟩,
    fun kind ne2 ne6 ne3 => (control kind).trans (congrArg _ (passes ne2 ne6 ne3)),
    fun kind ident => fun waits => ⟨_, control kind, receiveCtrl_waits ident waits⟩,
    fun kind ident heard farOk => ?_⟩
  rw [← heard] at control
  have runs := control kind
  intro cause adv
  refine ⟨fun first credits => ?_, fun first bad => ⟨_, runs, (ident_first hp ident rfl farOk first).1 bad⟩,
    fun later other => ⟨_, runs, (ident_later hp ident rfl farOk later).1 other⟩,
    fun later same started => ⟨_, runs, ((ident_later hp ident rfl farOk later).2 same).1 started⟩,
    fun later same resumed => ?_⟩
  · obtain ⟨holds, goes⟩ := (ident_first hp ident rfl farOk first).2 credits
    rw [role] at goes
    exact ⟨fun wrong => ⟨_, runs, holds wrong⟩, fun right => ⟨_, runs, goes right⟩⟩
  · obtain ⟨fails, resumes⟩ := ((ident_later hp ident rfl farOk later).2 same).2 resumed
    rw [role] at resumes
    exact ⟨fun outside => ⟨_, runs, fails outside⟩, fun inside sent => ⟨_, runs, resumes inside sent⟩⟩

end Sys2Proof.Machine
end
